-- ==== Sys2Proof/Word.lean ====
section
/-!
DEFINITION. The plain data that crosses the ports of the TA4416: bytes, the 48-bit words of orders, replies and
notices, the 32-bit words of the alert word store, and audio frames.
-/

namespace Sys2Proof

/-- One byte of a frame or record on a port (R207). -/
abbrev Byte := BitVec 8

/-- A word of an order, a reply or a notice: 6 bytes, 48 bits (R207). -/
abbrev Word := BitVec 48

/-- One word of the alert word store (R129: its fields lie in bits 0..31). -/
abbrev StoreWord := BitVec 32

/-- The source address of an Ethernet frame (R207: a REPLY goes to the source address of what it answers). -/
abbrev MacAddress := BitVec 48

/-- A mono frame: 48 samples, each a signed 24-bit integer (Terms: Frame, Sample). -/
abbrev Frame := Vector Int 48

/-- A stereo frame: 48 left and 48 right samples (Terms: Frame). -/
structure StereoFrame where
  left : Frame
  right : Frame
  deriving DecidableEq, Repr

/-- A mono frame of silence: 48 samples of 0. -/
def Frame.silence : Frame := Vector.replicate 48 0

/-- A stereo frame of silence. -/
def StereoFrame.silence : StereoFrame := ⟨Frame.silence, Frame.silence⟩

/-- The word that carries a number. -/
def Word.nat (n : Nat) : Word := BitVec.ofNat 48 n

/-- The word that carries a flag or mark: 1 when set, on or yes, and 0 otherwise (R208). -/
def Word.flag (b : Bool) : Word := if b then 1 else 0

/-- The none word, whose 48 bits are all set (R208). -/
def Word.none : Word := BitVec.allOnes 48

end Sys2Proof
end

