-- ==== Sys2Proof/Syntax.lean ====
section
/-!
DEFINITION. The commands of the TA4416: one constructor of `Instr` for each row of spec/opcode_table.json, with the
row's operands. The part executes no instructions; its steps are arrivals on its ports, the frame work of its blocks,
and orders taken from its order queue. The conventions of the operands are log entry 5.
-/

namespace Sys2Proof

/-- The six incoming slots of one line bus cycle, each the bytes received in it (R64, R210): 147 bytes, or fewer where
the slot is cut short by the next sync pulse. -/
abbrev IncomingSlots := Vector (List Byte) 6

/-- The stereo frame that the serial digital audio input completes in one frame period: 48 left and 48 right samples of
24 bits (R119). -/
structure AudioInput where
  left : Vector (BitVec 24) 48
  right : Vector (BitVec 24) 48
  deriving DecidableEq, Repr

/-- The commands. An arrival carries the bytes that arrive. A row that names an occurrence within the frame work of a
block (the send at which the gap timer expires, for example) is that frame work in the frame period in which the
occurrence comes about, and carries what that frame work carries (log entry 3). An order's row is the taking of the
order at the head of the order queue, whose tag and argument words stand in the queue (R196, log entry 4). -/
inductive Instr where
  /-- Power-up or the reset pin (R205). -/
  | powerOnReset
  /-- A new 48 kHz frame period begins (R1). -/
  | framePeriod
  /-- A PROGRAMME frame arrives; `body` is its payload after the type byte 01h (R3, R209). -/
  | programme (body : List Byte)
  /-- An ORDER frame arrives from `src`; `frame` is its whole payload, type byte included, so that a frame of unknown or
  send-only type arrives here too (R195, R207, R209). -/
  | order (src : MacAddress) (frame : List Byte)
  /-- An order whose code names no order is taken (R197). -/
  | unknownOrder
  /-- A FILL frame arrives; `body` is its payload after the type byte 03h (R97, R209). -/
  | fill (body : List Byte)
  /-- A FILL-CHECK frame arrives from `src`; `body` is its payload after the type byte 04h (R99, R209). -/
  | fillCheck (src : MacAddress) (body : List Byte)
  /-- One line bus cycle (R64). -/
  | lineBusCycle (slots : IncomingSlots)
  /-- The line bus cycle in which the RINGING line `line` reaches the ring limit (R74). -/
  | ringLimitReached (line : Fin 6) (slots : IncomingSlots)
  /-- The line bus cycle in which the HOLD or READY line `line` reaches its hold limit (R75). -/
  | holdLimitReached (line : Fin 6) (slots : IncomingSlots)
  /-- One mix frame (R16). -/
  | mixFrame
  /-- The delay line's exchange (R46). -/
  | exchange
  /-- The air stage's frame (R145). -/
  | airFrame
  /-- The air frame after which LEAD_IN ends (R152). -/
  | leadInEnd
  /-- The air frame after which ATTENTION ends (R154). -/
  | attentionEnd
  /-- The air frame after which CLOSING ends (R156). -/
  | closingEnd
  /-- The air frame after which the airing is complete (R158). -/
  | completion
  /-- The air frame at whose start a waiting record is due by the break deadline (R149). -/
  | breakDeadlineReached
  /-- The link unit's send (R165). -/
  | send
  /-- The send that carries the last WAKE frame of a burst (R192). -/
  | burstEnd
  /-- The send at which the wake timer reaches WAKE_TIMER (R192). -/
  | wakeTimerTimeout
  /-- The send that is a PROBE (R175). -/
  | probe
  /-- The send at which the gap timer reaches 8 (R170). -/
  | gapTimer
  /-- The send at which a message whose resend timer has reached 20 rides again (R178). -/
  | messageResend
  /-- The send at which a message sent five times is dropped (R178). -/
  | messageDrop
  /-- The send at which the request timer reaches SLEEP_REQUEST_TIMER (R188). -/
  | requestTimer
  /-- The send at which the quiet timer reaches QUIET_INTERVAL (R188). -/
  | quietTimer
  /-- The send at which the keepalive timer reaches 1,000 (R190). -/
  | keepalive
  /-- The send at which the asleep watch reaches 1,000 (R190). -/
  | asleepWatch
  /-- A frame arrives on the link port; `frame` is its payload (R168, R207). -/
  | returnFrame (frame : List Byte)
  /-- A HEADER record arrives; `rest` is the record after its kind byte 01h: length, body and check (R122, R210). -/
  | header (rest : List Byte)
  /-- An AUDIO-BEGIN record arrives; `rest` is the record after its kind byte 02h (R133). -/
  | audioBegin (rest : List Byte)
  /-- An AUDIO-END record arrives; `rest` is the record after its kind byte 03h (R133). -/
  | audioEnd (rest : List Byte)
  /-- A whole alert record arrives that is to be discarded: unknown kind, mismatched length or failed check (R119). -/
  | alertRecordDiscard (record : List Byte)
  /-- 20 frame periods pass without the next byte of the alert record of which `bytes` have arrived (R210). -/
  | incompleteRecord (bytes : List Byte)
  /-- Alert intake's frame, with the frame that the audio input completed (R134). -/
  | alertFrame (audio : AudioInput)
  /-- The alert intake frame in which the begin wait reaches 10,000 (R134). -/
  | beginWaitReached (audio : AudioInput)
  /-- The alert intake frame that writes the 60,000th frame of a recording (R134). -/
  | recordingLimit (audio : AudioInput)
  /-- The alert intake frame in which the minute timer would reach 60,000 (R120). -/
  | minuteEvent (audio : AudioInput)
  /-- The frame period in which the repeat timer would reach 1,000 (R202). -/
  | repeatTimer
  /-- T-POINT, code 10h (R198). -/
  | tPoint
  /-- T-WRITE, code 11h (R199). -/
  | tWrite
  /-- T-READ, code 12h (R200). -/
  | tRead
  /-- STATUS, code 20h (R203). -/
  | status
  /-- MASK, code 21h (R21). -/
  | mask
  /-- COUNTERS, code 22h (R204). -/
  | counters
  /-- RESTART, code 23h (R206). -/
  | restart
  /-- TIME-SET, code 26h (R121). -/
  | timeSet
  /-- BYPASS, code 27h (R146). -/
  | bypass
  /-- DUMP, code 28h (R53). -/
  | dump
  /-- LINE-ANSWER, code 40h (R77). -/
  | lineAnswer
  /-- LINE-HOLD, code 41h (R78). -/
  | lineHold
  /-- LINE-READY, code 42h (R79). -/
  | lineReady
  /-- LINE-TAKE, code 43h (R80). -/
  | lineTake
  /-- LINE-DROP, code 44h (R82). -/
  | lineDrop
  /-- LINE-TAG, code 45h (R83). -/
  | lineTag
  /-- CLIP-OPEN, code 50h (R95). -/
  | clipOpen
  /-- CLIP-ABORT, code 51h (R101). -/
  | clipAbort
  /-- CLIP-ERASE, code 52h (R102). -/
  | clipErase
  /-- PLAYER-CUE, code 58h (R109). -/
  | playerCue
  /-- PLAYER-START, code 59h (R110). -/
  | playerStart
  /-- PLAYER-STOP, code 5Ah (R111). -/
  | playerStop
  /-- ALERT-LIST, code 60h (R138). -/
  | alertList
  /-- ALERT-RELEASE, code 61h (R137). -/
  | alertRelease
  /-- ALERT-CANCEL, code 62h (R159). -/
  | alertCancel
  /-- ALERT-TEST, code 63h (R139). -/
  | alertTest
  /-- BREAK, code 64h (R150). -/
  | breakOrder
  /-- LINK-SLEEP, code 68h (R187). -/
  | linkSleep
  /-- LINK-WAKE, code 69h (R191). -/
  | linkWake
  /-- LINK-STATUS, code 6Ah (R182). -/
  | linkStatus
  deriving DecidableEq, Repr

end Sys2Proof
end

