-- ==== Sys2Proof/Decode.lean ====
section
/-!
DEFINITION. The command that a word spells by the bits of spec/opcode_table.json. No row of the table gives bits: the
part has no encoded instructions.
-/

namespace Sys2Proof

/-- The rows of spec/opcode_table.json that give bits, each a width, a mask, a pattern and its command. There is none.
-/
def tableRows : List (Nat × Nat × Nat × Instr) := []

/-- The command that the `nbits` low bits `w` spell by the table's bits. -/
def decodeTableWord (nbits w : Nat) : Option Instr :=
  (tableRows.find? fun row => row.1 = nbits && (w &&& row.2.1) = row.2.2.1).map fun row => row.2.2.2

end Sys2Proof
end

