-- ==== Sys2Proof/Config.lean ====
section
/-!
DEFINITION. The fixed sizes of the TA4416, as the manual gives them. The manual leaves no value of an operation
open, so this file holds no free value.
-/

namespace Sys2Proof.Config

/-- Frame blocks of the delay region (R42). -/
def delayBlocks : Nat := 65536

/-- Pages of the clip region (R89). -/
def clipPages : Nat := 768

/-- Frame blocks of one page (R89). -/
def pageBlocks : Nat := 256

/-- The greatest declared length of a clip, in frames (R91). -/
def maxClipFrames : Nat := 196608

/-- The declared length of an ALERT slot and the limit of a recording, in frames (R91, R134). -/
def recordingLimit : Nat := 60000

/-- The greatest use count of a slot (R92). -/
def maxHolds : Nat := 3

/-- Words of the alert word store (R129). -/
def storeWords : Nat := 192

/-- Orders that the order queue holds (R195). -/
def orderQueueSize : Nat := 16

/-- Pending messages that the link message queue holds (R177). -/
def messageQueueSize : Nat := 8

/-- Data words carried by one REPLY frame (R209). -/
def replyWords : Nat := 240

/-- The EtherType of the frames of the studio port and the link port (R207). -/
def etherType : BitVec 16 := 0x88B5

/-- The least payload of an Ethernet frame, to which the part pads (R207). -/
def minPayload : Nat := 46

/-- Missing slots in a row after which a line enters FAULT (R70, R73). -/
def missingSlotLimit : Nat := 200

/-- Frame periods of one minute (R1, R120). -/
def minuteFrames : Nat := 60000

/-- Minutes of one week (R120). -/
def weekMinutes : Nat := 10080

/-- Frame periods that a recording waits for its AUDIO-BEGIN (R134). -/
def beginWaitLimit : Nat := 10000

/-- Frames of the closing tone (R156). -/
def closingFrames : Nat := 1000

/-- Frames of a crossfade (R152, R156). -/
def crossfadeFrames : Nat := 16

/-- Sends without a good return that make a return gap (R170). -/
def gapSends : Nat := 8

/-- Sends after which an unacknowledged message rides again or is dropped (R178). -/
def resendSends : Nat := 20

/-- The most sends of one message (R178). -/
def messageSends : Nat := 5

/-- Sends between two KEEPALIVE frames, and of the asleep watch (R190). -/
def asleepSends : Nat := 1000

/-- The greatest value of the request timer, at which it stays (R186, log entry 44). -/
def requestTimerMax : Nat := 10000

/-- Bursts of a wake (R192). -/
def wakeBursts : Nat := 3

/-- Frame periods between two repeated notices (R202). -/
def repeatFrames : Nat := 1000

/-- The greatest value of a 16-bit counter, at which it stays. -/
def counterMax : Nat := 65535

/-- The value at which a PGM clip counter or the corrupt return counter has climbed (R30, R168). -/
def counterHalf : Nat := 32768

/-- The greatest value of a 32-bit timer, at which it stays (R42, R67). -/
def timerMax : Nat := 4294967295

end Sys2Proof.Config
end

