-- ==== Sys2Proof/Machine/Records.lean ====
section
/-!
DEFINITION. The records that the blocks of the TA4416 keep: enumerations, table entries, queue entries and the parts
of the state. `Machine/State.lean` puts them together.
-/

namespace Sys2Proof.Machine

/-! ### Tables (chapter 10) -/

/-- The tables (R198), numbered 0..6 in this order. -/
inductive TableId where
  | gain | route | slotConf | filter | lineConf | settings | noticeConf
  deriving DecidableEq, Repr

/-- The mode of the table pointer (R198). -/
inductive PointerMode where
  | read | write
  deriving DecidableEq, Repr

/-- The table pointer (R198). -/
structure TablePointer where
  table : TableId
  entry : Nat
  field : Nat
  mode : PointerMode
  deriving DecidableEq, Repr

/-- A ROUTE entry (R19): gain code and ramp length in frames. -/
structure RouteEntry where
  code : Fin 256
  ramp : Nat
  deriving DecidableEq, Repr

/-- The end actions of a slot (R93). -/
inductive EndAction where
  | stop | loop | chain | signOff
  deriving DecidableEq, Repr

/-- A SLOTCONF entry (R93). -/
structure SlotConf where
  gain : Fin 256
  endAction : EndAction
  chain : Fin 32
  lock : Bool
  deriving DecidableEq, Repr

/-- The verdicts of a filter entry (R127). -/
inductive Verdict where
  | accept | discard
  deriving DecidableEq, Repr

/-- The air modes of an alert (R127). -/
inductive AirMode where
  | immediate | nextBreak | logOnly
  deriving DecidableEq, Repr

/-- A FILTER entry (R127). -/
structure FilterEntry where
  enable : Bool
  paired : Bool
  verdict : Verdict
  priority : Fin 4
  airMode : AirMode
  eventValue : BitVec 12
  eventMask : BitVec 12
  areaValue1 : BitVec 20
  areaMask1 : BitVec 20
  areaValue2 : BitVec 20
  areaMask2 : BitVec 20
  deriving DecidableEq, Repr

/-- A LINECONF entry (R68): feed trim, and hold limit in seconds. -/
structure LineConf where
  trim : Fin 256
  holdSeconds : Nat
  deriving DecidableEq, Repr

/-- A NOTICECONF entry (R201). -/
structure NoticeConf where
  enable : Bool
  repeats : Bool
  deriving DecidableEq, Repr

/-- The seven tables as committed (R199, R200). The settings table holds one number for each entry 0..25. -/
structure Tables where
  gain : Vector Nat 256
  route : Vector RouteEntry 60
  slotConf : Vector SlotConf 32
  filter : Vector FilterEntry 16
  lineConf : Vector LineConf 6
  settings : Vector Nat 26
  noticeConf : Vector NoticeConf 25
  deriving DecidableEq, Repr

/-! ### Studio input (chapter 1) -/

/-- A PROGRAMME frame held in the jitter queue (R5). -/
structure ProgrammeFrame where
  seq : BitVec 16
  channels : List Frame
  breakFlag : Bool
  deriving DecidableEq, Repr

/-- The counters of the studio input (R13). -/
structure StudioCounters where
  malformed : Nat
  late : Nat
  duplicate : Nat
  resync : Nat
  missing : Nat
  losses : Nat
  deriving DecidableEq, Repr

/-- The studio input (R5, R7 to R10). The fill gate is open exactly while `lost` is set (R9). -/
structure StudioInput where
  expected : Option (BitVec 16)
  queue : List ProgrammeFrame
  missingRun : Nat
  lost : Bool
  fillStopMarked : Bool
  width : Nat
  lossLimit : Nat
  fillSlot : Option (Fin 32)
  counters : StudioCounters
  deriving DecidableEq, Repr

/-! ### Mix engine (chapter 2) -/

/-- The ramp record of a route (R23). -/
structure Ramp where
  current : Nat
  target : Nat
  step : Int
  left : Nat
  deriving DecidableEq, Repr

/-- A PGM frame with its peak and quiet flag (R37). -/
structure PgmFrame where
  audio : StereoFrame
  peak : Nat
  quiet : Bool
  deriving DecidableEq, Repr

/-- The counters of the mix engine (R30, R36). -/
structure MixCounters where
  pgmLeft : Nat
  pgmRight : Nat
  cue : Nat
  feed : Nat
  deriving DecidableEq, Repr

/-- The mix engine. `snap` is set from a RESTART to the mix frame that snaps the ramps (R41); `clamped…` are what R39
presents of the most recent mix frame; the last four items are what the mix engine last handed on (R38) and the
studio sources 0 and 1 of that mix frame (R145). -/
structure MixEngine where
  gain : Vector Nat 256
  route : Vector RouteEntry 60
  talkback : Fin 8
  threshold : Nat
  mask : BitVec 20
  ramps : Vector Ramp 60
  snap : Bool
  counters : MixCounters
  climbLeft : Bool
  climbRight : Bool
  clampedLeft : Bool
  clampedRight : Bool
  clampedCue : Bool
  pgm : PgmFrame
  cue : Frame
  studioLeft : Frame
  studioRight : Frame
  deriving DecidableEq, Repr

/-! ### Delay line (chapter 3) -/

/-- The delay states (R42, R44). -/
inductive DelayState where
  | live | building | safe | shrinking | held
  deriving DecidableEq, Repr

/-- The hold policies (R43). -/
inductive HoldPolicy where
  | resume | rejoin
  deriving DecidableEq, Repr

/-- The counters of the delay line (R61). -/
structure DelayCounters where
  insertion : Nat
  skip : Nat
  dump : Nat
  overflow : Nat
  rejoin : Nat
  deriving DecidableEq, Repr

/-- The delay line (R42, R43). `region` is the delay region of the DRAM; the write position is computed from the read
position and the held count, as R42 gives it. `offered` is what the last exchange offered the air stage. -/
structure DelayLine where
  region : List (Nat × PgmFrame)
  held : Nat
  readPos : Nat
  state : DelayState
  hold : Bool
  spacing : Nat
  lastGiven : PgmFrame
  overflowMark : Bool
  holdExchanges : Nat
  target : Nat
  buildSpacing : Nat
  dumpLength : Nat
  policy : HoldPolicy
  offered : Option PgmFrame
  counters : DelayCounters
  deriving DecidableEq, Repr

/-! ### Line unit (chapter 4) -/

/-- The line states (R67). -/
inductive LineState where
  | idle | ringing | screening | hold | ready | onAir | fault
  deriving DecidableEq, Repr

/-- A line record (R67). -/
structure Line where
  state : LineState
  timeInState : Nat
  tag : BitVec 16
  missingRun : Nat
  deriving DecidableEq, Repr

/-- The counters of the line unit (R86). -/
structure LineCounters where
  missed : Nat
  abandoned : Nat
  hangUp : Nat
  dropped : Nat
  holdTimeout : Nat
  fault : Nat
  missingFrame : Nat
  eventError : Nat
  deriving DecidableEq, Repr

/-- The line unit (R67, R68). `callers` are the caller frames of the latest cycle, none where the slot was missing
(R69); `feeds` are the feed frames of the mix engine's most recent hand-off (R65). -/
structure LineUnit where
  lines : Vector Line 6
  ready : List (Fin 6)
  screening : Option (Fin 6)
  onAir : Nat
  conf : Vector LineConf 6
  capacity : Nat
  ringLimit : Nat
  callers : Vector (Option Frame) 6
  feeds : Vector Frame 6
  counters : LineCounters
  deriving DecidableEq, Repr

/-! ### Clip store and cart players (chapter 5) -/

/-- The slot states (R91). -/
inductive SlotState where
  | empty | filling | ready | recording | alertHeld
  deriving DecidableEq, Repr

/-- The slot kinds (R91). -/
inductive SlotKind where
  | cart | alert
  deriving DecidableEq, Repr

/-- A slot record (R91). The stamp is none for "never". -/
structure Slot where
  state : SlotState
  kind : SlotKind
  declared : Nat
  length : Nat
  chain : List Nat
  useCount : Nat
  stamp : Option (BitVec 32)
  deriving DecidableEq, Repr

/-- The results of a FILL-CHECK (R99, R100, R209). -/
inductive BurstResult where
  | ok | bad | full | cut | refused
  deriving DecidableEq, Repr

/-- An open fill record (R96): `page` is the one burst page in flight. -/
structure OpenBurst where
  slot : Fin 32
  pageIndex : Nat
  page : Nat
  nextFrame : Nat
  expected : Nat
  crc : BitVec 16
  spoiled : Bool
  deriving DecidableEq, Repr

/-- The fill record of the clip write channel (R96). -/
inductive FillRecord where
  | nothing
  | opened (burst : OpenBurst)
  | refused (slot : Fin 32) (pageIndex : Nat) (result : BurstResult)
  | cut (slot : Fin 32) (pageIndex : Nat)
  deriving DecidableEq, Repr

/-- The counters of the clip store (R116). -/
structure ClipCounters where
  burstBad : Nat
  burstFull : Nat
  burstRefused : Nat
  burstCut : Nat
  abandoned : Nat
  stray : Nat
  eviction : Nat
  ended : Nat
  chainFailure : Nat
  deriving DecidableEq, Repr

/-- The clip store (R89 to R96, R103). `region` is the clip region of the DRAM: block `b` of page `p` is entry
`p * 256 + b`. `holds` are the slots that the four readers hold (R92): player A, player B, fill player, air stage. -/
structure ClipStore where
  region : List (Nat × StereoFrame)
  free : List Nat
  slots : Vector Slot 32
  holds : Vector (Option (Fin 32)) 4
  fill : FillRecord
  channelHeld : Bool
  conf : Vector SlotConf 32
  reserve : Nat
  counters : ClipCounters
  deriving DecidableEq, Repr

/-- The player states (R108). -/
inductive PlayerState where
  | idle | cued | running
  deriving DecidableEq, Repr

/-- A player record (R108). -/
structure Player where
  state : PlayerState
  slot : Option (Fin 32)
  position : Nat
  deriving DecidableEq, Repr

/-! ### Alert intake (chapter 6) -/

/-- The identity of an alert: issuer id and serial (section 6.3). -/
structure Identity where
  issuer : BitVec 16
  serial : BitVec 16
  deriving DecidableEq, Repr

/-- A held entry of the recent-alert table (R125). -/
structure RecentEntry where
  identity : Identity
  remaining : Nat
  deriving DecidableEq, Repr

/-- A record of the alert queue (R129): its run of the word store, and its descriptor (the words stored are the length
of the run). `ageHeld` is the model's own: the frame periods since the stamp have reached 4,294,967,295, at which R138
holds them (log entry 45). -/
structure AlertRecord where
  words : List StoreWord
  torn : Bool
  onAir : Bool
  stamp : BitVec 32
  ageHeld : Bool
  remaining : Nat
  noAudio : Bool
  timeUnknown : Bool
  deriving DecidableEq, Repr

/-- The recording states (R132). -/
inductive RecordingState where
  | none | waiting | writing
  deriving DecidableEq, Repr

/-- The recording record (R132). `fresh` is set from the taking of AUDIO-BEGIN to the end of its frame period, whose
audio frame is discarded (R134, log entry 17). -/
structure Recording where
  state : RecordingState
  identity : Option Identity
  slot : Option (Fin 32)
  position : Nat
  beginWait : Nat
  fresh : Bool
  deriving DecidableEq, Repr

/-- The counters of alert intake (R141). -/
structure IntakeCounters where
  error : Nat
  stale : Nat
  duplicate : Nat
  filterDiscard : Nat
  accepted : Nat
  lost : Nat
  expiry : Nat
  unmatched : Nat
  audioShort : Nat
  deriving DecidableEq, Repr

/-- Alert intake (R120, R125, R127, R129, R132). -/
structure AlertIntake where
  minuteOfWeek : Option Nat
  minuteTimer : Nat
  recent : Vector (Option RecentEntry) 16
  filter : Vector FilterEntry 16
  defaultVerdict : Verdict
  defaultMode : AirMode
  defaultPriority : Fin 4
  queue : List AlertRecord
  recording : Recording
  counters : IntakeCounters
  deriving DecidableEq, Repr

/-! ### Air stage (chapter 7) -/

/-- The air states (R144). -/
inductive AirState where
  | idle | waitBreak | waitLink | leadIn | attention | message | closing | leadOut
  deriving DecidableEq, Repr

/-- The attention source (R144). -/
inductive AttentionSource where
  | slot (n : Fin 32)
  | tone
  deriving DecidableEq, Repr

/-- The counters of the air stage (R161). -/
structure AirCounters where
  airings : Nat
  cancels : Nat
  reAir : Nat
  underrun : Nat
  deadline : Nat
  deriving DecidableEq, Repr

/-- The air stage (R144, R147). `onAirFlag` is the "alert on air" flag handed on with the last air frame (R145). -/
structure AirStage where
  state : AirState
  airing : Option Identity
  present : Bool
  step : Nat
  attention : AttentionSource
  attentionFrames : Nat
  position : Nat
  impaired : Bool
  underruns : Nat
  messageFrames : Nat
  waitSet : List Identity
  bypass : Bool
  lastAir : StereoFrame
  onAirFlag : Bool
  attentionSlot : Option (Fin 32)
  attentionLength : Nat
  breakDeadline : Nat
  counters : AirCounters
  deriving DecidableEq, Repr

/-! ### Link unit (chapters 8 and 9) -/

/-- The link modes (R164). -/
inductive LinkMode where
  | run | sleepPending | asleep | waking | cut
  deriving DecidableEq, Repr

/-- The levels (R164, R173). -/
inductive Level where
  | clear | warning | degraded
  deriving DecidableEq, Repr

/-- The kinds of link message (section 8.10). -/
inductive MessageKind where
  | alertNote | sleepRequest | sleepCancel | timeNote
  deriving DecidableEq, Repr

/-- A numbered link message (R177, R210). -/
structure Message where
  number : Byte
  kind : MessageKind
  body : List Byte
  deriving DecidableEq, Repr

/-- The message in flight (R178). -/
structure InFlight where
  message : Message
  sends : Nat
  timer : Nat
  deriving DecidableEq, Repr

/-- The kinds of fault (R180). -/
inductive FaultKind where
  | missingFrame | corruptReturn | returnGap | messageLost | wakeFailed
  deriving DecidableEq, Repr

/-- A fault record (R180). -/
structure FaultRecord where
  kind : FaultKind
  reference : Nat
  mode : LinkMode
  sfc : Nat
  rfc : Nat
  deriving DecidableEq, Repr

/-- The far states (R168, R210). -/
inductive FarState where
  | awake | sleepReady | sleepBusy | sleeping | wakeRequest
  deriving DecidableEq, Repr

/-- The phases of a sleep negotiation (R186). -/
inductive Phase where
  | none | requesting | quiet
  deriving DecidableEq, Repr

/-- The wake phases (R186). -/
inductive WakePhase where
  | burst | wait
  deriving DecidableEq, Repr

/-- The counters of the link unit (R181, R194). -/
structure LinkCounters where
  missing : Nat
  unknown : Nat
  corrupt : Nat
  gap : Nat
  cut : Nat
  restored : Nat
  probeFailure : Nat
  messageLost : Nat
  sleepsRequested : Nat
  sleepsEntered : Nat
  sleepsRefused : Nat
  sleepsAborted : Nat
  wakesStarted : Nat
  wakeBurst : Nat
  wakesCompleted : Nat
  wakeFailure : Nat
  deriving DecidableEq, Repr

/-- The link unit (R164, R173, R186). `burstLength` is the N of the burst in progress (R192); `monitorAir` and
`notSent` are what the next MONITOR frame carries of the previous send (R167). `burstIndex` stands at the burst's length
in phase WAIT (R192, log entry 43). -/
structure LinkUnit where
  mode : LinkMode
  level : Option Level
  sfc : Nat
  rfc : Nat
  nextSeq : BitVec 16
  lastSeq : BitVec 16
  judged : BitVec 16
  gapTimer : Nat
  probeTimer : Nat
  pattern : BitVec 15
  lockSeen : Bool
  lockLost : Bool
  cutDuration : Nat
  cutProbeFailures : Nat
  queue : List Message
  inFlight : Option InFlight
  nextNumber : Byte
  capture : Option FaultRecord
  faultsSince : Nat
  lastFar : Option FarState
  lastAck : Option Byte
  phase : Phase
  requestNumber : Option Byte
  requestAcked : Bool
  requestTimer : Nat
  quietTimer : Nat
  lateNumber : Option Byte
  keepaliveTimer : Nat
  asleepWatch : Nat
  wakePhase : WakePhase
  burstNumber : Nat
  burstIndex : Nat
  burstLength : Nat
  wakeTimer : Nat
  warningLimit : Nat
  requestLimit : Nat
  quietInterval : Nat
  wakeBurst : Nat
  wakeLimit : Nat
  autoSleep : Bool
  wakeOnActivity : Bool
  abortOnActivity : Bool
  climb : Bool
  counters : LinkCounters
  monitorAir : StereoFrame
  notSent : Bool
  deriving DecidableEq, Repr

/-! ### Order unit and notice unit (chapter 10) -/

/-- An order in the order queue (R195): `args` is none where its argument count is above 16 or disagrees with the
frame's length. `fresh` tells whether it arrived in this frame period (R205, log entry 4). -/
structure QueuedOrder where
  source : MacAddress
  tag : BitVec 16
  code : Byte
  args : Option (List Word)
  fresh : Bool
  deriving DecidableEq, Repr

/-- The results of an order (R209). -/
inductive Result where
  | done | doneClamped | refusedState | refusedArgument | refusedFull | refusedUnknown
  deriving DecidableEq, Repr

/-- The order unit (R195, R198, R204). `taken` tells whether an order has been taken in this frame period (R196). -/
structure OrderUnit where
  queue : List QueuedOrder
  taken : Bool
  pointer : TablePointer
  staged : List Word
  holding : List Word
  malformed : Nat
  queueFull : Nat
  refused : Nat
  deriving DecidableEq, Repr

/-- The notice kinds (R201), numbered 0..24 in this order. -/
inductive NoticeKind where
  | studioLost | studioBack | pgmClip | clipCountHalf | ring | hungUp | lineFault | lineTimeout | dumpShort
  | delayOverflow | delayAtTarget | slotReady | slotEvicted | playerEnd | alertAccepted | alertOverrun | alertAired
  | alertAudioShort | linkLevel | linkCut | linkRestored | sleepResult | wakeFailed | linkMessageLost
  | returnCorruptHalf
  deriving DecidableEq, Repr

/-- The notice unit (R201, R202, R204). A latch that is set holds its detail words. -/
structure NoticeUnit where
  latches : Vector (Option (List Word)) 25
  conf : Vector NoticeConf 25
  repeatTimer : Nat
  latched : Nat
  repeated : Nat
  deriving DecidableEq, Repr

/-- An Ethernet frame sent on the studio port: to a unicast address, or to the broadcast address where `dest` is none
(R207). -/
structure StudioFrame where
  dest : Option MacAddress
  etherType : BitVec 16
  payload : List Byte
  deriving DecidableEq, Repr

/-- An Ethernet frame sent on the link port; the manual names no address for it (R207). -/
structure LinkPortFrame where
  etherType : BitVec 16
  payload : List Byte
  deriving DecidableEq, Repr

/-- What the most recent command sent, port by port, in order: Ethernet frames on the studio port and the link port, and
outgoing slots on the line bus. -/
structure Sent where
  studio : List StudioFrame
  link : List LinkPortFrame
  slots : List (List Byte)
  deriving DecidableEq, Repr

end Sys2Proof.Machine
end

