-- ==== Sys2Proof/Machine/Bytes.lean ====
section
/-!
DEFINITION. Byte order, sample coding, the two CRCs, padding and the probe pattern (R207, R209, R211).
-/

namespace Sys2Proof.Machine

/-! ### Byte order (R207) -/

/-- Byte `i` of a frame, counted from byte 0. -/
def byteAt (bytes : List Byte) (i : Nat) : Byte := bytes.getD i 0

/-- The number in `n` bytes from byte `i`, most significant byte first. -/
def beAt (bytes : List Byte) (i n : Nat) : Nat :=
  ((bytes.drop i).take n).foldl (fun acc b => acc * 256 + b.toNat) 0

/-- The low `8 * n` bits of a number as `n` bytes, most significant byte first. -/
def beBytes : Nat → Nat → List Byte
  | 0, _ => []
  | n + 1, x => BitVec.ofNat 8 (x / 256 ^ n) :: beBytes n x

/-- The low `8 * n` bits of a number as `n` bytes, least significant byte first. -/
def leBytes : Nat → Nat → List Byte
  | 0, _ => []
  | n + 1, x => BitVec.ofNat 8 x :: leBytes n (x / 256)

/-- A word as 6 bytes. -/
def wordBytes (w : Word) : List Byte := beBytes 6 w.toNat

/-- `n` words from byte `i` on. -/
def wordsAt (bytes : List Byte) (i n : Nat) : List Word :=
  (List.range n).map fun k => BitVec.ofNat 48 (beAt bytes (i + 6 * k) 6)

/-- The sample in the 3 bytes from byte `i`: least significant first, two's complement. -/
def sampleAt (bytes : List Byte) (i : Nat) : Int :=
  (byteAt bytes (i + 2) ++ byteAt bytes (i + 1) ++ byteAt bytes i : BitVec 24).toInt

/-- A sample as 3 bytes. -/
def sampleBytes (x : Int) : List Byte := leBytes 3 (BitVec.ofInt 24 x).toNat

/-- The block of 48 samples from byte `i`. -/
def blockAt (bytes : List Byte) (i : Nat) : Frame :=
  let block := (bytes.drop i).take 144
  Vector.ofFn fun k => sampleAt block (3 * k.val)

/-- A block of 48 samples as 144 bytes. -/
def blockBytes (f : Frame) : List Byte := f.toList.flatMap sampleBytes

/-- A stereo frame as bytes: left sample block, then right sample block. -/
def stereoBytes (f : StereoFrame) : List Byte := blockBytes f.left ++ blockBytes f.right

/-- The stereo frame of the audio input (R119). -/
def audioFrame (audio : AudioInput) : StereoFrame := ⟨audio.left.map BitVec.toInt, audio.right.map BitVec.toInt⟩

/-! ### Padding (R207) -/

/-- A sent frame, padded with 0 bytes to 46 bytes. -/
def padded (bytes : List Byte) : List Byte := bytes ++ List.replicate (Config.minPayload - bytes.length) 0

/-- A received frame without the bytes beyond its layout, where it has 46 payload bytes and its layout is shorter. -/
def unpadded (layout : Nat) (bytes : List Byte) : List Byte :=
  if bytes.length = Config.minPayload && layout < Config.minPayload then bytes.take layout else bytes

/-! ### CRC-16 and CRC-32 (R211) -/

/-- One bit of the CRC-16 register, after the byte has entered it. -/
def crc16Bit (r : BitVec 16) : BitVec 16 := if r.msb then (r <<< 1) ^^^ 0x1021#16 else r <<< 1

/-- One byte enters the CRC-16, most significant bit first, without reflection. -/
def crc16Byte (r : BitVec 16) (b : Byte) : BitVec 16 :=
  Nat.repeat crc16Bit 8 (r ^^^ (b.setWidth 16 <<< 8))

/-- The CRC-16 register before the first byte. -/
def crc16Start : BitVec 16 := 0xFFFF#16

/-- The CRC-16 register after more bytes. -/
def crc16More (r : BitVec 16) (bytes : List Byte) : BitVec 16 := bytes.foldl crc16Byte r

/-- The CRC-16 of a run of bytes. -/
def crc16 (bytes : List Byte) : BitVec 16 := crc16More crc16Start bytes

/-- One bit of the CRC-32 register, in reflected form. -/
def crc32Bit (r : BitVec 32) : BitVec 32 := if r.getLsbD 0 then (r >>> 1) ^^^ 0xEDB88320#32 else r >>> 1

/-- One byte enters the CRC-32, least significant bit first. -/
def crc32Byte (r : BitVec 32) (b : Byte) : BitVec 32 := Nat.repeat crc32Bit 8 (r ^^^ b.setWidth 32)

/-- The CRC-32 of a run of bytes, inverted at the end. -/
def crc32 (bytes : List Byte) : BitVec 32 := ~~~ bytes.foldl crc32Byte 0xFFFFFFFF#32

/-- The CRC-16 as it is sent, most significant byte first. -/
def crc16Bytes (bytes : List Byte) : List Byte := beBytes 2 (crc16 bytes).toNat

/-- The CRC-32 as it is sent, least significant byte first. -/
def crc32Bytes (bytes : List Byte) : List Byte := leBytes 4 (crc32 bytes).toNat

/-! ### The probe pattern (R175, R211) -/

/-- One step of the pattern generator: the output bit is the exclusive-or of stages 14 and 15, and enters stage 1.
Stage `k` is bit `k - 1`. -/
def patternStep (g : BitVec 15) : BitVec 15 × Bool :=
  let new := g.getLsbD 13 != g.getLsbD 14
  ((g <<< 1) ||| (BitVec.ofBool new).setWidth 15, new)

/-- The next `n` outputs as a number, the first output its most significant bit. -/
def patternBits : Nat → BitVec 15 → Nat → BitVec 15 × Nat
  | 0, g, acc => (g, acc)
  | n + 1, g, acc =>
    let (g', bit) := patternStep g
    patternBits n g' (2 * acc + if bit then 1 else 0)

/-- The next `n` pattern words of 16 outputs each, as bytes. -/
def patternWords : Nat → BitVec 15 → BitVec 15 × List Byte
  | 0, g => (g, [])
  | n + 1, g =>
    let (g1, w) := patternBits 16 g 0
    let (g2, rest) := patternWords n g1
    (g2, beBytes 2 w ++ rest)

/-! ### Codes (R208, R209, R210) -/

def LineState.code : LineState → Nat
  | .idle => 0 | .ringing => 1 | .screening => 2 | .hold => 3 | .ready => 4 | .onAir => 5 | .fault => 6

def DelayState.code : DelayState → Nat
  | .live => 0 | .building => 1 | .safe => 2 | .shrinking => 3 | .held => 4

def SlotState.code : SlotState → Nat
  | .empty => 0 | .filling => 1 | .ready => 2 | .recording => 3 | .alertHeld => 4

def SlotKind.code : SlotKind → Nat
  | .cart => 0 | .alert => 1

def PlayerState.code : PlayerState → Nat
  | .idle => 0 | .cued => 1 | .running => 2

def EndAction.code : EndAction → Nat
  | .stop => 0 | .loop => 1 | .chain => 2 | .signOff => 3

def RecordingState.code : RecordingState → Nat
  | .none => 0 | .waiting => 1 | .writing => 2

def AirState.code : AirState → Nat
  | .idle => 0 | .waitBreak => 1 | .waitLink => 2 | .leadIn => 3 | .attention => 4 | .message => 5 | .closing => 6
  | .leadOut => 7

def LinkMode.code : LinkMode → Nat
  | .run => 0 | .sleepPending => 1 | .asleep => 2 | .waking => 3 | .cut => 4

def Level.code : Level → Nat
  | .clear => 0 | .warning => 1 | .degraded => 2

def Phase.code : Phase → Nat
  | .none => 0 | .requesting => 1 | .quiet => 2

/-- The kind byte of a link message (R210). -/
def MessageKind.code : MessageKind → Nat
  | .alertNote => 1 | .sleepRequest => 2 | .sleepCancel => 3 | .timeNote => 4

/-- The kind of a fault (R180). -/
def FaultKind.code : FaultKind → Nat
  | .missingFrame => 0 | .corruptReturn => 1 | .returnGap => 2 | .messageLost => 3 | .wakeFailed => 4

/-- The far state byte of a return frame (R210). -/
def FarState.code : FarState → Nat
  | .awake => 0 | .sleepReady => 1 | .sleepBusy => 2 | .sleeping => 3 | .wakeRequest => 4

def FarState.ofByte (b : Byte) : Option FarState :=
  match b.toNat with
  | 0 => some .awake
  | 1 => some .sleepReady
  | 2 => some .sleepBusy
  | 3 => some .sleeping
  | 4 => some .wakeRequest
  | _ => none

/-- The air mode in an alert record's verdict word, and in the tables (R127, R129). -/
def AirMode.code : AirMode → Nat
  | .immediate => 0 | .nextBreak => 1 | .logOnly => 2

def AirMode.ofCode : Nat → AirMode
  | 0 => .immediate
  | 1 => .nextBreak
  | _ => .logOnly

def Verdict.code : Verdict → Nat
  | .accept => 0 | .discard => 1

def Verdict.ofCode : Nat → Verdict
  | 0 => .accept
  | _ => .discard

def HoldPolicy.ofCode : Nat → HoldPolicy
  | 0 => .resume
  | _ => .rejoin

def EndAction.ofCode : Nat → EndAction
  | 0 => .stop
  | 1 => .loop
  | 2 => .chain
  | _ => .signOff

def TableId.code : TableId → Nat
  | .gain => 0 | .route => 1 | .slotConf => 2 | .filter => 3 | .lineConf => 4 | .settings => 5 | .noticeConf => 6

def PointerMode.code : PointerMode → Nat
  | .read => 0 | .write => 1

/-- The result byte of a REPLY (R209). -/
def Result.code : Result → Nat
  | .done => 0 | .doneClamped => 1 | .refusedState => 2 | .refusedArgument => 3 | .refusedFull => 4
  | .refusedUnknown => 5

/-- The result byte of a check reply (R209). -/
def BurstResult.code : BurstResult → Nat
  | .ok => 0x10 | .bad => 0x11 | .full => 0x12 | .cut => 0x13 | .refused => 0x14

/-- The number of a notice kind (R201). -/
def NoticeKind.index : NoticeKind → Fin 25
  | .studioLost => 0 | .studioBack => 1 | .pgmClip => 2 | .clipCountHalf => 3 | .ring => 4 | .hungUp => 5
  | .lineFault => 6 | .lineTimeout => 7 | .dumpShort => 8 | .delayOverflow => 9 | .delayAtTarget => 10
  | .slotReady => 11 | .slotEvicted => 12 | .playerEnd => 13 | .alertAccepted => 14 | .alertOverrun => 15
  | .alertAired => 16 | .alertAudioShort => 17 | .linkLevel => 18 | .linkCut => 19 | .linkRestored => 20
  | .sleepResult => 21 | .wakeFailed => 22 | .linkMessageLost => 23 | .returnCorruptHalf => 24

/-- The form of the fill record (R208). -/
def FillRecord.code : FillRecord → Nat
  | .nothing => 0
  | .opened _ => 1
  | .refused _ _ _ => 2
  | .cut _ _ => 3

/-- The identity word: issuer id in bits 16..31 and serial in bits 0..15 (R207). -/
def Identity.word (i : Identity) : Word := (i.issuer ++ i.serial).setWidth 48

/-- The identity in the low 32 bits of a word (R207). -/
def Identity.ofBits (w : BitVec 32) : Identity := ⟨w.extractLsb' 16 16, w.extractLsb' 0 16⟩

/-- A number, or the none word (R208). -/
def Word.option (x : Option Nat) : Word := (x.map Word.nat).getD Word.none

/-- A slot or line number, or 255 for none (R208). -/
def Word.place (x : Option Nat) : Word := Word.nat (x.getD 255)

end Sys2Proof.Machine
end

