-- ==== Sys2Proof/Machine/Defaults.lean ====
section
/-!
DEFINITION. The contents of the tables after power-on reset, and the tone table: the defaults of R17, R19, R43, R68,
R93, R127, R201 and the settings index of section 10.3, and the values of R153.
-/

namespace Sys2Proof.Machine

/-- The default law of the gain table (R17): entry 0 holds 0, and entry `c` for `c` in 1..255 holds
16,384 × 10^((c − 208)/80), rounded half up. `Tests.test_gain_law` checks every entry against that law. -/
def gainLaw : List Nat :=
  [0, 42, 44, 45, 46, 48, 49, 50, 52, 53, 55, 56, 58, 60, 62, 63] ++
  [65, 67, 69, 71, 73, 75, 78, 80, 82, 85, 87, 90, 92, 95, 98, 100] ++
  [103, 106, 110, 113, 116, 119, 123, 126, 130, 134, 138, 142, 146, 150, 155, 159] ++
  [164, 169, 174, 179, 184, 189, 195, 200, 206, 212, 218, 225, 231, 238, 245, 252] ++
  [260, 267, 275, 283, 291, 300, 309, 318, 327, 336, 346, 356, 367, 378, 389, 400] ++
  [412, 424, 436, 449, 462, 475, 489, 503, 518, 533, 549, 565, 581, 598, 616, 634] ++
  [652, 671, 691, 711, 732, 753, 775, 798, 821, 845, 870, 895, 921, 948, 976, 1004] ++
  [1034, 1064, 1095, 1127, 1160, 1194, 1229, 1265, 1301, 1339, 1379, 1419, 1460, 1503, 1547, 1592] ++
  [1638, 1686, 1735, 1786, 1838, 1892, 1947, 2004, 2063, 2123, 2185, 2249, 2314, 2382, 2451, 2523] ++
  [2597, 2673, 2751, 2831, 2914, 2999, 3086, 3176, 3269, 3364, 3463, 3564, 3668, 3775, 3885, 3999] ++
  [4115, 4236, 4359, 4487, 4618, 4752, 4891, 5034, 5181, 5332, 5488, 5648, 5813, 5983, 6158, 6338] ++
  [6523, 6713, 6909, 7111, 7318, 7532, 7752, 7978, 8211, 8451, 8698, 8952, 9213, 9482, 9759, 10044] ++
  [10338, 10639, 10950, 11270, 11599, 11938, 12286, 12645, 13014, 13394, 13785, 14188, 14602, 15029, 15467, 15919] ++
  [16384, 16862, 17355, 17862, 18383, 18920, 19472, 20041, 20626, 21229, 21848, 22486, 23143, 23819, 24514, 25230] ++
  [25967, 26725, 27506, 28309, 29135, 29986, 30862, 31763, 32690, 33645, 34627, 35639, 36679, 37750, 38853, 39987] ++
  [41155, 42356, 43593, 44866, 46176, 47525, 48913, 50341, 51811, 53324, 54881, 56483, 58133, 59830, 61577, 63375]

/-- The gain table after power-on reset (R17). -/
def defaultGain : Vector Nat 256 := Vector.ofFn fun c => gainLaw.getD c.val 0

/-- The route entries whose gain code is 208 after power-on reset (R19); every other route has code 0. -/
def openRoutes : List Nat :=
  [0, 4, 24, 25, 27, 28, 30, 31, 33, 34, 36, 37, 39, 40, 42, 46, 48, 52, 54, 58]

/-- The route table after power-on reset (R19): every ramp length is 16. -/
def defaultRoute : Vector RouteEntry 60 :=
  Vector.ofFn fun r => ⟨if openRoutes.contains r.val then 208 else 0, 16⟩

/-- The slot table after power-on reset (R93, R117). -/
def defaultSlotConf : Vector SlotConf 32 := Vector.replicate 32 ⟨208, .stop, 0, false⟩

/-- The filter table after power-on reset (R127, R142). -/
def defaultFilter : Vector FilterEntry 16 :=
  Vector.replicate 16 ⟨false, false, .accept, 0, .immediate, 0, 0, 0, 0, 0, 0⟩

/-- The line table after power-on reset (R68, R87). -/
def defaultLineConf : Vector LineConf 6 := Vector.replicate 6 ⟨208, 1200⟩

/-- The settings table after power-on reset (the index of section 10.3). -/
def defaultSettings : Vector Nat 26 :=
  #v[2, 500, 255, 0, 2, 60000, 0, 8, 26527, 10000, 0, 240, 255, 8000, 300000, 0, 0, 0, 96, 2000, 1000, 64, 2000,
    0, 0, 1]

/-- The notice table after power-on reset (R201): every kind enabled, and repeat on for LINK_CUT (19) and WAKE_FAILED
(22). -/
def defaultNoticeConf : Vector NoticeConf 25 := Vector.ofFn fun k => ⟨true, k.val = 19 || k.val = 22⟩

/-- Every table at its defaults (R205). -/
def defaultTables : Tables where
  gain := defaultGain
  route := defaultRoute
  slotConf := defaultSlotConf
  filter := defaultFilter
  lineConf := defaultLineConf
  settings := defaultSettings
  noticeConf := defaultNoticeConf

/-- Entries 0..23 of the tone table (R153): 2,652,674 × sin(2πi/48), rounded half up. -/
def toneHalf : List Int :=
  [0, 346243, 686563, 1015134, 1326337, 1614846, 1875724, 2104508, 2297283, 2450751, 2562286, 2629980] ++
  [2652674, 2629980, 2562286, 2450751, 2297283, 2104508, 1875724, 1614846, 1326337, 1015134, 686563, 346243]

/-- The tone frame of one channel (R153): entry `i + 24` is the negative of entry `i`. -/
def toneChannel : Frame :=
  Vector.ofFn fun i => if i.val < 24 then toneHalf.getD i.val 0 else -(toneHalf.getD (i.val - 24) 0)

/-- The built-in tone, the same on both channels (R153). -/
def toneFrame : StereoFrame := ⟨toneChannel, toneChannel⟩

end Sys2Proof.Machine
end

