-- ==== Sys2Proof/Machine/State.lean ====
section
/-!
DEFINITION. The state of the TA4416, its reset, and the reasons a step could stop. Every piece of state that the manual
gives the part is here, block by block (INVENTORY.md lists them with their rules).
-/

namespace Sys2Proof.Machine

/-- The part never stops: no command ends in a fault, and there is no fault reason. -/
inductive Fault where
  deriving DecidableEq, Repr

/-- Why a command would have no meaning. -/
inductive Refusal where
  /-- Raised by an arm of `exec` whose command has no meaning yet; no arm raises it. Safe. -/
  | notModelled (mnemonic : String)
  deriving DecidableEq, Repr

/-- The state of the part. -/
structure State where
  /-- The frame count (R1). -/
  frameCount : BitVec 32
  /-- The seven tables as committed (R199). -/
  tables : Tables
  studio : StudioInput
  mix : MixEngine
  delay : DelayLine
  line : LineUnit
  clips : ClipStore
  /-- Player A, player B and the fill player (R108, R114). -/
  players : Vector Player 3
  intake : AlertIntake
  air : AirStage
  link : LinkUnit
  orders : OrderUnit
  notices : NoticeUnit
  /-- The model's own: what the most recent command sent (log entry 6). -/
  sent : Sent
  /-- The model's own: the commands that wait, first in, first out. -/
  pending : List Instr
  deriving DecidableEq, Repr

/-- A PGM frame of silence, with peak 0 and the quiet flag set (R48). -/
def PgmFrame.silence : PgmFrame := ⟨StereoFrame.silence, 0, true⟩

/-- The studio input after power-on reset (R14). -/
def StudioInput.reset : StudioInput where
  expected := none
  queue := []
  missingRun := 0
  lost := false
  fillStopMarked := false
  width := 2
  lossLimit := 500
  fillSlot := none
  counters := ⟨0, 0, 0, 0, 0, 0⟩

/-- A route's ramp settled at a target (R40, R41). -/
def Ramp.settled (m : Nat) : Ramp := ⟨m, m, 0, 0⟩

/-- The routes that stand at unity after power-on reset: those of sources 0, 1 and 14 to 17 listed in R19 (R40). -/
def unityRoutes : List Nat := [0, 4, 42, 46, 48, 52]

/-- The mix engine after power-on reset (R40); what it presents before its first mix frame is log entry 9. -/
def MixEngine.reset : MixEngine where
  gain := defaultGain
  route := defaultRoute
  talkback := 0
  threshold := 26527
  mask := 0
  ramps := Vector.ofFn fun r => Ramp.settled (if unityRoutes.contains r.val then 16384 else 0)
  snap := false
  counters := ⟨0, 0, 0, 0⟩
  climbLeft := false
  climbRight := false
  clampedLeft := false
  clampedRight := false
  clampedCue := false
  pgm := PgmFrame.silence
  cue := Frame.silence
  studioLeft := Frame.silence
  studioRight := Frame.silence

/-- The delay line after power-on reset (R62). -/
def DelayLine.reset : DelayLine where
  region := []
  held := 0
  readPos := 0
  state := .live
  hold := false
  spacing := 0
  lastGiven := PgmFrame.silence
  overflowMark := false
  holdExchanges := 0
  target := 0
  buildSpacing := 8
  dumpLength := 10000
  policy := .resume
  offered := none
  counters := ⟨0, 0, 0, 0, 0⟩

/-- The line unit after power-on reset (R87, and R65 for the feeds). -/
def LineUnit.reset : LineUnit where
  lines := Vector.replicate 6 ⟨.idle, 0, 0, 0⟩
  ready := []
  screening := none
  onAir := 0
  conf := defaultLineConf
  capacity := 2
  ringLimit := 60000
  callers := Vector.replicate 6 none
  feeds := Vector.replicate 6 Frame.silence
  counters := ⟨0, 0, 0, 0, 0, 0, 0, 0⟩

/-- An EMPTY slot (R91, R117). -/
def Slot.empty : Slot := ⟨.empty, .cart, 1, 0, [], 0, none⟩

/-- The clip store after power-on reset (R117). -/
def ClipStore.reset : ClipStore where
  region := []
  free := List.range Config.clipPages
  slots := Vector.replicate 32 Slot.empty
  holds := Vector.replicate 4 none
  fill := .nothing
  channelHeld := false
  conf := defaultSlotConf
  reserve := 240
  counters := ⟨0, 0, 0, 0, 0, 0, 0, 0, 0⟩

/-- An IDLE player (R108): its slot is none and its position 0. -/
def Player.idle : Player := ⟨.idle, none, 0⟩

/-- No recording (R132). -/
def Recording.idle : Recording := ⟨.none, none, none, 0, 0, false⟩

/-- Alert intake after power-on reset (R142). -/
def AlertIntake.reset : AlertIntake where
  minuteOfWeek := none
  minuteTimer := 0
  recent := Vector.replicate 16 none
  filter := defaultFilter
  defaultVerdict := .accept
  defaultMode := .immediate
  defaultPriority := 0
  queue := []
  recording := Recording.idle
  counters := ⟨0, 0, 0, 0, 0, 0, 0, 0, 0⟩

/-- The air stage after power-on reset (R162). -/
def AirStage.reset : AirStage where
  state := .idle
  airing := none
  present := false
  step := 0
  attention := .tone
  attentionFrames := 8000
  position := 0
  impaired := false
  underruns := 0
  messageFrames := 0
  waitSet := []
  bypass := false
  lastAir := StereoFrame.silence
  onAirFlag := false
  attentionSlot := none
  attentionLength := 8000
  breakDeadline := 300000
  counters := ⟨0, 0, 0, 0, 0⟩

/-- The link unit after power-on reset (R184, R194, and R167 for the first MONITOR frame). -/
def LinkUnit.reset : LinkUnit where
  mode := .waking
  level := none
  sfc := 0
  rfc := 0
  nextSeq := 0
  lastSeq := 65535
  judged := 65535
  gapTimer := 0
  probeTimer := 0
  pattern := BitVec.allOnes 15
  lockSeen := false
  lockLost := false
  cutDuration := 0
  cutProbeFailures := 0
  queue := []
  inFlight := none
  nextNumber := 0
  capture := none
  faultsSince := 0
  lastFar := none
  lastAck := none
  phase := .none
  requestNumber := none
  requestAcked := false
  requestTimer := 0
  quietTimer := 0
  lateNumber := none
  keepaliveTimer := 0
  asleepWatch := 0
  wakePhase := .burst
  burstNumber := 1
  burstIndex := 0
  burstLength := 64
  wakeTimer := 0
  warningLimit := 96
  requestLimit := 2000
  quietInterval := 1000
  wakeBurst := 64
  wakeLimit := 2000
  autoSleep := false
  wakeOnActivity := false
  abortOnActivity := true
  climb := false
  counters := ⟨0, 0, 0, 0, 0, 0, 0, 0, 0, 0, 0, 0, 0, 0, 0, 0⟩
  monitorAir := StereoFrame.silence
  notSent := true

/-- The order unit after power-on reset (R205). -/
def OrderUnit.reset : OrderUnit where
  queue := []
  taken := false
  pointer := ⟨.gain, 0, 0, .write⟩
  staged := []
  holding := []
  malformed := 0
  queueFull := 0
  refused := 0

/-- The notice unit after power-on reset (R201, R202, R205). -/
def NoticeUnit.reset : NoticeUnit where
  latches := Vector.replicate 25 none
  conf := defaultNoticeConf
  repeatTimer := 0
  latched := 0
  repeated := 0

/-- Nothing sent. -/
def Sent.nothing : Sent := ⟨[], [], []⟩

/-- The part right after power-on reset (R14, R40, R62, R87, R117, R142, R162, R184, R194, R205). -/
def State.reset : State where
  frameCount := 0
  tables := defaultTables
  studio := StudioInput.reset
  mix := MixEngine.reset
  delay := DelayLine.reset
  line := LineUnit.reset
  clips := ClipStore.reset
  players := Vector.replicate 3 Player.idle
  intake := AlertIntake.reset
  air := AirStage.reset
  link := LinkUnit.reset
  orders := OrderUnit.reset
  notices := NoticeUnit.reset
  sent := Sent.nothing
  pending := []

/-! One update for each block; `Laws/State.lean` has their lemmas. -/

def State.modFrameCount (s : State) (f : BitVec 32 → BitVec 32) : State := { s with frameCount := f s.frameCount }
def State.modTables (s : State) (f : Tables → Tables) : State := { s with tables := f s.tables }
def State.modStudio (s : State) (f : StudioInput → StudioInput) : State := { s with studio := f s.studio }
def State.modMix (s : State) (f : MixEngine → MixEngine) : State := { s with mix := f s.mix }
def State.modDelay (s : State) (f : DelayLine → DelayLine) : State := { s with delay := f s.delay }
def State.modLine (s : State) (f : LineUnit → LineUnit) : State := { s with line := f s.line }
def State.modClips (s : State) (f : ClipStore → ClipStore) : State := { s with clips := f s.clips }
def State.modPlayers (s : State) (f : Vector Player 3 → Vector Player 3) : State := { s with players := f s.players }
def State.modIntake (s : State) (f : AlertIntake → AlertIntake) : State := { s with intake := f s.intake }
def State.modAir (s : State) (f : AirStage → AirStage) : State := { s with air := f s.air }
def State.modLink (s : State) (f : LinkUnit → LinkUnit) : State := { s with link := f s.link }
def State.modOrders (s : State) (f : OrderUnit → OrderUnit) : State := { s with orders := f s.orders }
def State.modNotices (s : State) (f : NoticeUnit → NoticeUnit) : State := { s with notices := f s.notices }
def State.modSent (s : State) (f : Sent → Sent) : State := { s with sent := f s.sent }
def State.modPending (s : State) (f : List Instr → List Instr) : State := { s with pending := f s.pending }

end Sys2Proof.Machine
end

