-- ==== Sys2Proof/Machine/Ops.lean ====
section
/-!
DEFINITION. The operations that every block shares: counters, the block memory of the DRAM, frames sent, notices and
replies, and the frame of a command's meaning.
-/

namespace Sys2Proof.Machine

/-! ### Counters and timers -/

/-- A 16-bit counter increases by `n` and stays at 65,535 once there. -/
def bump (c n : Nat) : Nat := min (c + n) Config.counterMax

/-- A 32-bit timer increases by 1 and stays at its greatest value. -/
def tick32 (t : Nat) : Nat := min (t + 1) Config.timerMax

/-- A sequence number is after another (section 4.3): the difference mod 65,536 lies in 1..32,767. -/
def seqAfter (a b : BitVec 16) : Bool := 1 ≤ (a - b).toNat && (a - b).toNat ≤ 32767

/-- The frame periods between a stamp and now, mod 4,294,967,296 (R106, R148). -/
def frameAge (now stamp : BitVec 32) : Nat := (now - stamp).toNat

/-! ### The entries of the settings table (section 10.3) -/

def Setting.studioWidth : Fin 26 := 0
def Setting.studioLossLimit : Fin 26 := 1
def Setting.fillSlot : Fin 26 := 2
def Setting.talkback : Fin 26 := 3
def Setting.onairCapacity : Fin 26 := 4
def Setting.ringLimit : Fin 26 := 5
def Setting.delayTarget : Fin 26 := 6
def Setting.buildSpacing : Fin 26 := 7
def Setting.silenceThreshold : Fin 26 := 8
def Setting.dumpLength : Fin 26 := 9
def Setting.holdPolicy : Fin 26 := 10
def Setting.alertReserve : Fin 26 := 11
def Setting.attentionSlot : Fin 26 := 12
def Setting.attentionLength : Fin 26 := 13
def Setting.breakDeadline : Fin 26 := 14
def Setting.defaultVerdict : Fin 26 := 15
def Setting.defaultMode : Fin 26 := 16
def Setting.defaultPriority : Fin 26 := 17
def Setting.warningLimit : Fin 26 := 18
def Setting.sleepRequestTimer : Fin 26 := 19
def Setting.quietInterval : Fin 26 := 20
def Setting.wakeBurst : Fin 26 := 21
def Setting.wakeTimer : Fin 26 := 22
def Setting.autoSleep : Fin 26 := 23
def Setting.wakeOnActivity : Fin 26 := 24
def Setting.abortOnActivity : Fin 26 := 25

/-- The committed value of a setting. -/
def State.setting (s : State) (e : Fin 26) : Nat := s.tables.settings.get e

/-- A slot setting, 255 for none (section 4.4). -/
def State.slotSetting (s : State) (e : Fin 26) : Option (Fin 32) :=
  if h : s.setting e < 32 then some ⟨s.setting e, h⟩ else none

/-! ### Samples -/

/-- A value clamped to the range of a sample (section 4.3). -/
def clampSample (x : Int) : Int := max (-8388608) (min 8388607 x)

/-- `x / 16,384` rounded half up (R27, R29). -/
def roundGain (x : Int) : Int := (x + 8192) / 16384

/-- A sample scaled by a multiplier, rounded half up and clamped (R27, R154). -/
def scaleSample (x : Int) (m : Nat) : Int := clampSample (roundGain (x * m))

/-- A stereo frame scaled by a multiplier (R27, R154). -/
def scaleStereo (f : StereoFrame) (m : Nat) : StereoFrame :=
  ⟨f.left.map (scaleSample · m), f.right.map (scaleSample · m)⟩

/-! ### Block memory

A region of the DRAM is a list of block numbers and contents, block numbers strictly rising, no entry equal to `blank`,
which is what an unlisted block reads as (log entry 9: the manual gives no power-up contents and reads none). -/

/-- The contents of block `a`. -/
def Memory.read {α : Type} (blank : α) (m : List (Nat × α)) (a : Nat) : α :=
  ((m.find? fun c => c.1 = a).map Prod.snd).getD blank

/-- The list with block `a` set to `v`, in its place. -/
def Memory.insert {α : Type} (a : Nat) (v : α) : List (Nat × α) → List (Nat × α)
  | [] => [(a, v)]
  | (b, w) :: rest =>
    if a < b then (a, v) :: (b, w) :: rest
    else if a = b then (a, v) :: rest
    else (b, w) :: Memory.insert a v rest

/-- Block `a` written with `v`, in canonical form. -/
def Memory.write {α : Type} [DecidableEq α] (blank : α) (m : List (Nat × α)) (a : Nat) (v : α) : List (Nat × α) :=
  if v = blank then m.filter fun c => c.1 ≠ a else Memory.insert a v m

/-- The canonical form: block numbers strictly rising, and no entry equal to `blank`. -/
def Memory.wf {α : Type} [DecidableEq α] (blank : α) (m : List (Nat × α)) : Bool :=
  decide (m.Pairwise fun c d => c.1 < d.1) && m.all fun c => c.2 ≠ blank

/-! ### Frames sent -/

/-- The frame that puts a payload on the studio port, padded, under the part's EtherType (R207). -/
def studioFrame (dest : Option MacAddress) (payload : List Byte) : StudioFrame :=
  ⟨dest, Config.etherType, padded payload⟩

/-- The frame that puts a payload on the link port, padded, under the part's EtherType (R207). -/
def linkPortFrame (payload : List Byte) : LinkPortFrame := ⟨Config.etherType, padded payload⟩

/-- A frame leaves on the studio port (R207). -/
def sendStudio (dest : Option MacAddress) (payload : List Byte) (s : State) : State :=
  s.modSent fun o => { o with studio := o.studio ++ [studioFrame dest payload] }

/-- A frame leaves on the link port (R207). -/
def sendLink (payload : List Byte) (s : State) : State :=
  s.modSent fun o => { o with link := o.link ++ [linkPortFrame payload] }

/-! ### Notices (R201, R202) -/

/-- Whether kind `k` is a repeating kind: latched, enabled and with repeat on. -/
def NoticeUnit.repeating (n : NoticeUnit) (k : Fin 25) : Bool :=
  (n.latches.get k).isSome && (n.conf.get k).enable && (n.conf.get k).repeats

/-- The lowest-numbered repeating kind. -/
def NoticeUnit.firstRepeating (n : NoticeUnit) : Option (Fin 25) := (List.finRange 25).find? n.repeating

/-- The latch set: kind `k` in bit `k`. -/
def NoticeUnit.latchSet (n : NoticeUnit) : Nat :=
  (List.finRange 25).foldl (fun acc k => if (n.latches.get k).isSome then acc + 2 ^ k.val else acc) 0

/-- A NOTICE frame of kind `k` with its detail (R201, R209). -/
def noticeFrame (n : NoticeUnit) (k : Fin 25) (detail : List Word) (isRepeat : Bool) : List Byte :=
  [0x83, BitVec.ofNat 8 detail.length] ++ beBytes 4 n.latchSet ++
    [(if n.latchSet ≠ 0 then 1 else 0) + (if isRepeat then 2 else 0), BitVec.ofNat 8 k.val] ++
    detail.flatMap wordBytes

/-- A block latches a notice kind with its detail (R201). Where this makes the first repeating kind, the repeat timer
starts from 0 (R202). -/
def latch (kind : NoticeKind) (detail : List Word) (s : State) : State :=
  let k := kind.index
  match s.notices.latches.get k with
  | some _ => s
  | none =>
    let s1 := s.modNotices fun n =>
      { n with
        latches := n.latches.set k (some detail)
        latched := bump n.latched 1
        repeatTimer := if n.firstRepeating.isSome then n.repeatTimer else 0 }
    if (s1.notices.conf.get k).enable then sendStudio none (noticeFrame s1.notices k detail false) s1 else s1

/-! ### Replies (R207, R209) -/

/-- The data words of a reply cut into parts of 240, the last part holding the rest. `n` bounds the parts. -/
def replyParts : Nat → List Word → List (List Word)
  | 0, ws => [ws]
  | n + 1, ws =>
    if ws.length ≤ Config.replyWords then [ws]
    else ws.take Config.replyWords :: replyParts n (ws.drop Config.replyWords)

/-- One REPLY frame: part `i` of a reply, the last where `last`. -/
def replyFrame (tag : BitVec 16) (code : Byte) (result i : Nat) (last : Bool) (ws : List Word) : List Byte :=
  [0x82, BitVec.ofNat 8 ws.length] ++ beBytes 2 tag.toNat ++
    [code, BitVec.ofNat 8 result, BitVec.ofNat 8 (i + if last then 128 else 0), 0] ++ ws.flatMap wordBytes

/-- A reply leaves as its REPLY frames, in order. -/
def sendReply (dest : MacAddress) (tag : BitVec 16) (code : Byte) (result : Nat) (ws : List Word) (s : State) : State :=
  let parts := replyParts ws.length ws
  parts.zipIdx.foldl
    (fun s p => sendStudio (some dest) (replyFrame tag code result p.2 (p.2 + 1 = parts.length) p.1) s) s

/-- What the taking of an order gives: the state after it, its result, and the data words of its reply (R196). -/
structure Answer where
  state : State
  result : Result
  words : List Word

/-- A refusal: nothing changes (R197). -/
def refuse (r : Result) (s : State) : Answer := ⟨s, r, []⟩

/-! ### The meaning of a command -/

/-- A command carries out `f`; what earlier commands sent is no longer shown (log entry 6). -/
def perform (f : State → State) (s : State) : Host.Outcome State Fault Refusal :=
  .next (f (s.modSent fun _ => Sent.nothing))

/-- A command that names an occurrence carries out `f` where the occurrence is due, and nothing where it is not (log
entry 3). -/
def performIf (due : State → Bool) (f : State → State) (s : State) : Host.Outcome State Fault Refusal :=
  perform (fun s => if due s then f s else s) s

end Sys2Proof.Machine
end

