-- ==== Sys2Proof/Machine/Clips.lean ====
section
/-!
DEFINITION. The clip store (chapter 5, sections 5.1 to 5.4): pages, slots, holds, the clip write channel with its fill
record, and what the store does for alert recording. The FILL and FILL-CHECK commands.
-/

namespace Sys2Proof.Machine

/-- A number as an index below `n`, or none where it is out of range. -/
def finOf (n k : Nat) : Option (Fin n) := if h : k < n then some ⟨k, h⟩ else none

/-! ### Pages and slots -/

/-- The number of pages in the free-page list (R89). -/
def ClipStore.freeCount (c : ClipStore) : Nat := c.free.length

/-- Slot `n` changed by `f`. -/
def ClipStore.modSlot (c : ClipStore) (n : Fin 32) (f : Slot → Slot) : ClipStore :=
  { c with slots := c.slots.set n (f (c.slots.get n)) }

/-- Pages return to the tail of the free-page list (R89). -/
def ClipStore.returnPages (c : ClipStore) (pages : List Nat) : ClipStore := { c with free := c.free ++ pages }

/-- The chain of slot `n` returns to the tail of the list in chain order, and the slot becomes EMPTY (R91). -/
def ClipStore.emptySlot (c : ClipStore) (n : Fin 32) : ClipStore :=
  (c.returnPages (c.slots.get n).chain).modSlot n fun t =>
    { t with state := .empty, length := 0, chain := [], useCount := 0 }

/-- The fill record becomes `next`; the page of an open record first returns to the tail of the list (R97, R101,
R103). -/
def ClipStore.replaceFill (c : ClipStore) (next : FillRecord) : ClipStore :=
  match c.fill with
  | .opened b => { c.returnPages [b.page] with fill := next }
  | _ => { c with fill := next }

/-- A slot that players A and B and the fill player can play: READY, of kind CART (R91). -/
def ClipStore.playable (c : ClipStore) (n : Fin 32) : Bool :=
  (c.slots.get n).state = .ready && (c.slots.get n).kind = .cart

/-- Pages that a clip of a length needs (R91, R95): its length / 256, rounded up. -/
def pagesFor (frames : Nat) : Nat := (frames + (Config.pageBlocks - 1)) / Config.pageBlocks

/-- The expected count of the burst for a page index (R95). -/
def expectedCount (declared pageIndex : Nat) : Nat :=
  min Config.pageBlocks (declared - Config.pageBlocks * pageIndex)

/-- The block of the clip region that holds frame `p` of a clip with this chain (R89). -/
def chainBlock (chain : List Nat) (p : Nat) : Nat :=
  chain.getD (p / Config.pageBlocks) 0 * Config.pageBlocks + p % Config.pageBlocks

/-- A frame written to a block of the clip region. -/
def ClipStore.writeBlock (c : ClipStore) (block : Nat) (f : StereoFrame) : ClipStore :=
  { c with region := Memory.write StereoFrame.silence c.region block f }

/-! ### Holds (R92) -/

/-- The readers are players A, B and fill, numbered 0..2 as the players are, and the air stage. -/
abbrev Reader := Fin 4

/-- The air stage as a reader. -/
def airReader : Reader := 3

/-- A player as a reader. -/
def playerReader (p : Fin 3) : Reader := p.castSucc

/-- Whether a slot can take a reader's hold: the reader already holds it, or its use count is below 3. -/
def ClipStore.canHold (c : ClipStore) (r : Reader) (n : Fin 32) : Bool :=
  c.holds.get r = some n || (c.slots.get n).useCount < Config.maxHolds

/-- A reader gives up its hold; a reader that holds no slot changes nothing. -/
def ClipStore.release (c : ClipStore) (r : Reader) : ClipStore :=
  match c.holds.get r with
  | none => c
  | some n => { c.modSlot n fun t => { t with useCount := t.useCount - 1 } with holds := c.holds.set r none }

/-- A reader takes a hold on slot `n`, in place of any hold on another slot. -/
def ClipStore.hold (c : ClipStore) (r : Reader) (n : Fin 32) : ClipStore :=
  if c.holds.get r = some n then c
  else
    let c1 := c.release r
    { c1.modSlot n fun t => { t with useCount := t.useCount + 1 } with holds := c1.holds.set r (some n) }

/-- Every hold on slot `n` is dropped: the readers' records become none. -/
def ClipStore.dropHolds (c : ClipStore) (n : Fin 32) : ClipStore :=
  { c with holds := c.holds.map fun h => if h = some n then none else h }

/-! ### Reading (R94) -/

/-- What a read gives: a frame, "beyond the end", or silence because the reader's hold has been dropped. -/
inductive ClipRead where
  | frame (f : StereoFrame)
  | beyond
  | dropped
  deriving DecidableEq, Repr

/-- The clip store reads a frame for a reader by slot and position. -/
def ClipStore.readFor (c : ClipStore) (r : Reader) (n : Fin 32) (p : Nat) : ClipRead :=
  if c.holds.get r = some n then
    if p < (c.slots.get n).length then
      .frame (Memory.read StereoFrame.silence c.region (chainBlock (c.slots.get n).chain p))
    else .beyond
  else .dropped

/-! ### Bursts (R96 to R100) -/

/-- A FILL frame with frame index 0, a valid slot and a valid page index begins a burst (R97). -/
def beginBurst (n : Fin 32) (pageIndex : Nat) (payload : List Byte) (c : ClipStore) : ClipStore :=
  let abandoned := match c.fill with
    | .opened _ => 1
    | _ => 0
  let c1 := c.replaceFill .nothing
  let c2 := { c1 with counters := { c1.counters with abandoned := bump c1.counters.abandoned abandoned } }
  let slot := c2.slots.get n
  if slot.state ≠ .filling || pageIndex ≠ slot.length / Config.pageBlocks then
    { c2 with fill := .refused n pageIndex .refused }
  else if c2.freeCount ≤ c2.reserve then { c2 with fill := .refused n pageIndex .full }
  else
    match c2.free with
    | [] => { c2 with fill := .refused n pageIndex .full }
    | page :: rest =>
      let c3 := { c2 with free := rest }
      { c3.writeBlock (page * Config.pageBlocks) ⟨blockAt payload 8, blockAt payload 152⟩ with
        fill := .opened ⟨n, pageIndex, page, 1, expectedCount slot.declared pageIndex,
          crc16More crc16Start (payload.drop 8), false⟩ }

/-- A FILL frame arrives while the channel is not held, with a valid slot and page index and a frame index other than 0
(R98). -/
def continueBurst (n : Fin 32) (pageIndex index : Nat) (payload : List Byte) (c : ClipStore) : ClipStore :=
  match c.fill with
  | .opened b =>
    if b.spoiled then c
    else if b.slot = n && b.pageIndex = pageIndex && b.nextFrame = index && index < b.expected then
      { c.writeBlock (b.page * Config.pageBlocks + index) ⟨blockAt payload 8, blockAt payload 152⟩ with
        fill := .opened { b with nextFrame := index + 1, crc := crc16More b.crc (payload.drop 8) } }
    else { c with fill := .opened { b with spoiled := true } }
  | .refused _ _ _ => c
  | .cut _ _ => c
  | .nothing => { c with counters := { c.counters with stray := bump c.counters.stray 1 } }

/-- A FILL frame counted as a stray fill frame (R97, R98, R209). -/
def countStray (c : ClipStore) : ClipStore :=
  { c with counters := { c.counters with stray := bump c.counters.stray 1 } }

/-- A FILL frame of the right length arrives, with payload `payload` (R97, R98, and R103 while the channel is held).
Bytes 5 to 7, where the layout gives 0 (R209), are not looked at (log entry 14). -/
def takeFill (payload : List Byte) (c : ClipStore) : ClipStore :=
  let pageIndex := beAt payload 2 2
  let index := (byteAt payload 4).toNat
  let valid := if pageIndex < Config.clipPages then finOf 32 (byteAt payload 1).toNat else none
  if c.channelHeld then
    match valid with
    | some n => if index = 0 then c.replaceFill (.cut n pageIndex) else c
    | none => c
  else
    match valid with
    | none => countStray c
    | some n => if index = 0 then beginBurst n pageIndex payload c else continueBurst n pageIndex index payload c

/-- A FILL frame arrives. One of the wrong length is counted as stray, while alert recording holds the channel too: R209
counts it, and R103 discards any other FILL frame without count (R97, R98, log entry 23). -/
def fillArrives (body : List Byte) (s : State) : State :=
  let payload := 0x03 :: body
  s.modClips fun c => if payload.length = 296 then takeFill payload c else countStray c

/-- One of the four results of a check is counted (R116). -/
def countBurst (r : BurstResult) (k : ClipCounters) : ClipCounters :=
  match r with
  | .ok => k
  | .bad => { k with burstBad := bump k.burstBad 1 }
  | .full => { k with burstFull := bump k.burstFull 1 }
  | .cut => { k with burstCut := bump k.burstCut 1 }
  | .refused => { k with burstRefused := bump k.burstRefused 1 }

/-- The result of a check that finds no open record with its own slot and page index, and the fill record after it
(R100). `n` is none where the check's slot number is above 31. -/
def checkUnmatched (n : Option (Fin 32)) (pageIndex : Nat) (c : ClipStore) : BurstResult × FillRecord :=
  let cutMatches := match c.fill with
    | .cut m p => n = some m && p = pageIndex
    | _ => false
  if c.channelHeld then (.cut, if cutMatches then .nothing else c.fill)
  else if cutMatches then (.cut, .nothing)
  else
    match c.fill with
    | .refused m p r => if n = some m && p = pageIndex then (r, .nothing) else (.refused, c.fill)
    | _ => (.refused, c.fill)

/-- Whether an open burst is good (R99): not spoiled; the check's frame count, the frames received and the expected
count all equal; the check's CRC equal to the running CRC. -/
def OpenBurst.good (b : OpenBurst) (count : Nat) (crc : BitVec 16) : Bool :=
  !b.spoiled && count = b.nextFrame && b.nextFrame = b.expected && crc = b.crc

/-- The reply to a check: code FFh, the result, and the data words of R100. -/
def replyCheck (src : MacAddress) (tag : BitVec 16) (slot : Nat) (pageIndex : Nat) (r : BurstResult) (s : State) :
    State :=
  let at' := finOf 32 slot
  sendReply src tag 0xFF r.code
    [Word.nat slot, Word.nat pageIndex, Word.option (at'.map fun n => (s.clips.slots.get n).length),
      Word.option (at'.map fun n => (s.clips.slots.get n).state.code), Word.nat s.clips.freeCount] s

/-- An open burst is judged good: its page joins the chain and the length grows by the expected count; at the declared
length the slot becomes READY with stamp "never", and SLOT_READY is latched (R99). -/
def acceptBurst (b : OpenBurst) (s : State) : State :=
  let s1 := s.modClips fun c =>
    { c.modSlot b.slot fun t => { t with chain := t.chain ++ [b.page], length := t.length + b.expected } with
      fill := .nothing }
  let t := s1.clips.slots.get b.slot
  if t.length = t.declared then
    latch .slotReady [Word.nat b.slot.val, Word.nat t.length]
      (s1.modClips fun c => c.modSlot b.slot fun t => { t with state := .ready, stamp := none })
  else s1

/-- A FILL-CHECK frame of the right length arrives (R99, R100). Where the burst makes the slot READY, the NOTICE frame of
SLOT_READY leaves before the check's REPLY: the manual names no order of the two (log entry 46). -/
def takeCheck (src : MacAddress) (payload : List Byte) (s : State) : State :=
  let slot := (byteAt payload 1).toNat
  let n := finOf 32 slot
  let pageIndex := beAt payload 2 2
  let tag := BitVec.ofNat 16 (beAt payload 4 2)
  let count := beAt payload 6 2
  let crc := BitVec.ofNat 16 (beAt payload 8 2)
  let unmatched : State :=
    let (r, next) := checkUnmatched n pageIndex s.clips
    replyCheck src tag slot pageIndex r
      (s.modClips fun c => { c with fill := next, counters := countBurst r c.counters })
  match s.clips.fill with
  | .opened b =>
    if n = some b.slot && b.pageIndex = pageIndex then
      if b.good count crc then replyCheck src tag slot pageIndex .ok (acceptBurst b s)
      else
        replyCheck src tag slot pageIndex .bad
          (s.modClips fun c => { c.replaceFill .nothing with counters := countBurst .bad c.counters })
    else unmatched
  | _ => unmatched

/-- A FILL-CHECK frame arrives (R99, R100, R209). -/
def fillCheckArrives (src : MacAddress) (body : List Byte) (s : State) : State :=
  let payload := unpadded 10 (0x04 :: body)
  if payload.length = 10 then takeCheck src payload s else s.modClips countStray

/-! ### Eviction (R106) -/

/-- A candidate for eviction: READY, of kind CART, use count 0, lock off in the slot table as adopted. -/
def ClipStore.candidate (c : ClipStore) (n : Fin 32) : Bool :=
  c.playable n && (c.slots.get n).useCount = 0 && !(c.conf.get n).lock

/-- How old a stamp is: "never" is older than every frame count. -/
def stampAge (now : BitVec 32) (stamp : Option (BitVec 32)) : Nat :=
  match stamp with
  | none => 2 ^ 32
  | some t => frameAge now t

/-- The victim of an eviction: the candidate with the oldest stamp, the lowest slot number among equals. -/
def ClipStore.victim (c : ClipStore) (now : BitVec 32) : Option (Fin 32) :=
  (List.finRange 32).foldl
    (fun best n =>
      if c.candidate n then
        match best with
        | none => some n
        | some m =>
          if stampAge now (c.slots.get m).stamp < stampAge now (c.slots.get n).stamp then some n else some m
      else best)
    none

/-- An eviction: the slot emptied and the state after it, or none where there is no victim. -/
def evict (s : State) : Option (Fin 32 × State) :=
  match s.clips.victim s.frameCount with
  | none => none
  | some n =>
    let freed := (s.clips.slots.get n).chain.length
    some (n, latch .slotEvicted [Word.nat n.val, Word.nat freed]
      (s.modClips fun c =>
        { c.emptySlot n with counters := { c.counters with eviction := bump c.counters.eviction 1 } }))

/-! ### Alert recording and the clip store (R103 to R107) -/

/-- The lowest-numbered EMPTY slot. -/
def ClipStore.firstEmpty (c : ClipStore) : Option (Fin 32) :=
  (List.finRange 32).find? fun n => (c.slots.get n).state = .empty

/-- Slot `n` is given to alert recording (R104), which takes the clip write channel and cuts a burst in flight
(R103). -/
def ClipStore.giveSlot (c : ClipStore) (n : Fin 32) : ClipStore :=
  let c1 := match c.fill with
    | .opened b => c.replaceFill (.cut b.slot b.pageIndex)
    | _ => c
  { c1.modSlot n fun _ => ⟨.recording, .alert, Config.recordingLimit, 0, [], 0, none⟩ with channelHeld := true }

/-- Alert intake asks for a recording slot (R104): the slot given and the state after it, or none for "no slot". Where
the claim both evicts a cart and cuts a burst, the evicted chain returns to the free-page list before the burst's page
(log entry 42). -/
def claimSlot (s : State) : Option (Fin 32 × State) :=
  match s.clips.firstEmpty with
  | some n => some (n, s.modClips fun c => c.giveSlot n)
  | none =>
    match evict s with
    | none => none
    | some (n, s1) => some (n, s1.modClips fun c => c.giveSlot n)

/-- A page for the recording slot `n`, at the end of its chain (R105): none where the list is empty. -/
def ClipStore.takePage (c : ClipStore) (n : Fin 32) : Option ClipStore :=
  match c.free with
  | [] => none
  | page :: rest => some ({ c with free := rest }.modSlot n fun t => { t with chain := t.chain ++ [page] })

/-- A page for the recording slot `n`, evicting a cart where the list is empty (R105): none for "no page". -/
def recordingPage (n : Fin 32) (s : State) : Option State :=
  match s.clips.takePage n with
  | some c => some (s.modClips fun _ => c)
  | none =>
    match evict s with
    | none => none
    | some (_, s1) => (s1.clips.takePage n).map fun c => s1.modClips fun _ => c

/-- The frame at position `p` of a recording is written, and the length becomes `p + 1` (R105). -/
def ClipStore.writeRecording (c : ClipStore) (n : Fin 32) (p : Nat) (f : StereoFrame) : ClipStore :=
  (c.writeBlock (chainBlock (c.slots.get n).chain p) f).modSlot n fun t => { t with length := p + 1 }

/-- The end of a recording (R105): the slot becomes ALERT_HELD and the channel is released. -/
def ClipStore.endRecording (c : ClipStore) (n : Fin 32) : ClipStore :=
  { c.modSlot n fun t => { t with state := .alertHeld } with channelHeld := false }

/-- The erase of an ALERT slot (R107): taken in RECORDING and ALERT_HELD. -/
def ClipStore.eraseAlert (c : ClipStore) (n : Fin 32) : ClipStore :=
  match (c.slots.get n).state with
  | .recording => { (c.dropHolds n).emptySlot n with channelHeld := false }
  | .alertHeld => (c.dropHolds n).emptySlot n
  | _ => c

/-! ### The commands -/

/-- FILL (R97, R98). -/
def execFill (body : List Byte) (s : State) : Host.Outcome State Fault Refusal := perform (fillArrives body) s

/-- FILL-CHECK (R99, R100). -/
def execFillCheck (src : MacAddress) (body : List Byte) (s : State) : Host.Outcome State Fault Refusal :=
  perform (fillCheckArrives src body) s

end Sys2Proof.Machine
end

