-- ==== Sys2Proof/Machine/AlertQueue.lean ====
section
/-!
DEFINITION. The alert queue (sections 6.7 and 6.9): the words of a record, and a record leaving the queue.
-/

namespace Sys2Proof.Machine

/-! ### The words of a record (R129) -/

/-- Word `i` of a record, counted from 1; a word not stored reads as 0. -/
def AlertRecord.word (r : AlertRecord) (i : Nat) : StoreWord := r.words.getD (i - 1) 0

/-- The identity, from word 1. -/
def AlertRecord.identity (r : AlertRecord) : Identity := Identity.ofBits (r.word 1)

/-- The air mode, from bits 0..1 of word 5. -/
def AlertRecord.airMode (r : AlertRecord) : AirMode := AirMode.ofCode ((r.word 5).extractLsb' 0 2).toNat

/-- The priority, from bits 4..5 of word 5. -/
def AlertRecord.priority (r : AlertRecord) : Nat := ((r.word 5).extractLsb' 4 2).toNat

/-- The bits of the flags in word 5. -/
def flagTorn : Nat := 8
def flagNoAudio : Nat := 9
def flagAudioShort : Nat := 10
def flagTimeUnknown : Nat := 11
def flagImpaired : Nat := 12
def flagReAirDone : Nat := 13
def flagTest : Nat := 14

/-- A flag of word 5. -/
def AlertRecord.flag (r : AlertRecord) (bit : Nat) : Bool := (r.word 5).getLsbD bit

/-- Word `i` changed by `f`, where it is stored. -/
def AlertRecord.modWord (r : AlertRecord) (i : Nat) (f : StoreWord → StoreWord) : AlertRecord :=
  { r with words := r.words.modify (i - 1) f }

/-- A flag of word 5 set, where that word is stored. -/
def AlertRecord.setFlag (r : AlertRecord) (bit : Nat) : AlertRecord :=
  r.modWord 5 fun w => w ||| BitVec.twoPow 32 bit

/-- The slot named by word 6, if any: 255 is none. -/
def AlertRecord.slot (r : AlertRecord) : Option (Fin 32) :=
  if r.words.length < 6 then none else finOf 32 ((r.word 6).extractLsb' 24 8).toNat

/-- Word 6: slot number in bits 24..31, recorded length in bits 0..15. -/
def audioWord (slot length : Nat) : StoreWord := BitVec.ofNat 32 (slot * 2 ^ 24 + length)

/-- The remaining minutes fall by 1, and stay at 0 once there; word 4, where stored, is kept equal (R129, R136). -/
def AlertRecord.countDown (r : AlertRecord) : AlertRecord :=
  { r.modWord 4 fun _ => BitVec.ofNat 32 (r.remaining - 1) with remaining := r.remaining - 1 }

/-! ### The queue -/

/-- The words stored by the records of the queue. -/
def storedWords (queue : List AlertRecord) : Nat := (queue.map fun r => r.words.length).sum

/-- The free words of the word store. -/
def AlertIntake.freeWords (a : AlertIntake) : Nat := Config.storeWords - storedWords a.queue

/-- The record with an identity. -/
def AlertIntake.find (a : AlertIntake) (i : Identity) : Option AlertRecord := a.queue.find? fun r => r.identity = i

/-- The record with an identity changed by `f`. -/
def AlertIntake.modRecord (a : AlertIntake) (i : Identity) (f : AlertRecord → AlertRecord) : AlertIntake :=
  { a with queue := a.queue.map fun r => if r.identity = i then f r else r }

/-- The record with an identity leaves the queue: a recording in progress for it becomes NONE (R135), its slot is erased
(R107, R136), and its identity leaves the re-air wait set (R158). -/
def removeRecord (i : Identity) (s : State) : State :=
  let slot := (s.intake.find i).bind AlertRecord.slot
  let s1 := s.modIntake fun a =>
    { a with
      queue := a.queue.filter fun r => r.identity ≠ i
      recording := if a.recording.identity = some i then Recording.idle else a.recording }
  let s2 := match slot with
    | some n => s1.modClips fun c => c.eraseAlert n
    | none => s1
  s2.modAir fun a => { a with waitSet := a.waitSet.filter fun j => j ≠ i }

end Sys2Proof.Machine
end

