-- ==== Sys2Proof/Machine/Delay.lean ====
section
/-!
DEFINITION. The programme delay (chapter 3): the derivation of the delay state, the exchange, hold and release, bypass
and DUMP. The EXCHANGE command; DUMP as an order stands in `Machine/Orders.lean`.
-/

namespace Sys2Proof.Machine

/-! ### The delay region (R42) -/

/-- The block that holds the held frame at place `i`, the oldest at place 0; at place `held` it is the write
position. -/
def DelayLine.block (d : DelayLine) (i : Nat) : Nat := (d.readPos + i) % Config.delayBlocks

/-- The write position: (read position + held count) mod 65,536 (R42). -/
def DelayLine.writePos (d : DelayLine) : Nat := d.block d.held

/-- The held frame at place `i`, the oldest at place 0. -/
def DelayLine.heldFrame (d : DelayLine) (i : Nat) : PgmFrame := Memory.read PgmFrame.silence d.region (d.block i)

/-- The held frames, oldest first. -/
def DelayLine.heldFrames (d : DelayLine) : List PgmFrame := (List.range d.held).map d.heldFrame

/-- A frame stored after the newest held frame. -/
def DelayLine.store (d : DelayLine) (f : PgmFrame) : DelayLine :=
  { d with region := Memory.write PgmFrame.silence d.region d.writePos f, held := d.held + 1 }

/-- The `n` oldest held frames leave: the read position moves forward. -/
def DelayLine.dropOldest (d : DelayLine) (n : Nat) : DelayLine :=
  { d with readPos := d.block n, held := d.held - n }

/-- A frame is given: it becomes the last given frame and is offered to the air stage (R46). -/
def DelayLine.give (d : DelayLine) (f : PgmFrame) : DelayLine := { d with lastGiven := f, offered := some f }

/-! ### The derivation (R44, R45) -/

/-- The delay state that follows from the hold flag, the bypass flag, the held count and the target in force (R44). -/
def DelayLine.derived (d : DelayLine) (bypass : Bool) : DelayState :=
  if d.hold then .held
  else if bypass then .live
  else if d.target = 0 && d.held = 0 then .live
  else if d.held < d.target then .building
  else if d.held = d.target then .safe
  else .shrinking

/-- The states whose entry sets the spacing count to 0 (R45). -/
def DelayState.moving : DelayState → Bool
  | .building | .shrinking => true
  | .live | .safe | .held => false

/-- Whether a change of state latches DELAY_AT_TARGET (R45). -/
def reachesTarget (old new : DelayState) : Bool :=
  (new = .safe || new = .live) && (old = .building || old = .shrinking || old = .held)

/-- The derivation is applied (R44, R45), without a notice. -/
def DelayLine.derive (d : DelayLine) (bypass : Bool) : DelayLine :=
  let new := d.derived bypass
  { d with state := new, spacing := if new.moving && new ≠ d.state then 0 else d.spacing }

/-- The derivation is applied, and DELAY_AT_TARGET latched where R45 says so. -/
def deriveDelay (s : State) : State :=
  let old := s.delay.state
  let s1 := s.modDelay fun d => d.derive s.air.bypass
  if reachesTarget old s1.delay.state then latch .delayAtTarget [Word.nat s1.delay.target] s1 else s1

/-! ### The exchange (R46 to R51) -/

/-- A plain read (R47). -/
def DelayLine.plain (d : DelayLine) (f : PgmFrame) : DelayLine :=
  if d.held = 0 then d.give f else ((d.dropOldest 1).store f).give (d.heldFrame 0)

/-- The read-side frame of the exchange sequence (R46). -/
def DelayLine.readSide (d : DelayLine) (f : PgmFrame) : PgmFrame := if d.held = 0 then f else d.heldFrame 0

/-- The spacing count increased by 1, held at 64 once there (R48, R49). -/
def DelayLine.spaced (d : DelayLine) : Nat := min (d.spacing + 1) 64

/-- The exchange in BUILDING: an insertion, or a plain read (R48). -/
def DelayLine.build (d : DelayLine) (f : PgmFrame) : DelayLine :=
  if d.buildSpacing ≤ d.spaced && (d.readSide f).quiet then
    let d1 := (d.store f).give d.lastGiven
    { d1 with spacing := 0, counters := { d1.counters with insertion := bump d1.counters.insertion 1 } }
  else { d with spacing := d.spaced }.plain f

/-- The exchange in SHRINKING: a skip, or a plain read (R49). The exchange sequence holds at least two frames where at
least one frame is held. -/
def DelayLine.shrink (d : DelayLine) (f : PgmFrame) : DelayLine :=
  if d.buildSpacing ≤ d.spaced && (d.readSide f).quiet && 1 ≤ d.held then
    let d1 :=
      if d.held = 1 then (d.dropOldest 1).give f else ((d.dropOldest 2).store f).give (d.heldFrame 1)
    { d1 with spacing := 0, counters := { d1.counters with skip := bump d1.counters.skip 1 } }
  else { d with spacing := d.spaced }.plain f

/-- The exchange in HELD, with the region full: the oldest held frame is discarded and counted (R50). -/
def DelayLine.overflow (d : DelayLine) (f : PgmFrame) : DelayLine :=
  let d1 := (d.dropOldest 1).store f
  { d1 with counters := { d1.counters with overflow := bump d1.counters.overflow 1 } }

/-- The exchange in HELD (R50). -/
def exchangeHeld (f : PgmFrame) (s : State) : State :=
  let s1 := s.modDelay fun d => { d with holdExchanges := tick32 d.holdExchanges, offered := none }
  if s.air.bypass then s1
  else if s1.delay.held < Config.delayBlocks then s1.modDelay fun d => d.store f
  else
    let s2 := s1.modDelay fun d => d.overflow f
    if s2.delay.overflowMark then s2
    else
      latch .delayOverflow [Word.nat s2.delay.holdExchanges]
        (s2.modDelay fun d => { d with overflowMark := true })

/-- The delay line adopts its committed settings; a changed target is followed by the derivation (R43, R52). -/
def adoptDelay (s : State) : State :=
  let s1 := s.modDelay fun d =>
    { d with
      buildSpacing := s.setting Setting.buildSpacing
      dumpLength := s.setting Setting.dumpLength
      policy := HoldPolicy.ofCode (s.setting Setting.holdPolicy) }
  let target := s.setting Setting.delayTarget
  if s1.delay.target = target then s1 else deriveDelay (s1.modDelay fun d => { d with target := target })

/-- The read part and the store part of an exchange, for the delay state (R46). -/
def exchangeRead (f : PgmFrame) (s : State) : State :=
  match s.delay.state with
  | .live => s.modDelay fun d => d.give f
  | .building => s.modDelay fun d => d.build f
  | .safe => s.modDelay fun d => d.plain f
  | .shrinking => s.modDelay fun d => d.shrink f
  | .held => exchangeHeld f s

/-- The exchange (R46): adoption, the read and store parts, and the derivation. The arriving frame is the PGM frame that
the mix engine last handed off (R38). -/
def exchangeWork (s : State) : State :=
  let s1 := adoptDelay s
  deriveDelay (exchangeRead s1.mix.pgm s1)

/-! ### Hold and release (R55 to R57) -/

/-- The hold request of the air stage (R55). -/
def holdRequest (s : State) : State :=
  if s.delay.hold then s
  else deriveDelay (s.modDelay fun d => { d with hold := true, overflowMark := false, holdExchanges := 0 })

/-- The frames that a release discards: under REJOIN, the held frames beyond the target (R57). -/
def DelayLine.rejoinExcess (d : DelayLine) : Nat :=
  match d.policy with
  | .resume => 0
  | .rejoin => d.held - d.target

/-- The release request of the air stage, under the hold policy in force (R55, R56, R57). -/
def releaseRequest (s : State) : State :=
  if s.delay.hold then
    deriveDelay (s.modDelay fun d =>
      let d1 := d.dropOldest d.rejoinExcess
      { d1 with hold := false, counters := { d1.counters with rejoin := bump d1.counters.rejoin d.rejoinExcess } })
  else s

/-! ### Bypass (R59, R60) -/

/-- Bypass has gone on: every held frame is discarded; no notice is latched, and the spacing count is unchanged
(R59). -/
def bypassOn (s : State) : State := s.modDelay fun d => (d.dropOldest d.held).derive true

/-- Bypass has gone off: the derivation, with the flag clear (R60). -/
def bypassOff (s : State) : State := deriveDelay s

/-! ### Dump (R53, R54) -/

/-- The newest frames, up to the dump length, are removed, and the delay state derived; DUMP_SHORT is latched where the
line held fewer. Where the same DUMP also latches DELAY_AT_TARGET, that comes first (R53, R54, log entry 41). -/
def dumpWork (s : State) : State :=
  let before := s.delay.held
  let removed := min s.delay.dumpLength before
  let s1 := deriveDelay (s.modDelay fun d =>
    { d with held := d.held - removed, counters := { d.counters with dump := bump d.counters.dump 1 } })
  if before < s.delay.dumpLength then latch .dumpShort [Word.nat removed] s1 else s1

/-! ### RESTART (R63) -/

/-- The RESTART effect on the delay line: the derivation with bypass off, and nothing latched. -/
def restartDelay (s : State) : State :=
  s.modDelay fun d =>
    let d1 : DelayLine := { d.dropOldest d.held with
      hold := false
      overflowMark := false
      holdExchanges := 0
      lastGiven := PgmFrame.silence }
    { d1.derive false with spacing := 0 }

/-! ### The command -/

/-- EXCHANGE (R46). -/
def execExchange (s : State) : Host.Outcome State Fault Refusal := perform exchangeWork s

end Sys2Proof.Machine
end

