-- ==== Sys2Proof/Machine/Link.lean ====
section
/-!
DEFINITION. The link unit's shared operations (chapters 8 and 9): faults, messages, fault counts and level, the entry to
CUT, the end of a sleep negotiation, and the starts of a sleep and of a wake. The send is in `Machine/LinkSend.lean`,
the return frame in `Machine/LinkReturn.lean`.
-/

namespace Sys2Proof.Machine

/-- The modes in which audio is sent and the level is worked out (R165, R173). -/
def LinkMode.audio : LinkMode → Bool
  | .run | .sleepPending => true
  | .asleep | .waking | .cut => false

/-- The modes in which the fault counts move and the gap timer runs (R168, R170, R172). -/
def LinkMode.counting : LinkMode → Bool
  | .run | .sleepPending | .cut => true
  | .asleep | .waking => false

/-! ### Faults (R180) -/

/-- A fault is taken: faults since read rises, and an empty capture takes the fault record. -/
def takeFault (kind : FaultKind) (reference : Nat) (s : State) : State :=
  s.modLink fun l =>
    { l with
      faultsSince := bump l.faultsSince 1
      capture := some (l.capture.getD ⟨kind, reference, l.mode, l.sfc, l.rfc⟩) }

/-! ### Messages (R177) -/

/-- A message is passed to the link unit: numbered and queued, or dropped where the queue holds 8. The number given, or
none. -/
def queueMessage (kind : MessageKind) (body : List Byte) (s : State) : State × Option Byte :=
  if Config.messageQueueSize ≤ s.link.queue.length then
    let s1 := s.modLink fun l => { l with counters := { l.counters with messageLost := bump l.counters.messageLost 1 } }
    (latch .linkMessageLost [Word.nat kind.code, Word.nat 255, Word.nat 0] (takeFault .messageLost 255 s1), none)
  else
    (s.modLink fun l =>
      { l with queue := l.queue ++ [⟨l.nextNumber, kind, body⟩], nextNumber := l.nextNumber + 1 },
      some s.link.nextNumber)

/-- The minute of week as a message carries it: 65,535 if unset (R187). -/
def minuteBytes (m : Option Nat) : List Byte := beBytes 2 (m.getD 65535)

/-! ### Level and cut (R172 to R174) -/

/-- The level that follows from the fault counts and the warning limit (R173). -/
def levelOf (w sfc rfc : Nat) : Level :=
  if 127 < sfc || 127 < rfc then .degraded else if w ≤ sfc || w ≤ rfc then .warning else .clear

/-- The level is worked out, in RUN and SLEEP_PENDING; a change latches LINK_LEVEL (R173). -/
def workLevel (s : State) : State :=
  let new := levelOf s.link.warningLimit s.link.sfc s.link.rfc
  if s.link.mode.audio && s.link.level ≠ some new then
    latch .linkLevel
      [Word.option (s.link.level.map Level.code), Word.nat new.code, Word.nat s.link.sfc, Word.nat s.link.rfc]
      (s.modLink fun l => { l with level := some new })
  else s

/-- The mode enters RUN: the gap timer is set to 0 (R170), the level is worked out afresh without a latch (R173), and
the air stage empties its re-air wait set (R158). The selection that follows is run by the event's own rule. -/
def enterRun (s : State) : State :=
  (s.modLink fun l =>
    { l with mode := .run, gapTimer := 0, level := some (levelOf l.warningLimit l.sfc l.rfc) }).modAir
    fun a => { a with waitSet := [] }

/-- Whether a message is the SLEEP_REQUEST with this number. -/
def Message.isRequest (m : Message) (number : Option Byte) : Bool := m.kind = .sleepRequest && some m.number = number

/-- How a negotiation ends without sleep (R189): result 1 refused or 2 aborted. -/
inductive Ending where
  | refused
  | aborted
  deriving DecidableEq, Repr

/-- The result code of an ending (R189). -/
def Ending.code : Ending → Nat
  | .refused => 1
  | .aborted => 2

/-- The ending is counted (R194). -/
def Ending.count (e : Ending) (k : LinkCounters) : LinkCounters :=
  match e with
  | .refused => { k with sleepsRefused := bump k.sleepsRefused 1 }
  | .aborted => { k with sleepsAborted := bump k.sleepsAborted 1 }

/-- The SLEEP_REQUEST of the negotiation leaves the queue, and the phase is NONE (R189). -/
def LinkUnit.leavePhase (l : LinkUnit) : LinkUnit :=
  { l with phase := .none, queue := l.queue.filter fun m => !m.isRequest l.requestNumber }

/-- The SLEEP_CANCEL of an abort is queued, with the request number or 255; the number given to it, or none (R189). -/
def queueCancel (e : Ending) (s : State) : State × Option Byte :=
  match e with
  | .refused => (s, none)
  | .aborted => queueMessage .sleepCancel [s.link.requestNumber.getD 255] s

/-- A SLEEP_REQUEST still in flight gives its number to the late number, where no SLEEP_CANCEL was queued (R189). -/
def LinkUnit.markLate (l : LinkUnit) (cancel : Option Byte) : LinkUnit :=
  match l.inFlight, cancel with
  | some f, none => if f.message.isRequest l.requestNumber then { l with lateNumber := l.requestNumber } else l
  | _, _ => l

/-- A negotiation ends without sleep (R189). From SLEEP_PENDING the mode becomes RUN; an abort by the entry to CUT finds
the mode CUT already and leaves it. -/
def endNegotiation (e : Ending) (cause : Nat) (s : State) : State :=
  let s1 := if s.link.mode = .sleepPending then enterRun s else s
  let (s2, cancel) := queueCancel e (s1.modLink LinkUnit.leavePhase)
  latch .sleepResult [Word.nat e.code, Word.nat cause]
    (s2.modLink fun l => { l.markLate cancel with counters := e.count l.counters })

/-- The entry to CUT (R174): cause 0 send faults, 1 return faults, 2 wake failed. Where it ends a negotiation, LINK_CUT is
latched before the SLEEP_RESULT of that end (R189): the manual names no order of the two notices (log entry 47). -/
def enterCut (cause : Nat) (s : State) : State :=
  let left := s.link.mode
  let s1 := latch .linkCut [Word.nat cause, Word.nat left.code, Word.nat s.link.lastSeq.toNat]
    (s.modLink fun l =>
      { l with
        mode := .cut
        level := none
        sfc := 127
        rfc := 0
        gapTimer := 0
        cutDuration := 0
        cutProbeFailures := 0
        probeTimer := 0
        counters := { l.counters with cut := bump l.counters.cut 1 } })
  if left = .sleepPending then endNegotiation .aborted 5 s1 else s1

/-- SFC rises by `n` with a fault (R171, R172, R178): a rise above 255 is not made, and brings the cut. -/
def raiseSfc (n : Nat) (kind : FaultKind) (reference : Nat) (s : State) : State :=
  if 255 < s.link.sfc + n then enterCut 0 (takeFault kind reference s)
  else workLevel (takeFault kind reference (s.modLink fun l => { l with sfc := l.sfc + n }))

/-- RFC rises by 1 with a fault (R168, R170, R172): a rise to 255 brings the cut. -/
def raiseRfc (kind : FaultKind) (s : State) : State :=
  let s1 := takeFault kind s.link.lastSeq.toNat (s.modLink fun l => { l with rfc := l.rfc + 1 })
  if 255 ≤ s1.link.rfc then enterCut 1 s1 else workLevel s1

/-- SFC falls by 1, not below 0, and the level is worked out (R171, R172). -/
def lowerSfc (s : State) : State := workLevel (s.modLink fun l => { l with sfc := l.sfc - 1 })

/-- RFC falls by 1, not below 0, and the level is worked out (R169, R172). -/
def lowerRfc (s : State) : State := workLevel (s.modLink fun l => { l with rfc := l.rfc - 1 })

/-! ### Sleep and wake (R187, R190, R191) -/

/-- A sleep is started (R187). -/
def startSleep (s : State) : State :=
  let s1 := s.modLink fun l =>
    { l with
      mode := .sleepPending
      phase := .requesting
      requestTimer := 0
      requestAcked := false
      lateNumber := none }
  let (s2, number) := queueMessage .sleepRequest
    (beBytes 2 s1.link.quietInterval ++ minuteBytes s1.intake.minuteOfWeek) s1
  s2.modLink fun l =>
    { l with
      requestNumber := number
      counters := { l.counters with sleepsRequested := bump l.counters.sleepsRequested 1 } }

/-- The entry to ASLEEP (R190). -/
def enterAsleep (s : State) : State :=
  latch .sleepResult [Word.nat 0, Word.nat 255]
    (s.modLink fun l =>
      { l with
        mode := .asleep
        phase := .none
        level := none
        keepaliveTimer := 0
        asleepWatch := 0
        counters := { l.counters with sleepsEntered := bump l.counters.sleepsEntered 1 } })

/-- The link unit enters WAKING with phase BURST, burst number 1 and burst index 0 (R191). -/
def LinkUnit.beginWake (l : LinkUnit) : LinkUnit :=
  { l with mode := .waking, wakePhase := .burst, burstNumber := 1, burstIndex := 0 }

/-- A wake is started, and counted (R191). -/
def startWake (s : State) : State :=
  s.modLink fun l =>
    { l.beginWake with counters := { l.counters with wakesStarted := bump l.counters.wakesStarted 1 } }

/-- A cause of a wake or of an abort reaches the link unit: in ASLEEP it starts a wake, in SLEEP_PENDING it aborts the
negotiation with this cause, and in other modes it changes nothing (R189, R191). -/
def wakeOrAbort (cause : Nat) (s : State) : State :=
  match s.link.mode with
  | .asleep => startWake s
  | .sleepPending => endNegotiation .aborted cause s
  | .run | .waking | .cut => s

end Sys2Proof.Machine
end

