-- ==== Sys2Proof/Machine/Air.lean ====
section
/-!
DEFINITION. The air stage (chapter 7): the choice of the next alert, its commit, the phases of an airing, the air frame
and completion. The AIR_FRAME command and the rows for what ends within an air frame.
-/

namespace Sys2Proof.Machine

/-! ### Choosing the next alert (R148) -/

/-- Whether a record is eligible. -/
def AirStage.eligible (a : AirStage) (r : AlertRecord) : Bool :=
  !r.torn && r.airMode ≠ .logOnly && !r.onAir && !a.waitSet.contains r.identity

/-- Whether the queue holds any eligible record, as the air stage presents it to the link unit. -/
def anyEligible (s : State) : Bool := s.intake.queue.any s.air.eligible

/-- The eligible record of highest priority, the oldest among equals. -/
def chosenRecord (s : State) : Option AlertRecord :=
  s.intake.queue.foldl
    (fun best r =>
      if s.air.eligible r then
        match best with
        | none => some r
        | some b => if b.priority < r.priority then some r else some b
      else best)
    none

/-- Whether a NEXT_BREAK record is due by its age. -/
def dueByAge (s : State) (r : AlertRecord) : Bool :=
  r.airMode = .nextBreak && s.air.breakDeadline ≤ frameAge s.frameCount r.stamp

/-- Whether a record is due. -/
def recordDue (s : State) (r : AlertRecord) : Bool := r.airMode = .immediate || dueByAge s r

/-! ### Commit and entry to LEAD_IN (R151, R152) -/

/-- The body of an ALERT_NOTE (R152, R210). -/
def alertNoteBody (r : AlertRecord) : List Byte :=
  beBytes 4 (r.word 1).toNat ++
    [((r.word 2).extractLsb' 16 3).setWidth 8] ++
    beBytes 2 ((r.word 2).extractLsb' 0 12).toNat ++
    [((r.word 2).extractLsb' 24 2).setWidth 8, BitVec.ofNat 8 r.priority] ++
    beBytes 2 r.remaining ++
    [if r.flag flagTest then 1 else 0]

/-- The attention source at entry to LEAD_IN: the attention slot where it is READY, of kind CART and can take the air
stage's hold; otherwise the tone. -/
def chooseAttention (s : State) : State :=
  let tone := s.modAir fun a => { a with attention := .tone, attentionFrames := a.attentionLength }
  match s.air.attentionSlot with
  | none => tone
  | some n =>
    if s.clips.playable n && s.clips.canHold airReader n then
      (s.modClips fun c => c.hold airReader n).modAir fun a =>
        { a with attention := .slot n, attentionFrames := (s.clips.slots.get n).length }
    else tone

/-- The entry to LEAD_IN for the record on air. -/
def enterLeadIn (s : State) : State :=
  let s1 := chooseAttention (s.modAir fun a => { a with state := .leadIn, step := 0, position := 0 })
  match s1.air.airing.bind s1.intake.find with
  | some r => (queueMessage .alertNote (alertNoteBody r) s1).1
  | none => s1

/-- A record is committed (R151). -/
def commit (i : Identity) (s : State) : State :=
  let s1 := (s.modIntake fun q => q.modRecord i fun r => { r with onAir := true }).modAir fun a =>
    { a with airing := some i, present := true, impaired := false, underruns := 0, messageFrames := 0 }
  match s1.link.mode with
  | .asleep | .sleepPending => wakeOrAbort 4 (s1.modAir fun a => { a with state := .waitLink })
  | .run | .waking | .cut => enterLeadIn s1

/-- The selection (R149): run in IDLE and WAIT_BREAK. -/
def select (s : State) : State :=
  match s.air.state with
  | .idle | .waitBreak =>
    match chosenRecord s with
    | none => s.modAir fun a => { a with state := .idle, airing := none }
    | some r =>
      if recordDue s r then
        commit r.identity (s.modAir fun a =>
          { a with counters := { a.counters with
            deadline := bump a.counters.deadline (if r.airMode = .nextBreak then 1 else 0) } })
      else s.modAir fun a => { a with state := .waitBreak, airing := some r.identity }
  | .waitLink | .leadIn | .attention | .message | .closing | .leadOut => s

/-- A break event reaches the air stage (R150). -/
def breakEvent (s : State) : State :=
  match s.air.state, s.air.airing with
  | .waitBreak, some i => commit i s
  | _, _ => s

/-- A record leaves the queue, and the selection runs (R136, R149). -/
def recordLeaves (i : Identity) (s : State) : State := select (removeRecord i s)

/-! ### The phases of an airing (R153 to R156) -/

/-- The attention source read at the position: the tone, or the attention slot scaled by its gain code (R154). -/
def attentionFrame (s : State) : StereoFrame :=
  match s.air.attention with
  | .tone => toneFrame
  | .slot n =>
    match s.clips.readFor airReader n s.air.position with
    | .frame f => scaleStereo f (s.mix.gain.get (s.clips.conf.get n).gain)
    | .beyond => StereoFrame.silence
    | .dropped => StereoFrame.silence

/-- The record on air, where it is still in the queue. -/
def recordOnAir (s : State) : Option AlertRecord := if s.air.present then s.air.airing.bind s.intake.find else none

/-- The slot that the record on air names. -/
def messageSlot (s : State) : Option (Fin 32) := (recordOnAir s).bind AlertRecord.slot

/-- The entry to CLOSING: the closing count starts at 0 (R156). -/
def enterClosing (s : State) : State := s.modAir fun a => { a with state := .closing, position := 0 }

/-- The entry to MESSAGE (R155): skipped where the record is not present or names no slot. -/
def enterMessage (s : State) : State :=
  match messageSlot s with
  | none => enterClosing s
  | some n => (s.modClips fun c => c.hold airReader n).modAir fun a => { a with state := .message, position := 0 }

/-- The entry to LEAD_OUT with a starting step, and the release request (R156, R159). -/
def enterLeadOut (step : Nat) (s : State) : State :=
  releaseRequest (s.modAir fun a => { a with state := .leadOut, step := step })

/-- A crossfade at one sample: `p` weighted by `16,384 - w` and `a` by `w`, rounded half up (R152, R156). -/
def fadeSample (w p a : Int) : Int := roundGain (p * (16384 - w) + a * w)

/-- A crossfade of two stereo frames with weight `w` for the second. -/
def fade (w : Int) (p a : StereoFrame) : StereoFrame :=
  ⟨p.left.zipWith (fadeSample w) a.left, p.right.zipWith (fadeSample w) a.right⟩

/-! ### The air frame (R145) -/

/-- The programme frame: the frame that the delay line offered, or silence; with bypass on, the studio channels 0 and 1
of this frame period. -/
def programmeFrame (s : State) : StereoFrame :=
  if s.air.bypass then ⟨s.mix.studioLeft, s.mix.studioRight⟩
  else (s.delay.offered.map PgmFrame.audio).getD StereoFrame.silence

/-- The air stage adopts its committed settings (R147). -/
def adoptAir (s : State) : State :=
  s.modAir fun a =>
    { a with
      attentionSlot := s.slotSetting Setting.attentionSlot
      attentionLength := s.setting Setting.attentionLength
      breakDeadline := s.setting Setting.breakDeadline }

/-- In WAIT_LINK, the link mode is read again: RUN and CUT enter LEAD_IN (R151). -/
def checkLink (s : State) : State :=
  if s.air.state = .waitLink && (s.link.mode = .run || s.link.mode = .cut) then enterLeadIn s else s

/-- The message has ended: the slot is ALERT_HELD and the position at or above its length (R155). -/
def messageEnded (s : State) : Bool :=
  s.air.state = .message &&
    match s.clips.holds.get airReader with
    | some n => (s.clips.slots.get n).state = .alertHeld && (s.clips.slots.get n).length ≤ s.air.position
    | none => false

/-- In MESSAGE, a message that has ended gives way to CLOSING, whose first frame this is (R155). -/
def checkMessage (s : State) : State :=
  if messageEnded s then enterClosing (s.modClips fun c => c.release airReader) else s

/-- The start of an air frame: adoption, and the state changes that fall at the start of a frame (R145, R149, R151,
R155). -/
def airStart (s : State) : State := checkMessage (checkLink (select (adoptAir s)))

/-- One frame of MESSAGE (R155). -/
def messageFrame (s : State) : State × StereoFrame :=
  match s.clips.holds.get airReader with
  | none => (s, StereoFrame.silence)
  | some n =>
    match s.clips.readFor airReader n s.air.position with
    | .frame f =>
      (s.modAir fun a => { a with position := a.position + 1, messageFrames := a.messageFrames + 1 }, f)
    | .beyond =>
      (s.modAir fun a =>
        { a with
          underruns := bump a.underruns 1
          counters := { a.counters with underrun := bump a.counters.underrun 1 } }, StereoFrame.silence)
    | .dropped => (s, StereoFrame.silence)

/-- The air frame formed for the state, and the state's own counts of it (R145, R152 to R156). -/
def airForm (s : State) : State × StereoFrame :=
  let p := programmeFrame s
  match s.air.state with
  | .idle | .waitBreak | .waitLink => (s, p)
  | .leadIn =>
    let j := s.air.step + 1
    (s.modAir fun a => { a with step := j, position := a.position + 1 }, fade (1024 * j) p (attentionFrame s))
  | .attention => (s.modAir fun a => { a with position := a.position + 1 }, attentionFrame s)
  | .message => messageFrame s
  | .closing => (s.modAir fun a => { a with position := a.position + 1 }, toneFrame)
  | .leadOut =>
    let j := s.air.step + 1
    (s.modAir fun a => { a with step := j }, fade (16384 - 1024 * j) p toneFrame)

/-- The states in which the "alert on air" flag is set (R145). -/
def AirState.onAir : AirState → Bool
  | .leadIn | .attention | .message | .closing | .leadOut => true
  | .idle | .waitBreak | .waitLink => false

/-- The states in which the link mode is read for the impaired mark (R157). -/
def AirState.readsLink : AirState → Bool
  | .attention | .message | .closing => true
  | .idle | .waitBreak | .waitLink | .leadIn | .leadOut => false

/-- In ATTENTION, MESSAGE and CLOSING a link mode other than RUN sets the impaired mark, and the record's "link
impaired" flag where the record is present (R157). -/
def markImpaired (s : State) : State :=
  if s.air.state.readsLink && s.link.mode ≠ .run then
    let s1 := s.modAir fun a => { a with impaired := true }
    match s1.air.present, s1.air.airing with
    | true, some i => s1.modIntake fun q => q.modRecord i fun r => r.setFlag flagImpaired
    | _, _ => s1
  else s

/-! ### Completion (R158) -/

/-- Whether completion schedules a re-air. -/
def reAirWanted (s : State) : Bool :=
  match recordOnAir s with
  | some r => s.air.impaired && 0 < r.remaining && !r.flag flagReAirDone
  | none => false

/-- The detail of ALERT_AIRED. -/
def airedDetail (s : State) : List Word :=
  [Word.option (s.air.airing.map fun i => i.word.toNat), Word.flag (!s.air.present), Word.flag s.air.impaired,
    Word.flag (reAirWanted s), Word.nat s.air.messageFrames, Word.nat s.air.underruns]

/-- A re-air is scheduled for the record on air: "re-air done" is set, and its identity joins the re-air wait set unless
the link mode is RUN. -/
def scheduleReAir (i : Identity) (s : State) : State :=
  (s.modIntake fun q => q.modRecord i fun r => r.setFlag flagReAirDone).modAir fun a =>
    { a with
      waitSet := if s.link.mode = .run then a.waitSet else a.waitSet.filter (· ≠ i) ++ [i]
      counters := { a.counters with reAir := bump a.counters.reAir 1 } }

/-- The record on air, if present, is kept for a re-air or leaves the queue. -/
def settleRecord (s : State) : State :=
  match s.air.present, s.air.airing with
  | true, some i =>
    let s1 := s.modIntake fun q => q.modRecord i fun r => { r with onAir := false }
    if reAirWanted s then scheduleReAir i s1 else removeRecord i s1
  | _, _ => s

/-- The airing is complete (R158). -/
def completeAiring (s : State) : State :=
  let s1 := (latch .alertAired (airedDetail s) s).modAir fun a =>
    { a with counters := { a.counters with airings := bump a.counters.airings 1 } }
  select ((settleRecord s1).modAir fun a => { a with state := .idle, airing := none, present := false })

/-! ### The end of a frame -/

/-- LEAD_IN ends after its 16th frame (R152). -/
def leadInOver (s : State) : Bool := s.air.state = .leadIn && Config.crossfadeFrames ≤ s.air.step

/-- ATTENTION ends after the frame at position max(La, 17) − 1 (R154). -/
def attentionOver (s : State) : Bool := s.air.state = .attention && max s.air.attentionFrames 17 ≤ s.air.position

/-- CLOSING ends after the frame that makes its count 1,000 (R156). -/
def closingOver (s : State) : Bool := s.air.state = .closing && Config.closingFrames ≤ s.air.position

/-- LEAD_OUT ends after its frame with step 16 (R156). -/
def leadOutOver (s : State) : Bool := s.air.state = .leadOut && Config.crossfadeFrames ≤ s.air.step

/-- The state changes that fall at the end of a frame (R152 to R156). -/
def airEnd (s : State) : State :=
  if leadInOver s then holdRequest (s.modAir fun a => { a with state := .attention })
  else if attentionOver s then enterMessage (s.modClips fun c => c.release airReader)
  else if closingOver s then enterLeadOut 0 s
  else if leadOutOver s then completeAiring s
  else s

/-- The air frame is handed on with the "alert on air" flag (R145). -/
def handAirFrame (onAir : Bool) (f : StereoFrame) (s : State) : State :=
  s.modAir fun a => { a with lastAir := f, onAirFlag := onAir }

/-- The air frame formed and handed on, and the link mode read: an air frame up to the changes at its end. -/
def airMiddle (s : State) : State :=
  let s1 := airStart s
  let (s2, f) := airForm (markImpaired s1)
  handAirFrame s1.air.state.onAir f s2

/-- The air stage's frame (R145). -/
def airWork (s : State) : State := airEnd (airMiddle s)

/-! ### ALERT-CANCEL (R159) -/

/-- The record on air has been cancelled and has left the queue: what the air stage does by its state. -/
def cancelOnAir (s : State) : State :=
  let s1 := s.modAir fun a => { a with present := false }
  let release := s1.modClips fun c => c.release airReader
  match s1.air.state with
  | .waitLink => s1.modAir fun a => { a with state := .idle, airing := none }
  | .leadIn =>
    if s1.air.step = 0 then release.modAir fun a => { a with state := .idle, airing := none }
    else enterLeadOut (Config.crossfadeFrames - s1.air.step) release
  | .attention | .message => enterClosing release
  | .idle | .waitBreak | .closing | .leadOut => s1

/-- ALERT-CANCEL of a record that is in the queue (R159). -/
def cancelRecord (i : Identity) (s : State) : State :=
  let onAir := s.air.present && s.air.airing = some i
  let s1 := (removeRecord i s).modAir fun a =>
    { a with counters := { a.counters with cancels := bump a.counters.cancels 1 } }
  select (if onAir then cancelOnAir s1 else s1)

/-! ### Bypass (R146) and RESTART (R163) -/

/-- The bypass flag is set to a value (R146). -/
def setBypass (on : Bool) (s : State) : State :=
  if s.air.bypass = on then s
  else
    let s1 := s.modAir fun a => { a with bypass := on }
    if on then bypassOn s1 else bypassOff s1

/-- The RESTART effect on the air stage. The "alert on air" flag handed on with the last air frame stands until the
first air frame after the RESTART (R163, R165). -/
def restartAir (s : State) : State :=
  s.modAir fun a =>
    { a with
      state := .idle
      airing := none
      present := false
      step := 0
      attention := .tone
      attentionFrames := a.attentionLength
      position := 0
      impaired := false
      underruns := 0
      messageFrames := 0
      waitSet := []
      bypass := false
      lastAir := StereoFrame.silence }

/-! ### The commands -/

/-- AIR_FRAME (R145). -/
def execAirFrame (s : State) : Host.Outcome State Fault Refusal := perform airWork s

/-- LEAD_IN_END: the air frame after which LEAD_IN ends (R152, R154). -/
def execLeadInEnd (s : State) : Host.Outcome State Fault Refusal :=
  performIf (fun s => leadInOver (airMiddle s)) airWork s

/-- ATTENTION_END: the air frame after which ATTENTION ends (R154, R155). -/
def execAttentionEnd (s : State) : Host.Outcome State Fault Refusal :=
  performIf (fun s => attentionOver (airMiddle s)) airWork s

/-- CLOSING_END: the air frame after which CLOSING ends (R156). -/
def execClosingEnd (s : State) : Host.Outcome State Fault Refusal :=
  performIf (fun s => closingOver (airMiddle s)) airWork s

/-- COMPLETION: the air frame after which the airing is complete (R158). -/
def execCompletion (s : State) : Host.Outcome State Fault Refusal :=
  performIf (fun s => leadOutOver (airMiddle s)) airWork s

/-- Whether the selection at the start of the next air frame commits a record by its age, in WAIT_BREAK (R149). -/
def deadlineReached (s : State) : Bool :=
  let s1 := adoptAir s
  s1.air.state = .waitBreak &&
    match chosenRecord s1 with
    | some r => dueByAge s1 r
    | none => false

/-- BREAK_DEADLINE_REACHED: the air frame at whose start a waiting record is due by its age (R149). -/
def execBreakDeadlineReached (s : State) : Host.Outcome State Fault Refusal := performIf deadlineReached airWork s

end Sys2Proof.Machine
end

