-- ==== Sys2Proof/WellFormed.lean ====
section
/-!
DEFINITION. Which commands are well-formed: those whose operands can arrive on the port they name. `exec` gives every
command a meaning, well-formed or not.
-/

namespace Sys2Proof

/-- A payload fits into one Ethernet frame: the type byte the command leaves out, where it does, counts as well. -/
def payloadFits (n : Nat) (bytes : List Byte) : Bool := bytes.length + n ≤ 1500

/-- The bytes of a whole alert record: kind, length, as many body bytes as the length gives, and two CRC bytes (R210).
-/
def recordWhole (record : List Byte) : Bool :=
  2 ≤ record.length && record.length = (record.getD 1 0).toNat + 4

/-- Bytes of an alert record of which at least one byte is still to come (R210). -/
def recordBegun (bytes : List Byte) : Bool :=
  1 ≤ bytes.length && (bytes.length < 2 || bytes.length < (bytes.getD 1 0).toNat + 4)

/-- A slot carries at most 147 bytes (R210). -/
def slotsFit (slots : IncomingSlots) : Bool := slots.all fun slot => slot.length ≤ 147

/-- The type byte of a frame that an ORDER command carries is none of those of PROGRAMME, FILL and FILL-CHECK, which
are commands of their own (R209). -/
def orderType (frame : List Byte) : Bool :=
  match frame with
  | [] => true
  | t :: _ => t ≠ 1 && t ≠ 3 && t ≠ 4

/-- The well-formed commands. -/
def Instr.wellFormed : Instr → Bool
  | .programme body => payloadFits 1 body
  | .order _ frame => payloadFits 0 frame && orderType frame
  | .fill body => payloadFits 1 body
  | .fillCheck _ body => payloadFits 1 body
  | .lineBusCycle slots => slotsFit slots
  | .ringLimitReached _ slots => slotsFit slots
  | .holdLimitReached _ slots => slotsFit slots
  | .returnFrame frame => payloadFits 0 frame
  | .header rest => recordWhole (1 :: rest)
  | .audioBegin rest => recordWhole (2 :: rest)
  | .audioEnd rest => recordWhole (3 :: rest)
  | .alertRecordDiscard record => recordWhole record
  | .incompleteRecord bytes => recordBegun bytes
  | .powerOnReset | .framePeriod | .unknownOrder | .mixFrame | .exchange | .airFrame | .leadInEnd | .attentionEnd
  | .closingEnd | .completion | .breakDeadlineReached | .send | .burstEnd | .wakeTimerTimeout | .probe | .gapTimer
  | .messageResend | .messageDrop | .requestTimer | .quietTimer | .keepalive | .asleepWatch | .alertFrame _
  | .beginWaitReached _ | .recordingLimit _ | .minuteEvent _ | .repeatTimer | .tPoint | .tWrite | .tRead | .status
  | .mask | .counters | .restart | .timeSet | .bypass | .dump | .lineAnswer | .lineHold | .lineReady | .lineTake
  | .lineDrop | .lineTag | .clipOpen | .clipAbort | .clipErase | .playerCue | .playerStart | .playerStop | .alertList
  | .alertRelease | .alertCancel | .alertTest | .breakOrder | .linkSleep | .linkWake | .linkStatus => true

end Sys2Proof
end

