-- ==== Sys2Proof/Machine/Intake.lean ====
section
/-!
DEFINITION. Alert intake (chapter 6): the seven steps of a header, the audio records, the frame work with the minute
event and the recording, and the alert orders' answers. The commands of the alert port.
-/

namespace Sys2Proof.Machine

/-! ### Adoption and the time base (R120, R127) -/

/-- A number as a priority. -/
def priorityOf (n : Nat) : Fin 4 := BitVec.toFin (BitVec.ofNat 2 n)

/-- Alert intake adopts its committed filter entries and settings (R127). -/
def adoptIntake (s : State) : State :=
  s.modIntake fun a =>
    { a with
      filter := s.tables.filter
      defaultVerdict := Verdict.ofCode (s.setting Setting.defaultVerdict)
      defaultMode := AirMode.ofCode (s.setting Setting.defaultMode)
      defaultPriority := priorityOf (s.setting Setting.defaultPriority) }

/-- An intake counter increases. -/
def countIntake (f : IntakeCounters → IntakeCounters) (s : State) : State :=
  s.modIntake fun a => { a with counters := f a.counters }

/-- The intake error counter increases by 1 (R119, R123). -/
def countIntakeError (s : State) : State := countIntake (fun k => { k with error := bump k.error 1 }) s

/-- One minute passes for an entry of the recent-alert table (R126). -/
def RecentEntry.countDown (e : RecentEntry) : Option RecentEntry :=
  if e.remaining ≤ 1 then none else some { e with remaining := e.remaining - 1 }

/-- The minute of week after a minute event (R120). -/
def nextMinute (m : Nat) : Nat := if m + 1 = Config.weekMinutes then 0 else m + 1

/-- The minute of week, the recent-alert table and the queue's records at a minute event (R120, R126, R136). -/
def AlertIntake.passMinute (a : AlertIntake) : AlertIntake :=
  { a with
    minuteOfWeek := a.minuteOfWeek.map nextMinute
    recent := a.recent.map fun e => e.bind RecentEntry.countDown
    queue := a.queue.map AlertRecord.countDown }

/-- A record expires: its remaining minutes are 0 and its on-air mark is clear (R136). -/
def AlertRecord.expired (r : AlertRecord) : Bool := r.remaining = 0 && !r.onAir

/-- A record that has expired leaves the queue (R136). -/
def expireRecord (i : Identity) (s : State) : State :=
  removeRecord i (countIntake (fun k => { k with expiry := bump k.expiry 1 }) s)

/-- A minute event (R120): records that expire leave in queue order, and the selection runs (R149). -/
def minuteWork (s : State) : State :=
  let s1 := s.modIntake AlertIntake.passMinute
  let leaving := (s1.intake.queue.filter AlertRecord.expired).map AlertRecord.identity
  let s2 := leaving.foldl (fun s i => expireRecord i s) s1
  if leaving.isEmpty then s2 else select s2

/-- The minute timer would reach 60,000 in this frame (R120). -/
def minuteDue (s : State) : Bool := Config.minuteFrames ≤ s.intake.minuteTimer + 1

/-- The minute timer at a frame of alert intake (R120). -/
def tickMinute (s : State) : State :=
  if minuteDue s then minuteWork (s.modIntake fun a => { a with minuteTimer := 0 })
  else s.modIntake fun a => { a with minuteTimer := a.minuteTimer + 1 }

/-! ### The header (section 6.3, R210) -/

/-- The fields of a header. `duration` is clamped to 1,440. -/
structure Header where
  identity : Identity
  issuerClass : Nat
  event : BitVec 12
  severity : Nat
  issuedAt : Nat
  duration : Nat
  audio : Bool
  areas : List (BitVec 20)
  test : Bool
  deriving DecidableEq, Repr

/-- A record as it arrives: kind, length, as many body bytes as the length gives, and a CRC-16 that holds (R210). -/
def recordChecked (record : List Byte) : Bool :=
  let n := record.length - 2
  recordWhole record && record.drop n = crc16Bytes (record.take n)

/-- The body of a record. -/
def recordBody (record : List Byte) : List Byte := (record.drop 2).take (record.length - 4)

/-- The three bytes of area code `k`. -/
def areaAt (body : List Byte) (k : Nat) : Nat := beAt body (14 + 3 * k) 3

/-- Every field of a header body lies in its range (R123); a flag bit that no field uses is a value outside the range of
the flags (R207). -/
def headerInRange (body : List Byte) : Bool :=
  let count := (byteAt body 13).toNat
  1 ≤ count && count ≤ 12 && (byteAt body 4).toNat ≤ 7 && beAt body 5 2 ≤ 4095 && (byteAt body 7).toNat ≤ 3 &&
    beAt body 8 2 < Config.weekMinutes && 1 ≤ beAt body 10 2 && (byteAt body 12).toNat ≤ 1 &&
    (List.range count).all fun k => areaAt body k < 2 ^ 20

/-- The header that a body carries. -/
def readHeader (body : List Byte) : Header where
  identity := ⟨BitVec.ofNat 16 (beAt body 0 2), BitVec.ofNat 16 (beAt body 2 2)⟩
  issuerClass := (byteAt body 4).toNat
  event := BitVec.ofNat 12 (beAt body 5 2)
  severity := (byteAt body 7).toNat
  issuedAt := beAt body 8 2
  duration := min (beAt body 10 2) 1440
  audio := (byteAt body 12).toNat = 1
  areas := (List.range (byteAt body 13).toNat).map fun k => BitVec.ofNat 20 (areaAt body k)
  test := false

/-! ### Staleness and duplicates (R124, R125) -/

/-- The minutes elapsed since issue: (now − issued-at) mod 10,080, or 0 with the time unset. -/
def AlertIntake.elapsed (a : AlertIntake) (h : Header) : Nat :=
  match a.minuteOfWeek with
  | some now => (now + Config.weekMinutes - h.issuedAt) % Config.weekMinutes
  | none => 0

/-- The identity is held in the recent-alert table or in the queue. -/
def AlertIntake.knows (a : AlertIntake) (i : Identity) : Bool :=
  a.recent.toList.any (fun e => e.any fun r => r.identity = i) || a.queue.any fun r => r.identity = i

/-- The place in the recent-alert table for a new identity: the lowest empty entry, else the entry with the fewest
remaining minutes, the lowest index among equals. -/
def recentPlace (recent : Vector (Option RecentEntry) 16) : Fin 16 :=
  match (List.finRange 16).find? fun k => (recent.get k).isNone with
  | some k => k
  | none =>
    (List.finRange 16).foldl
      (fun best k =>
        if ((recent.get k).map RecentEntry.remaining).getD 0 < ((recent.get best).map RecentEntry.remaining).getD 0 then k
        else best)
      0

/-- An identity enters the recent-alert table. -/
def AlertIntake.remember (a : AlertIntake) (i : Identity) (remaining : Nat) : AlertIntake :=
  { a with recent := a.recent.set (recentPlace a.recent) (some ⟨i, remaining⟩) }

/-! ### The filter (R128) -/

/-- A masked test of a field. -/
def masked {n : Nat} (x value mask : BitVec n) : Bool := x &&& mask = value &&& mask

/-- A filter entry matches a header. -/
def FilterEntry.hits (e : FilterEntry) (h : Header) : Bool :=
  e.enable && masked h.event e.eventValue e.eventMask &&
    (h.areas.any (fun a => masked a e.areaValue1 e.areaMask1) ||
      (e.paired && h.areas.any fun a => masked a e.areaValue2 e.areaMask2))

/-- What the filter decides: verdict, air mode, priority and the matched entry, 255 for the defaults. -/
structure Decision where
  verdict : Verdict
  airMode : AirMode
  priority : Fin 4
  matched : Nat
  deriving DecidableEq, Repr

/-- The filter's decision for a header. -/
def AlertIntake.filterDecision (a : AlertIntake) (h : Header) : Decision :=
  match (List.finRange 16).find? fun k => (a.filter.get k).hits h with
  | some k =>
    let e := a.filter.get k
    ⟨e.verdict, e.airMode, e.priority, k.val⟩
  | none => ⟨a.defaultVerdict, a.defaultMode, a.defaultPriority, 255⟩

/-! ### The queue store (R129, R130) -/

/-- The verdict word of a new record. -/
def verdictWord (h : Header) (d : Decision) (torn timeUnknown : Bool) : StoreWord :=
  BitVec.ofNat 32 (d.airMode.code + d.priority.val * 2 ^ 4 + (if torn then 2 ^ flagTorn else 0) +
    (if timeUnknown then 2 ^ flagTimeUnknown else 0) + if h.test then 2 ^ flagTest else 0)

/-- The words of the whole record of a header (R129). -/
def wholeWords (h : Header) (d : Decision) (remaining : Nat) (torn timeUnknown : Bool) : List StoreWord :=
  [h.identity.issuer ++ h.identity.serial,
    BitVec.ofNat 32 (h.issuerClass * 2 ^ 16 + h.event.toNat + h.severity * 2 ^ 24),
    BitVec.ofNat 32 h.issuedAt, BitVec.ofNat 32 remaining, verdictWord h d torn timeUnknown, audioWord 255 0] ++
    h.areas.map fun a => a.setWidth 32

/-- The size of the whole record of a header. -/
def Header.size (h : Header) : Nat := 6 + h.areas.length

/-- The record stored for a header with `free` free words: whole, or its first words and torn. -/
def newRecord (h : Header) (d : Decision) (remaining free : Nat) (timeUnknown : Bool) (stamp : BitVec 32) :
    AlertRecord :=
  let torn := decide (free < h.size)
  { words := (wholeWords h d remaining torn timeUnknown).take free
    torn := torn
    onAir := false
    stamp := stamp
    ageHeld := false
    remaining := remaining
    noAudio := false
    timeUnknown := timeUnknown }

/-- A record with its torn mark set is in the queue. -/
def AlertIntake.tornHeld (a : AlertIntake) : Bool := a.queue.any AlertRecord.torn

/-- Step 5: the queue store; the state after it and whether a record exists (R130). -/
def storeHeader (h : Header) (d : Decision) (remaining : Nat) (s : State) : State × Bool :=
  let free := s.intake.freeWords
  let timeUnknown := s.intake.minuteOfWeek.isNone
  let s1 :=
    if free = 0 then s
    else s.modIntake fun a =>
      { a with queue := a.queue ++ [newRecord h d remaining free timeUnknown s.frameCount] }
  if h.size ≤ free then (s1, true)
  else
    let s2 := countIntake (fun k => { k with lost := bump k.lost 1 }) s1
    let s3 :=
      if s.intake.tornHeld then s2
      else latch .alertOverrun [h.identity.word, Word.nat h.size, Word.nat free] s2
    (s3, free ≠ 0)

/-! ### The recording (R132, R134, R135) -/

/-- Why a recording ends with a cause (R135). -/
inductive EndCause where
  | limit | superseded | noPage | noBegin
  deriving DecidableEq, Repr

/-- The code of a cause. -/
def EndCause.code : EndCause → Nat
  | .limit => 0 | .superseded => 1 | .noPage => 2 | .noBegin => 3

/-- The recording ends (R135): the slot becomes ALERT_HELD and the channel is released; with a cause, the record is
flagged "audio short" and ALERT_AUDIO_SHORT latched. -/
def endRecording (cause : Option EndCause) (s : State) : State :=
  match s.intake.recording.slot, s.intake.recording.identity with
  | some n, some i =>
    let length := s.intake.recording.position
    let s1 := (s.modClips fun c => c.endRecording n).modIntake fun a => { a with recording := Recording.idle }
    match cause with
    | none => s1
    | some c =>
      latch .alertAudioShort [i.word, Word.nat length, Word.nat c.code]
        (s1.modIntake fun a =>
          { a.modRecord i fun r => r.setFlag flagAudioShort with
            counters := { a.counters with audioShort := bump a.counters.audioShort 1 } })
  | _, _ => s

/-- A recording in progress ends with a cause; NONE has none to end. -/
def endIfRecording (cause : EndCause) (s : State) : State :=
  match s.intake.recording.state with
  | .none => s
  | .waiting | .writing => endRecording (some cause) s

/-- The record is flagged "no audio", in its descriptor and in word 5 where stored (R132). -/
def flagSilent (i : Identity) (s : State) : State :=
  s.modIntake fun a => a.modRecord i fun r => { r.setFlag flagNoAudio with noAudio := true }

/-- Step 6: recording preparation (R132). -/
def prepareRecording (h : Header) (s : State) : State :=
  let whole := (s.intake.find h.identity).any fun r => 6 ≤ r.words.length
  if h.audio && whole then
    match claimSlot (endIfRecording .superseded s) with
    | some (n, s1) =>
      s1.modIntake fun a =>
        { a.modRecord h.identity fun r => r.modWord 6 fun _ => audioWord n.val 0 with
          recording := ⟨.waiting, some h.identity, some n, 0, 0, false⟩ }
    | none => flagSilent h.identity (endIfRecording .superseded s)
  else flagSilent h.identity s

/-! ### The acceptance (R131) -/

/-- The detail of ALERT_ACCEPTED. -/
def acceptedDetail (h : Header) (d : Decision) (r : AlertRecord) : List Word :=
  [h.identity.word, Word.nat d.priority.val, Word.nat d.airMode.code, Word.nat d.matched, Word.flag r.torn,
    Word.flag r.timeUnknown, Word.flag r.noAudio]

/-- The acceptance of a whole record that is not LOG_ONLY reaches the link unit, which aborts a pending sleep or wakes
the link (R131, R189, R191). -/
def passAcceptance (d : Decision) (r : AlertRecord) (s : State) : State :=
  if r.torn || d.airMode = .logOnly then s else wakeOrAbort 3 s

/-- Step 7: the acceptance hand-offs (R131). -/
def accept (h : Header) (d : Decision) (s : State) : State :=
  match s.intake.find h.identity with
  | none => s
  | some r =>
    let s1 := latch .alertAccepted (acceptedDetail h d r)
      (countIntake (fun k => { k with accepted := bump k.accepted 1 }) s)
    select (passAcceptance d r s1)

/-! ### The seven steps (R122) -/

/-- The outcomes of a header's intake after the check, in the order of R139's codes. -/
inductive HeaderOutcome where
  | whole | torn | lost | stale | duplicate | discarded
  deriving DecidableEq, Repr

/-- The code of an outcome (R139). -/
def HeaderOutcome.code : HeaderOutcome → Nat
  | .whole => 0 | .torn => 1 | .lost => 2 | .stale => 3 | .duplicate => 4 | .discarded => 5

/-- Steps 5 to 7 of a header that the filter accepts. -/
def storeAndAccept (h : Header) (d : Decision) (remaining : Nat) (s : State) : State × HeaderOutcome :=
  let whole := decide (h.size ≤ s.intake.freeWords)
  let (s1, exists') := storeHeader h d remaining s
  if exists' then (accept h d (prepareRecording h s1), if whole then .whole else .torn) else (s1, .lost)

/-- Steps 2 to 7 of a header that has passed the check: the state, the outcome, and the matched filter entry where the
filter was reached. -/
def intakeHeader (h : Header) (s : State) : State × HeaderOutcome × Option Nat :=
  let elapsed := s.intake.elapsed h
  if h.duration ≤ elapsed then (countIntake (fun k => { k with stale := bump k.stale 1 }) s, .stale, none)
  else if s.intake.knows h.identity then
    (countIntake (fun k => { k with duplicate := bump k.duplicate 1 }) s, .duplicate, none)
  else
    let remaining := h.duration - elapsed
    let s1 := s.modIntake fun a => a.remember h.identity remaining
    let d := s1.intake.filterDecision h
    match d.verdict with
    | .discard =>
      (countIntake (fun k => { k with filterDiscard := bump k.filterDiscard 1 }) s1, .discarded, some d.matched)
    | .accept =>
      let (s2, outcome) := storeAndAccept h d remaining s1
      (s2, outcome, some d.matched)

/-- A HEADER record arrives (R119, R122, R123). -/
def headerArrives (rest : List Byte) (s : State) : State :=
  let record := 0x01 :: rest
  let body := recordBody record
  let whole := recordChecked record && body.length = 14 + 3 * (byteAt body 13).toNat
  if whole && headerInRange body then (intakeHeader (readHeader body) s).1 else countIntakeError s

/-! ### The audio records (R133) -/

/-- The identity of an AUDIO-BEGIN or AUDIO-END record that is whole and passes its check. -/
def audioIdentity (record : List Byte) : Option Identity :=
  let body := recordBody record
  if recordChecked record && body.length = 4 then
    some ⟨BitVec.ofNat 16 (beAt body 0 2), BitVec.ofNat 16 (beAt body 2 2)⟩
  else none

/-- An unmatched audio record is counted. -/
def countUnmatched (s : State) : State := countIntake (fun k => { k with unmatched := bump k.unmatched 1 }) s

/-- An AUDIO-BEGIN of an identity (R133). The audio frame of its own frame period is discarded (R134). -/
def beginAudio (i : Identity) (s : State) : State :=
  match s.intake.recording.state with
  | .waiting =>
    if s.intake.recording.identity = some i then
      s.modIntake fun a => { a with recording := { a.recording with state := .writing, fresh := true } }
    else countUnmatched s
  | .writing | .none => countUnmatched s

/-- An AUDIO-END of an identity (R133). -/
def endAudio (i : Identity) (s : State) : State :=
  if s.intake.recording.identity = some i then
    match s.intake.recording.state with
    | .waiting => endRecording (some .noBegin) s
    | .writing => endRecording none s
    | .none => countUnmatched s
  else countUnmatched s

/-- An AUDIO-BEGIN record arrives (R119, R133). -/
def audioBeginArrives (rest : List Byte) (s : State) : State :=
  match audioIdentity (0x02 :: rest) with
  | some i => beginAudio i s
  | none => countIntakeError s

/-- An AUDIO-END record arrives (R119, R133). -/
def audioEndArrives (rest : List Byte) (s : State) : State :=
  match audioIdentity (0x03 :: rest) with
  | some i => endAudio i s
  | none => countIntakeError s

/-- A whole record is one to be discarded: of unknown kind, of a length that does not match its kind, or with a failed
check (R119, R210). -/
def recordBad (record : List Byte) : Bool :=
  let body := recordBody record
  let matched := match record.head? with
    | some 1 => body.length = 14 + 3 * (byteAt body 13).toNat
    | some 2 | some 3 => body.length = 4
    | _ => false
  !matched || !recordChecked record

/-! ### The frame of alert intake (R134) -/

/-- A frame of a recording is written at its position, or the recording ends without a page (R105, R134). -/
def writeFrame (audio : AudioInput) (n : Fin 32) (i : Identity) (s : State) : State :=
  let p := s.intake.recording.position
  let paged := if p % Config.pageBlocks = 0 then recordingPage n s else some s
  match paged with
  | none => endRecording (some .noPage) s
  | some s1 =>
    let s2 := (s1.modClips fun c => c.writeRecording n p (audioFrame audio)).modIntake fun a =>
      { a.modRecord i fun r => r.modWord 6 fun _ => audioWord n.val (p + 1) with
        recording := { a.recording with position := p + 1 } }
    if Config.recordingLimit ≤ p + 1 then endRecording (some .limit) s2 else s2

/-- The begin wait reaches 10,000 in this frame. -/
def beginWaitOver (r : Recording) : Bool := r.state = .waiting && Config.beginWaitLimit ≤ r.beginWait + 1

/-- The recording record's part of a frame (R134). -/
def recordingWork (audio : AudioInput) (s : State) : State :=
  let r := s.intake.recording
  match r.state with
  | .none => s
  | .waiting =>
    let s1 := s.modIntake fun a => { a with recording := { a.recording with beginWait := a.recording.beginWait + 1 } }
    if beginWaitOver r then endRecording (some .noBegin) s1 else s1
  | .writing =>
    if r.fresh then s.modIntake fun a => { a with recording := { a.recording with fresh := false } }
    else
      match r.slot, r.identity with
      | some n, some i => writeFrame audio n i s
      | _, _ => s

/-- The frame up to the recording: adoption and the minute timer. -/
def alertBegin (s : State) : State := tickMinute (adoptIntake s)

/-- Alert intake's frame (R134). -/
def alertWork (audio : AudioInput) (s : State) : State := recordingWork audio (alertBegin s)

/-! ### RESTART (R143) -/

/-- The RESTART effect on alert intake. -/
def restartIntake (s : State) : State := s.modIntake fun a => { a with queue := [], recording := Recording.idle }

/-! ### The orders (R121, R137 to R139, R159) -/

/-- TIME-SET (R121). -/
def answerTimeSet (args : List Word) (s : State) : Answer :=
  match args with
  | [w] =>
    if w.toNat < Config.weekMinutes then
      let before := s.intake.minuteOfWeek.getD 65535
      let s1 := s.modIntake fun a => { a with minuteOfWeek := some w.toNat, minuteTimer := 0 }
      ⟨(queueMessage .timeNote (minuteBytes (some w.toNat)) s1).1, .done, [Word.nat before]⟩
    else refuse .refusedArgument s
  | _ => refuse .refusedArgument s

/-- The identity that an argument word names: its bits above 31 are used by no field (R207). -/
def identityArg (w : Word) : Option Identity :=
  if w.toNat < 2 ^ 32 then some (Identity.ofBits (w.setWidth 32)) else none

/-- The number of records and the free words, as replies carry them. -/
def queueWords (s : State) : List Word := [Word.nat s.intake.queue.length, Word.nat s.intake.freeWords]

/-- ALERT-RELEASE (R137). -/
def answerAlertRelease (args : List Word) (s : State) : Answer :=
  match args with
  | [w] =>
    match identityArg w with
    | none => refuse .refusedArgument s
    | some i =>
      match s.intake.find i with
      | some r =>
        if r.onAir then refuse .refusedState s
        else
          let s1 := recordLeaves i s
          ⟨s1, .done, i.word :: queueWords s1⟩
      | none => refuse .refusedState s
  | _ => refuse .refusedArgument s

/-- ALERT-CANCEL (R159). -/
def answerAlertCancel (args : List Word) (s : State) : Answer :=
  match args with
  | [w] =>
    match identityArg w with
    | none => refuse .refusedArgument s
    | some i =>
      match s.intake.find i with
      | some _ =>
        let s1 := cancelRecord i s
        ⟨s1, .done, i.word :: Word.nat s1.air.state.code :: queueWords s1⟩
      | none => refuse .refusedState s
  | _ => refuse .refusedArgument s

/-- The frame periods since a record's acceptance stamp, held at 4,294,967,295 (R138). -/
def AlertRecord.age (r : AlertRecord) (now : BitVec 32) : Nat :=
  if r.ageHeld then Config.timerMax else frameAge now r.stamp

/-- A frame period passes for a record's age: once it has reached 4,294,967,295 it stays there (R138, log entry 45). -/
def AlertRecord.holdAge (now : BitVec 32) (r : AlertRecord) : AlertRecord :=
  { r with ageHeld := r.ageHeld || frameAge now r.stamp = Config.timerMax }

/-- The data words of ALERT-LIST for a record (R138). -/
def listWords (r : AlertRecord) (s : State) : List Word :=
  queueWords s ++
    [Word.nat r.words.length, Word.flag r.torn, Word.flag r.onAir, Word.nat r.remaining,
      Word.nat (r.age s.frameCount)] ++
    r.words.map fun w => w.setWidth 48

/-- ALERT-LIST (R138). -/
def answerAlertList (args : List Word) (s : State) : Answer :=
  match args with
  | [w] =>
    if 191 < w.toNat then refuse .refusedArgument s
    else
      match s.intake.queue[w.toNat]? with
      | some r => ⟨s, .done, listWords r s⟩
      | none => ⟨s, .refusedState, [Word.nat s.intake.queue.length]⟩
  | _ => refuse .refusedArgument s

/-- The header that the argument words of an ALERT-TEST give, with its duration as it stands; none where a field is
outside its range or a bit that no field uses is set (R139, R207). -/
def testHeader (identity fields times : Word) (areas : List Word) : Option Header :=
  let used : Word := 0x3070FFF
  let inRange := identity.toNat < 2 ^ 32 && fields &&& ~~~used = 0 && (times.extractLsb' 0 14).toNat < Config.weekMinutes &&
    times.extractLsb' 14 2 = 0 && times.toNat < 2 ^ 32 && 1 ≤ areas.length && areas.length ≤ 12 &&
    areas.all fun a => a.toNat < 2 ^ 20
  if inRange then
    some {
      identity := Identity.ofBits (identity.setWidth 32)
      issuerClass := (fields.extractLsb' 16 3).toNat
      event := fields.extractLsb' 0 12
      severity := (fields.extractLsb' 24 2).toNat
      issuedAt := (times.extractLsb' 0 14).toNat
      duration := (times.extractLsb' 16 16).toNat
      audio := false
      areas := areas.map fun a => a.setWidth 20
      test := true }
  else none

/-- The reply to an ALERT-TEST that is taken: the outcome and the matched filter entry. -/
def testAnswer (clamped : Bool) (r : State × HeaderOutcome × Option Nat) : Answer :=
  ⟨r.1, if clamped then .doneClamped else .done, [Word.nat r.2.1.code, Word.option r.2.2]⟩

/-- ALERT-TEST (R139). A refused one moves no counter of alert intake; `reply` counts it in the order unit's refused
order counter, as R204 has it for each refusal (log entry 48). -/
def answerAlertTest (args : List Word) (s : State) : Answer :=
  match args with
  | identity :: fields :: times :: areas =>
    match testHeader identity fields times areas with
    | some h =>
      let duration := max 1 (min h.duration 1440)
      testAnswer (duration ≠ h.duration) (intakeHeader { h with duration := duration } s)
    | none => refuse .refusedArgument s
  | _ => refuse .refusedArgument s

/-! ### The commands -/

/-- HEADER (R122). -/
def execHeader (rest : List Byte) (s : State) : Host.Outcome State Fault Refusal := perform (headerArrives rest) s

/-- AUDIO_BEGIN (R133). -/
def execAudioBegin (rest : List Byte) (s : State) : Host.Outcome State Fault Refusal := perform (audioBeginArrives rest) s

/-- AUDIO_END (R133). -/
def execAudioEnd (rest : List Byte) (s : State) : Host.Outcome State Fault Refusal := perform (audioEndArrives rest) s

/-- ALERT_RECORD_DISCARD: a whole record that is to be discarded adds to the intake error counter (R119). -/
def execAlertRecordDiscard (record : List Byte) (s : State) : Host.Outcome State Fault Refusal :=
  performIf (fun _ => recordBad record) countIntakeError s

/-- INCOMPLETE_RECORD: the incomplete record adds to the intake error counter and is discarded (R119, R210). -/
def execIncompleteRecord (bytes : List Byte) (s : State) : Host.Outcome State Fault Refusal :=
  performIf (fun _ => recordBegun bytes) countIntakeError s

/-- ALERT_FRAME (R134). -/
def execAlertFrame (audio : AudioInput) (s : State) : Host.Outcome State Fault Refusal := perform (alertWork audio) s

/-- BEGIN_WAIT_REACHED: the frame in which the begin wait reaches 10,000 (R134). -/
def execBeginWaitReached (audio : AudioInput) (s : State) : Host.Outcome State Fault Refusal :=
  performIf (fun s => beginWaitOver (alertBegin s).intake.recording) (alertWork audio) s

/-- The frame writes the 60,000th frame of a recording. -/
def limitFrameDue (s : State) : Bool :=
  let r := (alertBegin s).intake.recording
  r.state = .writing && !r.fresh && Config.recordingLimit ≤ r.position + 1

/-- RECORDING_LIMIT: the frame that writes the 60,000th frame of a recording (R134). -/
def execRecordingLimit (audio : AudioInput) (s : State) : Host.Outcome State Fault Refusal :=
  performIf limitFrameDue (alertWork audio) s

/-- MINUTE_EVENT: the frame in which the minute timer would reach 60,000 (R120). -/
def execMinuteEvent (audio : AudioInput) (s : State) : Host.Outcome State Fault Refusal :=
  performIf minuteDue (alertWork audio) s

end Sys2Proof.Machine
end

