-- ==== Sys2Proof/Machine/Lines.lean ====
section
/-!
DEFINITION. The line unit (chapter 4): the line records, the line frames of a line bus cycle, the outgoing slots and the
line orders' answers. The LINE_BUS_CYCLE, RING_LIMIT_REACHED and HOLD_LIMIT_REACHED commands.
-/

namespace Sys2Proof.Machine

/-! ### Line records (R67, R69) -/

/-- The connected states, in which the part holds the loop. -/
def LineState.connected : LineState → Bool
  | .screening | .hold | .ready | .onAir => true
  | .idle | .ringing | .fault => false

/-- Line `k` of the line unit. -/
def LineUnit.line (l : LineUnit) (k : Fin 6) : Line := l.lines.get k

/-- Line `k` changed by `f`. -/
def LineUnit.modLine (l : LineUnit) (k : Fin 6) (f : Line → Line) : LineUnit :=
  { l with lines := l.lines.set k (f (l.lines.get k)) }

/-- Line `k` enters a state (R69). -/
def LineUnit.change (l : LineUnit) (k : Fin 6) (new : LineState) : LineUnit :=
  let old := (l.line k).state
  let l1 := l.modLine k fun r =>
    { r with state := new, timeInState := 0, tag := if new = .ringing then 0 else r.tag }
  { l1 with
    ready := (if old = .ready then l.ready.filter (· ≠ k) else l.ready) ++ if new = .ready then [k] else []
    screening := if new = .screening then some k else if old = .screening then none else l.screening
    onAir := l.onAir - (if old = .onAir then 1 else 0) + if new = .onAir then 1 else 0 }

/-- Line `k` enters a state. -/
def changeLine (k : Fin 6) (new : LineState) (s : State) : State := s.modLine fun l => l.change k new

/-- The line unit's counters changed by `f`. -/
def countLine (f : LineCounters → LineCounters) (s : State) : State :=
  s.modLine fun l => { l with counters := f l.counters }

/-! ### The incoming slot (R64, R66, R210) -/

/-- The event codes. -/
inductive LineEvent where
  | quiet | ring | connected | dropped | fault
  deriving DecidableEq, Repr

/-- The event of an event code; none for an undefined code. -/
def LineEvent.ofByte (b : Byte) : Option LineEvent :=
  match b.toNat with
  | 0 => some .quiet
  | 1 => some .ring
  | 2 => some .connected
  | 3 => some .dropped
  | 4 => some .fault
  | _ => none

/-- A present slot: 147 bytes with a good slot check. -/
def slotPresent (slot : List Byte) : Bool := slot.length = 147 && slot.drop 145 = crc16Bytes (slot.take 145)

/-! ### Events and limits (R71 to R75) -/

/-- An event error is counted. -/
def countEventError (s : State) : State := countLine (fun k => { k with eventError := bump k.eventError 1 }) s

/-- Line `k` enters FAULT: cause 0 is a FAULT event, 1 missing slots (R73). -/
def faultLine (k : Fin 6) (cause : Nat) (s : State) : State :=
  let left := (s.line.line k).state
  latch .lineFault [Word.nat k.val, Word.nat cause, Word.nat left.code]
    (countLine (fun c => { c with fault := bump c.fault 1 }) (changeLine k .fault s))

/-- A RINGING caller gives up before the answer (R71). -/
def abandonCall (k : Fin 6) (s : State) : State :=
  countLine (fun c => { c with abandoned := bump c.abandoned 1 }) (changeLine k .idle s)

/-- The far end of a connected line hangs up (R72). -/
def hangUp (k : Fin 6) (s : State) : State :=
  let r := s.line.line k
  latch .hungUp [Word.nat k.val, Word.nat r.state.code, Word.nat r.tag.toNat]
    (countLine (fun c => { c with hangUp := bump c.hangUp 1 }) (changeLine k .idle s))

/-- An event of a present slot acts on line `k` by its state (R71 to R73). -/
def lineEvent (k : Fin 6) (e : LineEvent) (s : State) : State :=
  match (s.line.line k).state, e with
  | .idle, .ring => latch .ring [Word.nat k.val] (changeLine k .ringing s)
  | .idle, .connected | .ringing, .connected => countEventError s
  | .idle, .quiet | .idle, .dropped | .ringing, .ring => s
  | .ringing, .quiet | .ringing, .dropped => abandonCall k s
  | .screening, .dropped | .hold, .dropped | .ready, .dropped | .onAir, .dropped => hangUp k s
  | .screening, .quiet | .screening, .ring | .screening, .connected
  | .hold, .quiet | .hold, .ring | .hold, .connected
  | .ready, .quiet | .ready, .ring | .ready, .connected
  | .onAir, .quiet | .onAir, .ring | .onAir, .connected => s
  | .fault, .quiet => changeLine k .idle s
  | .fault, .ring | .fault, .connected | .fault, .dropped | .fault, .fault => s
  | .idle, .fault | .ringing, .fault | .screening, .fault | .hold, .fault | .ready, .fault | .onAir, .fault =>
    faultLine k 0 s

/-- A missing slot of line `k` (R70). -/
def missSlot (k : Fin 6) (s : State) : State :=
  let s1 := countLine (fun c => { c with missingFrame := bump c.missingFrame 1 })
    (s.modLine fun l => { l.modLine k fun r => { r with missingRun := bump r.missingRun 1 } with
      callers := l.callers.set k none })
  let r := s1.line.line k
  if (r.state = .ringing || r.state.connected) && Config.missingSlotLimit ≤ r.missingRun then faultLine k 1 s1 else s1

/-- A present slot of line `k` (R66, R70). -/
def takeSlot (k : Fin 6) (slot : List Byte) (s : State) : State :=
  let s1 := s.modLine fun l => { l.modLine k fun r => { r with missingRun := 0 } with
    callers := l.callers.set k (some (blockAt slot 1)) }
  match LineEvent.ofByte (byteAt slot 0) with
  | some e => lineEvent k e s1
  | none => countEventError s1

/-- The slot of line `k` is handled as missing or present (R70). -/
def slotPart (k : Fin 6) (slot : List Byte) (s : State) : State :=
  if slotPresent slot then takeSlot k slot s else missSlot k s

/-- The hold limit in force for line `k`, in frames (R68). -/
def LineUnit.holdLimit (l : LineUnit) (k : Fin 6) : Nat := (l.conf.get k).holdSeconds * 1000

/-- The ring limit has been reached by line `k` (R74). -/
def LineUnit.ringOver (l : LineUnit) (k : Fin 6) : Bool :=
  (l.line k).state = .ringing && l.ringLimit ≤ (l.line k).timeInState

/-- The hold limit has been reached by line `k` (R75). -/
def LineUnit.holdOver (l : LineUnit) (k : Fin 6) : Bool :=
  ((l.line k).state = .hold || (l.line k).state = .ready) && l.holdLimit k ≤ (l.line k).timeInState

/-- Line `k` times out: LINE_TIMEOUT with the state left (R74, R75). -/
def timeoutLine (k : Fin 6) (s : State) : State :=
  let left := (s.line.line k).state
  latch .lineTimeout [Word.nat k.val, Word.nat left.code] (changeLine k .idle s)

/-- The limits are checked against line `k` (R74, R75). -/
def checkLimits (k : Fin 6) (s : State) : State :=
  if s.line.ringOver k then
    timeoutLine k (countLine (fun c => { c with missed := bump c.missed 1 }) s)
  else if s.line.holdOver k then
    timeoutLine k (countLine (fun c => { c with holdTimeout := bump c.holdTimeout 1 }) s)
  else s

/-- The time-in-state of line `k` increases by 1. -/
def tickLine (k : Fin 6) (s : State) : State :=
  s.modLine fun l => l.modLine k fun r => { r with timeInState := tick32 r.timeInState }

/-- Line `k` after its slot, with its time-in-state advanced where its state did not change; whether it did not. -/
def lineBeforeLimits (k : Fin 6) (slot : List Byte) (s : State) : State × Bool :=
  let s1 := slotPart k slot s
  if (s1.line.line k).state = (s.line.line k).state then (tickLine k s1, true) else (s1, false)

/-- The line frame of line `k` (R70). -/
def lineFrame (slots : IncomingSlots) (k : Fin 6) (s : State) : State :=
  let (s1, same) := lineBeforeLimits k (slots.get k) s
  if same then checkLimits k s1 else s1

/-! ### The line bus cycle (R64, R65) -/

/-- The line unit adopts its committed table and settings (R68). -/
def adoptLines (s : State) : State :=
  s.modLine fun l =>
    { l with
      conf := s.tables.lineConf
      capacity := s.setting Setting.onairCapacity
      ringLimit := s.setting Setting.ringLimit }

/-- The outgoing slot of line `k`: SEIZE with the feed in a connected state, else RELEASE with silence (R65, R210). -/
def LineUnit.outgoing (l : LineUnit) (k : Fin 6) : List Byte :=
  let seize := (l.line k).state.connected
  let bytes := (if seize then 1 else 0 : Byte) :: blockBytes (if seize then l.feeds.get k else Frame.silence)
  bytes ++ crc16Bytes bytes

/-- The six outgoing slots are sent. -/
def sendSlots (s : State) : State :=
  s.modSent fun o => { o with slots := o.slots ++ (List.finRange 6).map s.line.outgoing }

/-- One line bus cycle (R64): the line frames in ascending line number, as the slots follow on the bus (R210, log entry
47). -/
def lineWork (slots : IncomingSlots) (s : State) : State :=
  sendSlots ((List.finRange 6).foldl (fun s k => lineFrame slots k s) (adoptLines s))

/-! ### RESTART (R65, R88) -/

/-- The RESTART effect on the line unit. -/
def restartLines (s : State) : State :=
  s.modLine fun l =>
    { l with
      lines := Vector.replicate 6 ⟨.idle, 0, 0, 0⟩
      ready := []
      screening := none
      onAir := 0
      feeds := Vector.replicate 6 Frame.silence }

/-! ### The line orders (R76 to R83) -/

/-- The data words of a line order that is taken (R76). -/
def lineWords (k : Fin 6) (s : State) : List Word :=
  [Word.nat k.val, Word.nat (s.line.line k).state.code, Word.nat s.line.onAir]

/-- A line order on line `k` that is taken. -/
def lineDone (k : Fin 6) (s : State) : Answer := ⟨s, .done, lineWords k s⟩

/-- A line order refused with REFUSED_STATE or REFUSED_FULL: the line and its state (R76). -/
def lineRefused (r : Result) (k : Fin 6) (s : State) : Answer :=
  ⟨s, r, [Word.nat k.val, Word.nat (s.line.line k).state.code]⟩

/-- A line order refused where no line was named: line 255, and no state (R76, R80, R208). -/
def noLineRefused (r : Result) (s : State) : Answer := ⟨s, r, [Word.nat 255, Word.none]⟩

/-- The line that an argument word names. -/
def lineArg (w : Word) : Option (Fin 6) := finOf 6 w.toNat

/-- A line order that carries a line alone: handed on where its form is good. -/
def onLine (f : Fin 6 → State → Answer) (args : List Word) (s : State) : Answer :=
  match args with
  | [w] =>
    match lineArg w with
    | some k => f k s
    | none => refuse .refusedArgument s
  | _ => refuse .refusedArgument s

/-- LINE-ANSWER of line `k` (R77). -/
def answerLine (k : Fin 6) (s : State) : Answer :=
  match (s.line.line k).state with
  | .ringing | .hold | .ready =>
    let moved := s.line.screening
    let s1 := match moved with
      | some j => changeLine j .hold s
      | none => s
    let s2 := changeLine k .screening s1
    ⟨s2, .done, lineWords k s2 ++ [Word.place (moved.map Fin.val)]⟩
  | .idle | .screening | .onAir | .fault => lineRefused .refusedState k s

/-- LINE-HOLD of line `k` (R78). -/
def holdLine (k : Fin 6) (s : State) : Answer :=
  match (s.line.line k).state with
  | .screening | .onAir => lineDone k (changeLine k .hold s)
  | .idle | .ringing | .hold | .ready | .fault => lineRefused .refusedState k s

/-- LINE-READY of line `k` (R79). -/
def readyLine (k : Fin 6) (s : State) : Answer :=
  match (s.line.line k).state with
  | .screening | .hold => lineDone k (changeLine k .ready s)
  | .idle | .ringing | .ready | .onAir | .fault => lineRefused .refusedState k s

/-- LINE-TAKE of line `k` (R80). -/
def takeLine (k : Fin 6) (s : State) : Answer :=
  match (s.line.line k).state with
  | .screening | .hold | .ready =>
    if s.line.capacity ≤ s.line.onAir then lineRefused .refusedFull k s else lineDone k (changeLine k .onAir s)
  | .idle | .ringing | .onAir | .fault => lineRefused .refusedState k s

/-- LINE-TAKE with no line: the head of the ready queue (R80). -/
def takeHead (s : State) : Answer :=
  match s.line.ready with
  | [] => noLineRefused .refusedState s
  | k :: _ =>
    if s.line.capacity ≤ s.line.onAir then noLineRefused .refusedFull s else lineDone k (changeLine k .onAir s)

/-- LINE-DROP of line `k` (R82). -/
def dropLine (k : Fin 6) (s : State) : Answer :=
  if (s.line.line k).state.connected then
    lineDone k (countLine (fun c => { c with dropped := bump c.dropped 1 }) (changeLine k .idle s))
  else lineRefused .refusedState k s

/-- LINE-TAG of line `k` (R83). -/
def tagLine (k : Fin 6) (value : Nat) (s : State) : Answer :=
  let before := (s.line.line k).tag
  let s1 := s.modLine fun l => l.modLine k fun r => { r with tag := BitVec.ofNat 16 (min value 65535) }
  ⟨s1, if 65535 < value then .doneClamped else .done, Word.nat before.toNat :: lineWords k s1⟩

/-- LINE-ANSWER (R77). -/
def answerLineAnswer (args : List Word) (s : State) : Answer := onLine answerLine args s

/-- LINE-HOLD (R78). -/
def answerLineHold (args : List Word) (s : State) : Answer := onLine holdLine args s

/-- LINE-READY (R79). -/
def answerLineReady (args : List Word) (s : State) : Answer := onLine readyLine args s

/-- LINE-TAKE (R80). -/
def answerLineTake (args : List Word) (s : State) : Answer :=
  match args with
  | [] => takeHead s
  | _ => onLine takeLine args s

/-- LINE-DROP (R82). -/
def answerLineDrop (args : List Word) (s : State) : Answer := onLine dropLine args s

/-- LINE-TAG (R83). -/
def answerLineTag (args : List Word) (s : State) : Answer :=
  match args with
  | [w, value] =>
    match lineArg w with
    | some k => tagLine k value.toNat s
    | none => refuse .refusedArgument s
  | _ => refuse .refusedArgument s

/-! ### The commands -/

/-- LINE_BUS_CYCLE (R64). -/
def execLineBusCycle (slots : IncomingSlots) (s : State) : Host.Outcome State Fault Refusal := perform (lineWork slots) s

/-- Line `k` reaches a limit in this cycle: its state stands through its slot, and the limit is then reached. -/
def limitDue (reached : LineUnit → Fin 6 → Bool) (k : Fin 6) (slots : IncomingSlots) (s : State) : Bool :=
  let (s1, same) := lineBeforeLimits k (slots.get k) (adoptLines s)
  same && reached s1.line k

/-- RING_LIMIT_REACHED: the cycle in which the RINGING line reaches the ring limit (R74). -/
def execRingLimitReached (k : Fin 6) (slots : IncomingSlots) (s : State) : Host.Outcome State Fault Refusal :=
  performIf (limitDue LineUnit.ringOver k slots) (lineWork slots) s

/-- HOLD_LIMIT_REACHED: the cycle in which the HOLD or READY line reaches its hold limit (R75). -/
def execHoldLimitReached (k : Fin 6) (slots : IncomingSlots) (s : State) : Host.Outcome State Fault Refusal :=
  performIf (limitDue LineUnit.holdOver k slots) (lineWork slots) s

end Sys2Proof.Machine
end

