-- ==== Sys2Proof/Machine/LinkReturn.lean ====
section
/-!
DEFINITION. The return frame (R168, R169, R171, R176, R179, R188, R190 to R192): the check, the judging of the sent
frames, the probe verdict, the message ack, and what a good return does to sleep and wake. The RETURN_FRAME command.
-/

namespace Sys2Proof.Machine

/-! ### The layout and the check (R168, R210) -/

/-- The fields of a good return frame. -/
structure Return where
  far : FarState
  h : BitVec 16
  map : BitVec 32
  ack : Option Byte
  lock : Bool
  errors : Nat
  deriving DecidableEq, Repr

/-- A return frame that passes the check, or none where it is corrupt. -/
def readReturn (lastSeq : BitVec 16) (frame : List Byte) : Option Return :=
  let h := BitVec.ofNat 16 (beAt frame 2 2)
  match FarState.ofByte (byteAt frame 1) with
  | none => none
  | some far =>
    if frame.length = 16 && frame.drop 12 = crc32Bytes (frame.take 12) && !seqAfter h lastSeq then
      some {
        far := far
        h := h
        map := BitVec.ofNat 32 (beAt frame 4 4)
        ack := if byteAt frame 8 = 0 then none else some (byteAt frame 9)
        lock := byteAt frame 10 ≠ 0
        errors := (byteAt frame 11).toNat }
    else none

/-- The corrupt return counter increases by 1, and RETURN_CORRUPT_HALF is latched where it has climbed (R168). -/
def countCorrupt (s : State) : State :=
  let c := s.link.counters.corrupt
  let s1 := s.modLink fun l => { l with counters := { l.counters with corrupt := bump c 1 } }
  if c < Config.counterHalf && Config.counterHalf ≤ bump c 1 && !s.link.climb then
    latch .returnCorruptHalf [] (s1.modLink fun l => { l with climb := true })
  else s1

/-- A corrupt return (R168). Where one return brings the counter to 32,768 and changes the level or cuts the link,
RETURN_CORRUPT_HALF is latched before LINK_LEVEL or LINK_CUT: the manual names no order of the notices (log entry 47).
-/
def corruptReturn (s : State) : State :=
  let s1 := countCorrupt s
  if s1.link.mode.counting then raiseRfc .corruptReturn s1 else s1

/-! ### Judging (R171) -/

/-- Sequence `q` is judged against the highest received sequence `h` and its map. -/
def judgeOne (h : BitVec 16) (map : BitVec 32) (q : BitVec 16) (s : State) : State :=
  let i := (h - q).toNat
  if 32 ≤ i then
    s.modLink fun l => { l with counters := { l.counters with unknown := bump l.counters.unknown 1 } }
  else if map.getLsbD i then lowerSfc s
  else
    raiseSfc 8 .missingFrame q.toNat
      (s.modLink fun l => { l with counters := { l.counters with missing := bump l.counters.missing 1 } })

/-- `n` sequences are judged from `q` on, until a cut comes about; whether all were judged. -/
def judgeRun (h : BitVec 16) (map : BitVec 32) : Nat → BitVec 16 → State → State × Bool
  | 0, _, s => (s, true)
  | n + 1, q, s =>
    let s1 := judgeOne h map q s
    if s1.link.mode.audio then judgeRun h map n (q + 1) s1 else (s1, false)

/-- The sent frames are judged (R171). -/
def judge (r : Return) (s : State) : State :=
  let j := s.link.judged
  let e := r.h - 8
  if seqAfter e j then
    let (s1, whole) := judgeRun r.h r.map (e - j).toNat (j + 1) s
    if whole then s1.modLink fun l => { l with judged := e } else s1
  else s

/-! ### The probe verdict (R176) -/

/-- The lock flags after a verdict. -/
def LinkUnit.seeLock (l : LinkUnit) (lock : Bool) : LinkUnit :=
  { l with lockSeen := l.lockSeen || lock, lockLost := l.lockLost || (l.lockSeen && !lock) }

/-- The link is restored: SFC and RFC are 0, so the level is CLEAR; the air stage is told that the mode has entered
RUN, and runs its selection (R158). -/
def restoreLink (s : State) : State :=
  let detail := [Word.nat s.link.cutDuration, Word.nat s.link.cutProbeFailures]
  let s1 := enterRun (s.modLink fun l =>
    { l with
      sfc := 0
      rfc := 0
      judged := l.lastSeq
      counters := { l.counters with restored := bump l.counters.restored 1 } })
  select (latch .linkRestored detail s1)

/-- The probe verdict of a good return taken in CUT. -/
def probeVerdict (r : Return) (s : State) : State :=
  let s1 := s.modLink fun l => l.seeLock r.lock
  if r.lock && r.errors = 0 then
    let s2 := lowerSfc s1
    if s2.link.sfc = 0 then restoreLink s2 else s2
  else
    s1.modLink fun l =>
      { l with
        cutProbeFailures := bump l.cutProbeFailures 1
        counters := { l.counters with probeFailure := bump l.counters.probeFailure 1 } }

/-! ### The message ack (R179, R188, R189) -/

/-- The message in flight is completed by an ack of its number; the ack of the negotiation's SLEEP_REQUEST sets request
acked. -/
def LinkUnit.completeMessage (l : LinkUnit) (ack : Option Byte) : LinkUnit :=
  match l.inFlight with
  | some f =>
    if ack = some f.message.number then
      { l with inFlight := none, requestAcked := l.requestAcked || f.message.isRequest l.requestNumber }
    else l
  | none => l

/-- The ack of a good return is taken; an ack of the late number queues a SLEEP_CANCEL that carries it. -/
def takeAck (ack : Option Byte) (s : State) : State :=
  let s1 := s.modLink fun l => l.completeMessage ack
  match ack, s1.link.lateNumber with
  | some a, some late =>
    if a = late then (queueMessage .sleepCancel [late] (s1.modLink fun l => { l with lateNumber := none })).1 else s1
  | _, _ => s1

/-- The last far state and the last ack are recorded (R169). -/
def recordReturn (r : Return) (s : State) : State :=
  s.modLink fun l => { l with lastFar := some r.far, lastAck := r.ack }

/-! ### Sleep and wake (R188, R190, R192) -/

/-- The far state of a good return reaches the sleep negotiation (R188). -/
def negotiate (far : FarState) (s : State) : State :=
  match far with
  | .sleepReady | .sleeping =>
    if s.link.requestAcked && s.link.phase = .requesting then
      let s1 := s.modLink fun l => { l with phase := .quiet, quietTimer := 0 }
      if s1.link.quietInterval = 0 then enterAsleep s1 else s1
    else s
  | .sleepBusy | .wakeRequest => select (endNegotiation .refused 1 s)
  | .awake => s

/-- A successful wake (R192): the air stage is told that the mode has entered RUN, and runs its selection (R158). -/
def wakeSuccess (s : State) : State :=
  select (enterRun (s.modLink fun l =>
    { l with
      sfc := 0
      rfc := 0
      judged := l.lastSeq
      counters := { l.counters with wakesCompleted := bump l.counters.wakesCompleted 1 } }))

/-- What a good return does to sleep and wake, after its ack is taken and recorded. -/
def returnSleep (far : FarState) (s : State) : State :=
  match s.link.mode with
  | .sleepPending => negotiate far s
  | .asleep =>
    let s1 := s.modLink fun l => { l with asleepWatch := 0 }
    if far = .wakeRequest then startWake s1 else s1
  | .waking => if far = .awake then wakeSuccess s else s
  | .run | .cut => s

/-! ### The return frame -/

/-- The fault counts' part of a good return: RFC falls, the gap timer restarts, and the sent frames or the probe are
judged (R169). -/
def returnHealth (r : Return) (s : State) : State :=
  match s.link.mode with
  | .run | .sleepPending => judge r (lowerRfc (s.modLink fun l => { l with gapTimer := 0 }))
  | .cut => probeVerdict r (lowerRfc (s.modLink fun l => { l with gapTimer := 0 }))
  | .asleep | .waking => s

/-- A good return is taken (R169). A return that restores the link or cuts it goes on in the mode entered. -/
def goodReturn (r : Return) (s : State) : State :=
  let s1 := recordReturn r (takeAck r.ack (returnHealth r s))
  match s.link.mode with
  | .run | .cut => s1
  | .sleepPending | .asleep | .waking => returnSleep r.far s1

/-- A frame arrives on the link port (R168, R207). -/
def returnArrives (frame : List Byte) (s : State) : State :=
  let bytes := unpadded 16 frame
  if bytes.head? ≠ some 0x80 then countCorrupt s
  else
    match readReturn s.link.lastSeq bytes with
    | none => corruptReturn s
    | some r => goodReturn r s

/-- RETURN_FRAME (R168, R169). -/
def execReturnFrame (frame : List Byte) (s : State) : Host.Outcome State Fault Refusal := perform (returnArrives frame) s

end Sys2Proof.Machine
end

