-- ==== Sys2Proof/Machine/LinkSend.lean ====
section
/-!
DEFINITION. The link unit's send (R165, R167, R170, R175, R178, R188, R190, R192): adoption, timers, the message in
flight, the link frames and the MONITOR frame. The SEND command and the rows for what comes about within a send.

The order of the work inside a send, where the manual leaves it open, is log entry 7: adoption, then the timers, then
the message, then the frames. A send in which the link enters CUT, ASLEEP or RUN goes on in the mode entered, save that
the send that enters CUT puts nothing on the link port.
-/

namespace Sys2Proof.Machine

/-! ### Adoption (R173, R186) -/

/-- The link unit adopts its committed settings. -/
def adoptLink (s : State) : State :=
  workLevel (s.modLink fun l =>
    { l with
      warningLimit := s.setting Setting.warningLimit
      requestLimit := s.setting Setting.sleepRequestTimer
      quietInterval := s.setting Setting.quietInterval
      wakeBurst := s.setting Setting.wakeBurst
      wakeLimit := s.setting Setting.wakeTimer
      autoSleep := s.setting Setting.autoSleep = 1
      wakeOnActivity := s.setting Setting.wakeOnActivity = 1
      abortOnActivity := s.setting Setting.abortOnActivity = 1 })

/-! ### Timers -/

/-- The gap timer reaches 8 at this send (R170). -/
def gapDue (l : LinkUnit) : Bool := l.mode.counting && Config.gapSends ≤ l.gapTimer + 1

/-- The gap timer at a send (R170). -/
def tickGap (s : State) : State :=
  if gapDue s.link then
    raiseRfc .returnGap (s.modLink fun l =>
      { l with gapTimer := 0, counters := { l.counters with gap := bump l.counters.gap 1 } })
  else if s.link.mode.counting then s.modLink fun l => { l with gapTimer := l.gapTimer + 1 }
  else s

/-- The cut duration at a send in CUT (R176). -/
def tickCut (s : State) : State :=
  if s.link.mode = .cut then s.modLink fun l => { l with cutDuration := bump l.cutDuration 1 } else s

/-- The request timer reaches SLEEP_REQUEST_TIMER at this send and ends the negotiation: R188 names no further
condition, and R193 has a negotiation whose request is acked wait for SLEEP_READY. The model follows R193 (log entry
44). -/
def requestDue (l : LinkUnit) : Bool :=
  l.mode = .sleepPending && l.phase = .requesting && !l.requestAcked && l.requestLimit ≤ l.requestTimer + 1

/-- The quiet timer reaches QUIET_INTERVAL at this send (R188). -/
def quietDue (l : LinkUnit) : Bool :=
  l.mode = .sleepPending && l.phase = .quiet && l.quietInterval ≤ l.quietTimer + 1

/-- The negotiation timers at a send in SLEEP_PENDING (R188). The request timer of a negotiation that waits for
SLEEP_READY stays at 10,000, the end of its range (R186, log entry 44). -/
def tickNegotiation (s : State) : State :=
  let s1 := s.modLink fun l =>
    match l.phase with
    | .requesting => { l with requestTimer := min (l.requestTimer + 1) Config.requestTimerMax }
    | .quiet => { l with quietTimer := l.quietTimer + 1 }
    | .none => l
  if requestDue s.link then select (endNegotiation .refused 0 s1)
  else if quietDue s.link then enterAsleep s1
  else s1

/-- The keepalive timer reaches 1,000 at this send (R190). -/
def keepaliveDue (l : LinkUnit) : Bool := l.mode = .asleep && Config.asleepSends ≤ l.keepaliveTimer + 1

/-- The asleep watch reaches 1,000 at this send (R190). -/
def watchDue (l : LinkUnit) : Bool := l.mode = .asleep && Config.asleepSends ≤ l.asleepWatch + 1

/-- The keepalive timer and the asleep watch at a send in ASLEEP (R190). -/
def LinkUnit.tickAsleep (l : LinkUnit) : LinkUnit :=
  { l with
    keepaliveTimer := if keepaliveDue l then 0 else l.keepaliveTimer + 1
    asleepWatch := if watchDue l then 0 else l.asleepWatch + 1
    counters := { l.counters with gap := bump l.counters.gap (if watchDue l then 1 else 0) } }

/-- The wake timer reaches WAKE_TIMER at this send (R192). -/
def wakeDue (l : LinkUnit) : Bool := l.mode = .waking && l.wakePhase = .wait && l.wakeLimit ≤ l.wakeTimer + 1

/-- The wake has failed (R192): a fault, WAKE_FAILED, and the entry to CUT. -/
def failWake (s : State) : State :=
  let s1 := takeFault .wakeFailed s.link.lastSeq.toNat (s.modLink fun l =>
    { l with counters := { l.counters with wakeFailure := bump l.counters.wakeFailure 1 } })
  enterCut 2 (latch .wakeFailed [Word.nat s1.link.lastSeq.toNat] s1)

/-- The wake timer at a send in WAIT; a timeout begins the next burst, or fails the wake after the third (R192). -/
def tickWake (s : State) : State :=
  if wakeDue s.link then
    if s.link.burstNumber < Config.wakeBursts then
      s.modLink fun l =>
        { l with
          wakeTimer := l.wakeTimer + 1
          burstNumber := l.burstNumber + 1
          wakePhase := .burst
          burstIndex := 0
          counters := { l.counters with wakeBurst := bump l.counters.wakeBurst 1 } }
    else failWake (s.modLink fun l => { l with wakeTimer := l.wakeTimer + 1 })
  else if s.link.wakePhase = .wait then s.modLink fun l => { l with wakeTimer := l.wakeTimer + 1 }
  else s

/-- The timers of a send, for the mode. In CUT the cut duration advances before the gap timer, so that a send whose gap
enters CUT again leaves it at 0: that send, as one that enters CUT from another mode, is not counted in it (R176, log
entry 7). -/
def sendTimers (s : State) : State :=
  match s.link.mode with
  | .run | .cut => tickGap (tickCut s)
  | .sleepPending =>
    let s1 := tickGap s
    if s1.link.mode = .sleepPending then tickNegotiation s1 else s1
  | .asleep => s.modLink LinkUnit.tickAsleep
  | .waking => tickWake s

/-! ### The message in flight (R178) -/

/-- Whether a mode permits a message. -/
def LinkMode.permits (m : LinkMode) (k : MessageKind) : Bool :=
  match m with
  | .run | .sleepPending => true
  | .cut | .waking => k = .sleepCancel
  | .asleep => false

/-- The resend timer of a message in flight, its send count above 0 and the mode permitting it, increases by 1. -/
def LinkUnit.tickMessage (l : LinkUnit) : LinkUnit :=
  match l.inFlight with
  | some f =>
    if 0 < f.sends && l.mode.permits f.message.kind then
      { l with inFlight := some { f with timer := min (f.timer + 1) Config.resendSends } }
    else l
  | none => l

/-- The message in flight is to be dropped: sent five times, its resend timer at 20. -/
def LinkUnit.dropping (l : LinkUnit) : Option InFlight :=
  l.inFlight.filter fun f => Config.messageSends ≤ f.sends && Config.resendSends ≤ f.timer

/-- The message in flight is dropped without an ack: counted, latched and a fault; in RUN, SLEEP_PENDING and CUT, SFC
rises by 16. The drop of the message that bears the late number sets that number to none (R189). -/
def dropMessage (f : InFlight) (s : State) : State :=
  let number := f.message.number
  let s1 := s.modLink fun l =>
    { l with
      inFlight := none
      lateNumber := if f.message.isRequest l.lateNumber then none else l.lateNumber
      counters := { l.counters with messageLost := bump l.counters.messageLost 1 } }
  let s2 := latch .linkMessageLost [Word.nat f.message.kind.code, Word.nat number.toNat, Word.nat 1] s1
  if s2.link.mode.counting then raiseSfc 16 .messageLost number.toNat s2
  else takeFault .messageLost number.toNat s2

/-- The message of the queue that may move into flight: in RUN and SLEEP_PENDING the head, in CUT and WAKING the oldest
SLEEP_CANCEL, in ASLEEP none. -/
def LinkUnit.nextMessage (l : LinkUnit) : Option Message := l.queue.find? fun m => l.mode.permits m.kind

/-- Where no message is in flight, one moves into flight. -/
def LinkUnit.intoFlight (l : LinkUnit) : LinkUnit :=
  match l.inFlight, l.nextMessage with
  | none, some m => { l with inFlight := some ⟨m, 0, 0⟩, queue := l.queue.erase m }
  | _, _ => l

/-- The message handling of a send, up to the ride: timer, drop, into flight. -/
def sendMessages (s : State) : State :=
  let s1 := s.modLink LinkUnit.tickMessage
  let s2 := match s1.link.dropping with
    | some f => dropMessage f s1
    | none => s1
  s2.modLink LinkUnit.intoFlight

/-- The message in flight is due to ride: permitted, and not yet sent or its resend timer at 20. -/
def LinkUnit.riding (l : LinkUnit) : Option InFlight :=
  l.inFlight.filter fun f => l.mode.permits f.message.kind && (f.sends = 0 || Config.resendSends ≤ f.timer)

/-- The ride is counted. -/
def LinkUnit.countRide (l : LinkUnit) : LinkUnit :=
  match l.riding with
  | some f => { l with inFlight := some { f with sends := f.sends + 1, timer := 0 } }
  | none => l

/-! ### The link frames (R165, R166, R175, R190, R192, R210) -/

/-- The kind byte, the payload and whether the robust copy follows, of the frame that a send puts on the link port. -/
structure LinkFrame where
  kind : Byte
  payload : List Byte
  robust : Bool
  deriving DecidableEq, Repr

/-- The bytes of a link frame: kind, flags, sequence, payload, the message riding it, and the CRC-32. -/
def linkFrameBytes (frame : LinkFrame) (copy onAir silence : Bool) (seq : BitVec 16) (riding : Option InFlight) :
    List Byte :=
  let flags : Byte := (if onAir then 1 else 0) + (if copy then 2 else 0) + (if silence then 4 else 0) +
    if riding.isSome then 8 else 0
  let message := match riding with
    | some f =>
      [f.message.number, BitVec.ofNat 8 f.message.kind.code, BitVec.ofNat 8 f.message.body.length] ++ f.message.body
    | none => []
  let bytes := [frame.kind, flags] ++ beBytes 2 seq.toNat ++ frame.payload ++ message
  bytes ++ crc32Bytes bytes

/-- Whether AUDIO frames carry the silence flag: in phase QUIET of SLEEP_PENDING (R188). -/
def LinkUnit.silenceFlag (l : LinkUnit) (frame : LinkFrame) : Bool :=
  frame.kind = 1 && l.mode = .sleepPending && l.phase = .quiet

/-- A link frame is sent, with its robust copy where it has one; it takes the next sequence, and a message due rides
it. -/
def sendFrame (frame : LinkFrame) (s : State) : State :=
  let l := s.link
  let bytes (copy : Bool) : List Byte :=
    linkFrameBytes frame copy s.air.onAirFlag (l.silenceFlag frame) l.nextSeq l.riding
  let s1 := sendLink (bytes false) s
  let s2 := if frame.robust then sendLink (bytes true) s1 else s1
  s2.modLink fun l => { l.countRide with nextSeq := l.nextSeq + 1, lastSeq := l.nextSeq }

/-- A send in RUN or SLEEP_PENDING: an AUDIO frame with the air frame, and in DEGRADED its robust copy. -/
def sendAudio (s : State) : State :=
  sendFrame ⟨1, stereoBytes s.air.lastAir, s.link.level = some .degraded⟩ s

/-- This send is a PROBE: the probe timer is at 0 (R175). -/
def probeDue (l : LinkUnit) : Bool := l.mode = .cut && l.probeTimer = 0

/-- A send in CUT: a PROBE where the probe timer is at 0; the probe timer then increases, and returns to 0 after 7. -/
def sendProbe (s : State) : State :=
  let (g, words) := patternWords 96 s.link.pattern
  let s1 := if probeDue s.link then sendFrame ⟨2, words, false⟩ (s.modLink fun l => { l with pattern := g }) else s
  s1.modLink fun l => { l with probeTimer := (l.probeTimer + 1) % 8 }

/-- The length of the burst at this send: WAKE_BURST as adopted at the burst's first frame. -/
def LinkUnit.currentBurst (l : LinkUnit) : Nat := if l.burstIndex = 0 then l.wakeBurst else l.burstLength

/-- This send carries the last WAKE frame of its burst (R192). -/
def burstEndDue (l : LinkUnit) : Bool :=
  l.mode = .waking && l.wakePhase = .burst && l.currentBurst ≤ l.burstIndex + 1

/-- A send in WAKING: in phase BURST one WAKE frame, after which the burst index increases by 1; after the last of the
burst the phase becomes WAIT (R192). -/
def sendWake (s : State) : State :=
  match s.link.wakePhase with
  | .wait => s
  | .burst =>
    let n := s.link.currentBurst
    let lastOne := burstEndDue s.link
    let s1 := sendFrame ⟨3, [BitVec.ofNat 8 s.link.burstIndex, BitVec.ofNat 8 n], false⟩ s
    s1.modLink fun l =>
      let l1 := { l with burstLength := n, burstIndex := l.burstIndex + 1 }
      if lastOne then { l1 with wakePhase := .wait, wakeTimer := 0 } else l1

/-- What the next MONITOR frame carries of this send (R167). -/
def recordMonitor (sentAudio : Bool) (s : State) : State :=
  s.modLink fun l => { l with monitorAir := s.air.lastAir, notSent := !sentAudio }

/-- The frames of a send, for the mode. `enteredCut` tells that the link has entered CUT within this send, which then
puts nothing on the link port; `keepalive` that the keepalive timer has reached 1,000. -/
def sendFrames (enteredCut keepalive : Bool) (s : State) : State :=
  if enteredCut then s
  else
    match s.link.mode with
    | .run | .sleepPending => sendAudio s
    | .cut => sendProbe s
    | .asleep => if keepalive then sendFrame ⟨4, [], false⟩ s else s
    | .waking => sendWake s

/-! ### The MONITOR frame (R167, R209) -/

/-- The MONITOR frame of a frame period: the air channels of the previous send, and the cue channel. -/
def monitorFrame (s : State) : List Byte :=
  [0x81, if s.link.notSent then 1 else 0] ++ beBytes 2 s.frameCount.toNat ++ stereoBytes s.link.monitorAir ++
    blockBytes s.mix.cue

/-! ### The send (R165) -/

/-- The send up to its timers: the MONITOR frame of the frame period leaves, settings are adopted, timers advance. -/
def sendBegin (s : State) : State := sendTimers (adoptLink (sendStudio none (monitorFrame s) s))

/-- Whether the link has entered CUT within a send: the cut duration of a cut that was under way counts this send, that
of a cut entered within it is 0. -/
def enteredCutBetween (before after : State) : Bool :=
  after.link.mode = .cut && (before.link.mode ≠ .cut || after.link.cutDuration = 0)

/-- The link unit's send (R165). -/
def sendWork (s : State) : State :=
  let s1 := sendBegin s
  let s2 := sendMessages s1
  let cut := enteredCutBetween s s2
  let sentAudio := !cut && s2.link.mode.audio
  recordMonitor sentAudio (sendFrames cut (keepaliveDue (adoptLink s).link) s2)

/-! ### The commands -/

/-- The link unit at a send, its settings adopted: what the timers' rows are judged by. -/
def adoptedLink (s : State) : LinkUnit := (adoptLink s).link

/-- SEND (R165). -/
def execSend (s : State) : Host.Outcome State Fault Refusal := perform sendWork s

/-- GAP_TIMER: the send at which the gap timer reaches 8 (R170). -/
def execGapTimer (s : State) : Host.Outcome State Fault Refusal :=
  performIf (fun s => gapDue (adoptedLink s)) sendWork s

/-- REQUEST_TIMER: the send at which the request timer reaches SLEEP_REQUEST_TIMER (R188). A send whose gap brings the
cut ends the negotiation before. -/
def execRequestTimer (s : State) : Host.Outcome State Fault Refusal :=
  performIf (fun s => requestDue (tickGap (adoptLink s)).link) sendWork s

/-- QUIET_TIMER: the send at which the quiet timer reaches QUIET_INTERVAL (R188). -/
def execQuietTimer (s : State) : Host.Outcome State Fault Refusal :=
  performIf (fun s => quietDue (tickGap (adoptLink s)).link) sendWork s

/-- KEEPALIVE: the send at which the keepalive timer reaches 1,000 (R190). -/
def execKeepalive (s : State) : Host.Outcome State Fault Refusal :=
  performIf (fun s => keepaliveDue (adoptedLink s)) sendWork s

/-- ASLEEP_WATCH: the send at which the asleep watch reaches 1,000 (R190). -/
def execAsleepWatch (s : State) : Host.Outcome State Fault Refusal :=
  performIf (fun s => watchDue (adoptedLink s)) sendWork s

/-- WAKE_TIMER_TIMEOUT: the send at which the wake timer reaches WAKE_TIMER (R192). -/
def execWakeTimerTimeout (s : State) : Host.Outcome State Fault Refusal :=
  performIf (fun s => wakeDue (adoptedLink s)) sendWork s

/-- MESSAGE_DROP: the send at which the message in flight is dropped (R178). -/
def execMessageDrop (s : State) : Host.Outcome State Fault Refusal :=
  performIf (fun s => ((sendBegin s).link.tickMessage.dropping).isSome) sendWork s

/-- The message rides again at this send: it has been sent before, its resend timer has reached 20, and the send puts a
frame on the link port (R178). -/
def resendDue (s : State) : Bool :=
  let s2 := sendMessages (sendBegin s)
  let sends := (sendFrames (enteredCutBetween s s2) (keepaliveDue (adoptLink s).link) s2).link.nextSeq ≠ s2.link.nextSeq
  sends && (s2.link.riding.any fun f => 0 < f.sends)

/-- MESSAGE_RESEND: the send at which the message in flight rides again (R178). -/
def execMessageResend (s : State) : Host.Outcome State Fault Refusal := performIf resendDue sendWork s

/-- PROBE: the send that is a PROBE (R175). -/
def execProbe (s : State) : Host.Outcome State Fault Refusal :=
  performIf (fun s =>
    let s2 := sendMessages (sendBegin s)
    !enteredCutBetween s s2 && probeDue s2.link) sendWork s

/-- BURST_END: the send that carries the last WAKE frame of a burst (R192). -/
def execBurstEnd (s : State) : Host.Outcome State Fault Refusal :=
  performIf (fun s => burstEndDue (sendMessages (sendBegin s)).link) sendWork s

end Sys2Proof.Machine
end

