-- ==== Sys2Proof/Machine/Players.lean ====
section
/-!
DEFINITION. The cart players (sections 5.6 and 5.9): cue, start and stop, the frames that the players give at the input
stage with their end actions, and the fill player. The sign-off event at the link unit (R187). The player orders'
answers; the orders' commands stand in `Machine/Orders.lean`.
-/

namespace Sys2Proof.Machine

/-- Player A, player B and the fill player. -/
def playerA : Fin 3 := 0
def playerB : Fin 3 := 1
def fillPlayer : Fin 3 := 2

/-- Player `p` changed by `f`. -/
def modPlayer (p : Fin 3) (f : Player → Player) (s : State) : State :=
  s.modPlayers fun v => v.set p (f (v.get p))

/-- Player `p`. -/
def State.player (s : State) (p : Fin 3) : Player := s.players.get p

/-! ### Cue, start and stop (R109 to R111, R114) -/

/-- Slot `n` is READY, of kind CART and can take the player's hold (R109, R112, R114). -/
def cueable (p : Fin 3) (n : Fin 32) (s : State) : Bool := s.clips.playable n && s.clips.canHold (playerReader p) n

/-- The player holds slot `n` at position 0, in a state. -/
def holdSlot (p : Fin 3) (n : Fin 32) (state : PlayerState) (s : State) : State :=
  modPlayer p (fun _ => ⟨state, some n, 0⟩) (s.modClips fun c => c.hold (playerReader p) n)

/-- The stamp of slot `n` is set to the frame count. -/
def stampSlot (n : Fin 32) (s : State) : State :=
  s.modClips fun c => c.modSlot n fun t => { t with stamp := some s.frameCount }

/-- The player becomes IDLE and releases its hold. -/
def idlePlayer (p : Fin 3) (s : State) : State :=
  modPlayer p (fun _ => Player.idle) (s.modClips fun c => c.release (playerReader p))

/-- The player begins slot `n` at position 0 in RUNNING, with its stamp set. -/
def runSlot (p : Fin 3) (n : Fin 32) (s : State) : State := stampSlot n (holdSlot p n .running s)

/-- A start request of the studio input to the fill player: the slot started, or none where the request is not taken
(R9, R114). -/
def startFill (slot : Option (Fin 32)) (s : State) : State × Option (Fin 32) :=
  match slot with
  | some n =>
    if (s.player fillPlayer).state = .idle && cueable fillPlayer n s then (runSlot fillPlayer n s, some n)
    else (s, none)
  | none => (s, none)

/-! ### The sign-off event at the link unit (R187) -/

/-- The conditions of a start of a sleep: the link mode is RUN, the air stage is IDLE and presents no eligible record.
-/
def sleepAllowed (s : State) : Bool := s.link.mode = .run && s.air.state = .idle && !anyEligible s

/-- A sign-off that starts no sleep is latched as "deferred". -/
def deferSignOff (s : State) : State := latch .sleepResult [Word.nat 3, Word.nat 255] s

/-- The sign-off event of a player (R187). -/
def signOff (s : State) : State :=
  if !s.link.autoSleep then s
  else
    match s.link.mode with
    | .run => if sleepAllowed s then startSleep s else deferSignOff s
    | .sleepPending | .asleep => s
    | .waking | .cut => deferSignOff s

/-! ### The end of a clip (R112, R113) -/

/-- PLAYER_END is latched and counted. `chained` is the chain result: the target of a chain that held, `some none` for a
chain that failed, and none where the end action is no chain (log entry 20). -/
def endClip (p : Fin 3) (n : Fin 32) (action : EndAction) (chained : Option (Option (Fin 32))) (s : State) : State :=
  let failed := if chained = some none then 1 else 0
  let s1 := s.modClips fun c =>
    { c with counters := { c.counters with
        ended := bump c.counters.ended 1
        chainFailure := bump c.counters.chainFailure failed } }
  latch .playerEnd
    [Word.nat p.val, Word.nat n.val, Word.nat action.code,
      Word.option (chained.map fun target => if target.isSome then 0 else 1),
      Word.place ((chained.getD none).map Fin.val)] s1

/-- The end action of slot `n`, reached by player A or B (R112, R113). -/
def endAction (p : Fin 3) (n : Fin 32) (s : State) : State :=
  let conf := s.clips.conf.get n
  match conf.endAction with
  | .stop => endClip p n .stop none (idlePlayer p s)
  | .loop => modPlayer p (fun r => { r with position := 0 }) s
  | .chain =>
    if cueable p conf.chain s then endClip p n .chain (some (some conf.chain)) (runSlot p conf.chain s)
    else endClip p n .chain (some none) (idlePlayer p s)
  | .signOff => endClip p n .signOff none (signOff (idlePlayer p s))

/-- A player has reached the end of its clip: the fill player loops whatever the end action (R114). -/
def clipEnd (p : Fin 3) (n : Fin 32) (s : State) : State :=
  if p = fillPlayer then modPlayer p (fun r => { r with position := 0 }) s else endAction p n s

/-! ### The players' frames (R27, R112) -/

/-- The frame that player `p` gives at the input stage, scaled by the gain code of the slot it is read from, and the
state after its advance. A player that is not RUNNING gives silence. -/
def playerFrame (p : Fin 3) (s : State) : State × StereoFrame :=
  let r := s.player p
  match r.state, r.slot with
  | .running, some n =>
    match s.clips.readFor (playerReader p) n r.position with
    | .frame f =>
      let s1 := modPlayer p (fun r => { r with position := r.position + 1 }) s
      let s2 := if r.position + 1 = (s.clips.slots.get n).length then clipEnd p n s1 else s1
      (s2, scaleStereo f (s.mix.gain.get (s.clips.conf.get n).gain))
    | .beyond => (s, StereoFrame.silence)
    | .dropped => (s, StereoFrame.silence)
  | _, _ => (s, StereoFrame.silence)

/-- The clip store adopts its committed SLOTCONF entries and ALERT_RESERVE (R90, R93). -/
def adoptClips (s : State) : State :=
  s.modClips fun c => { c with conf := s.tables.slotConf, reserve := s.setting Setting.alertReserve }

/-- The frames of the three players, as sources 14 to 19 (R27). -/
def playerSources (s : State) : State × Vector Frame 6 :=
  let (s1, a) := playerFrame playerA (adoptClips s)
  let (s2, b) := playerFrame playerB s1
  let (s3, f) := playerFrame fillPlayer s2
  (s3, #v[a.left, a.right, b.left, b.right, f.left, f.right])

/-! ### The player orders (R108 to R111) -/

/-- The data words of a reply to a player order. -/
def playerWords (p : Fin 3) (s : State) : List Word :=
  let r := s.player p
  [Word.nat p.val, Word.nat r.state.code, Word.place (r.slot.map Fin.val), Word.nat r.position]

/-- An answer to a player order, with its data words. -/
def playerAnswer (p : Fin 3) (r : Result) (s : State) : Answer := ⟨s, r, playerWords p s⟩

/-- A player order refused for its arguments, with the words of the player that its first word names at the refusal:
those of A, of B, or of the fill player for 2, and for a greater word, which names no record, that word with no state,
slot 255 and no position. An order without argument words names no player, and its refusal carries no words (R108,
R208, log entry 27). -/
def playerRefused (args : List Word) (s : State) : Answer :=
  match args with
  | [] => refuse .refusedArgument s
  | w :: _ =>
    match finOf 3 w.toNat with
    | some p => playerAnswer p .refusedArgument s
    | none => ⟨s, .refusedArgument, [w, Word.none, Word.nat 255, Word.none]⟩

/-- The player that an argument word names: 0 for A and 1 for B. -/
def playerArg (w : Word) : Option (Fin 3) := if w = 0 then some playerA else if w = 1 then some playerB else none

/-- PLAYER-CUE of a valid player and slot (R109). -/
def cueSlot (p : Fin 3) (n : Fin 32) (s : State) : Answer :=
  if (s.player p).state ≠ .running && cueable p n s then playerAnswer p .done (holdSlot p n .cued s)
  else playerAnswer p .refusedState s

/-- PLAYER-START of a valid player without a slot (R110). -/
def startCued (p : Fin 3) (s : State) : Answer :=
  match (s.player p).state, (s.player p).slot with
  | .cued, some n =>
    playerAnswer p .done (stampSlot n (modPlayer p (fun r => { r with state := .running }) s))
  | _, _ => playerAnswer p .refusedState s

/-- PLAYER-START of a valid player with a valid slot (R110). -/
def startSlot (p : Fin 3) (n : Fin 32) (s : State) : Answer :=
  if (s.player p).state ≠ .running && cueable p n s then playerAnswer p .done (runSlot p n s)
  else playerAnswer p .refusedState s

/-- PLAYER-CUE (R109). -/
def answerPlayerCue (args : List Word) (s : State) : Answer :=
  match args with
  | [w, slot] =>
    match playerArg w, finOf 32 slot.toNat with
    | some p, some n => cueSlot p n s
    | _, _ => playerRefused args s
  | _ => playerRefused args s

/-- PLAYER-START (R110). -/
def answerPlayerStart (args : List Word) (s : State) : Answer :=
  match args with
  | [w] =>
    match playerArg w with
    | some p => startCued p s
    | none => playerRefused args s
  | [w, slot] =>
    match playerArg w, finOf 32 slot.toNat with
    | some p, some n => startSlot p n s
    | _, _ => playerRefused args s
  | _ => playerRefused args s

/-- PLAYER-STOP (R111). -/
def answerPlayerStop (args : List Word) (s : State) : Answer :=
  match args with
  | [w] =>
    match playerArg w with
    | some p =>
      match (s.player p).state with
      | .idle => playerAnswer p .done s
      | .cued | .running => playerAnswer p .done (idlePlayer p s)
    | none => playerRefused args s
  | _ => playerRefused args s

end Sys2Proof.Machine
end

