-- ==== Sys2Proof/Machine/Studio.lean ====
section
/-!
DEFINITION. The studio input (chapter 1): the arrival of PROGRAMME frames, the mix engine's request, loss and return of
the studio feed, and the fill player's start, retry and stop. The PROGRAMME command.
-/

namespace Sys2Proof.Machine

/-! ### The arrival (R3, R6) -/

/-- The channel count of a PROGRAMME payload. -/
def channelCount (payload : List Byte) : Nat := (byteAt payload 4).toNat

/-- A PROGRAMME frame is well-formed under a studio width (R3). -/
def programmeWhole (width : Nat) (payload : List Byte) : Bool :=
  let n := channelCount payload
  (n = 2 || n = 4 || n = 8) && n = width && payload.length = 8 + 144 * n

/-- The frame that a well-formed PROGRAMME payload carries (R209). The unused flag bits, and bytes 5 to 7, where the
layout gives 0, are not looked at (log entry 14). -/
def readProgramme (payload : List Byte) : ProgrammeFrame where
  seq := BitVec.ofNat 16 (beAt payload 2 2)
  channels := (List.range (channelCount payload)).map fun c => blockAt payload (8 + 144 * c)
  breakFlag := (byteAt payload 1).getLsbD 0

/-- A frame placed in the jitter queue by its distance from E (R5). -/
def placeFrame (e : BitVec 16) (f : ProgrammeFrame) : List ProgrammeFrame → List ProgrammeFrame
  | [] => [f]
  | g :: rest =>
    if (f.seq - e).toNat < (g.seq - e).toNat then f :: g :: rest else g :: placeFrame e f rest

/-- A resync on a frame (R6). -/
def StudioInput.resync (i : StudioInput) (f : ProgrammeFrame) : StudioInput :=
  { i with
    expected := some f.seq
    queue := [f]
    counters := { i.counters with resync := bump i.counters.resync 1 } }

/-- A well-formed frame arrives (R6). -/
def StudioInput.arrive (i : StudioInput) (f : ProgrammeFrame) : StudioInput :=
  match i.expected with
  | none => { i with expected := some f.seq, queue := [f] }
  | some e =>
    let d := (f.seq - e).toNat
    if d ≤ 3 then
      if i.queue.any fun g => g.seq = f.seq then
        { i with counters := { i.counters with duplicate := bump i.counters.duplicate 1 } }
      else { i with queue := placeFrame e f i.queue }
    else if d ≤ 32768 || i.lost then i.resync f
    else { i with counters := { i.counters with late := bump i.counters.late 1 } }

/-- Frames counted as malformed. -/
def StudioInput.countMalformed (i : StudioInput) (n : Nat) : StudioInput :=
  { i with counters := { i.counters with malformed := bump i.counters.malformed n } }

/-- A PROGRAMME frame arrives (R3, R6). -/
def programmeArrives (body : List Byte) (s : State) : State :=
  let payload := 0x01 :: body
  s.modStudio fun i =>
    if programmeWhole i.width payload then i.arrive (readProgramme payload) else i.countMalformed 1

/-! ### Adoption (R4) -/

/-- The studio input adopts its committed settings; a changed width empties the jitter queue (R4). -/
def adoptStudio (s : State) : State :=
  let width := s.setting Setting.studioWidth
  s.modStudio fun i =>
    let i1 := { i with lossLimit := s.setting Setting.studioLossLimit, fillSlot := s.slotSetting Setting.fillSlot }
    if i1.width = width then i1 else { (i1.countMalformed i1.queue.length) with width := width, queue := [] }

/-! ### Loss and return (R8 to R10) -/

/-- The studio input asks the fill player to start on the fill slot (R8, R9). -/
def askFill (s : State) : State × Option (Fin 32) := startFill s.studio.fillSlot s

/-- The consecutive-missing count has reached the loss limit with studio-lost clear (R8). -/
def loseStudio (s : State) : State :=
  let (s1, started) := askFill (s.modStudio fun i =>
    { i with
      lost := true
      fillStopMarked := false
      counters := { i.counters with losses := bump i.counters.losses 1 } })
  latch .studioLost [Word.place (started.map Fin.val)] s1

/-- After a missing frame: the loss (R8), or the retry of the fill start while lost (R9). -/
def afterMissing (s : State) : State :=
  if s.studio.lost then (askFill s).1
  else if s.studio.lossLimit ≤ s.studio.missingRun then loseStudio s
  else s

/-- A frame is missing (R7). -/
def missFrame (s : State) : State :=
  afterMissing (s.modStudio fun i =>
    { i with
      expected := i.expected.map (· + 1)
      missingRun := bump i.missingRun 1
      counters := { i.counters with missing := bump i.counters.missing (if i.expected.isSome then 1 else 0) } })

/-- A frame is used while studio-lost is set: the studio feed is back (R10). `gap` is the consecutive-missing count
before. -/
def studioBack (gap : Nat) (s : State) : State :=
  latch .studioBack [Word.nat gap]
    (s.modStudio fun i =>
      { i with lost := false, fillStopMarked := (s.player fillPlayer).state = .running })

/-- The frame with sequence E is used (R7). STUDIO_BACK is latched before the break event of the same frame is passed on
(R10, R11, log entry 47). -/
def useFrame (f : ProgrammeFrame) (s : State) : State :=
  let s1 := s.modStudio fun i =>
    { i with expected := i.expected.map (· + 1), queue := i.queue.erase f, missingRun := 0 }
  let s2 := if s.studio.lost then studioBack s.studio.missingRun s1 else s1
  if f.breakFlag then breakEvent s2 else s2

/-- The held frame with sequence E. -/
def StudioInput.next (i : StudioInput) : Option ProgrammeFrame :=
  match i.expected with
  | some e => i.queue.find? fun f => f.seq = e
  | none => none

/-- The studio sources of a used frame (R2): channels at or above the width carry silence. -/
def studioSources (f : ProgrammeFrame) (width : Nat) : Vector Frame 8 :=
  Vector.ofFn fun c => if c.val < width then f.channels.getD c.val Frame.silence else Frame.silence

/-- The mix engine's request: the studio sources 0 to 7, and the state after it (R7). -/
def studioRequest (s : State) : State × Vector Frame 8 :=
  let s1 := adoptStudio s
  match s1.studio.next with
  | some f => (useFrame f s1, studioSources f s1.studio.width)
  | none => (missFrame s1, Vector.replicate 8 Frame.silence)

/-- After a mix frame: where every fill route used multiplier 0, a fill player marked for stop becomes IDLE (R10). -/
def fillStop (fillSilent : Bool) (s : State) : State :=
  if fillSilent && s.studio.fillStopMarked then
    (idlePlayer fillPlayer s).modStudio fun i => { i with fillStopMarked := false }
  else s

/-! ### RESTART (R15) -/

/-- The RESTART effect on the studio input. -/
def restartStudio (s : State) : State :=
  s.modStudio fun i =>
    { i with expected := none, queue := [], missingRun := 0, lost := false, fillStopMarked := false }

/-! ### The command -/

/-- PROGRAMME (R3, R6). -/
def execProgramme (body : List Byte) (s : State) : Host.Outcome State Fault Refusal := perform (programmeArrives body) s

end Sys2Proof.Machine
end

