-- ==== Sys2Proof/Machine/Mix.lean ====
section
/-!
DEFINITION. The mix engine (chapter 2): adoption, gates, ramps, sources, bus sums, feeds, peak and hand-off. The
MIX_FRAME command and MASK's answer.
-/

namespace Sys2Proof.Machine

/-! ### Adoption and gates (R16, R18, R20, R22) -/

/-- The mix engine adopts its committed tables and settings. -/
def adoptMix (s : State) : State :=
  let channel := s.setting Setting.talkback
  s.modMix fun m =>
    { m with
      gain := s.tables.gain
      route := s.tables.route
      talkback := BitVec.toFin (BitVec.ofNat 3 channel)
      threshold := s.setting Setting.silenceThreshold }

/-- The gate inputs of a mix frame, beside the talkback channel (R22). -/
structure Gates where
  mask : BitVec 20
  lines : Vector LineState 6
  fillOpen : Bool
  deriving DecidableEq, Repr

/-- The gate inputs as the mix engine reads them at the gate stage. -/
def readGates (s : State) : Gates := ⟨s.mix.mask, s.line.lines.map Line.state, s.studio.lost⟩

/-- The line of a source, where the source is a line source. -/
def sourceLine (source : Nat) : Option (Fin 6) := if 8 ≤ source then finOf 6 (source - 8) else none

/-- Whether a gate shuts the route of a source and a bus (R20). -/
def Gates.shut (g : Gates) (source bus : Nat) : Bool :=
  let byLine := match sourceLine source with
    | some k => (g.lines.get k) ≠ if bus = 2 then .screening else .onAir
    | none => false
  g.mask.getLsbD source || byLine || ((source = 18 || source = 19) && !g.fillOpen)

/-- The multiplier of a gain code, as adopted (R17). -/
def MixEngine.multiplier (m : MixEngine) (code : Fin 256) : Nat := m.gain.get code

/-- The target multiplier of a route (R20). -/
def MixEngine.routeTarget (m : MixEngine) (g : Gates) (r : Fin 60) : Nat :=
  if g.shut (r.val / 3) (r.val % 3) then m.multiplier 0 else m.multiplier (m.route.get r).code

/-! ### Ramps (R23, R24, R41) -/

/-- The target stage of one ramp (R23). -/
def Ramp.retarget (r : Ramp) (target length : Nat) : Ramp :=
  if target = r.target then r
  else { r with target := target, left := length, step := Int.tdiv (target - r.current : Int) length }

/-- The step stage of one ramp (R24). -/
def Ramp.advance (r : Ramp) : Ramp :=
  if 1 < r.left then { r with current := (r.current + r.step).toNat, left := r.left - 1 }
  else if r.left = 1 then { r with current := r.target, left := 0 }
  else r

/-- The target and step stages of one route; at the first mix frame after a RESTART its ramp snaps (R41). -/
def MixEngine.stepRoute (m : MixEngine) (g : Gates) (r : Fin 60) : Ramp :=
  let target := m.routeTarget g r
  if m.snap then Ramp.settled target else ((m.ramps.get r).retarget target (m.route.get r).ramp).advance

/-- The target and step stages of a mix frame (R16). -/
def MixEngine.stepRamps (m : MixEngine) (g : Gates) : MixEngine :=
  { m with ramps := Vector.ofFn (m.stepRoute g), snap := false }

/-- The multiplier that a route uses in this frame. -/
def MixEngine.used (m : MixEngine) (source bus : Nat) : Nat :=
  match finOf 60 (source * 3 + bus) with
  | some r => (m.ramps.get r).current
  | none => 0

/-- Every route of sources 18 and 19 used multiplier 0 (R38). -/
def MixEngine.fillSilent (m : MixEngine) : Bool :=
  [54, 55, 56, 57, 58, 59].all fun r => (m.ramps.get r).current = 0

/-! ### Sums (R28, R29) -/

/-- The twenty sources of a mix frame. -/
abbrev Sources := Vector Frame 20

/-- The accumulator of a bus at a sample index (R28). -/
def MixEngine.accumulate (m : MixEngine) (x : Sources) (bus : Nat) (i : Fin 48) : Int :=
  ((List.finRange 20).map fun k => (x.get k).get i * (m.used k.val bus : Int)).sum

/-- The accumulators of a bus. -/
def MixEngine.accumulators (m : MixEngine) (x : Sources) (bus : Nat) : Vector Int 48 :=
  Vector.ofFn (m.accumulate x bus)

/-- The bus frame of its accumulators: rounded and clamped (R29). -/
def busFrame (acc : Vector Int 48) : Frame := acc.map fun a => clampSample (roundGain a)

/-- The number of samples of a bus that R29 clamps. -/
def busClamps (acc : Vector Int 48) : Nat := acc.toList.countP fun a => clampSample (roundGain a) ≠ roundGain a

/-! ### Feeds (R32 to R36) -/

/-- A feed sample, and whether a clamp changed it. `first` tells whether its pre step was clamped. -/
def trimSample (gain : Nat) (first : Bool) (x : Int) : Int × Bool :=
  let y := roundGain (x * gain)
  (clampSample y, first || clampSample y ≠ y)

/-- The mix-minus of line `k` at one sample (R33). -/
def MixEngine.mixMinus (m : MixEngine) (x : Sources) (accL accR : Vector Int 48) (k : Fin 6) (gain : Nat)
    (i : Fin 48) : Int × Bool :=
  let source := 8 + k.val
  let caller := (x.get (finOf 20 source |>.getD 0)).get i
  let a := accL.get i - caller * (m.used source 0 : Int)
  let b := accR.get i - caller * (m.used source 1 : Int)
  let pre := (a + b + 16384) / 32768
  trimSample gain (clampSample pre ≠ pre) (clampSample pre)

/-- The mono of a stereo frame at one sample (R35). -/
def monoSample (f : StereoFrame) (i : Fin 48) : Int := (f.left.get i + f.right.get i + 1) / 2

/-- The feed of line `k` at one sample, by the line's state at the gate stage (R32). -/
def feedSample (s : State) (g : Gates) (x : Sources) (accL accR : Vector Int 48) (k : Fin 6) (i : Fin 48) : Int × Bool :=
  let gain := s.mix.multiplier (s.line.conf.get k).trim
  match g.lines.get k with
  | .onAir => s.mix.mixMinus x accL accR k gain i
  | .screening => trimSample gain false ((x.get (s.mix.talkback.castLE (by decide))).get i)
  | .hold | .ready => trimSample gain false (monoSample s.air.lastAir i)
  | .idle | .ringing | .fault => (0, false)

/-- The feed of line `k`, each sample with whether a clamp changed it. -/
def feedOf (s : State) (g : Gates) (x : Sources) (accL accR : Vector Int 48) (k : Fin 6) : Vector (Int × Bool) 48 :=
  Vector.ofFn (feedSample s g x accL accR k)

/-- The six feeds. -/
def feedsOf (s : State) (g : Gates) (x : Sources) (accL accR : Vector Int 48) : Vector (Vector (Int × Bool) 48) 6 :=
  Vector.ofFn (feedOf s g x accL accR)

/-- The feed samples that a clamp changed (R36). -/
def feedClamps (feeds : Vector (Vector (Int × Bool) 48) 6) : Nat :=
  (feeds.toList.map fun f => f.toList.countP Prod.snd).sum

/-! ### Peak (R37) -/

/-- The frame peak: the largest magnitude among the samples of both channels. -/
def framePeak (f : StereoFrame) : Nat :=
  (f.left.toList ++ f.right.toList).foldl (fun acc x => max acc x.natAbs) 0

/-- A PGM frame with its peak, and its quiet flag against the silence threshold. -/
def pgmOf (threshold : Nat) (f : StereoFrame) : PgmFrame := ⟨f, framePeak f, framePeak f ≤ threshold⟩

/-! ### Counting and latching (R30, R31) -/

/-- Whether a clip counter climbs at a count with its mark clear (R30). -/
def climbs (counter n : Nat) (mark : Bool) : Bool :=
  counter < Config.counterHalf && Config.counterHalf ≤ bump counter n && !mark

/-- CLIP_COUNT_HALF is latched for a bus (R30). -/
def latchHalf (bus : Nat) (s : State) : State := latch .clipCountHalf [Word.nat bus] s

/-- The clamps of the three buses are counted, climbs and PGM_CLIP latched (R30, R31). Where both PGM counters climb
in one frame, bus 0 latches CLIP_COUNT_HALF, whose detail it then stays (log entry 40); PGM_CLIP is latched after
CLIP_COUNT_HALF (log entry 47). -/
def countClamps (left right cue : Nat) (s : State) : State :=
  let m := s.mix
  let climbL := climbs m.counters.pgmLeft left m.climbLeft
  let climbR := climbs m.counters.pgmRight right m.climbRight
  let s1 := s.modMix fun m =>
    { m with
      counters := { m.counters with
        pgmLeft := bump m.counters.pgmLeft left
        pgmRight := bump m.counters.pgmRight right
        cue := bump m.counters.cue cue }
      climbLeft := m.climbLeft || climbL
      climbRight := m.climbRight || climbR
      clampedLeft := left ≠ 0
      clampedRight := right ≠ 0
      clampedCue := cue ≠ 0 }
  let s2 := if climbL then latchHalf 0 s1 else s1
  let s3 := if climbR then latchHalf 1 s2 else s2
  if left + right = 0 then s3 else latch .pgmClip [Word.nat (left + right)] s3

/-! ### Activity at the link unit (R189, R191) -/

/-- The quiet flag of the PGM frame just made reaches the link unit: an active frame aborts a negotiation where
ABORT_ON_ACTIVITY is on, and wakes a sleeping link where WAKE_ON_ACTIVITY is on. An abort has told the air stage that
the mode has entered RUN, and it runs its selection (R158). -/
def activity (quiet : Bool) (s : State) : State :=
  if quiet then s
  else
    match s.link.mode with
    | .sleepPending => if s.link.abortOnActivity then select (wakeOrAbort 2 s) else s
    | .asleep => if s.link.wakeOnActivity then wakeOrAbort 2 s else s
    | .run | .waking | .cut => s

/-! ### The mix frame (R16) -/

/-- The caller frame that line `k` gives: that of the present slot in a connected state, else silence (R69). -/
def LineUnit.callerFrame (l : LineUnit) (k : Fin 6) : Frame :=
  if (l.line k).state.connected then (l.callers.get k).getD Frame.silence else Frame.silence

/-- The six caller frames of the line unit (R69). -/
def callerSources (s : State) : Vector Frame 6 := Vector.ofFn s.line.callerFrame

/-- The input stage: the studio sources, the caller frames and the players' frames, and the state after it. -/
def mixInputs (s : State) : State × Sources :=
  let (s1, studio) := studioRequest s
  let (s2, players) := playerSources s1
  (s2, studio ++ callerSources s2 ++ players)

/-- The hand-off of a mix frame (R38). -/
def handOff (pgm : PgmFrame) (cue : Frame) (feeds : Vector (Vector (Int × Bool) 48) 6) (x : Sources) (s : State) :
    State :=
  let s1 := s.modMix fun m =>
    { m with
      pgm := pgm
      cue := cue
      studioLeft := x.get 0
      studioRight := x.get 1
      counters := { m.counters with feed := bump m.counters.feed (feedClamps feeds) } }
  let s2 := s1.modLine fun l => { l with feeds := feeds.map fun f => f.map Prod.fst }
  fillStop s2.mix.fillSilent (activity pgm.quiet s2)

/-- The sums, outputs and hand-off stages of a mix frame. -/
def mixOutputs (g : Gates) (x : Sources) (s : State) : State :=
  let accL := s.mix.accumulators x 0
  let accR := s.mix.accumulators x 1
  let accC := s.mix.accumulators x 2
  let s1 := countClamps (busClamps accL) (busClamps accR) (busClamps accC) s
  let pgm := pgmOf s1.mix.threshold ⟨busFrame accL, busFrame accR⟩
  handOff pgm (busFrame accC) (feedsOf s1 g x accL accR) x s1

/-- One mix frame (R16). -/
def mixWork (s : State) : State :=
  let s1 := adoptMix s
  let g := readGates s1
  let (s2, x) := mixInputs (s1.modMix fun m => m.stepRamps g)
  mixOutputs g x s2

/-! ### RESTART (R41) -/

/-- The RESTART effect on the mix engine: the next mix frame snaps every ramp. -/
def restartMix (s : State) : State := s.modMix fun m => { m with snap := true }

/-! ### MASK (R21) -/

/-- MASK replaces the source mask; its reply carries the mask before. -/
def answerMask (args : List Word) (s : State) : Answer :=
  match args with
  | [w] =>
    if w.toNat < 2 ^ 20 then ⟨s.modMix fun m => { m with mask := w.setWidth 20 }, .done, [s.mix.mask.setWidth 48]⟩
    else refuse .refusedArgument s
  | _ => refuse .refusedArgument s

/-! ### The command -/

/-- MIX_FRAME (R16). -/
def execMixFrame (s : State) : Host.Outcome State Fault Refusal := perform mixWork s

end Sys2Proof.Machine
end

