-- ==== Sys2Proof/Machine/Tables.lean ====
section
/-!
DEFINITION. The tables and the table pointer (section 10.3): the check and the commit of an entry, its words, and the
answers of T-POINT, T-WRITE and T-READ. The ranges are those of R17, R18, R19, R68, R93, R127, R201 and of the settings
index.
-/

namespace Sys2Proof.Machine

/-! ### Shapes (section 10.3) -/

/-- The tables, in the order of their numbers. -/
def tableIds : List TableId := [.gain, .route, .slotConf, .filter, .lineConf, .settings, .noticeConf]

/-- The entries of a table. -/
def TableId.entries : TableId → Nat
  | .gain => 256 | .route => 60 | .slotConf => 32 | .filter => 16 | .lineConf => 6 | .settings => 26
  | .noticeConf => 25

/-- The fields of an entry of a table. -/
def TableId.fields : TableId → Nat
  | .gain => 1 | .route => 2 | .slotConf => 4 | .filter => 9 | .lineConf => 2 | .settings => 1 | .noticeConf => 2

/-! ### Field checks (R197) -/

/-- A numeric value clamped to a range, and whether it was changed. -/
def clampTo (lo hi x : Nat) : Nat × Bool := (max lo (min hi x), x < lo || hi < x)

/-- A gain code, clamped to 0..255. -/
def codeField (w : Word) : Fin 256 × Bool :=
  (BitVec.toFin (BitVec.ofNat 8 (clampTo 0 255 w.toNat).1), (clampTo 0 255 w.toNat).2)

/-- A flag field: off 0 or on 1. -/
def flagField (w : Word) : Option Bool := if w = 0 then some false else if w = 1 then some true else none

/-- A field that holds one of the values below `n`. -/
def placeField (n : Nat) (w : Word) : Option Nat := if w.toNat < n then some w.toNat else none

/-- An event value or mask, 0..4,095. -/
def eventField (w : Word) : Option (BitVec 12) := if w.toNat < 2 ^ 12 then some (w.setWidth 12) else none

/-- An area test word: the value in bits 0..19 and the mask in bits 24..43, every other bit 0 (R207). -/
def areaField (w : Word) : Option (BitVec 20 × BitVec 20) :=
  if w.extractLsb' 20 4 = 0 && w.extractLsb' 44 4 = 0 then some (w.extractLsb' 0 20, w.extractLsb' 24 20) else none

/-- The area test word of a value and a mask. -/
def areaTestWord (value mask : BitVec 20) : Word := Word.nat (value.toNat + mask.toNat * 2 ^ 24)

/-- How a setting is checked: its values enumerated, any other refused; or a range, to which it is clamped. -/
inductive SettingRule where
  | oneOf (values : List Nat)
  | range (lo hi : Nat)
  deriving DecidableEq, Repr

/-- The slots, and 255 for none. -/
def slotValues : List Nat := List.range 32 ++ [255]

/-- The rules of the settings, entry by entry (the index of section 10.3). -/
def settingRules : Vector SettingRule 26 :=
  #v[.oneOf [2, 4, 8], .range 50 5000, .oneOf slotValues, .oneOf (List.range 8), .range 1 3, .range 1000 300000,
    .range 0 60000, .range 2 64, .range 0 8388607, .range 1 65536, .oneOf [0, 1], .range 0 768, .oneOf slotValues,
    .range 3000 25000, .range 0 600000, .oneOf [0, 1], .oneOf [0, 1, 2], .range 0 3, .range 1 127, .range 100 10000,
    .range 0 10000, .range 8 255, .range 500 10000, .oneOf [0, 1], .oneOf [0, 1], .oneOf [0, 1]]

/-- A setting's value checked: the value committed and whether it was clamped, or none where it is refused. -/
def SettingRule.check (r : SettingRule) (x : Nat) : Option (Nat × Bool) :=
  match r with
  | .oneOf values => if values.contains x then some (x, false) else none
  | .range lo hi => some (clampTo lo hi x)

/-! ### Entries as words -/

/-- The words of a FILTER entry. -/
def FilterEntry.toWords (e : FilterEntry) : List Word :=
  [Word.flag e.enable, Word.flag e.paired, Word.nat e.verdict.code, Word.nat e.priority.val, Word.nat e.airMode.code,
    Word.nat e.eventValue.toNat, Word.nat e.eventMask.toNat, areaTestWord e.areaValue1 e.areaMask1,
    areaTestWord e.areaValue2 e.areaMask2]

/-- The fields of an entry as committed (R200). -/
def Tables.entryWords (t : Tables) : TableId → Nat → List Word
  | .gain, e => ((finOf 256 e).map fun k => [Word.nat (t.gain.get k)]).getD []
  | .route, e =>
    ((finOf 60 e).map fun k => [Word.nat (t.route.get k).code.val, Word.nat (t.route.get k).ramp]).getD []
  | .slotConf, e =>
    ((finOf 32 e).map fun k =>
      let c := t.slotConf.get k
      [Word.nat c.gain.val, Word.nat c.endAction.code, Word.nat c.chain.val, Word.flag c.lock]).getD []
  | .filter, e => ((finOf 16 e).map fun k => (t.filter.get k).toWords).getD []
  | .lineConf, e =>
    ((finOf 6 e).map fun k => [Word.nat (t.lineConf.get k).trim.val, Word.nat (t.lineConf.get k).holdSeconds]).getD []
  | .settings, e => ((finOf 26 e).map fun k => [Word.nat (t.settings.get k)]).getD []
  | .noticeConf, e =>
    ((finOf 25 e).map fun k => [Word.flag (t.noticeConf.get k).enable, Word.flag (t.noticeConf.get k).repeats]).getD []

/-! ### The check and the commit of an entry (R199) -/

/-- A GAIN entry: entry 0 keeps the value 0 and is always clamped (R18). -/
def commitGain (t : Tables) (k : Fin 256) (w : Word) : Tables × Bool :=
  if k = 0 then ({ t with gain := t.gain.set k 0 }, true)
  else
    let v := clampTo 0 65535 w.toNat
    ({ t with gain := t.gain.set k v.1 }, v.2)

/-- A ROUTE entry (R19). -/
def commitRoute (t : Tables) (k : Fin 60) (code ramp : Word) : Tables × Bool :=
  let c := codeField code
  let n := clampTo 1 64 ramp.toNat
  ({ t with route := t.route.set k ⟨c.1, n.1⟩ }, c.2 || n.2)

/-- A SLOTCONF entry (R93). -/
def commitSlotConf (t : Tables) (k : Fin 32) (gain action chain lock : Word) : Option (Tables × Bool) := do
  let a ← placeField 4 action
  let target ← finOf 32 chain.toNat
  let locked ← flagField lock
  let g := codeField gain
  return ({ t with slotConf := t.slotConf.set k ⟨g.1, EndAction.ofCode a, target, locked⟩ }, g.2)

/-- A FILTER entry (R127). -/
def readFilter (enable form verdict priority mode value mask area1 area2 : Word) : Option (FilterEntry × Bool) := do
  let on ← flagField enable
  let paired ← flagField form
  let v ← placeField 2 verdict
  let m ← placeField 3 mode
  let ev ← eventField value
  let em ← eventField mask
  let a1 ← areaField area1
  let a2 ← areaField area2
  let p := clampTo 0 3 priority.toNat
  return (⟨on, paired, Verdict.ofCode v, BitVec.toFin (BitVec.ofNat 2 p.1), AirMode.ofCode m, ev, em, a1.1, a1.2, a2.1,
    a2.2⟩, p.2)

/-- A LINECONF entry (R68). -/
def commitLineConf (t : Tables) (k : Fin 6) (trim hold : Word) : Tables × Bool :=
  let c := codeField trim
  let n := clampTo 10 3600 hold.toNat
  ({ t with lineConf := t.lineConf.set k ⟨c.1, n.1⟩ }, c.2 || n.2)

/-- A settings entry. -/
def commitSetting (t : Tables) (k : Fin 26) (w : Word) : Option (Tables × Bool) :=
  ((settingRules.get k).check w.toNat).map fun v => ({ t with settings := t.settings.set k v.1 }, v.2)

/-- A NOTICECONF entry (R201). -/
def commitNoticeConf (t : Tables) (k : Fin 25) (enable repeats : Word) : Option (Tables × Bool) := do
  let e ← flagField enable
  let r ← flagField repeats
  return ({ t with noticeConf := t.noticeConf.set k ⟨e, r⟩ }, false)

/-- A whole entry checked and committed: the tables after it and whether a field was clamped, or none where a field is
structurally bad (R199). -/
def Tables.commit (t : Tables) (table : TableId) (entry : Nat) (ws : List Word) : Option (Tables × Bool) :=
  match table, ws with
  | .gain, [w] => (finOf 256 entry).map fun k => commitGain t k w
  | .route, [code, ramp] => (finOf 60 entry).map fun k => commitRoute t k code ramp
  | .slotConf, [gain, action, chain, lock] =>
    (finOf 32 entry).bind fun k => commitSlotConf t k gain action chain lock
  | .filter, [enable, form, verdict, priority, mode, value, mask, area1, area2] =>
    (finOf 16 entry).bind fun k =>
      (readFilter enable form verdict priority mode value mask area1 area2).map fun f =>
        ({ t with filter := t.filter.set k f.1 }, f.2)
  | .lineConf, [trim, hold] => (finOf 6 entry).map fun k => commitLineConf t k trim hold
  | .settings, [w] => (finOf 26 entry).bind fun k => commitSetting t k w
  | .noticeConf, [enable, repeats] => (finOf 25 entry).bind fun k => commitNoticeConf t k enable repeats
  | _, _ => none

/-! ### The pointer -/

/-- The pointer at field 0 of the next entry, wrapping from the last entry to entry 0. -/
def TablePointer.nextEntry (p : TablePointer) : TablePointer :=
  { p with entry := if p.table.entries ≤ p.entry + 1 then 0 else p.entry + 1, field := 0 }

/-- The pointer as a reply carries it: table, entry, field and mode. -/
def TablePointer.toWords (p : TablePointer) : List Word :=
  [Word.nat p.table.code, Word.nat p.entry, Word.nat p.field, Word.nat p.mode.code]

/-! ### T-POINT (R198) -/

/-- The mode of an argument word. -/
def modeArg (w : Word) : Option PointerMode := if w = 0 then some .read else if w = 1 then some .write else none

/-- The pointer set to a table, entry and mode; in READ mode the holding copy takes the entry as committed. -/
def setPointer (t : TableId) (e : Nat) (m : PointerMode) (s : State) : State :=
  s.modOrders fun o =>
    { o with
      pointer := ⟨t, e, 0, m⟩
      staged := []
      holding := match m with
        | .read => s.tables.entryWords t e
        | .write => o.holding }

/-- T-POINT (R198). -/
def answerTPoint (args : List Word) (s : State) : Answer :=
  match args with
  | [table, entry, mode] =>
    match tableIds[table.toNat]?, modeArg mode with
    | some t, some m =>
      if entry.toNat < t.entries then
        ⟨setPointer t entry.toNat m s, .done, s.orders.pointer.toWords ++ [Word.nat s.orders.staged.length]⟩
      else refuse .refusedArgument s
    | _, _ => refuse .refusedArgument s
  | _ => refuse .refusedArgument s

/-! ### T-WRITE (R199) -/

/-- A T-WRITE in progress: the words used, the entries committed, the most severe result, and whether it has
stopped. -/
structure WriteRun where
  state : State
  used : Nat
  committed : Nat
  result : Result
  stopped : Bool

/-- An entry is full: it is checked, and committed or refused whole. -/
def completeEntry (staged : List Word) (r : WriteRun) : WriteRun :=
  let p := r.state.orders.pointer
  match r.state.tables.commit p.table p.entry staged with
  | some (t, clamped) =>
    { r with
      state := (r.state.modTables fun _ => t).modOrders fun o => { o with staged := [], pointer := p.nextEntry }
      committed := r.committed + 1
      result := if clamped then .doneClamped else r.result }
  | none =>
    { r with
      state := r.state.modOrders fun o => { o with staged := [], pointer := { p with field := 0 } }
      result := .refusedArgument
      stopped := true }

/-- One word of a T-WRITE is placed in the staged copy. -/
def writeWord (r : WriteRun) (w : Word) : WriteRun :=
  if r.stopped then r
  else
    let o := r.state.orders
    let staged := o.staged ++ [w]
    if o.pointer.table.fields ≤ o.pointer.field + 1 then completeEntry staged { r with used := r.used + 1 }
    else
      { r with
        used := r.used + 1
        state := r.state.modOrders fun o =>
          { o with staged := staged, pointer := { o.pointer with field := o.pointer.field + 1 } } }

/-- T-WRITE (R199). -/
def answerTWrite (args : List Word) (s : State) : Answer :=
  if args.length = 0 then refuse .refusedArgument s
  else
    match s.orders.pointer.mode with
    | .read => refuse .refusedState s
    | .write =>
      let r := args.foldl writeWord ⟨s, 0, 0, .done, false⟩
      ⟨r.state, r.result, [Word.nat r.used, Word.nat r.committed] ++ r.state.orders.pointer.toWords⟩

/-! ### T-READ (R200) -/

/-- One word is read from the holding copy, and the pointer advances. -/
def readWord (s : State) : State × Word :=
  let o := s.orders
  let w := o.holding.getD o.pointer.field Word.none
  if o.pointer.table.fields ≤ o.pointer.field + 1 then
    let p := o.pointer.nextEntry
    (s.modOrders fun o => { o with pointer := p, holding := s.tables.entryWords p.table p.entry }, w)
  else (s.modOrders fun o => { o with pointer := { o.pointer with field := o.pointer.field + 1 } }, w)

/-- `n` words are read. -/
def readWords : Nat → State → State × List Word
  | 0, s => (s, [])
  | n + 1, s =>
    let (s1, w) := readWord s
    let (s2, ws) := readWords n s1
    (s2, w :: ws)

/-- T-READ (R200). -/
def answerTRead (args : List Word) (s : State) : Answer :=
  match args with
  | [w] =>
    match s.orders.pointer.mode with
    | .write => refuse .refusedState s
    | .read =>
      let n := clampTo 1 16 w.toNat
      let (s1, ws) := readWords n.1 s
      ⟨s1, if n.2 then .doneClamped else .done, ws ++ s1.orders.pointer.toWords⟩
  | _ => refuse .refusedArgument s

end Sys2Proof.Machine
end

