-- ==== Sys2Proof/Machine/Reports.lean ====
section
/-!
DEFINITION. What each block presents for STATUS, the counters of every block for COUNTERS, and LINK-STATUS (R13, R39,
R61, R86, R116, R141, R161, R181, R182, R194, R203, R204, R208).
-/

namespace Sys2Proof.Machine

/-! ### STATUS (R203, R208) -/

/-- The studio input's presentation (R13). -/
def StudioInput.shown (i : StudioInput) : List Word :=
  [Word.flag i.lost, Word.option (i.expected.map BitVec.toNat), Word.nat i.queue.length, Word.nat i.missingRun,
    Word.nat i.width]

/-- The number of routes whose steps left is above 0. -/
def MixEngine.ramping (m : MixEngine) : Nat := m.ramps.toList.countP fun r => 0 < r.left

/-- The mix engine's presentation (R39). -/
def MixEngine.shown (m : MixEngine) : List Word :=
  [Word.nat m.mask.toNat, Word.nat m.ramping, Word.flag m.clampedLeft, Word.flag m.clampedRight, Word.flag m.clampedCue]

/-- The delay line's presentation (R61). -/
def DelayLine.shown (d : DelayLine) : List Word :=
  [Word.nat d.state.code, Word.nat d.held, Word.nat d.target, Word.nat d.lastGiven.peak]

/-- The ready queue from head to tail, in six words, 255 after its tail (log entry 19). -/
def LineUnit.readyWords (l : LineUnit) : List Word :=
  (List.range 6).map fun p => Word.place (l.ready[p]?.map Fin.val)

/-- The line unit's presentation (R86). -/
def LineUnit.shown (l : LineUnit) : List Word :=
  (l.lines.toList.map fun r => Word.nat r.state.code) ++
    (l.lines.toList.map fun r => Word.nat r.timeInState) ++
    (l.lines.toList.map fun r => Word.nat r.tag.toNat) ++
    l.readyWords ++
    [Word.place (l.screening.map Fin.val), Word.nat l.onAir, Word.nat l.capacity]

/-- The slot of a fill record, and its page index. -/
def FillRecord.place : FillRecord → Option (Fin 32 × Nat)
  | .nothing => none
  | .opened b => some (b.slot, b.pageIndex)
  | .refused n p _ => some (n, p)
  | .cut n p => some (n, p)

/-- The clip store's presentation, with the three players (R116). -/
def presentClips (c : ClipStore) (players : Vector Player 3) : List Word :=
  [Word.nat c.freeCount, Word.nat c.reserve] ++
    (c.slots.toList.map fun t => Word.nat t.state.code) ++
    (c.slots.toList.map fun t => Word.nat t.kind.code) ++
    (c.slots.toList.map fun t => Word.nat t.length) ++
    (c.slots.toList.map fun t => Word.nat t.useCount) ++
    (c.slots.toList.map fun t => Word.option (t.stamp.map BitVec.toNat)) ++
    [Word.nat c.fill.code, Word.place (c.fill.place.map fun p => p.1.val), Word.option (c.fill.place.map Prod.snd),
      Word.flag c.channelHeld] ++
    (players.toList.map fun p => Word.nat p.state.code) ++
    (players.toList.map fun p => Word.place (p.slot.map Fin.val)) ++
    (players.toList.map fun p => Word.nat p.position)

/-- The identity word of an identity, or the none word. -/
def Word.identity (i : Option Identity) : Word := (i.map Identity.word).getD Word.none

/-- Alert intake's presentation (R141). The unset mark of the minute of week is the 65,535 that R121 names for it (R208,
log entry 26). -/
def AlertIntake.shown (a : AlertIntake) : List Word :=
  [Word.nat (a.minuteOfWeek.getD 65535), Word.nat a.queue.length, Word.nat a.freeWords, Word.flag a.tornHeld,
    Word.nat (a.recent.toList.countP Option.isSome), Word.nat a.recording.state.code, Word.identity a.recording.identity,
    Word.place (a.recording.slot.map Fin.val), Word.nat a.recording.position]

/-- The attention source as it is sent: its slot number, or 254 for the tone (R208). -/
def AttentionSource.code : AttentionSource → Nat
  | .slot n => n.val
  | .tone => 254

/-- The air stage's presentation (R161). -/
def AirStage.shown (a : AirStage) : List Word :=
  [Word.nat a.state.code, Word.identity a.airing, Word.nat a.attention.code, Word.nat a.position, Word.flag a.impaired,
    Word.nat a.waitSet.length, Word.flag a.bypass]

/-- The link unit's presentation, with the negotiation phase and the burst number (R181, R194, R208). -/
def LinkUnit.shown (l : LinkUnit) : List Word :=
  [Word.nat l.mode.code, Word.option (l.level.map Level.code), Word.nat l.sfc, Word.nat l.rfc, Word.nat l.queue.length,
    Word.nat l.phase.code, Word.nat l.burstNumber]

/-- The order unit's presentation (R203). -/
def OrderUnit.shown (o : OrderUnit) : List Word :=
  [Word.nat o.queue.length] ++ o.pointer.toWords ++ [Word.nat o.staged.length]

/-- The notice unit's presentation: the latch set and the stored details (R203, R208). -/
def NoticeUnit.shown (n : NoticeUnit) : List Word :=
  Word.nat n.latchSet :: n.latches.toList.flatMap fun d => d.getD []

/-- The data words of the STATUS reply, block by block (R208). -/
def statusWords (s : State) : List Word :=
  s.studio.shown ++ s.mix.shown ++ s.delay.shown ++ s.line.shown ++ presentClips s.clips s.players ++
    s.intake.shown ++ s.air.shown ++ s.link.shown ++ s.orders.shown ++ s.notices.shown

/-- Every latch is cleared, and the repeat timer stops (R202, R203). -/
def clearLatches (s : State) : State :=
  s.modNotices fun n => { n with latches := Vector.replicate 25 none, repeatTimer := 0 }

/-- STATUS (R203). -/
def answerStatus (args : List Word) (s : State) : Answer :=
  match args with
  | [] => ⟨clearLatches s, .done, statusWords s⟩
  | _ => refuse .refusedArgument s

/-! ### COUNTERS (R204, R208) -/

def StudioCounters.values (k : StudioCounters) : List Nat :=
  [k.malformed, k.late, k.duplicate, k.resync, k.missing, k.losses]

def MixCounters.values (k : MixCounters) : List Nat := [k.pgmLeft, k.pgmRight, k.cue, k.feed]

def DelayCounters.values (k : DelayCounters) : List Nat := [k.insertion, k.skip, k.dump, k.overflow, k.rejoin]

def LineCounters.values (k : LineCounters) : List Nat :=
  [k.missed, k.abandoned, k.hangUp, k.dropped, k.holdTimeout, k.fault, k.missingFrame, k.eventError]

def ClipCounters.values (k : ClipCounters) : List Nat :=
  [k.burstBad, k.burstFull, k.burstRefused, k.burstCut, k.abandoned, k.stray, k.eviction, k.ended, k.chainFailure]

def IntakeCounters.values (k : IntakeCounters) : List Nat :=
  [k.error, k.stale, k.duplicate, k.filterDiscard, k.accepted, k.lost, k.expiry, k.unmatched, k.audioShort]

def AirCounters.values (k : AirCounters) : List Nat := [k.airings, k.cancels, k.reAir, k.underrun, k.deadline]

def LinkCounters.values (k : LinkCounters) : List Nat :=
  [k.missing, k.unknown, k.corrupt, k.gap, k.cut, k.restored, k.probeFailure, k.messageLost, k.sleepsRequested,
    k.sleepsEntered, k.sleepsRefused, k.sleepsAborted, k.wakesStarted, k.wakeBurst, k.wakesCompleted, k.wakeFailure]

/-- Every counter of every block, in the order of R208. -/
def counterValues (s : State) : List Nat :=
  s.studio.counters.values ++ s.mix.counters.values ++ s.delay.counters.values ++ s.line.counters.values ++
    s.clips.counters.values ++ s.intake.counters.values ++ s.air.counters.values ++ s.link.counters.values ++
    [s.orders.malformed, s.orders.queueFull, s.orders.refused, s.notices.latched, s.notices.repeated]

/-- Every counter returns to 0, and the climb marks are cleared (R30, R168, R204). -/
def clearCounters (s : State) : State :=
  { s with
    studio := { s.studio with counters := StudioInput.reset.counters }
    mix := { s.mix with counters := MixEngine.reset.counters, climbLeft := false, climbRight := false }
    delay := { s.delay with counters := DelayLine.reset.counters }
    line := { s.line with counters := LineUnit.reset.counters }
    clips := { s.clips with counters := ClipStore.reset.counters }
    intake := { s.intake with counters := AlertIntake.reset.counters }
    air := { s.air with counters := AirStage.reset.counters }
    link := { s.link with counters := LinkUnit.reset.counters, climb := false }
    orders := { s.orders with malformed := 0, queueFull := 0, refused := 0 }
    notices := { s.notices with latched := 0, repeated := 0 } }

/-- COUNTERS (R204). -/
def answerCounters (args : List Word) (s : State) : Answer :=
  match args with
  | [] => ⟨clearCounters s, .done, (counterValues s).map Word.nat⟩
  | _ => refuse .refusedArgument s

/-! ### LINK-STATUS (R182) -/

/-- The number, kind, send count and resend timer of the message in flight: number 255 for none. -/
def flightWords (f : Option InFlight) : List Word :=
  [Word.place (f.map fun m => m.message.number.toNat), Word.option (f.map fun m => m.message.kind.code),
    Word.option (f.map InFlight.sends), Word.option (f.map InFlight.timer)]

/-- The fault capture: its mark for empty, then the fault record. -/
def captureWords (c : Option FaultRecord) : List Word :=
  [Word.flag c.isNone, Word.option (c.map fun r => r.kind.code), Word.option (c.map FaultRecord.reference),
    Word.option (c.map fun r => r.mode.code), Word.option (c.map FaultRecord.sfc), Word.option (c.map FaultRecord.rfc)]

/-- The data words of LINK-STATUS, with the negotiation phase and the burst number of R194 after those of R182. -/
def linkWords (l : LinkUnit) : List Word :=
  [Word.nat l.mode.code, Word.option (l.level.map Level.code), Word.nat l.sfc, Word.nat l.rfc, Word.nat l.warningLimit,
    Word.nat l.nextSeq.toNat, Word.nat l.lastSeq.toNat, Word.nat l.judged.toNat, Word.nat l.queue.length] ++
    flightWords l.inFlight ++ captureWords l.capture ++
    [Word.nat l.faultsSince, Word.flag l.lockSeen, Word.flag l.lockLost, Word.option (l.lastFar.map FarState.code),
      Word.option (l.lastAck.map BitVec.toNat), Word.nat l.phase.code, Word.nat l.burstNumber]

/-- LINK-STATUS (R182). -/
def answerLinkStatus (args : List Word) (s : State) : Answer :=
  match args with
  | [] =>
    ⟨s.modLink fun l => { l with capture := none, faultsSince := 0, lockSeen := false, lockLost := false }, .done,
      linkWords s.link⟩
  | _ => refuse .refusedArgument s

end Sys2Proof.Machine
end

