-- ==== Sys2Proof/Machine/Orders.lean ====
section
/-!
DEFINITION. The order unit (sections 10.1 and 10.2): the arrival of an ORDER frame, the taking of the order at the head
of the queue, and the answers that stand in no other file. The order commands.
-/

namespace Sys2Proof.Machine

/-! ### The arrival (R195, R207, R209) -/

/-- A frame on the studio port that is counted in the malformed order counter. -/
def countMalformedOrder (s : State) : State := s.modOrders fun o => { o with malformed := bump o.malformed 1 }

/-- The order that an ORDER frame of at least 5 bytes carries: its argument words where the count is at most 16 and
agrees with the frame's length. Byte 5, where the layout gives 0 (R209), is not looked at (log entry 14). -/
def readOrder (src : MacAddress) (frame : List Byte) : QueuedOrder :=
  let n := (byteAt frame 1).toNat
  { source := src
    tag := BitVec.ofNat 16 (beAt frame 2 2)
    code := byteAt frame 4
    args := if n ≤ 16 && frame.length = 6 + 6 * n then some (wordsAt frame 6 n) else none
    fresh := true }

/-- An order arrives at the order queue (R195). -/
def queueOrder (o : QueuedOrder) (s : State) : State :=
  if s.orders.queue.length < Config.orderQueueSize then s.modOrders fun u => { u with queue := u.queue ++ [o] }
  else
    sendReply o.source o.tag o.code Result.refusedFull.code []
      (s.modOrders fun u => { u with queueFull := bump u.queueFull 1 })

/-- A studio port frame that is no PROGRAMME, FILL or FILL-CHECK frame arrives (R195, R207). -/
def orderArrives (src : MacAddress) (frame : List Byte) (s : State) : State :=
  match frame.head? with
  | some 0x02 =>
    let bytes := unpadded (6 + 6 * (byteAt frame 1).toNat) frame
    if 5 ≤ bytes.length then queueOrder (readOrder src bytes) s else countMalformedOrder s
  | some 0x01 | some 0x03 | some 0x04 => s
  | _ => countMalformedOrder s

/-! ### The taking (R196, R197, R204) -/

/-- A result counted by the refused order counter: a refusal other than REFUSED_FULL. -/
def Result.countedRefusal : Result → Bool
  | .refusedState | .refusedArgument | .refusedUnknown => true
  | .done | .doneClamped | .refusedFull => false

/-- The answer of an order whose form is bad, or of its handler (R197). -/
def judgeForm (handler : List Word → State → Answer) (o : QueuedOrder) (s : State) : Answer :=
  match o.args with
  | some args => handler args s
  | none => refuse .refusedArgument s

/-- An answer's REPLY leaves, and a refusal is counted in the refused order counter (R204), that of an ALERT-TEST too,
of which R139 says that no counter moves (log entry 48). -/
def reply (o : QueuedOrder) (a : Answer) : State :=
  sendReply o.source o.tag o.code a.result.code a.words
    (a.state.modOrders fun u => { u with refused := bump u.refused (if a.result.countedRefusal then 1 else 0) })

/-- The order `o` can be taken in this frame period: no order has been taken in it (R196), and `o` did not arrive in it
(R205, log entry 4). -/
def OrderUnit.ready (u : OrderUnit) (o : QueuedOrder) : Bool := !u.taken && !o.fresh

/-- The order at the head of the queue leaves it, no other order being taken in this frame period. -/
def dequeue (rest : List QueuedOrder) (s : State) : State := s.modOrders fun u => { u with queue := rest, taken := true }

/-- The taking of the order at the head of the queue, where its code is `code` and it can be taken in this frame period
(R196, R205, log entry 4). `after` follows the reply of an order answered DONE. -/
def takeOrder (code : Byte → Bool) (handler : List Word → State → Answer) (after : State → State) (s : State) : State :=
  match s.orders.queue with
  | [] => s
  | o :: rest =>
    if code o.code && s.orders.ready o then
      let a := judgeForm handler o (dequeue rest s)
      if a.result = .done then after (reply o a) else reply o a
    else s

/-- The taking of an order of one code. -/
def takeCode (code : Byte) (handler : List Word → State → Answer) (s : State) : State :=
  takeOrder (· == code) handler id s

/-! ### The answers of other orders -/

/-- An order that carries no argument words (R197). -/
def noArgs (f : State → Answer) (args : List Word) (s : State) : Answer :=
  match args with
  | [] => f s
  | _ => refuse .refusedArgument s

/-- BYPASS (R146). -/
def answerBypass (args : List Word) (s : State) : Answer :=
  match args with
  | [w] =>
    match flagField w with
    | some on =>
      let s1 := setBypass on s
      ⟨s1, .done, [Word.flag s.air.bypass, Word.nat s1.air.state.code]⟩
    | none => refuse .refusedArgument s
  | _ => refuse .refusedArgument s

/-- DUMP (R53, R54). -/
def answerDump (args : List Word) (s : State) : Answer :=
  noArgs (fun s =>
    let s1 := dumpWork s
    ⟨s1, .done, [Word.nat (s.delay.held - s1.delay.held), Word.nat s1.delay.held, Word.nat s1.delay.state.code]⟩) args s

/-- BREAK (R150). -/
def answerBreak (args : List Word) (s : State) : Answer :=
  noArgs (fun s =>
    let s1 := breakEvent s
    ⟨s1, .done, [Word.nat s1.air.state.code, Word.identity s1.air.airing]⟩) args s

/-- LINK-SLEEP (R187). -/
def answerLinkSleep (args : List Word) (s : State) : Answer :=
  noArgs (fun s =>
    if sleepAllowed s then
      let s1 := startSleep s
      ⟨s1, .done, [Word.nat s1.link.mode.code, Word.place (s1.link.requestNumber.map BitVec.toNat)]⟩
    else refuse .refusedState s) args s

/-- LINK-WAKE (R191): an abort has told the air stage that the mode has entered RUN, and it runs its selection (R158).
-/
def answerLinkWake (args : List Word) (s : State) : Answer :=
  noArgs (fun s =>
    let s1 := match s.link.mode with
      | .sleepPending => select (wakeOrAbort 4 s)
      | .asleep => wakeOrAbort 4 s
      | .run | .waking | .cut => s
    ⟨s1, .done, [Word.nat s1.link.mode.code]⟩) args s

/-- CLIP-OPEN (R95). -/
def answerClipOpen (args : List Word) (s : State) : Answer :=
  match args with
  | [slot, length] =>
    match finOf 32 slot.toNat with
    | some n =>
      if (s.clips.slots.get n).state = .empty then
        let d := max 1 (min length.toNat Config.maxClipFrames)
        ⟨s.modClips fun c => c.modSlot n fun _ => ⟨.filling, .cart, d, 0, [], 0, none⟩,
          if d = length.toNat then .done else .doneClamped,
          [Word.nat n.val, Word.nat SlotState.filling.code, Word.nat (pagesFor d)]⟩
      else refuse .refusedState s
    | none => refuse .refusedArgument s
  | _ => refuse .refusedArgument s

/-- CLIP-ABORT (R101): the pages returned include the burst page of an open record. -/
def answerClipAbort (args : List Word) (s : State) : Answer :=
  match args with
  | [slot] =>
    match finOf 32 slot.toNat with
    | some n =>
      if (s.clips.slots.get n).state = .filling then
        let c1 := match s.clips.fill with
          | .opened b => if b.slot = n then s.clips.replaceFill .nothing else s.clips
          | _ => s.clips
        let c2 := c1.emptySlot n
        ⟨s.modClips fun _ => c2, .done,
          [Word.nat n.val, Word.nat (c2.freeCount - s.clips.freeCount), Word.nat c2.freeCount]⟩
      else refuse .refusedState s
    | none => refuse .refusedArgument s
  | _ => refuse .refusedArgument s

/-- CLIP-ERASE (R102). -/
def answerClipErase (args : List Word) (s : State) : Answer :=
  match args with
  | [slot] =>
    match finOf 32 slot.toNat with
    | some n =>
      let t := s.clips.slots.get n
      if t.state = .ready && t.useCount = 0 then
        let c := s.clips.emptySlot n
        ⟨s.modClips fun _ => c, .done, [Word.nat n.val, Word.nat t.chain.length, Word.nat c.freeCount]⟩
      else refuse .refusedState s
    | none => refuse .refusedArgument s
  | _ => refuse .refusedArgument s

/-- The codes that name an order (R197). -/
def orderCodes : List Byte :=
  [0x10, 0x11, 0x12, 0x20, 0x21, 0x22, 0x23, 0x26, 0x27, 0x28, 0x40, 0x41, 0x42, 0x43, 0x44, 0x45, 0x50, 0x51, 0x52,
    0x58, 0x59, 0x5A, 0x60, 0x61, 0x62, 0x63, 0x64, 0x68, 0x69, 0x6A]

/-- The taking of an order whose code names no order (R197). -/
def takeUnknown (s : State) : State :=
  match s.orders.queue with
  | [] => s
  | o :: rest =>
    if !orderCodes.contains o.code && s.orders.ready o then reply o (refuse .refusedUnknown (dequeue rest s)) else s

/-! ### The commands -/

/-- ORDER (R195, R207). -/
def execOrder (src : MacAddress) (frame : List Byte) (s : State) : Host.Outcome State Fault Refusal :=
  perform (orderArrives src frame) s

/-- UNKNOWN_ORDER (R197). -/
def execUnknownOrder (s : State) : Host.Outcome State Fault Refusal := perform takeUnknown s

/-- T_POINT (R198). -/
def execTPoint (s : State) : Host.Outcome State Fault Refusal := perform (takeCode 0x10 answerTPoint) s

/-- T_WRITE (R199). -/
def execTWrite (s : State) : Host.Outcome State Fault Refusal := perform (takeCode 0x11 answerTWrite) s

/-- T_READ (R200). -/
def execTRead (s : State) : Host.Outcome State Fault Refusal := perform (takeCode 0x12 answerTRead) s

/-- STATUS (R203). -/
def execStatus (s : State) : Host.Outcome State Fault Refusal := perform (takeCode 0x20 answerStatus) s

/-- MASK (R21). -/
def execMask (s : State) : Host.Outcome State Fault Refusal := perform (takeCode 0x21 answerMask) s

/-- COUNTERS (R204). -/
def execCounters (s : State) : Host.Outcome State Fault Refusal := perform (takeCode 0x22 answerCounters) s

/-- TIME_SET (R121). -/
def execTimeSet (s : State) : Host.Outcome State Fault Refusal := perform (takeCode 0x26 answerTimeSet) s

/-- BYPASS (R146). -/
def execBypass (s : State) : Host.Outcome State Fault Refusal := perform (takeCode 0x27 answerBypass) s

/-- DUMP (R53, R54). -/
def execDump (s : State) : Host.Outcome State Fault Refusal := perform (takeCode 0x28 answerDump) s

/-- LINE_ANSWER (R77). -/
def execLineAnswer (s : State) : Host.Outcome State Fault Refusal := perform (takeCode 0x40 answerLineAnswer) s

/-- LINE_HOLD (R78). -/
def execLineHold (s : State) : Host.Outcome State Fault Refusal := perform (takeCode 0x41 answerLineHold) s

/-- LINE_READY (R79). -/
def execLineReady (s : State) : Host.Outcome State Fault Refusal := perform (takeCode 0x42 answerLineReady) s

/-- LINE_TAKE (R80). -/
def execLineTake (s : State) : Host.Outcome State Fault Refusal := perform (takeCode 0x43 answerLineTake) s

/-- LINE_DROP (R82). -/
def execLineDrop (s : State) : Host.Outcome State Fault Refusal := perform (takeCode 0x44 answerLineDrop) s

/-- LINE_TAG (R83). -/
def execLineTag (s : State) : Host.Outcome State Fault Refusal := perform (takeCode 0x45 answerLineTag) s

/-- CLIP_OPEN (R95). -/
def execClipOpen (s : State) : Host.Outcome State Fault Refusal := perform (takeCode 0x50 answerClipOpen) s

/-- CLIP_ABORT (R101). -/
def execClipAbort (s : State) : Host.Outcome State Fault Refusal := perform (takeCode 0x51 answerClipAbort) s

/-- CLIP_ERASE (R102). -/
def execClipErase (s : State) : Host.Outcome State Fault Refusal := perform (takeCode 0x52 answerClipErase) s

/-- PLAYER_CUE (R109). -/
def execPlayerCue (s : State) : Host.Outcome State Fault Refusal := perform (takeCode 0x58 answerPlayerCue) s

/-- PLAYER_START (R110). -/
def execPlayerStart (s : State) : Host.Outcome State Fault Refusal := perform (takeCode 0x59 answerPlayerStart) s

/-- PLAYER_STOP (R111). -/
def execPlayerStop (s : State) : Host.Outcome State Fault Refusal := perform (takeCode 0x5A answerPlayerStop) s

/-- ALERT_LIST (R138). -/
def execAlertList (s : State) : Host.Outcome State Fault Refusal := perform (takeCode 0x60 answerAlertList) s

/-- ALERT_RELEASE (R137). -/
def execAlertRelease (s : State) : Host.Outcome State Fault Refusal := perform (takeCode 0x61 answerAlertRelease) s

/-- ALERT_CANCEL (R159). -/
def execAlertCancel (s : State) : Host.Outcome State Fault Refusal := perform (takeCode 0x62 answerAlertCancel) s

/-- ALERT_TEST (R139). -/
def execAlertTest (s : State) : Host.Outcome State Fault Refusal := perform (takeCode 0x63 answerAlertTest) s

/-- BREAK (R150). -/
def execBreakOrder (s : State) : Host.Outcome State Fault Refusal := perform (takeCode 0x64 answerBreak) s

/-- LINK_SLEEP (R187). -/
def execLinkSleep (s : State) : Host.Outcome State Fault Refusal := perform (takeCode 0x68 answerLinkSleep) s

/-- LINK_WAKE (R191). -/
def execLinkWake (s : State) : Host.Outcome State Fault Refusal := perform (takeCode 0x69 answerLinkWake) s

/-- LINK_STATUS (R182). -/
def execLinkStatus (s : State) : Host.Outcome State Fault Refusal := perform (takeCode 0x6A answerLinkStatus) s

end Sys2Proof.Machine
end

