-- ==== Sys2Proof/Machine/Resets.lean ====
section
/-!
DEFINITION. The two resets (R205, R206), and the frame period with the repeat timer (R1, R202). The POWER_ON_RESET,
RESTART, FRAME_PERIOD and REPEAT_TIMER commands.
-/

namespace Sys2Proof.Machine

/-! ### Power-on reset (R205) -/

/-- Every block takes its state after power-on reset. The commands that wait are the model's own, and stay. -/
def powerOn (s : State) : State := State.reset.modPending fun _ => s.pending

/-! ### RESTART (R206) -/

/-- The RESTART effect on the clip store and the players (R118). -/
def restartClips (s : State) : State :=
  let c1 := { s.clips.replaceFill .nothing with channelHeld := false, holds := Vector.replicate 4 none }
  let c2 := { c1 with slots := c1.slots.map fun t => { t with useCount := 0 } }
  let c3 := (List.finRange 32).foldl
    (fun c n =>
      match (c.slots.get n).state with
      | .filling | .recording | .alertHeld => c.emptySlot n
      | .empty | .ready => c)
    c2
  (s.modClips fun _ => c3).modPlayers fun _ => Vector.replicate 3 Player.idle

/-- The RESTART effect on the link unit (R185, R191, R194). -/
def restartLink (s : State) : State :=
  s.modLink fun l =>
    { l.beginWake with
      level := none
      sfc := 0
      rfc := 0
      judged := l.lastSeq
      gapTimer := 0
      probeTimer := 0
      lockSeen := false
      lockLost := false
      cutDuration := 0
      cutProbeFailures := 0
      queue := []
      inFlight := none
      capture := none
      faultsSince := 0
      phase := .none
      requestNumber := none
      requestAcked := false
      requestTimer := 0
      quietTimer := 0
      lateNumber := none
      keepaliveTimer := 0
      asleepWatch := 0
      wakeTimer := 0
      counters := { l.counters with wakesStarted := bump l.counters.wakesStarted 1 }
      monitorAir := StereoFrame.silence
      notSent := true }

/-- The RESTART effects of all blocks, as one event (R206). -/
def restartAll (s : State) : State :=
  restartLink (restartAir (restartIntake (restartClips (restartLines (restartDelay (restartMix (restartStudio s)))))))

/-- RESTART without argument words is answered DONE; its effect follows the reply (R206). -/
def answerRestart (args : List Word) (s : State) : Answer := noArgs (fun s => ⟨s, .done, []⟩) args s

/-! ### The frame period (R1, R196, R202) -/

/-- The notice unit at a frame period: NOTICECONF adopted, and the repeat timer advanced where a repeating kind was
there before the adoption and is there after it; the frame of a repeat where the timer would reach 1,000 (R202). -/
def noticePeriod (s : State) : State :=
  let before := s.notices.firstRepeating.isSome
  let s1 := s.modNotices fun n => { n with conf := s.tables.noticeConf }
  match s1.notices.firstRepeating with
  | none => s1.modNotices fun n => { n with repeatTimer := 0 }
  | some k =>
    if !before then s1.modNotices fun n => { n with repeatTimer := 0 }
    else if s1.notices.repeatTimer + 1 < Config.repeatFrames then
      s1.modNotices fun n => { n with repeatTimer := n.repeatTimer + 1 }
    else
      let detail := (s1.notices.latches.get k).getD []
      sendStudio none (noticeFrame s1.notices k detail true)
        (s1.modNotices fun n => { n with repeatTimer := 0, repeated := bump n.repeated 1 })

/-- The order unit at a frame period: it may take an order again (R196), and every order that it holds arrived in an
earlier frame period (R205). -/
def OrderUnit.nextPeriod (u : OrderUnit) : OrderUnit :=
  { u with taken := false, queue := u.queue.map fun o => { o with fresh := false } }

/-- A new frame period begins: the frame count advances, the order unit may take an order again, the audio frame of an
AUDIO-BEGIN's own frame period is past (R133), the ages of the alert queue's records go on (R138), and the notice unit
does its frame. -/
def periodWork (s : State) : State :=
  noticePeriod
    (((s.modFrameCount fun n => n + 1).modOrders OrderUnit.nextPeriod).modIntake fun a =>
      { a with
        queue := a.queue.map (AlertRecord.holdAge (s.frameCount + 1))
        recording := { a.recording with fresh := false } })

/-- The repeat timer would reach 1,000 in this frame period (R202). -/
def repeatDue (s : State) : Bool :=
  let after := { s.notices with conf := s.tables.noticeConf }
  s.notices.firstRepeating.isSome && after.firstRepeating.isSome && Config.repeatFrames ≤ s.notices.repeatTimer + 1

/-! ### The commands -/

/-- POWER_ON_RESET (R205). -/
def execPowerOnReset (s : State) : Host.Outcome State Fault Refusal := perform powerOn s

/-- RESTART (R206). -/
def execRestart (s : State) : Host.Outcome State Fault Refusal :=
  perform (takeOrder (· == 0x23) answerRestart restartAll) s

/-- FRAME_PERIOD (R1). -/
def execFramePeriod (s : State) : Host.Outcome State Fault Refusal := perform periodWork s

/-- REPEAT_TIMER: the frame period in which the repeat timer would reach 1,000 (R202). -/
def execRepeatTimer (s : State) : Host.Outcome State Fault Refusal := performIf repeatDue periodWork s

end Sys2Proof.Machine
end

