-- ==== Sys2Proof/Machine/Dispatch.lean ====
section
/-!
DEFINITION. The dispatch of the commands to their meanings, one arm for each.
-/

namespace Sys2Proof.Machine

/-- The effect of a command on everything but the queue of commands. -/
def exec (i : Instr) (s : State) : Host.Outcome State Fault Refusal :=
  match i with
  | .powerOnReset => Sys2Proof.Machine.execPowerOnReset s
  | .framePeriod => Sys2Proof.Machine.execFramePeriod s
  | .programme body => Sys2Proof.Machine.execProgramme body s
  | .order src frame => Sys2Proof.Machine.execOrder src frame s
  | .unknownOrder => Sys2Proof.Machine.execUnknownOrder s
  | .fill body => Sys2Proof.Machine.execFill body s
  | .fillCheck src body => Sys2Proof.Machine.execFillCheck src body s
  | .lineBusCycle slots => Sys2Proof.Machine.execLineBusCycle slots s
  | .ringLimitReached line slots => Sys2Proof.Machine.execRingLimitReached line slots s
  | .holdLimitReached line slots => Sys2Proof.Machine.execHoldLimitReached line slots s
  | .mixFrame => Sys2Proof.Machine.execMixFrame s
  | .exchange => Sys2Proof.Machine.execExchange s
  | .airFrame => Sys2Proof.Machine.execAirFrame s
  | .leadInEnd => Sys2Proof.Machine.execLeadInEnd s
  | .attentionEnd => Sys2Proof.Machine.execAttentionEnd s
  | .closingEnd => Sys2Proof.Machine.execClosingEnd s
  | .completion => Sys2Proof.Machine.execCompletion s
  | .breakDeadlineReached => Sys2Proof.Machine.execBreakDeadlineReached s
  | .send => Sys2Proof.Machine.execSend s
  | .burstEnd => Sys2Proof.Machine.execBurstEnd s
  | .wakeTimerTimeout => Sys2Proof.Machine.execWakeTimerTimeout s
  | .probe => Sys2Proof.Machine.execProbe s
  | .gapTimer => Sys2Proof.Machine.execGapTimer s
  | .messageResend => Sys2Proof.Machine.execMessageResend s
  | .messageDrop => Sys2Proof.Machine.execMessageDrop s
  | .requestTimer => Sys2Proof.Machine.execRequestTimer s
  | .quietTimer => Sys2Proof.Machine.execQuietTimer s
  | .keepalive => Sys2Proof.Machine.execKeepalive s
  | .asleepWatch => Sys2Proof.Machine.execAsleepWatch s
  | .returnFrame frame => Sys2Proof.Machine.execReturnFrame frame s
  | .header rest => Sys2Proof.Machine.execHeader rest s
  | .audioBegin rest => Sys2Proof.Machine.execAudioBegin rest s
  | .audioEnd rest => Sys2Proof.Machine.execAudioEnd rest s
  | .alertRecordDiscard record => Sys2Proof.Machine.execAlertRecordDiscard record s
  | .incompleteRecord bytes => Sys2Proof.Machine.execIncompleteRecord bytes s
  | .alertFrame audio => Sys2Proof.Machine.execAlertFrame audio s
  | .beginWaitReached audio => Sys2Proof.Machine.execBeginWaitReached audio s
  | .recordingLimit audio => Sys2Proof.Machine.execRecordingLimit audio s
  | .minuteEvent audio => Sys2Proof.Machine.execMinuteEvent audio s
  | .repeatTimer => Sys2Proof.Machine.execRepeatTimer s
  | .tPoint => Sys2Proof.Machine.execTPoint s
  | .tWrite => Sys2Proof.Machine.execTWrite s
  | .tRead => Sys2Proof.Machine.execTRead s
  | .status => Sys2Proof.Machine.execStatus s
  | .mask => Sys2Proof.Machine.execMask s
  | .counters => Sys2Proof.Machine.execCounters s
  | .restart => Sys2Proof.Machine.execRestart s
  | .timeSet => Sys2Proof.Machine.execTimeSet s
  | .bypass => Sys2Proof.Machine.execBypass s
  | .dump => Sys2Proof.Machine.execDump s
  | .lineAnswer => Sys2Proof.Machine.execLineAnswer s
  | .lineHold => Sys2Proof.Machine.execLineHold s
  | .lineReady => Sys2Proof.Machine.execLineReady s
  | .lineTake => Sys2Proof.Machine.execLineTake s
  | .lineDrop => Sys2Proof.Machine.execLineDrop s
  | .lineTag => Sys2Proof.Machine.execLineTag s
  | .clipOpen => Sys2Proof.Machine.execClipOpen s
  | .clipAbort => Sys2Proof.Machine.execClipAbort s
  | .clipErase => Sys2Proof.Machine.execClipErase s
  | .playerCue => Sys2Proof.Machine.execPlayerCue s
  | .playerStart => Sys2Proof.Machine.execPlayerStart s
  | .playerStop => Sys2Proof.Machine.execPlayerStop s
  | .alertList => Sys2Proof.Machine.execAlertList s
  | .alertRelease => Sys2Proof.Machine.execAlertRelease s
  | .alertCancel => Sys2Proof.Machine.execAlertCancel s
  | .alertTest => Sys2Proof.Machine.execAlertTest s
  | .breakOrder => Sys2Proof.Machine.execBreakOrder s
  | .linkSleep => Sys2Proof.Machine.execLinkSleep s
  | .linkWake => Sys2Proof.Machine.execLinkWake s
  | .linkStatus => Sys2Proof.Machine.execLinkStatus s

end Sys2Proof.Machine
end

