-- ==== Sys2Proof/Machine/Core.lean ====
section
/-!
DEFINITION. What the host asks of the model: its state, its step and its state after reset.
-/

/-- The TA4416 as the host's interface has it. -/
def Sys2Proof.core : Host.Core :=
  { State := Sys2Proof.Machine.State, Fault := Sys2Proof.Machine.Fault, Refusal := Sys2Proof.Machine.Refusal,
    step := Sys2Proof.Machine.step, reset := Sys2Proof.Machine.State.reset }
end

