-- ==== Sys2Proof/Safety.lean ====
section
/-!
DEFINITION. What holds of the part at every moment: the agreements that the rules state of each block's state, in the
terms that the claims use.
-/

namespace Sys2Proof.Machine

/-! ### The DRAM -/

/-- The two regions of the DRAM are in canonical form. -/
def State.memoryWf (s : State) : Bool :=
  Memory.wf PgmFrame.silence s.delay.region && Memory.wf StereoFrame.silence s.clips.region

/-! ### Studio input (R5) -/

/-- The properties of the jitter queue: at most 4 frames, in ascending order of their distance from E with no two alike,
all within the window E..E+3, and none while E is unset. -/
def StudioInput.queueWf (i : StudioInput) : Bool :=
  match i.expected with
  | none => i.queue.isEmpty
  | some e =>
    i.queue.length ≤ 4 && i.queue.all (fun f => (f.seq - e).toNat ≤ 3) &&
      decide (i.queue.Pairwise fun f g => (f.seq - e).toNat < (g.seq - e).toNat)

/-! ### Delay line (R42, R44) -/

/-- At most 65,536 frames are held, the read position is a block, the target in force and the committed one are at most
60,000, and the delay state is the one that follows from the hold flag, the bypass flag, the held count and the
target. -/
def State.delayWf (s : State) : Bool :=
  s.delay.held ≤ Config.delayBlocks && s.delay.readPos < Config.delayBlocks && s.delay.target ≤ 60000 &&
    s.setting Setting.delayTarget ≤ 60000 && s.delay.state = s.delay.derived s.air.bypass

/-! ### Line unit (R67, R69, R79) -/

/-- The lines in a state. -/
def LineUnit.linesIn (l : LineUnit) (x : LineState) : List (Fin 6) :=
  (List.finRange 6).filter fun k => (l.line k).state = x

/-- The shared items agree with the line records: the ready queue holds exactly the READY lines, each once; the
screening line is the one line in SCREENING, if any; the on-air count is the number of lines ON_AIR. -/
def LineUnit.agrees (l : LineUnit) : Bool :=
  decide (l.ready.Perm (l.linesIn .ready)) && l.linesIn .screening = l.screening.toList &&
    l.onAir = (l.linesIn .onAir).length

/-! ### Clip store (R89, R91, R92) -/

/-- The pages that slots hold, and the burst page in flight. -/
def ClipStore.usedPages (c : ClipStore) : List Nat :=
  c.slots.toList.flatMap Slot.chain ++
    match c.fill with
    | .opened b => [b.page]
    | _ => []

/-- Each of the 768 pages is in exactly one place: the free-page list, one slot's chain, or the burst in flight. -/
def ClipStore.pagesWf (c : ClipStore) : Bool := decide ((c.free ++ c.usedPages).Perm (List.range Config.clipPages))

/-- The readers that hold slot `n`. -/
def ClipStore.holders (c : ClipStore) (n : Fin 32) : Nat := c.holds.toList.countP fun h => h = some n

/-- The use count of every slot is the number of readers that hold it. -/
def ClipStore.holdsWf (c : ClipStore) : Bool :=
  (List.finRange 32).all fun n => (c.slots.get n).useCount = c.holders n

/-- The states in which a slot can be held. -/
def SlotState.holdable : SlotState → Bool
  | .ready | .recording | .alertHeld => true
  | .empty | .filling => false

/-- An EMPTY slot has no pages, the slot of an open burst is FILLING, and a slot held by a reader is holdable. -/
def ClipStore.slotsWf (c : ClipStore) : Bool :=
  ((List.finRange 32).all fun n =>
    ((c.slots.get n).state ≠ .empty || (c.slots.get n).chain.isEmpty) &&
      ((c.slots.get n).state.holdable || c.holders n = 0)) &&
    match c.fill with
    | .opened b => (c.slots.get b.slot).state = .filling
    | _ => true

/-- A slot that an eviction may empty: READY, of kind CART, held by no reader, its lock off (R106). -/
def ClipStore.evictable (c : ClipStore) (n : Fin 32) : Prop :=
  (c.slots.get n).state = .ready ∧ (c.slots.get n).kind = .cart ∧ (c.slots.get n).useCount = 0 ∧
    (c.conf.get n).lock = false

/-- The slot that an eviction empties: of those it may empty, the one with the oldest stamp, "never" being older than
every frame count, and the lowest slot number among equals (R106). -/
def ClipStore.Evicts (c : ClipStore) (now : BitVec 32) (n : Fin 32) : Prop :=
  let age (m : Fin 32) : Nat := ((c.slots.get m).stamp.map fun t => (now - t).toNat).getD (2 ^ 32)
  c.evictable n ∧ ∀ m, c.evictable m → age m < age n ∨ (age m = age n ∧ n ≤ m)

/-! ### Alert intake (R125, R129, R132) -/

/-- The records total at most 192 words, each stores at least one, and no identity is in the queue twice. -/
def AlertIntake.queueWf (a : AlertIntake) : Bool :=
  storedWords a.queue ≤ Config.storeWords && a.queue.all (fun r => 1 ≤ r.words.length) &&
    decide (a.queue.map AlertRecord.identity).Nodup

/-- The states of an ALERT slot. -/
def SlotState.alert : SlotState → Bool
  | .recording | .alertHeld => true
  | .empty | .filling | .ready => false

/-- The records that name slot `n`. -/
def AlertIntake.naming (a : AlertIntake) (n : Fin 32) : Nat := a.queue.countP fun r => r.slot = some n

/-- Every slot in RECORDING or ALERT_HELD is named by exactly one record, and no other slot is named. -/
def State.alertSlotsWf (s : State) : Bool :=
  (List.finRange 32).all fun n =>
    s.intake.naming n = if (s.clips.slots.get n).state.alert then 1 else 0

/-- A recording names the RECORDING slot of the record with its identity, its position below the limit; NONE names
none. -/
def State.recordingWf (s : State) : Bool :=
  let r := s.intake.recording
  match r.slot, r.identity with
  | some n, some i =>
    (s.clips.slots.get n).state = .recording && (s.intake.find i).bind AlertRecord.slot = some n &&
      r.position < Config.recordingLimit && r.state ≠ .none
  | none, none => r.state = .none
  | _, _ => false

/-- The clip store and alert intake agree: pages, holds, slots, alert slots and the recording. -/
structure State.StoreWf (s : State) : Prop where
  pages : s.clips.pagesWf = true
  holds : s.clips.holdsWf = true
  slots : s.clips.slotsWf = true
  queue : s.intake.queueWf = true
  alerts : s.alertSlotsWf = true
  recording : s.recordingWf = true

/-! ### Link unit (R164, R172, R173, R177) -/

/-- SFC and RFC lie within 0..255, the level is none exactly outside RUN and SLEEP_PENDING, and at most 8 messages are
pending. -/
def LinkUnit.wf (l : LinkUnit) : Bool :=
  l.sfc ≤ 255 && l.rfc ≤ 255 && l.level.isSome = l.mode.audio && l.queue.length ≤ Config.messageQueueSize

/-! ### Order unit (R195) -/

/-- The order queue holds at most 16 orders. -/
def OrderUnit.wf (o : OrderUnit) : Bool := o.queue.length ≤ Config.orderQueueSize

/-! ### Every block -/

/-- What holds of the part at every moment. -/
structure State.Safe (s : State) : Prop where
  memory : s.memoryWf = true
  jitter : s.studio.queueWf = true
  delay : s.delayWf = true
  lines : s.line.agrees = true
  store : s.StoreWf
  link : s.link.wf = true
  orders : s.orders.wf = true

/-! ### The air stage (R157, R160, R193) -/

/-- The delay line's hold flag is set exactly in ATTENTION, MESSAGE and CLOSING. -/
def State.holdAgrees (s : State) : Bool := s.delay.hold = s.air.state.readsLink

/-- From LEAD_IN to LEAD_OUT the link mode is neither SLEEP_PENDING nor ASLEEP. -/
def State.airLinked (s : State) : Bool := !s.air.state.onAir || (s.link.mode ≠ .sleepPending && s.link.mode ≠ .asleep)

/-- Every record with its on-air mark set is present and the airing identity of an air stage between WAIT_LINK and
LEAD_OUT. -/
def State.marksAgree (s : State) : Bool :=
  s.intake.queue.all fun r =>
    !r.onAir || (s.air.present && s.air.airing = some r.identity && (s.air.state.onAir || s.air.state = .waitLink))

/-! ### Orders (R195 to R197, R207) -/

/-- The order `o`, of code `code` and with argument words `args`, is at the head of the order queue with `rest` behind
it, having arrived in an earlier frame period, and no order has been taken in this one. -/
structure State.Heads (s : State) (o : QueuedOrder) (rest : List QueuedOrder) (code : Byte) (args : List Word) : Prop where
  queue : s.orders.queue = o :: rest
  code : o.code = code
  args : o.args = some args
  free : s.orders.taken = false
  waited : o.fresh = false

/-- The order unit once the order before `rest` has been taken with a result. -/
def OrderUnit.took (u : OrderUnit) (rest : List QueuedOrder) (r : Result) : OrderUnit :=
  { u with queue := rest, taken := true, refused := min (u.refused + if r.countedRefusal then 1 else 0) 65535 }

/-- The REPLY frame to an order, for at most 240 data words. -/
def replyTo (o : QueuedOrder) (r : Result) (ws : List Word) : StudioFrame :=
  studioFrame (some o.source) (replyFrame o.tag o.code r.code 0 true ws)

/-- The state once the order `o` before `rest` has been taken and answered by one REPLY frame, and nothing else has been
sent. -/
def State.answered (s : State) (o : QueuedOrder) (rest : List QueuedOrder) (r : Result) (ws : List Word) : State :=
  { s with orders := s.orders.took rest r, sent := ⟨[replyTo o r ws], [], []⟩ }

/-- The order rows with their codes. -/
def orderRows : List (Instr × Byte) :=
  ([(.tPoint, 0x10), (.tWrite, 0x11), (.tRead, 0x12), (.status, 0x20), (.mask, 0x21), (.counters, 0x22),
    (.restart, 0x23), (.timeSet, 0x26), (.bypass, 0x27), (.dump, 0x28)] : List (Instr × Byte)) ++
  ([(.lineAnswer, 0x40), (.lineHold, 0x41), (.lineReady, 0x42), (.lineTake, 0x43), (.lineDrop, 0x44), (.lineTag, 0x45),
    (.clipOpen, 0x50), (.clipAbort, 0x51), (.clipErase, 0x52), (.playerCue, 0x58)] : List (Instr × Byte)) ++
  ([(.playerStart, 0x59), (.playerStop, 0x5A), (.alertList, 0x60), (.alertRelease, 0x61), (.alertCancel, 0x62),
    (.alertTest, 0x63), (.breakOrder, 0x64), (.linkSleep, 0x68), (.linkWake, 0x69), (.linkStatus, 0x6A)]
    : List (Instr × Byte))

/-- The orders, but for the player orders, with their codes and the counts of argument words that they take; no order in
the queue carries more than 16. -/
def countRows : List (Instr × Byte × (Nat → Bool)) :=
  ([(.tPoint, 0x10, (· == 3)), (.tWrite, 0x11, (0 < ·)), (.tRead, 0x12, (· == 1)), (.status, 0x20, (· == 0)),
    (.mask, 0x21, (· == 1)), (.counters, 0x22, (· == 0)), (.restart, 0x23, (· == 0)), (.timeSet, 0x26, (· == 1)),
    (.bypass, 0x27, (· == 1)), (.dump, 0x28, (· == 0))] : List (Instr × Byte × (Nat → Bool))) ++
  ([(.lineAnswer, 0x40, (· == 1)), (.lineHold, 0x41, (· == 1)), (.lineReady, 0x42, (· == 1)), (.lineTake, 0x43, (· ≤ 1)),
    (.lineDrop, 0x44, (· == 1)), (.lineTag, 0x45, (· == 2)), (.clipOpen, 0x50, (· == 2)), (.clipAbort, 0x51, (· == 1)),
    (.clipErase, 0x52, (· == 1)), (.alertList, 0x60, (· == 1))] : List (Instr × Byte × (Nat → Bool))) ++
  ([(.alertRelease, 0x61, (· == 1)), (.alertCancel, 0x62, (· == 1)), (.alertTest, 0x63, fun n => 4 ≤ n && n ≤ 15),
    (.breakOrder, 0x64, (· == 0)), (.linkSleep, 0x68, (· == 0)), (.linkWake, 0x69, (· == 0)), (.linkStatus, 0x6A, (· == 0))]
    : List (Instr × Byte × (Nat → Bool)))

/-- The orders that carry one line number (LINE-TAKE may), with their codes. -/
def lineRows : List (Instr × Byte) :=
  [(.lineAnswer, 0x40), (.lineHold, 0x41), (.lineReady, 0x42), (.lineTake, 0x43), (.lineDrop, 0x44)]

/-- The air stage's frame and the rows for what ends within it. -/
def airRows : List Instr := [.airFrame, .leadInEnd, .attentionEnd, .closingEnd, .completion, .breakDeadlineReached]

/-- The link unit's send and the rows for what comes about in it. -/
def sendRows : List Instr :=
  [.send, .burstEnd, .wakeTimerTimeout, .probe, .gapTimer, .messageResend, .messageDrop, .requestTimer, .quietTimer,
    .keepalive, .asleepWatch]

/-! ### The fields of the tables (R18, R19, R68, R93, R127, R199, R201 and the index of section 10.3) -/

/-- How a field of a table entry treats a word: a numeric field takes any and stores the nearer end of its range for one
outside it; an enumerated or structural field takes the words listed, those below a bound, or an area test word. -/
inductive FieldRule where
  | clamps (lo hi : Nat)
  | oneOf (values : List Nat)
  | below (n : Nat)
  | areaTest
  deriving DecidableEq, Repr

/-- The field takes a word. -/
def FieldRule.takes (r : FieldRule) (w : Word) : Bool :=
  match r with
  | .clamps _ _ => true
  | .oneOf values => values.contains w.toNat
  | .below n => w.toNat < n
  | .areaTest => w &&& 0xF00000F00000 = 0

/-- What the field stores for a word that it takes. -/
def FieldRule.stores (r : FieldRule) (w : Word) : Word :=
  match r with
  | .clamps lo hi => Word.nat (max lo (min hi w.toNat))
  | .oneOf _ | .below _ | .areaTest => w

/-- The settings, entry by entry (the index of section 10.3). -/
def settingFields : List FieldRule :=
  ([.oneOf [2, 4, 8], .clamps 50 5000, .oneOf (255 :: List.range 32), .below 8, .clamps 1 3, .clamps 1000 300000,
    .clamps 0 60000, .clamps 2 64, .clamps 0 8388607, .clamps 1 65536, .below 2, .clamps 0 768,
    .oneOf (255 :: List.range 32)] : List FieldRule) ++
  ([.clamps 3000 25000, .clamps 0 600000, .below 2, .below 3, .clamps 0 3, .clamps 1 127, .clamps 100 10000,
    .clamps 0 10000, .clamps 8 255, .clamps 500 10000, .below 2, .below 2, .below 2] : List FieldRule)

/-- The fields of entry `e` of a table, in order. -/
def TableId.fieldRules (t : TableId) (e : Nat) : List FieldRule :=
  match t with
  | .gain => [if e = 0 then .clamps 0 0 else .clamps 0 65535]
  | .route => [.clamps 0 255, .clamps 1 64]
  | .slotConf => [.clamps 0 255, .below 4, .below 32, .below 2]
  | .filter =>
    [.below 2, .below 2, .below 2, .clamps 0 3, .below 3, .below 4096, .below 4096, .areaTest, .areaTest]
  | .lineConf => [.clamps 0 255, .clamps 10 3600]
  | .settings => (settingFields[e]?).toList
  | .noticeConf => [.below 2, .below 2]

/-! ### Records of the alert port (sections 6.3 and 11.3) -/

/-- A record of a kind with its body, as the bytes after its kind byte. -/
def recordRest (kind : Byte) (body : List Byte) : List Byte :=
  let record := [kind, BitVec.ofNat 8 body.length] ++ body
  (record ++ crc16Bytes record).tail

/-- The body of a HEADER record. -/
def Header.body (h : Header) : List Byte :=
  beBytes 2 h.identity.issuer.toNat ++ beBytes 2 h.identity.serial.toNat ++ [BitVec.ofNat 8 h.issuerClass] ++
    beBytes 2 h.event.toNat ++ [BitVec.ofNat 8 h.severity] ++ beBytes 2 h.issuedAt ++ beBytes 2 h.duration ++
    [if h.audio then 1 else 0, BitVec.ofNat 8 h.areas.length] ++ h.areas.flatMap fun a => beBytes 3 a.toNat

/-- The body of an AUDIO-BEGIN or AUDIO-END record. -/
def Identity.body (i : Identity) : List Byte := beBytes 2 i.issuer.toNat ++ beBytes 2 i.serial.toNat

/-- The fields of a header lie in their ranges, its duration in those of its bytes (R123). -/
structure Header.Sound (h : Header) : Prop where
  issuerClass : h.issuerClass ≤ 7
  severity : h.severity ≤ 3
  issuedAt : h.issuedAt < 10080
  duration : 1 ≤ h.duration ∧ h.duration < 65536
  areas : 1 ≤ h.areas.length ∧ h.areas.length ≤ 12

/-- A header with its duration brought to at most 1,440 (R123). -/
def Header.capped (h : Header) : Header := { h with duration := min h.duration 1440 }

/-- The remaining minutes of a header: its duration less the minutes since its issue, the time being set (R124). -/
def AlertIntake.remainingOf (a : AlertIntake) (h : Header) : Nat :=
  match a.minuteOfWeek with
  | some now => h.duration - (now + 10080 - h.issuedAt) % 10080
  | none => h.duration

/-- The records of the alert queue by identity, oldest first. -/
def AlertIntake.identities (a : AlertIntake) : List Identity := a.queue.map AlertRecord.identity

/-! ### Programme frames and sources (chapters 1 and 2) -/

/-- The samples of a frame lie in the range of 24-bit samples. -/
def Frame.inRange (f : Frame) : Prop := ∀ i : Fin 48, -8388608 ≤ f.get i ∧ f.get i ≤ 8388607

/-- The payload of a PROGRAMME frame after its type byte (R209). -/
def ProgrammeFrame.body (f : ProgrammeFrame) : List Byte :=
  [if f.breakFlag then 1 else 0] ++ beBytes 2 f.seq.toNat ++ [BitVec.ofNat 8 f.channels.length, 0, 0, 0] ++
    f.channels.flatMap blockBytes

/-- The frame that a mix frame uses: the held one with sequence E, the width being as committed (R4, R7). -/
def State.usedFrame (s : State) : Option ProgrammeFrame :=
  if s.studio.width = s.setting Setting.studioWidth then
    s.studio.expected.bind fun e => s.studio.queue.find? fun f => f.seq = e
  else none

/-- The frame that a running player gives before its gain: the one at its position in the slot it holds. -/
def State.playerReads (s : State) (p : Fin 3) : Option StereoFrame :=
  let r := s.players.get p
  match r.slot with
  | some n =>
    let slot := s.clips.slots.get n
    if r.state = .running ∧ s.clips.holds.get p.castSucc = some n ∧ r.position < slot.length then
      some (Memory.read StereoFrame.silence s.clips.region
        (slot.chain.getD (r.position / 256) 0 * 256 + r.position % 256))
    else none
  | none => none

/-- The gain multiplier of the slot a player is on. -/
def State.playerGain (s : State) (p : Fin 3) : Nat :=
  match (s.players.get p).slot with
  | some n => s.tables.gain.get (s.tables.slotConf.get n).gain
  | none => 0

/-- The slot that the fill player starts on in the next mix frame: the fill slot, where the request finds no frame with
the feed lost or at its loss limit, the fill player is IDLE, and the slot is READY, of kind CART and can take its hold
(R8, R9, R114). -/
def State.fillStarts (s : State) : Option (Fin 32) :=
  if s.usedFrame = none ∧
      (s.studio.lost = true ∨ s.setting Setting.studioLossLimit ≤ min (s.studio.missingRun + 1) 65535) ∧
      (s.players.get 2).state = .idle then
    (s.slotSetting Setting.fillSlot).filter fun n =>
      (s.clips.slots.get n).state = .ready ∧ (s.clips.slots.get n).kind = .cart ∧
        (s.clips.holds.get 2 = some n ∨ (s.clips.slots.get n).useCount < 3)
  else none

/-- The twenty sources of the next mix frame, so far as the state before it settles them: the studio channels of the
used frame, or silence; the caller frames of the connected lines; and the players' frames, scaled, or silence, a fill
player that starts giving the first frame of its slot (R2, R27, R69, R112, R114). -/
structure State.Sources (s : State) (x : Vector Frame 20) : Prop where
  studio : ∀ c : Fin 8, x.get (c.castLE (by decide)) =
    match s.usedFrame with
    | some f => if c.val < s.studio.width then f.channels.getD c.val Frame.silence else Frame.silence
    | none => Frame.silence
  caller : ∀ k : Fin 6, x.get ⟨8 + k.val, by omega⟩ =
    if (s.line.line k).state.connected then (s.line.callers.get k).getD Frame.silence else Frame.silence
  plays : ∀ p : Fin 3, ∀ f, s.playerReads p = some f →
    x.get ⟨14 + 2 * p.val, by omega⟩ = f.left.map (scaleSample · (s.playerGain p)) ∧
      x.get ⟨15 + 2 * p.val, by omega⟩ = f.right.map (scaleSample · (s.playerGain p))
  silent : ∀ p : Fin 3, s.playerReads p = none → (p = 2 → s.fillStarts = none) →
    x.get ⟨14 + 2 * p.val, by omega⟩ = Frame.silence ∧ x.get ⟨15 + 2 * p.val, by omega⟩ = Frame.silence
  starts : ∀ n, s.fillStarts = some n →
    let slot := s.clips.slots.get n
    let gain := s.tables.gain.get (s.tables.slotConf.get n).gain
    if 0 < slot.length then
      let f := Memory.read StereoFrame.silence s.clips.region (slot.chain.getD 0 0 * 256)
      x.get 18 = f.left.map (scaleSample · gain) ∧ x.get 19 = f.right.map (scaleSample · gain)
    else x.get 18 = Frame.silence ∧ x.get 19 = Frame.silence

/-- The sum of a bus at a sample index: every source by the multiplier of its route (R28). -/
def busSum (ramps : Vector Ramp 60) (x : Vector Frame 20) (bus : Fin 3) (i : Fin 48) : Int :=
  ((List.finRange 20).map fun k =>
    (x.get k).get i * ((ramps.get ⟨3 * k.val + bus.val, by omega⟩).current : Int)).sum

/-! ### The air frame (R145, R153 to R155) -/

/-- What a reader is given at a position of a slot: the frame there where it holds the slot and the position is below
the slot's length. -/
def ClipStore.frameAt (c : ClipStore) (r : Reader) (n : Fin 32) (p : Nat) : Option StereoFrame :=
  if c.holds.get r = some n ∧ p < (c.slots.get n).length then
    some (Memory.read StereoFrame.silence c.region ((c.slots.get n).chain.getD (p / 256) 0 * 256 + p % 256))
  else none

/-- The programme that the air stage passes on or fades: the offered frame of the delay line or silence, and with
bypass on the studio channels 0 and 1. -/
def State.programme (s : State) : StereoFrame :=
  if s.air.bypass then ⟨s.mix.studioLeft, s.mix.studioRight⟩
  else (s.delay.offered.map PgmFrame.audio).getD StereoFrame.silence

/-- The attention source's frame: the built-in tone, or the attention slot at the position, by its gain code. -/
def State.attention (s : State) : StereoFrame :=
  match s.air.attention with
  | .tone => toneFrame
  | .slot n =>
    ((s.clips.frameAt airReader n s.air.position).map fun f =>
      scaleStereo f (s.mix.gain.get (s.clips.conf.get n).gain)).getD StereoFrame.silence

/-- Two stereo frames mixed sample by sample with weight `w` of 16,384 for the second, rounded half up. -/
def crossfade (w : Int) (p a : StereoFrame) : StereoFrame :=
  let mixed (x y : Frame) : Frame := Vector.ofFn fun i => (x.get i * (16384 - w) + y.get i * w + 8192) / 16384
  ⟨mixed p.left a.left, mixed p.right a.right⟩

/-- The attention slot `n` can be the attention source (R152). -/
def State.attends (s : State) (n : Fin 32) : Prop :=
  (s.clips.slots.get n).state = .ready ∧ (s.clips.slots.get n).kind = .cart ∧
    (s.clips.holds.get airReader = some n ∨ (s.clips.slots.get n).useCount < 3)

/-- LEAD_IN entered at the start of an air frame, which is its first: what the frame has made of it in `t` (R151,
R152). -/
structure State.BeginsLeadIn (s t : State) : Prop where
  state : t.air.state = .leadIn
  step : t.air.step = 1
  position : t.air.position = 1
  slot : ∀ n, s.slotSetting Setting.attentionSlot = some n → s.attends n →
    t.air.attention = .slot n ∧ t.air.attentionFrames = (s.clips.slots.get n).length ∧
      t.clips.holds.get airReader = some n
  tone : (∀ n, s.slotSetting Setting.attentionSlot = some n → ¬s.attends n) →
    t.air.attention = .tone ∧ t.air.attentionFrames = s.setting Setting.attentionLength
  frame : t.air.lastAir =
    crossfade 1024 s.programme (State.attention { t with air := { t.air with position := 0 } })
  flag : t.air.onAirFlag = true
  note : s.link.queue.length < 7 → ∀ i r, t.air.airing = some i → s.intake.find i = some r →
    ∃ m ∈ t.link.queue, m.kind = .alertNote ∧ m.body =
      beBytes 4 (r.word 1).toNat ++ [((r.word 2).extractLsb' 16 3).setWidth 8] ++
        beBytes 2 ((r.word 2).extractLsb' 0 12).toNat ++
        [((r.word 2).extractLsb' 24 2).setWidth 8, BitVec.ofNat 8 r.priority] ++ beBytes 2 r.remaining ++
        [if r.flag flagTest then 1 else 0]

/-- The record `r` committed at the start of an air frame: what the frame has made of it in `t` (R151). -/
structure State.Commits (s : State) (r : AlertRecord) (t : State) : Prop where
  airing : t.air.airing = some r.identity
  present : t.air.present = true
  cleared : t.air.impaired = false ∧ t.air.underruns = 0 ∧ t.air.messageFrames = 0
  marked : t.intake.queue = s.intake.queue.map fun q => if q.identity = r.identity then { q with onAir := true } else q
  awake : s.link.mode ≠ .asleep →
    s.BeginsLeadIn t ∧ t.link.mode = if s.link.mode = .sleepPending then .run else s.link.mode
  asleep : s.link.mode = .asleep →
    t.air.state = .waitLink ∧ t.link.mode = .waking ∧ t.air.lastAir = s.programme ∧ t.air.onAirFlag = false

/-! ### Frames on the link port (section 11.3) -/

/-- A link frame with its kind, flags, sequence, the bytes between and its CRC. -/
def linkBytes (kind flags : Byte) (seq : BitVec 16) (bytes : List Byte) : List Byte :=
  let frame := [kind, flags] ++ beBytes 2 seq.toNat ++ bytes
  frame ++ crc32Bytes frame

/-- A link message as it rides a frame. -/
def Message.bytes (m : Message) : List Byte :=
  [m.number, BitVec.ofNat 8 m.kind.code, BitVec.ofNat 8 m.body.length] ++ m.body

/-- A good return frame with its fields. -/
def Return.frame (r : Return) : List Byte :=
  let bytes := [0x80, BitVec.ofNat 8 r.far.code] ++ beBytes 2 r.h.toNat ++ beBytes 4 r.map.toNat ++
    [if r.ack.isSome then 1 else 0, r.ack.getD 0, if r.lock then 1 else 0, BitVec.ofNat 8 r.errors]
  bytes ++ crc32Bytes bytes

/-- What the judging makes of one sequence (R171). -/
inductive FrameVerdict where
  | unknown | received | missing
  deriving DecidableEq, Repr

/-- The verdict of a return on a sequence, by its place behind the highest received and the receive map (R171). -/
def Return.verdict (r : Return) (q : BitVec 16) : FrameVerdict :=
  let i := (r.h - q).toNat
  if 32 ≤ i then .unknown else if r.map.getLsbD i then .received else .missing

/-- SFC after a verdict, where it may rise so far (R171, R172). -/
def FrameVerdict.sfc (v : FrameVerdict) (before : Nat) : Nat :=
  match v with
  | .unknown => before
  | .received => before - 1
  | .missing => before + 8

/-- The link unit once a sleep has started, its message queue having room for the request (R187). -/
def LinkUnit.sleepStarted (l : LinkUnit) (minute : Option Nat) : LinkUnit :=
  { l with
    mode := .sleepPending
    phase := .requesting
    requestTimer := 0
    requestAcked := false
    lateNumber := none
    requestNumber := some l.nextNumber
    nextNumber := l.nextNumber + 1
    queue := l.queue ++ [⟨l.nextNumber, .sleepRequest, beBytes 2 l.quietInterval ++ beBytes 2 (minute.getD 65535)⟩]
    counters := { l.counters with sleepsRequested := min (l.counters.sleepsRequested + 1) 65535 } }

/-- The link unit once a wake has started (R191). -/
def LinkUnit.wakeStarted (l : LinkUnit) : LinkUnit :=
  { l with
    mode := .waking
    wakePhase := .burst
    burstNumber := 1
    burstIndex := 0
    counters := { l.counters with wakesStarted := min (l.counters.wakesStarted + 1) 65535 } }

/-- A negotiation aborted with a cause, the mode becoming RUN: what has become of it in `t` (R189). -/
structure State.Aborts (s : State) (cause : Nat) (t : State) : Prop where
  mode : t.link.mode = .run
  phase : t.link.phase = .none
  gap : t.link.gapTimer = 0
  waiting : t.air.waitSet = []
  counted : t.link.counters.sleepsAborted = min (s.link.counters.sleepsAborted + 1) 65535
  latched : t.notices.latches.get 21 = some ((s.notices.latches.get 21).getD [Word.nat 2, Word.nat cause])
  cancel : (s.link.queue.filter fun m => !m.isRequest s.link.requestNumber).length < 8 →
    ∃ m ∈ t.link.queue, m.kind = .sleepCancel ∧ m.number = s.link.nextNumber ∧ m.body = [s.link.requestNumber.getD 255]

/-- No message of the link unit is to be dropped at the next send. -/
def LinkUnit.keepsMessage (l : LinkUnit) : Prop := ∀ f, l.inFlight = some f → f.sends < 5

/-! ### One line of a line bus cycle (R70 to R75) -/

/-- The state that the incoming slot takes a line to, before its limits. -/
def LineState.afterSlot (x : LineState) (slot : List Byte) (missing : Nat) : LineState :=
  if slotPresent slot then
    match x, (byteAt slot 0).toNat with
    | .fault, 0 => .idle
    | .fault, _ => .fault
    | _, 4 => .fault
    | .idle, 1 => .ringing
    | .idle, _ => .idle
    | .ringing, 0 => .idle
    | .ringing, 3 => .idle
    | .ringing, _ => .ringing
    | _, 3 => .idle
    | y, _ => y
  else if 200 ≤ missing && x ≠ .idle && x ≠ .fault then .fault
  else x

/-- The record of a line after a cycle, from the line's own record, slot and limits alone. -/
def Line.afterCycle (ringLimit holdLimit : Nat) (slot : List Byte) (r : Line) : Line :=
  let missing := if slotPresent slot then 0 else min (r.missingRun + 1) 65535
  let moved := r.state.afterSlot slot missing
  let time := min (r.timeInState + 1) 4294967295
  if moved ≠ r.state then ⟨moved, 0, if moved = .ringing then 0 else r.tag, missing⟩
  else if (moved = .ringing && ringLimit ≤ time) || ((moved = .hold || moved = .ready) && holdLimit ≤ time) then
    ⟨.idle, 0, r.tag, missing⟩
  else ⟨moved, time, r.tag, missing⟩

end Sys2Proof.Machine
end

