-- ==== Sys2Proof/Certificates/Slice0/Obligations.lean ====
section
/-!
DEFINITION. The statements about the TA4416, from the numbered rules of its manual. Each is one
`def Obligations.<Name> : Prop`; OBLIGATIONS.json lists them in the same order. `Tests/Slice0.lean` has the witnesses of
their hypotheses.
-/

open Sys2Proof Sys2Proof.Machine

/-! ### Steps and order exchange -/

/-- A step carries out the command at the front of the queue, with the queue's rest behind it; on an empty queue the
part idles (the model's choice, log entry 1). Every command completes in every state, and leaves the commands that
wait as they are. -/
def Obligations.StepRunsFrontCommand : Prop :=
  (∀ s : State,
    (∀ (c : Instr) (rest : List Instr), s.pending = c :: rest → step s = exec c { s with pending := rest }) ∧
    (s.pending = [] → step s = .next s)) ∧
  ∀ (c : Instr) (s : State), ∃ t, exec c s = .next t ∧ t.pending = s.pending

/-- R195, R207, R209: an ORDER frame laid out as section 11.2 gives it, padded or not, joins the tail of the order
queue with the tag, code and argument words it carries, marked as having arrived in this frame period (the model's own
mark, log entry 4); with 16 orders held it is answered REFUSED_FULL at once. A frame too short for a tag, a code and a
count (log entry 31), of unknown type or of a type that the part only sends, is counted as a malformed order and not
answered (an empty payload too, log entry 5); an ORDER frame whose count is above 16 or disagrees with its length, 46
bytes being taken as padded (log entry 30), is queued without argument words. -/
def Obligations.OrderFramesArrive : Prop :=
  (∀ (s : State) (src : MacAddress) (tag : BitVec 16) (code : Byte) (ws : List Word), ws.length ≤ 16 →
    let bytes := [0x02, BitVec.ofNat 8 ws.length] ++ beBytes 2 tag.toNat ++ [code, 0] ++ ws.flatMap wordBytes
    let o : QueuedOrder := ⟨src, tag, code, some ws, true⟩
    ∀ frame, frame = bytes ∨ frame = padded bytes →
      (s.orders.queue.length < 16 →
        exec (.order src frame) s =
          .next { s with orders := { s.orders with queue := s.orders.queue ++ [o] }, sent := ⟨[], [], []⟩ }) ∧
      (16 ≤ s.orders.queue.length →
        exec (.order src frame) s =
          .next { s with
            orders := { s.orders with queueFull := min (s.orders.queueFull + 1) 65535 }
            sent := ⟨[replyTo o .refusedFull []], [], []⟩ })) ∧
  ∀ (s : State) (src : MacAddress) (frame : List Byte),
    ((frame.head? = some 0x02 ∧ frame.length < 5) ∨ (∀ b, frame.head? = some b → b ∉ [0x01, 0x02, 0x03, 0x04]) →
      exec (.order src frame) s =
        .next { s with
          orders := { s.orders with malformed := min (s.orders.malformed + 1) 65535 }
          sent := ⟨[], [], []⟩ }) ∧
    (frame.head? = some 0x02 → 5 ≤ frame.length → s.orders.queue.length < 16 →
      16 < (byteAt frame 1).toNat ∨
        (frame.length ≠ 6 + 6 * (byteAt frame 1).toNat ∧ ¬(frame.length = 46 ∧ (byteAt frame 1).toNat ≤ 6)) →
      exec (.order src frame) s =
        .next { s with
          orders := { s.orders with
            queue := s.orders.queue ++ [⟨src, byteAt frame 2 ++ byteAt frame 3, byteAt frame 4, none, true⟩] }
          sent := ⟨[], [], []⟩ })

/-- R196, R197, R205: an order's row, or that of an unknown code, does nothing where an order has been taken in this
frame period, or where the order at the head of the queue, if any, is another row's or arrived in this frame period
(the model's choice, log entry 4). An order whose count is above 16 or disagrees with its frame's length, a player
order too, one whose count of argument words is not one that it takes (for the player orders that is another
statement's), and one that names a line above 5 is refused with REFUSED_ARGUMENT and changes nothing; a code that
names no order is refused with REFUSED_UNKNOWN. These refusals carry no data words (the model's choice, log entry 27),
and each is counted in the refused order counter, that of an ALERT-TEST too (the model's choice, log entry 48). -/
def Obligations.OrdersTakenInTurn : Prop :=
  (∀ (s : State), ∀ row ∈ orderRows,
    s.orders.taken = true ∨ (∀ o, s.orders.queue.head? = some o → o.code ≠ row.2 ∨ o.fresh = true) →
      exec row.1 s = .next { s with sent := ⟨[], [], []⟩ }) ∧
  (∀ s : State,
    s.orders.taken = true ∨ (∀ o, s.orders.queue.head? = some o → o.code ∈ orderRows.map Prod.snd ∨ o.fresh = true) →
      exec .unknownOrder s = .next { s with sent := ⟨[], [], []⟩ }) ∧
  ∀ (s : State) (o : QueuedOrder) (rest : List QueuedOrder), s.orders.queue = o :: rest → s.orders.taken = false →
    o.fresh = false →
    (∀ row ∈ orderRows, o.code = row.2 → o.args = none → exec row.1 s = .next (s.answered o rest .refusedArgument [])) ∧
    (∀ row ∈ countRows, ∀ ws, o.code = row.2.1 → o.args = some ws → row.2.2 ws.length = false →
      exec row.1 s = .next (s.answered o rest .refusedArgument [])) ∧
    (∀ row ∈ lineRows, ∀ w, o.code = row.2 → o.args = some [w] → 6 ≤ w.toNat →
      exec row.1 s = .next (s.answered o rest .refusedArgument [])) ∧
    (o.code ∉ orderRows.map Prod.snd → exec .unknownOrder s = .next (s.answered o rest .refusedUnknown []))

/-- R209: a reply leaves as parts of 240 data words, the last with the rest, numbered from 0, the last one marked. -/
def Obligations.RepliesSplitAt240 : Prop :=
  ∀ (dest : MacAddress) (tag : BitVec 16) (code : Byte) (result : Nat) (ws : List Word) (s : State),
    let n := max 1 ((ws.length + 239) / 240)
    sendReply dest tag code result ws s =
      { s with sent := { s.sent with studio := s.sent.studio ++
        ((List.range n).map fun i =>
          ⟨some dest, 0x88B5, padded (replyFrame tag code result i (i + 1 = n) ((ws.drop (240 * i)).take 240))⟩) } }

/-! ### Tables -/

/-- R198: T-POINT sets the pointer to field 0 of an entry of a table in a mode, discards the staged fields and, in
READ mode, takes the entry as committed; a table, entry or mode that does not exist is refused. The pointer as four
words is the model's choice (log entry 26), as is the refusal without data words (log entry 27). -/
def Obligations.TPointSetsPointer : Prop :=
  (∀ (s : State) (o : QueuedOrder) (rest : List QueuedOrder) (t : TableId) (e : Nat) (m : PointerMode),
    e < t.entries → s.Heads o rest 0x10 [Word.nat t.code, Word.nat e, Word.nat m.code] →
      ∃ holding, (m = .read → holding = s.tables.entryWords t e) ∧
        exec .tPoint s =
          .next ({ s with orders := { s.orders with pointer := ⟨t, e, 0, m⟩, staged := [], holding := holding } }.answered o
            rest .done (s.orders.pointer.toWords ++ [Word.nat s.orders.staged.length]))) ∧
  ∀ (s : State) (o : QueuedOrder) (rest : List QueuedOrder) (table entry mode : Word),
    s.Heads o rest 0x10 [table, entry, mode] →
    6 < table.toNat ∨ 1 < mode.toNat ∨ (∃ t, tableIds[table.toNat]? = some t ∧ t.entries ≤ entry.toNat) →
      exec .tPoint s = .next (s.answered o rest .refusedArgument [])

/-- R199: a T-WRITE whose words fill the pointed entry, from its first field or from where the staged fields end,
commits the entry whole and moves to the next one, or refuses it whole and goes back to its field 0; one that leaves
the entry part-written keeps the fields; in READ mode it is refused. A T-WRITE of two runs of words does what one
T-WRITE of each does one after the other, their words used and entries committed added and the more severe result
taken, save that one which is refused uses no word after the refused entry: so it may run across entries. The pointer
as four words is the model's choice (log entry 26), as is the refusal without data words (log entry 27). -/
def Obligations.TWriteWholeEntry : Prop :=
  (∀ (s : State) (o : QueuedOrder) (rest : List QueuedOrder) (t : TableId) (e f : Nat) (ws : List Word),
    s.Heads o rest 0x11 ws → ws ≠ [] →
    (s.orders.pointer = ⟨t, e, f, .write⟩ → s.orders.staged.length = f → e < t.entries → f + ws.length = t.fields →
      let next : TablePointer := ⟨t, if e + 1 < t.entries then e + 1 else 0, 0, .write⟩
      let back : TablePointer := ⟨t, e, 0, .write⟩
      (∀ T clamped, s.tables.commit t e (s.orders.staged ++ ws) = some (T, clamped) →
        exec .tWrite s =
          .next ({ s with tables := T, orders := { s.orders with pointer := next, staged := [] } }.answered o rest
            (if clamped then .doneClamped else .done) ([Word.nat ws.length, Word.nat 1] ++ next.toWords))) ∧
      (s.tables.commit t e (s.orders.staged ++ ws) = none →
        exec .tWrite s =
          .next ({ s with orders := { s.orders with pointer := back, staged := [] } }.answered o rest .refusedArgument
            ([Word.nat ws.length, Word.nat 0] ++ back.toWords)))) ∧
    (s.orders.pointer = ⟨t, e, f, .write⟩ → f + ws.length < t.fields →
      let p : TablePointer := ⟨t, e, f + ws.length, .write⟩
      exec .tWrite s =
        .next ({ s with orders := { s.orders with pointer := p, staged := s.orders.staged ++ ws } }.answered o rest .done
          ([Word.nat ws.length, Word.nat 0] ++ p.toWords))) ∧
    (s.orders.pointer.mode = .read → exec .tWrite s = .next (s.answered o rest .refusedState []))) ∧
  ∀ (s : State) (o : QueuedOrder) (rest : List QueuedOrder) (us vs : List Word), us ≠ [] → vs ≠ [] →
    s.Heads o rest 0x11 (us ++ vs) → s.orders.pointer.mode = .write →
    let carrying (ws : List Word) (x : State) : State :=
      { x with orders := { x.orders with queue := { o with args := some ws } :: rest, taken := false } }
    let answer (x : State) (r : Result) (used committed : Nat) : Sent :=
      ⟨[replyTo o r ([Word.nat used, Word.nat committed] ++ x.orders.pointer.toWords)], [], []⟩
    ∃ t1 r1 u1 c1 t2 r2 u2 c2,
      exec .tWrite (carrying us s) = .next t1 ∧ t1.sent = answer t1 r1 u1 c1 ∧
      exec .tWrite (carrying vs t1) = .next t2 ∧ t2.sent = answer t2 r2 u2 c2 ∧
      exec .tWrite s = .next (if r1 = .refusedArgument then t1 else
        { t2 with sent := answer t2 (if r2 = .done then r1 else r2) (u1 + u2) (c1 + c2) })

/-- R199, R200, R17 to R19, R68, R93, R127, R201, R207 and the index of section 10.3: an entry is committed exactly
where each of its enumerated and structural fields takes its word; an area test word with a bit set outside its two
parts is not taken (read from R207, the model's choice, log entry 14). Each field then reads back as the word written,
but that a numeric one out of its range reads as the nearer end of it; a commit is clamped where a field reads back
otherwise, and at entry 0 of GAIN whatever the word, which is committed as 0. A commit changes no other entry of any
table, and never leaves a value outside its range. -/
def Obligations.CommitStoresInRange : Prop :=
  (∀ (T : Tables) (t : TableId) (e : Nat) (ws : List Word),
    (T.commit t e ws).isSome = true ↔
      e < t.entries ∧ ws.length = t.fields ∧ ∀ p ∈ (t.fieldRules e).zip ws, p.1.takes p.2 = true) ∧
  (∀ (T U : Tables) (t : TableId) (e : Nat) (ws : List Word) (clamped : Bool), T.commit t e ws = some (U, clamped) →
    U.entryWords t e = (t.fieldRules e).zipWith FieldRule.stores ws ∧
    (clamped = true ↔ (t = .gain ∧ e = 0) ∨ U.entryWords t e ≠ ws) ∧
    (∀ u k, ¬(u = t ∧ k = e) → U.entryWords u k = T.entryWords u k) ∧
    (t = .gain → e = 0 → U.gain.get 0 = 0)) ∧
  ∀ (T U : Tables) (t : TableId) (e : Nat) (ws : List Word) (clamped : Bool), T.commit t e ws = some (U, clamped) →
    (t = .gain → ∀ k : Fin 256, k.val = e → U.gain.get k ≤ 65535) ∧
    (t = .route → ∀ k : Fin 60, k.val = e → 1 ≤ (U.route.get k).ramp ∧ (U.route.get k).ramp ≤ 64) ∧
    (t = .lineConf → ∀ k : Fin 6, k.val = e →
      10 ≤ (U.lineConf.get k).holdSeconds ∧ (U.lineConf.get k).holdSeconds ≤ 3600) ∧
    (t = .settings → ∀ k : Fin 26, k.val = e →
      match settingRules.get k with
      | .oneOf values => U.settings.get k ∈ values ∧ clamped = false
      | .range lo hi => lo ≤ U.settings.get k ∧ U.settings.get k ≤ hi)

/-- R200: a T-READ within one entry gives the holding copy's fields from the pointer's field on and advances; past the
last field it takes the next entry as committed. A count outside 1..16 is clamped; in WRITE mode it is refused. A
T-READ of m + n words gives the words of a T-READ of m and then those of one of n, and leaves what the second leaves:
so it may run across entries and across the wrap. The words come before the pointer and the pointer is four words: the
model's choices (log entries 37 and 26), as is the refusal without data words (log entry 27). -/
def Obligations.TReadGivesHolding : Prop :=
  (∀ (s : State) (o : QueuedOrder) (rest : List QueuedOrder) (w : Word), s.Heads o rest 0x12 [w] →
    let p := s.orders.pointer
    let n := max 1 (min 16 w.toNat)
    let r : Result := if n = w.toNat then .done else .doneClamped
    let words := (s.orders.holding.drop p.field).take n
    (p.mode = .write → exec .tRead s = .next (s.answered o rest .refusedState [])) ∧
    (p.mode = .read → s.orders.holding.length = p.table.fields → p.field + n < p.table.fields →
      let q := { p with field := p.field + n }
      exec .tRead s =
        .next ({ s with orders := { s.orders with pointer := q } }.answered o rest r (words ++ q.toWords))) ∧
    (p.mode = .read → s.orders.holding.length = p.table.fields → p.field + n = p.table.fields →
      let q := { p with entry := if p.entry + 1 < p.table.entries then p.entry + 1 else 0, field := 0 }
      exec .tRead s =
        .next ({ s with orders := { s.orders with pointer := q, holding := s.tables.entryWords q.table q.entry } }.answered
          o rest r (words ++ q.toWords)))) ∧
  ∀ (s : State) (o : QueuedOrder) (rest : List QueuedOrder) (m n : Nat) (w : Word), 1 ≤ m → 1 ≤ n → m + n ≤ 16 →
    w.toNat = m + n → s.Heads o rest 0x12 [w] → s.orders.pointer.mode = .read →
    let carrying (k : Nat) (x : State) : State :=
      { x with orders := { x.orders with queue := { o with args := some [Word.nat k] } :: rest, taken := false } }
    ∃ t1 us t2 vs,
      exec .tRead (carrying m s) = .next t1 ∧ us.length = m ∧
      t1.sent = ⟨[replyTo o .done (us ++ t1.orders.pointer.toWords)], [], []⟩ ∧
      exec .tRead (carrying n t1) = .next t2 ∧ vs.length = n ∧
      t2.sent = ⟨[replyTo o .done (vs ++ t2.orders.pointer.toWords)], [], []⟩ ∧
      exec .tRead s = .next { t2 with sent := ⟨[replyTo o .done (us ++ vs ++ t2.orders.pointer.toWords)], [], []⟩ }

/-! ### Reports, mask, clock, bypass, dump -/

/-- R203, R204: STATUS answers with what every block presents, clears every latch with its detail, stops the repeat
timer, and changes nothing else; the reply has 246 words and the details of the set latches. COUNTERS answers with the
67 counters as they stood, and returns every counter to 0 and clears the climb marks. What words the items of STATUS
take, and a queue depth without STATUS itself, are the model's choices (log entries 19, 26 and 37). -/
def Obligations.StatusAndCountersReadOut : Prop :=
  ((∀ (s : State) (o : QueuedOrder) (rest : List QueuedOrder), s.Heads o rest 0x20 [] →
    exec .status s =
      .next (sendReply o.source o.tag 0x20 0 (statusWords { s with orders := { s.orders with queue := rest } })
        { s with
          orders := s.orders.took rest .done
          notices := { s.notices with latches := Vector.replicate 25 none, repeatTimer := 0 }
          sent := ⟨[], [], []⟩ })) ∧
  ∀ s : State, (statusWords s).length = 246 + (s.notices.latches.toList.map fun d => (d.getD []).length).sum) ∧
  (∀ (s : State) (o : QueuedOrder) (rest : List QueuedOrder), s.Heads o rest 0x22 [] →
    ∃ t : State, exec .counters s = .next (t.answered o rest .done ((counterValues s).map Word.nat)) ∧
      counterValues t = List.replicate 67 0 ∧
      t.mix.climbLeft = false ∧ t.mix.climbRight = false ∧ t.link.climb = false ∧
      t = { s with
        studio := { s.studio with counters := t.studio.counters }
        mix := { s.mix with counters := t.mix.counters, climbLeft := false, climbRight := false }
        delay := { s.delay with counters := t.delay.counters }
        line := { s.line with counters := t.line.counters }
        clips := { s.clips with counters := t.clips.counters }
        intake := { s.intake with counters := t.intake.counters }
        air := { s.air with counters := t.air.counters }
        link := { s.link with counters := t.link.counters, climb := false }
        orders := { s.orders with malformed := 0, queueFull := 0, refused := 0 }
        notices := { s.notices with latched := 0, repeated := 0 } }) ∧
  ∀ s : State, (counterValues s).length = 67

/-- R21, R121, R177: MASK replaces the source mask, answers with the mask before it, and refuses a flag above source
19. TIME-SET sets the minute of week, restarts the minute timer, and queues a TIME_NOTE with that minute under the
next message number; with 8 messages pending the message is dropped, counted, taken as a fault and latched in
LINK_MESSAGE_LOST. A value above 10,079 is refused. -/
def Obligations.MaskAndTimeSet : Prop :=
  (∀ (s : State) (o : QueuedOrder) (rest : List QueuedOrder) (w : Word), s.Heads o rest 0x21 [w] →
    (w.toNat < 2 ^ 20 →
      exec .mask s =
        .next ({ s with mix := { s.mix with mask := w.setWidth 20 } }.answered o rest .done
          [s.mix.mask.setWidth 48])) ∧
    (2 ^ 20 ≤ w.toNat → exec .mask s = .next (s.answered o rest .refusedArgument []))) ∧
  ∀ (s : State) (o : QueuedOrder) (rest : List QueuedOrder) (w : Word), s.Heads o rest 0x26 [w] →
    (w.toNat < 10080 → s.link.queue.length < 8 →
      exec .timeSet s =
        .next ({ s with
          intake := { s.intake with minuteOfWeek := some w.toNat, minuteTimer := 0 }
          link := { s.link with
            queue := s.link.queue ++ [(⟨s.link.nextNumber, .timeNote, beBytes 2 w.toNat⟩ : Message)]
            nextNumber := s.link.nextNumber + 1 } }.answered o rest .done
              [Word.nat (s.intake.minuteOfWeek.getD 65535)])) ∧
    (w.toNat < 10080 → 8 ≤ s.link.queue.length →
      ∃ t, exec .timeSet s = .next t ∧
        t = { s with
          intake := { s.intake with minuteOfWeek := some w.toNat, minuteTimer := 0 }
          link := { s.link with
            faultsSince := min (s.link.faultsSince + 1) 65535
            capture := some (s.link.capture.getD ⟨.messageLost, 255, s.link.mode, s.link.sfc, s.link.rfc⟩)
            counters := { s.link.counters with messageLost := min (s.link.counters.messageLost + 1) 65535 } }
          orders := s.orders.took rest .done
          notices := t.notices
          sent := t.sent } ∧
        t.notices.latches.get 23 =
          some ((s.notices.latches.get 23).getD [Word.nat MessageKind.timeNote.code, Word.nat 255, Word.nat 0]) ∧
        t.sent.studio.getLast? = some (replyTo o .done [Word.nat (s.intake.minuteOfWeek.getD 65535)])) ∧
    (10080 ≤ w.toNat → exec .timeSet s = .next (s.answered o rest .refusedArgument []))

/-- R146, R59, R60: BYPASS on discards every held frame, uncounted and without a notice, and gives LIVE, or HELD
during a hold; BYPASS off, from an empty line, gives LIVE, BUILDING or HELD; a BYPASS of the present value changes
nothing. -/
def Obligations.BypassSwitches : Prop :=
  ∀ (s : State) (o : QueuedOrder) (rest : List QueuedOrder) (w : Word), s.Heads o rest 0x27 [w] →
    let words := [Word.flag s.air.bypass, Word.nat s.air.state.code]
    (w = Word.flag s.air.bypass → exec .bypass s = .next (s.answered o rest .done words)) ∧
    (w = 1 → s.air.bypass = false →
      exec .bypass s =
        .next ({ s with
          air := { s.air with bypass := true }
          delay := { s.delay with
            held := 0
            readPos := s.delay.writePos
            state := if s.delay.hold then .held else .live } }.answered o rest .done words)) ∧
    (w = 0 → s.air.bypass = true → s.delay.held = 0 → s.delay.state = (if s.delay.hold then .held else .live) →
      let new : DelayState := if s.delay.hold then .held else if s.delay.target = 0 then .live else .building
      exec .bypass s =
        .next ({ s with
          air := { s.air with bypass := false }
          delay := { s.delay with
            state := new
            spacing := if new = DelayState.building then 0 else s.delay.spacing } }.answered o rest .done words)) ∧
    (1 < w.toNat → exec .bypass s = .next (s.answered o rest .refusedArgument []))

/-- R53, R54: DUMP removes the newest held frames, as many as the dump length or all of them, and nothing else of the
line but its counter, its state and, on entry to BUILDING or SHRINKING, its spacing count; it is answered DONE with
the frames removed, the held count and the delay state; DUMP_SHORT is latched where the line held fewer. -/
def Obligations.DumpRemovesNewest : Prop :=
  ∀ (s : State) (o : QueuedOrder) (rest : List QueuedOrder), s.Heads o rest 0x28 [] →
    let removed := min s.delay.dumpLength s.delay.held
    let d1 : DelayLine := { s.delay with
      held := s.delay.held - removed
      counters := { s.delay.counters with dump := min (s.delay.counters.dump + 1) 65535 } }
    let new := d1.derived s.air.bypass
    ∃ t, exec .dump s = .next t ∧
      t = { s with delay := t.delay, orders := s.orders.took rest .done, notices := t.notices, sent := t.sent } ∧
      t.delay = { d1 with
        state := new
        spacing := if new.moving && new ≠ s.delay.state then 0 else s.delay.spacing } ∧
      t.delay.heldFrames = s.delay.heldFrames.take (s.delay.held - removed) ∧
      t.sent.studio.getLast? =
        some (replyTo o .done [Word.nat removed, Word.nat (s.delay.held - removed), Word.nat new.code]) ∧
      t.notices.latches.get 8 =
        (s.notices.latches.get 8).or (if s.delay.held < s.delay.dumpLength then some [Word.nat removed] else none) ∧
      t.notices.latches.get 10 =
        (s.notices.latches.get 10).or
          (if reachesTarget s.delay.state new then some [Word.nat s.delay.target] else none) ∧
      ∀ k, k ≠ 8 → k ≠ 10 → t.notices.latches.get k = s.notices.latches.get k

/-! ### The two resets -/

/-- R14, R40, R62, R87, R117, R142, R162, R184, R205: power-on reset leaves every block as the manual states; the
items to which the manual gives no value take those of log entry 9, and the commands that wait, the model's own, stay
(log entry 35). -/
def Obligations.PowerOnResetLeaves : Prop :=
  (∀ s : State, exec .powerOnReset s = .next { State.reset with pending := s.pending }) ∧
  ∃ s : State, s = State.reset ∧
    s.frameCount = 0 ∧
    s.tables = defaultTables ∧ s.tables.gain.get 0 = 0 ∧ s.tables.gain.get 208 = 16384 ∧
    s.studio.expected = none ∧ s.studio.queue = [] ∧ s.studio.missingRun = 0 ∧ s.studio.lost = false ∧
    (∀ r : Fin 60, s.mix.ramps.get r = ⟨(s.mix.ramps.get r).target, (s.mix.ramps.get r).target, 0, 0⟩ ∧
      (s.mix.ramps.get r).target = if r.val ∈ [0, 4, 42, 46, 48, 52] then 16384 else 0) ∧
    s.mix.mask = 0 ∧
    s.delay.held = 0 ∧ s.delay.state = .live ∧ s.delay.hold = false ∧ s.delay.target = 0 ∧
    (∀ k : Fin 6, s.line.line k = ⟨.idle, 0, 0, 0⟩) ∧ s.line.ready = [] ∧ s.line.screening = none ∧ s.line.onAir = 0 ∧
    s.clips.free = List.range 768 ∧ (∀ n : Fin 32, s.clips.slots.get n = ⟨.empty, .cart, 1, 0, [], 0, none⟩) ∧
    s.clips.fill = .nothing ∧ s.clips.channelHeld = false ∧ (∀ p : Fin 3, s.players.get p = ⟨.idle, none, 0⟩) ∧
    s.intake.minuteOfWeek = none ∧ s.intake.queue = [] ∧ (∀ k : Fin 16, s.intake.recent.get k = none) ∧
    s.intake.recording.state = .none ∧
    s.air.state = .idle ∧ s.air.airing = none ∧ s.air.waitSet = [] ∧ s.air.bypass = false ∧
    s.link.mode = .waking ∧ s.link.wakePhase = .burst ∧ s.link.burstNumber = 1 ∧ s.link.burstIndex = 0 ∧
    s.link.sfc = 0 ∧ s.link.rfc = 0 ∧ s.link.nextSeq = 0 ∧ s.link.queue = [] ∧ s.link.inFlight = none ∧
    s.link.pattern = BitVec.allOnes 15 ∧
    s.orders.queue = [] ∧ s.orders.pointer = ⟨.gain, 0, 0, .write⟩ ∧ s.orders.staged = [] ∧
    (∀ k : Fin 25, s.notices.latches.get k = none) ∧ counterValues s = List.replicate 67 0 ∧ s.pending = []

/-- R206 with R15, R41, R63, R65, R88, R118, R143, R163, R185, R191, R194: RESTART is answered DONE, and in the same
step the programme feed, the delay line, the lines, every FILLING and alert slot, the holds, the players, the alert
queue, the air stage and the link are set back; tables, carts, notices and clocks stay, and the "alert on air" flag
until the next air frame. The link starts a wake, in phase BURST with burst number 1 and burst index 0, which adds 1
to the wakes started counter; every other counter stays. Frames already handed on stay, and so do the kind, declared
length and stamp of an emptied slot (the model's choices, log entries 36 and 29). -/
def Obligations.RestartLeaves : Prop :=
  ∀ (s : State) (o : QueuedOrder) (rest : List QueuedOrder), s.Heads o rest 0x23 [] →
    let gone (n : Fin 32) : Bool := (s.clips.slots.get n).state ∈ [SlotState.filling, .recording, .alertHeld]
    let burst : List Nat := match s.clips.fill with
      | .opened b => [b.page]
      | _ => []
    ∃ t, exec .restart s = .next t ∧
      t = { s with
        studio := { s.studio with expected := none, queue := [], missingRun := 0, lost := false, fillStopMarked := false }
        mix := { s.mix with snap := true }
        delay := { s.delay with
          held := 0
          readPos := s.delay.writePos
          state := if s.delay.target = 0 then .live else .building
          hold := false
          spacing := 0
          lastGiven := PgmFrame.silence
          overflowMark := false
          holdExchanges := 0 }
        line := { s.line with
          lines := Vector.replicate 6 ⟨.idle, 0, 0, 0⟩
          ready := []
          screening := none
          onAir := 0
          feeds := Vector.replicate 6 Frame.silence }
        clips := { s.clips with
          free := s.clips.free ++ burst ++ (List.finRange 32).flatMap fun n =>
            if gone n then (s.clips.slots.get n).chain else []
          slots := t.clips.slots
          holds := Vector.replicate 4 none
          fill := .nothing
          channelHeld := false }
        players := Vector.replicate 3 ⟨.idle, none, 0⟩
        intake := { s.intake with queue := [], recording := ⟨.none, none, none, 0, 0, false⟩ }
        air := t.air
        link := t.link
        orders := s.orders.took rest .done
        sent := ⟨[replyTo o .done []], [], []⟩ } ∧
      (∀ n, t.clips.slots.get n =
        if gone n then { s.clips.slots.get n with state := .empty, length := 0, chain := [], useCount := 0 }
        else { s.clips.slots.get n with useCount := 0 }) ∧
      t.air = { AirStage.reset with
        attentionFrames := s.air.attentionLength
        attentionSlot := s.air.attentionSlot
        attentionLength := s.air.attentionLength
        breakDeadline := s.air.breakDeadline
        counters := s.air.counters
        onAirFlag := s.air.onAirFlag } ∧
      t.link.mode = .waking ∧ t.link.wakePhase = .burst ∧ t.link.burstNumber = 1 ∧ t.link.burstIndex = 0 ∧
      t.link.level = none ∧ t.link.sfc = 0 ∧ t.link.rfc = 0 ∧ t.link.queue = [] ∧ t.link.inFlight = none ∧
      t.link.phase = .none ∧ t.link.capture = none ∧ t.link.nextSeq = s.link.nextSeq ∧
      t.link.lastSeq = s.link.lastSeq ∧ t.link.judged = s.link.lastSeq ∧ t.link.pattern = s.link.pattern ∧
      t.link.nextNumber = s.link.nextNumber ∧
      t.link.counters = { s.link.counters with wakesStarted := min (s.link.counters.wakesStarted + 1) 65535 }

/-! ### Caller lines -/

/-- R69: what a line's change of state does to the line and to the shared items, the other lines standing. -/
def Obligations.LineChangesState : Prop :=
  ∀ (l : LineUnit) (k : Fin 6) (new : LineState), l.agrees = true →
    let l' := l.change k new
    l'.line k = { l.line k with state := new, timeInState := 0, tag := if new = .ringing then 0 else (l.line k).tag } ∧
    (∀ j, j ≠ k → l'.line j = l.line j) ∧
    l'.ready = (l.ready.filter fun j => j ≠ k) ++ (if new = .ready then [k] else []) ∧
    l'.screening = (if new = .screening then some k else if l.screening = some k then none else l.screening) ∧
    l'.onAir = (l'.linesIn .onAir).length ∧
    l' = { l with lines := l'.lines, ready := l'.ready, screening := l'.screening, onAir := l'.onAir }

/-- R76 to R79, R82, R83: LINE-HOLD, LINE-READY and LINE-DROP take a line from the states of their tables to HOLD,
READY and IDLE, answered DONE with the line, its state and the on-air count after; LINE-ANSWER takes a RINGING, HOLD
or READY line to SCREENING, a line that was SCREENING first entering HOLD. In every other state they are refused with
REFUSED_STATE, with the line and its state, and change nothing. LINE-TAG sets the tag of a line in any state, clamped
to 65,535, and carries the tag before (its place in the reply is the model's choice, log entry 18); a line above 5 is
refused with REFUSED_ARGUMENT. -/
def Obligations.LineOrdersMoveLines : Prop :=
  (∀ (s : State) (o : QueuedOrder) (rest : List QueuedOrder) (k : Fin 6) (w : Word), w.toNat = k.val →
    let x := (s.line.line k).state
    let refused := s.answered o rest .refusedState [Word.nat k.val, Word.nat x.code]
    let moved (l : LineUnit) : State := { s with line := l }.answered o rest .done
      [Word.nat k.val, Word.nat (l.line k).state.code, Word.nat l.onAir]
    (s.Heads o rest 0x41 [w] →
      exec .lineHold s = .next (if x ∈ [LineState.screening, .onAir] then moved (s.line.change k .hold) else refused)) ∧
    (s.Heads o rest 0x42 [w] →
      exec .lineReady s = .next (if x ∈ [LineState.screening, .hold] then moved (s.line.change k .ready) else refused)) ∧
    (s.Heads o rest 0x44 [w] →
      exec .lineDrop s =
        .next (if x ∈ [LineState.screening, .hold, .ready, .onAir] then
          moved { s.line.change k .idle with
            counters := { s.line.counters with dropped := min (s.line.counters.dropped + 1) 65535 } }
        else refused))) ∧
  (∀ (s : State) (o : QueuedOrder) (rest : List QueuedOrder) (w v : Word), 5 < w.toNat → s.Heads o rest 0x45 [w, v] →
    exec .lineTag s = .next (s.answered o rest .refusedArgument [])) ∧
  ∀ (s : State) (o : QueuedOrder) (rest : List QueuedOrder) (k : Fin 6) (w v : Word), w.toNat = k.val →
    let x := (s.line.line k).state
    (s.Heads o rest 0x40 [w] →
      let l1 := match s.line.screening with
        | some j => s.line.change j .hold
        | none => s.line
      let l2 := l1.change k .screening
      exec .lineAnswer s =
        .next (if x ∈ [LineState.ringing, .hold, .ready] then
          { s with line := l2 }.answered o rest .done
            [Word.nat k.val, Word.nat 2, Word.nat l2.onAir, Word.nat ((s.line.screening.map Fin.val).getD 255)]
        else s.answered o rest .refusedState [Word.nat k.val, Word.nat x.code])) ∧
    (s.Heads o rest 0x45 [w, v] →
      ∃ t, exec .lineTag s = .next t ∧
        t = { s with
          line := { s.line with lines := t.line.lines }
          orders := s.orders.took rest (if v.toNat ≤ 65535 then .done else .doneClamped)
          sent := ⟨[replyTo o (if v.toNat ≤ 65535 then .done else .doneClamped)
            [Word.nat (s.line.line k).tag.toNat, Word.nat k.val, Word.nat x.code, Word.nat s.line.onAir]], [], []⟩ } ∧
        t.line.line k = { s.line.line k with tag := BitVec.ofNat 16 (min v.toNat 65535) } ∧
        ∀ j, j ≠ k → t.line.line j = s.line.line j)

/-- R80, R76: LINE-TAKE on a named line, or with no argument word on the head of the ready queue, the first condition
that applies deciding: REFUSED_STATE, REFUSED_FULL, or ON_AIR. Where no line is named the refusal carries 255, and the
none word for the state (the model's choice, log entry 21). -/
def Obligations.LineTakePutsOnAir : Prop :=
  ∀ (s : State) (o : QueuedOrder) (rest : List QueuedOrder),
    let taken (k : Fin 6) : State := { s with line := s.line.change k .onAir }.answered o rest .done
      [Word.nat k.val, Word.nat 5, Word.nat (s.line.change k .onAir).onAir]
    (∀ (k : Fin 6) (w : Word), s.Heads o rest 0x43 [w] → w.toNat = k.val →
      let x := (s.line.line k).state
      let words := [Word.nat k.val, Word.nat x.code]
      exec .lineTake s =
        .next (if x ∉ [LineState.screening, .hold, .ready] then s.answered o rest .refusedState words
          else if s.line.capacity ≤ s.line.onAir then s.answered o rest .refusedFull words
          else taken k)) ∧
    (s.Heads o rest 0x43 [] →
      exec .lineTake s =
        .next (match s.line.ready with
          | [] => s.answered o rest .refusedState [Word.nat 255, Word.none]
          | k :: _ =>
            if s.line.capacity ≤ s.line.onAir then s.answered o rest .refusedFull [Word.nat 255, Word.none]
            else taken k))

/-- R64 to R66, R69 to R75, R85: in one line bus cycle each line moves by its own slot, record and limits alone; a
present slot gives its caller frame; the six outgoing slots, SEIZE with the feed on a connected line and RELEASE with
silence on any other, follow the line frames; RING, HUNG_UP, LINE_FAULT and LINE_TIMEOUT are the kinds it may latch.
-/
def Obligations.LineCycleMovesLines : Prop :=
  ∀ (s : State) (slots : IncomingSlots), ∃ t, exec (.lineBusCycle slots) s = .next t ∧
    t = { s with line := t.line, notices := t.notices, sent := t.sent } ∧
    (∀ k, t.line.line k =
      Line.afterCycle (s.setting Setting.ringLimit) ((s.tables.lineConf.get k).holdSeconds * 1000) (slots.get k)
        (s.line.line k)) ∧
    (∀ k, t.line.callers.get k = if slotPresent (slots.get k) then some (blockAt (slots.get k) 1) else none) ∧
    t.line.conf = s.tables.lineConf ∧ t.line.capacity = s.setting Setting.onairCapacity ∧
    t.line.ringLimit = s.setting Setting.ringLimit ∧ t.line.feeds = s.line.feeds ∧
    t.sent.link = [] ∧
    (t.sent.slots = (List.finRange 6).map fun k =>
      let seize := (t.line.line k).state.connected
      let bytes : List Byte := (if seize then 1 else 0) :: blockBytes (if seize then s.line.feeds.get k else Frame.silence)
      bytes ++ crc16Bytes bytes) ∧
    ((t.notices.latches.get 4).isSome ↔
      (s.notices.latches.get 4).isSome ∨ ∃ k, (s.line.line k).state = .idle ∧ (t.line.line k).state = .ringing) ∧
    ∀ n : Fin 25, n ∉ [4, 5, 6, 7] → t.notices.latches.get n = s.notices.latches.get n

/-- R74, R75: the cycle in which a RINGING line reaches the ring limit, or a HOLD or READY line its hold limit, takes
that line to IDLE with LINE_TIMEOUT latched and counts the missed call or the hold timeout. A row whose line is in
another state does nothing (the model's choice, log entry 3). -/
def Obligations.LineLimits : Prop :=
  ∀ (s : State) (k : Fin 6) (slots : IncomingSlots),
    let r := s.line.line k
    let missing := if slotPresent (slots.get k) then 0 else min (r.missingRun + 1) 65535
    let time := min (r.timeInState + 1) 4294967295
    (r.state.afterSlot (slots.get k) missing = .ringing → r.state = .ringing → s.setting Setting.ringLimit ≤ time →
      ∃ t, exec (.ringLimitReached k slots) s = .next t ∧ exec (.lineBusCycle slots) s = .next t ∧
        t.line.line k = ⟨.idle, 0, r.tag, missing⟩ ∧ (t.notices.latches.get 7).isSome ∧
        min (s.line.counters.missed + 1) 65535 ≤ t.line.counters.missed) ∧
    (r.state.afterSlot (slots.get k) missing = r.state → r.state = .hold ∨ r.state = .ready →
      (s.tables.lineConf.get k).holdSeconds * 1000 ≤ time →
      ∃ t, exec (.holdLimitReached k slots) s = .next t ∧ exec (.lineBusCycle slots) s = .next t ∧
        t.line.line k = ⟨.idle, 0, r.tag, missing⟩ ∧ (t.notices.latches.get 7).isSome ∧
        min (s.line.counters.holdTimeout + 1) 65535 ≤ t.line.counters.holdTimeout) ∧
    (r.state ≠ .ringing →
      exec (.ringLimitReached k slots) s = .next { s with sent := ⟨[], [], []⟩ }) ∧
    (r.state ≠ .hold → r.state ≠ .ready →
      exec (.holdLimitReached k slots) s = .next { s with sent := ⟨[], [], []⟩ })

/-! ### Clip store and players -/

/-- R95, R101, R102: CLIP-OPEN makes an EMPTY slot FILLING with the declared length, clamped to 1..196,608; CLIP-ABORT
empties a FILLING slot, the page of its burst in flight first returning to the list; CLIP-ERASE empties a READY slot
of use count 0. In every other state, and on a held READY slot, they are refused with REFUSED_STATE and change
nothing, and for a slot number above 31 with REFUSED_ARGUMENT. Their refusals carry no data words, the pages that
CLIP-ABORT answers include the burst's, and an emptied slot keeps its kind, declared length and stamp (the model's
choices, log entries 27, 22 and 29). -/
def Obligations.ClipOpenAbortErase : Prop :=
  (∀ (s : State) (o : QueuedOrder) (rest : List QueuedOrder) (w v : Word), 31 < w.toNat →
    (s.Heads o rest 0x50 [w, v] → exec .clipOpen s = .next (s.answered o rest .refusedArgument [])) ∧
    (s.Heads o rest 0x51 [w] → exec .clipAbort s = .next (s.answered o rest .refusedArgument [])) ∧
    (s.Heads o rest 0x52 [w] → exec .clipErase s = .next (s.answered o rest .refusedArgument []))) ∧
  ∀ (s : State) (o : QueuedOrder) (rest : List QueuedOrder) (n : Fin 32) (w v : Word), w.toNat = n.val →
    let t := s.clips.slots.get n
    let emptied : Slot := { t with state := .empty, length := 0, chain := [], useCount := 0 }
    let refused := s.answered o rest .refusedState []
    (s.Heads o rest 0x50 [w, v] →
      let d := max 1 (min v.toNat 196608)
      exec .clipOpen s =
        .next (if t.state = .empty then
          { s with clips := { s.clips with slots := s.clips.slots.set n ⟨.filling, .cart, d, 0, [], 0, none⟩ } }.answered
            o rest (if d = v.toNat then .done else .doneClamped) [Word.nat n.val, Word.nat 1, Word.nat ((d + 255) / 256)]
        else refused)) ∧
    (s.Heads o rest 0x51 [w] →
      let burst : Option Nat := match s.clips.fill with
        | .opened b => if b.slot = n then some b.page else none
        | _ => none
      let pages := burst.toList ++ t.chain
      exec .clipAbort s =
        .next (if t.state = .filling then
          { s with clips := { s.clips with
            free := s.clips.free ++ pages
            slots := s.clips.slots.set n emptied
            fill := if burst.isSome then .nothing else s.clips.fill } }.answered o rest .done
              [Word.nat n.val, Word.nat pages.length, Word.nat (s.clips.free.length + pages.length)]
        else refused)) ∧
    (s.Heads o rest 0x52 [w] →
      exec .clipErase s =
        .next (if t.state = .ready ∧ t.useCount = 0 then
          { s with clips := { s.clips with
            free := s.clips.free ++ t.chain
            slots := s.clips.slots.set n emptied } }.answered o rest .done
              [Word.nat n.val, Word.nat t.chain.length, Word.nat (s.clips.free.length + t.chain.length)]
        else refused))

/-- R97, R98, R103: a FILL frame with frame index 0 begins a burst. A burst in flight is abandoned, its page returning
to the list. A slot not FILLING or a page index that is not the next is refused; a free count at or below the reserve,
or an empty list, is answered full; otherwise the page at the head of the list takes the frame. While the channel is
held, the record becomes cut. With the channel free, a later frame goes on with the open burst where it names its
slot, its page index and its next frame below the expected count, and spoils an unspoiled burst otherwise; with no
record it is a stray, as is a frame of another length and one that names no slot or page (log entry 23). -/
def Obligations.FillFramesTaken : Prop :=
  (∀ (s : State) (n : Fin 32) (pageIndex : Nat) (data : List Byte), pageIndex < 768 → data.length = 288 →
    let body := [BitVec.ofNat 8 n.val] ++ beBytes 2 pageIndex ++ [0, 0, 0, 0] ++ data
    let slot := s.clips.slots.get n
    let burst : List Nat := match s.clips.fill with
      | .opened b => [b.page]
      | _ => []
    let pages := s.clips.free ++ burst
    ∃ t, exec (.fill body) s = .next t ∧
      t = { s with clips := t.clips, sent := ⟨[], [], []⟩ } ∧
      t.clips = { s.clips with
        free := t.clips.free
        fill := t.clips.fill
        region := t.clips.region
        counters := { s.clips.counters with abandoned := t.clips.counters.abandoned } } ∧
      (s.clips.channelHeld = true → t.clips.fill = .cut n pageIndex ∧ t.clips.free = pages ∧
        t.clips.region = s.clips.region ∧ t.clips.counters = s.clips.counters) ∧
      (s.clips.channelHeld = false →
        t.clips.counters.abandoned = min (s.clips.counters.abandoned + burst.length) 65535 ∧
        (slot.state ≠ .filling ∨ pageIndex ≠ slot.length / 256 →
          t.clips.fill = .refused n pageIndex .refused ∧ t.clips.free = pages ∧ t.clips.region = s.clips.region) ∧
        (slot.state = .filling → pageIndex = slot.length / 256 →
          (pages.length ≤ s.clips.reserve ∨ pages = [] →
            t.clips.fill = .refused n pageIndex .full ∧ t.clips.free = pages ∧ t.clips.region = s.clips.region) ∧
          ∀ page left, pages = page :: left → s.clips.reserve < pages.length →
            t.clips.free = left ∧
            t.clips.fill = .opened ⟨n, pageIndex, page, 1, min 256 (slot.declared - 256 * pageIndex), crc16 data, false⟩ ∧
            Memory.read StereoFrame.silence t.clips.region (page * 256) = ⟨blockAt data 0, blockAt data 144⟩ ∧
            ∀ b, b ≠ page * 256 →
              Memory.read StereoFrame.silence t.clips.region b = Memory.read StereoFrame.silence s.clips.region b))) ∧
  (∀ (s : State) (body : List Byte),
    body.length ≠ 295 ∨
      (s.clips.channelHeld = false ∧ (31 < (byteAt body 0).toNat ∨ 768 ≤ (byteAt body 1 ++ byteAt body 2).toNat)) →
    exec (.fill body) s =
      .next { s with
        clips := { s.clips with
          counters := { s.clips.counters with stray := min (s.clips.counters.stray + 1) 65535 } }
        sent := ⟨[], [], []⟩ }) ∧
  ∀ (s : State) (n : Fin 32) (pageIndex index : Nat) (data : List Byte), pageIndex < 768 → data.length = 288 →
    1 ≤ index → index < 256 → s.clips.channelHeld = false →
    let body := [BitVec.ofNat 8 n.val] ++ beBytes 2 pageIndex ++ [BitVec.ofNat 8 index, 0, 0, 0] ++ data
    (∀ b, s.clips.fill = .opened b → b.spoiled = false →
      (b.slot = n → b.pageIndex = pageIndex → b.nextFrame = index → index < b.expected →
        ∃ t, exec (.fill body) s = .next t ∧
          t = { s with
            clips := { s.clips with
              region := t.clips.region
              fill := .opened { b with nextFrame := index + 1, crc := crc16More b.crc data } }
            sent := ⟨[], [], []⟩ } ∧
          Memory.read StereoFrame.silence t.clips.region (b.page * 256 + index) = ⟨blockAt data 0, blockAt data 144⟩ ∧
          ∀ a, a ≠ b.page * 256 + index →
            Memory.read StereoFrame.silence t.clips.region a = Memory.read StereoFrame.silence s.clips.region a) ∧
      (b.slot ≠ n ∨ b.pageIndex ≠ pageIndex ∨ b.nextFrame ≠ index ∨ b.expected ≤ index →
        exec (.fill body) s =
          .next { s with
            clips := { s.clips with fill := .opened { b with spoiled := true } }
            sent := ⟨[], [], []⟩ })) ∧
    (s.clips.fill = .nothing →
      exec (.fill body) s =
        .next { s with
          clips := { s.clips with
            counters := { s.clips.counters with stray := min (s.clips.counters.stray + 1) 65535 } }
          sent := ⟨[], [], []⟩ })

/-- R99, R100, R207, R209: a FILL-CHECK, as it is or padded (log entry 30), of the open burst judges it. A good
burst's page joins the chain, the slot growing by the expected count and becoming READY at the declared length with
SLOT_READY latched, its NOTICE leaving before the reply (the model's choice, log entry 46); a bad one returns its
page. A check that finds no open burst of its own slot and page is answered CUT while the channel is held; else CUT by
a cut record of its own, with the record's result by a refused record of its own, and REFUSED otherwise. The record
answered becomes none, save a refused one while the channel is held; any other stands. The reply carries code FFh and
the result; of a slot number above 31 it carries no length and no state (the model's choice, log entry 28). -/
def Obligations.FillCheckJudges : Prop :=
  (∀ (s : State) (src : MacAddress) (n : Fin 32) (pageIndex count : Nat) (tag crc : BitVec 16), pageIndex < 65536 →
    count < 65536 →
    let payload := [0x04, BitVec.ofNat 8 n.val] ++ beBytes 2 pageIndex ++ beBytes 2 tag.toNat ++ beBytes 2 count ++
      beBytes 2 crc.toNat
    let slot := s.clips.slots.get n
    ∀ body, 0x04 :: body = payload ∨ 0x04 :: body = padded payload →
    ∃ t, exec (.fillCheck src body) s = .next t ∧
      t = { s with clips := t.clips, notices := t.notices, sent := t.sent } ∧ t.clips.region = s.clips.region ∧
      let answered (result : Nat) : Prop := t.sent.studio.getLast? =
        some ⟨some src, 0x88B5, padded (replyFrame tag 0xFF result 0 true
          [Word.nat n.val, Word.nat pageIndex, Word.nat (t.clips.slots.get n).length,
            Word.nat (t.clips.slots.get n).state.code, Word.nat t.clips.free.length])⟩
      (∀ b, s.clips.fill = .opened b → b.slot = n → b.pageIndex = pageIndex →
        t.clips.fill = .nothing ∧ (∀ m, m ≠ n → t.clips.slots.get m = s.clips.slots.get m) ∧
        (b.spoiled = false ∧ count = b.nextFrame ∧ count = b.expected ∧ crc = b.crc →
          answered 0x10 ∧ t.clips.free = s.clips.free ∧
          let full := slot.length + b.expected = slot.declared
          t.clips.slots.get n = { slot with
            chain := slot.chain ++ [b.page]
            length := slot.length + b.expected
            state := if full then .ready else slot.state
            stamp := if full then none else slot.stamp } ∧
          (full → t.notices.latches.get 11 =
            some ((s.notices.latches.get 11).getD [Word.nat n.val, Word.nat slot.declared])) ∧
          (¬full → t.notices = s.notices)) ∧
        (¬(b.spoiled = false ∧ count = b.nextFrame ∧ count = b.expected ∧ crc = b.crc) →
          answered 0x11 ∧ t.clips.free = s.clips.free ++ [b.page] ∧ t.clips.slots = s.clips.slots ∧
          t.notices = s.notices ∧ t.clips.counters.burstBad = min (s.clips.counters.burstBad + 1) 65535)) ∧
      ((∀ b, s.clips.fill = .opened b → b.slot ≠ n ∨ b.pageIndex ≠ pageIndex) →
        let held := s.clips.channelHeld
        let (result, left) : BurstResult × FillRecord := match s.clips.fill with
          | .cut m p => if m = n ∧ p = pageIndex then (.cut, .nothing) else (if held then .cut else .refused, .cut m p)
          | .refused m p x =>
            if held then (.cut, .refused m p x)
            else if m = n ∧ p = pageIndex then (x, .nothing) else (.refused, .refused m p x)
          | record => (if held then .cut else .refused, record)
        answered result.code ∧ t.notices = s.notices ∧
        t.clips = { s.clips with fill := left, counters := countBurst result s.clips.counters })) ∧
  ∀ (s : State) (src : MacAddress) (slot : Byte) (pageIndex : Nat) (tag count crc : BitVec 16), 31 < slot.toNat →
    pageIndex < 65536 →
    let held := s.clips.channelHeld
    let k := s.clips.counters
    exec (.fillCheck src ([slot] ++ beBytes 2 pageIndex ++ beBytes 2 tag.toNat ++ beBytes 2 count.toNat ++
        beBytes 2 crc.toNat)) s =
      .next { s with
        clips := { s.clips with counters := if held then { k with burstCut := min (k.burstCut + 1) 65535 }
          else { k with burstRefused := min (k.burstRefused + 1) 65535 } }
        sent := ⟨[⟨some src, 0x88B5, padded (replyFrame tag 0xFF (if held then 0x13 else 0x14) 0 true
          [Word.nat slot.toNat, Word.nat pageIndex, Word.none, Word.none, Word.nat s.clips.free.length])⟩], [], []⟩ }

/-- R92, R108 to R112: PLAYER-CUE, and PLAYER-START with a slot, put player A or B that is not RUNNING on a READY CART
slot that can take its hold, at position 0, in place of any hold on another slot; a start also stamps the slot. A
RUNNING player, and a slot of another state, refuse with REFUSED_STATE and the player's words. PLAYER-START without a
slot runs a CUED player; PLAYER-STOP makes a player IDLE and gives up its hold, and changes nothing on an IDLE one.
Other arguments, a player number above 1, a slot number above 31 or another count of words, are refused with
REFUSED_ARGUMENT and the words of the player that the first word names (for a number above 2, no state, slot 255 and
no position, and none without a first word: the model's choices, log entry 27). R112, R113: at a mix frame a RUNNING
player goes on by one frame; at the end of its clip it stops under STOP and SIGN_OFF, begins again under LOOP, and
under CHAIN begins the target, where that can take its hold, or stops; each end but LOOP's is counted and latches
PLAYER_END, player A's end being taken before player B's (the model's choice, log entry 16). The chain result is the
none word where there is no chain (the model's choice, log entry 20). -/
def Obligations.PlayersCueStartStop : Prop :=
  (∀ (s : State) (o : QueuedOrder) (rest : List QueuedOrder) (p : Fin 2) (n : Fin 32) (w v : Word), w.toNat = p.val →
    v.toNat = n.val →
    let r := s.players.get (p.castLE (by decide))
    let held := s.clips.holds.get (p.castLE (by decide))
    let slot := s.clips.slots.get n
    let moved (code : PlayerState) (stamp : Option (BitVec 32)) (t : State) : Prop :=
      t = { s with
        clips := { s.clips with
          slots := t.clips.slots
          holds := s.clips.holds.set p.val (some n) }
        players := s.players.set p.val ⟨code, some n, 0⟩
        orders := s.orders.took rest .done
        sent := ⟨[replyTo o .done [Word.nat p.val, Word.nat code.code, Word.nat n.val, Word.nat 0]], [], []⟩ } ∧
      ∀ m, t.clips.slots.get m = { s.clips.slots.get m with
        useCount :=
          if held = some n then (s.clips.slots.get m).useCount
          else if m = n then (s.clips.slots.get m).useCount + 1
          else if held = some m then (s.clips.slots.get m).useCount - 1
          else (s.clips.slots.get m).useCount
        stamp := if m = n then stamp else (s.clips.slots.get m).stamp }
    let refused : State := s.answered o rest .refusedState
      [Word.nat p.val, Word.nat r.state.code, Word.nat ((r.slot.map Fin.val).getD 255), Word.nat r.position]
    (r.state ≠ .running → slot.state = .ready → slot.kind = .cart → held = some n ∨ slot.useCount < 3 →
      (s.Heads o rest 0x58 [w, v] → ∃ t, exec .playerCue s = .next t ∧ moved .cued slot.stamp t) ∧
      (s.Heads o rest 0x59 [w, v] → ∃ t, exec .playerStart s = .next t ∧ moved .running (some s.frameCount) t)) ∧
    (r.state = .running ∨ slot.state ≠ .ready ∨ slot.kind ≠ .cart ∨ (held ≠ some n ∧ 3 ≤ slot.useCount) →
      (s.Heads o rest 0x58 [w, v] → exec .playerCue s = .next refused) ∧
      (s.Heads o rest 0x59 [w, v] → exec .playerStart s = .next refused))) ∧
  (∀ (s : State) (o : QueuedOrder) (rest : List QueuedOrder) (p : Fin 2) (w : Word), w.toNat = p.val →
    let r := s.players.get (p.castLE (by decide))
    let words (r : Player) : List Word :=
      [Word.nat p.val, Word.nat r.state.code, Word.nat ((r.slot.map Fin.val).getD 255), Word.nat r.position]
    (s.Heads o rest 0x59 [w] →
      (∀ n, r.state = .cued → r.slot = some n →
        let r' : Player := { r with state := .running }
        exec .playerStart s =
          .next ({ s with
            clips := { s.clips with
              slots := s.clips.slots.set n { s.clips.slots.get n with stamp := some s.frameCount } }
            players := s.players.set p.val r' }.answered o rest .done (words r'))) ∧
      (r.state ≠ .cued → exec .playerStart s = .next (s.answered o rest .refusedState (words r)))) ∧
    (s.Heads o rest 0x5A [w] →
      (r.state = .idle → exec .playerStop s = .next (s.answered o rest .done (words r))) ∧
      (∀ n, r.state ≠ .idle → s.clips.holds.get (p.castLE (by decide)) = some n →
        let slot := s.clips.slots.get n
        exec .playerStop s =
          .next ({ s with
            clips := { s.clips with
              slots := s.clips.slots.set n { slot with useCount := slot.useCount - 1 }
              holds := s.clips.holds.set p.val none }
            players := s.players.set p.val ⟨.idle, none, 0⟩ }.answered o rest .done (words ⟨.idle, none, 0⟩)))) ∧
    ∀ ws : List Word,
      let refused : State := s.answered o rest .refusedArgument
        (match ws with
          | [] => []
          | v :: _ =>
            if named : v.toNat < 3 then
              let r := s.players.get ⟨v.toNat, named⟩
              [v, Word.nat r.state.code, Word.nat ((r.slot.map Fin.val).getD 255), Word.nat r.position]
            else [v, Word.none, 255, Word.none])
      let noPlayer := ∃ v more, ws = v :: more ∧ 1 < v.toNat
      let noSlot := ∃ v x, ws = [v, x] ∧ 31 < x.toNat
      (s.Heads o rest 0x58 ws → ws.length ≠ 2 ∨ noPlayer ∨ noSlot → exec .playerCue s = .next refused) ∧
      (s.Heads o rest 0x59 ws → (ws.length ≠ 1 ∧ ws.length ≠ 2) ∨ noPlayer ∨ noSlot →
        exec .playerStart s = .next refused) ∧
      (s.Heads o rest 0x5A ws → ws.length ≠ 1 ∨ noPlayer → exec .playerStop s = .next refused)) ∧
  ∀ (s : State) (p : Fin 2) (n : Fin 32),
    let q : Fin 3 := p.castLE (by decide)
    let r := s.players.get q
    let conf := s.tables.slotConf.get n
    let length := (s.clips.slots.get n).length
    r.state = .running → r.slot = some n → s.clips.holds.get q.castSucc = some n → r.position < length →
    ∃ t, exec .mixFrame s = .next t ∧
      let plays (m : Fin 32) (position : Nat) : Prop :=
        t.players.get q = ⟨.running, some m, position⟩ ∧ t.clips.holds.get q.castSucc = some m
      let stops : Prop := t.players.get q = ⟨.idle, none, 0⟩ ∧ t.clips.holds.get q.castSucc = none
      let latches (chain continued : Word) : Prop :=
        min (s.clips.counters.ended + 1) 65535 ≤ t.clips.counters.ended ∧
        (p = 0 ∨ (s.players.get 0).state ≠ .running → t.notices.latches.get 13 =
          some ((s.notices.latches.get 13).getD
            [Word.nat p.val, Word.nat n.val, Word.nat conf.endAction.code, chain, continued]))
      (r.position + 1 < length → plays n (r.position + 1)) ∧
      (r.position + 1 = length →
        (conf.endAction = .stop ∨ conf.endAction = .signOff → stops ∧ latches Word.none 255) ∧
        (conf.endAction = .loop → plays n 0 ∧
          ((∀ j : Fin 3, j < 2 → j ≠ q → (s.players.get j).state ≠ .running) →
            t.notices.latches.get 13 = s.notices.latches.get 13)) ∧
        (conf.endAction = .chain → (∀ f, s.usedFrame = some f → f.breakFlag = false) →
          (s.usedFrame = none → (s.players.get 2).state ≠ .idle) → p = 0 ∨ (s.players.get 0).state ≠ .running →
          let target := s.clips.slots.get conf.chain
          if target.state = .ready ∧ target.kind = .cart ∧ (conf.chain = n ∨ target.useCount < 3) then
            plays conf.chain 0 ∧ (t.clips.slots.get conf.chain).stamp = some s.frameCount ∧
              latches 0 (Word.nat conf.chain.val)
          else stops ∧ latches 1 255 ∧
            min (s.clips.counters.chainFailure + 1) 65535 ≤ t.clips.counters.chainFailure))

/-! ### Alert intake -/

/-- R122, R123, R210: a HEADER record laid out as the manual gives it goes through the steps of intake with the fields
it was laid out from, its duration brought to at most 1,440; a record that fails its check, or with a field outside
its range, adds 1 to the intake error counter and does nothing else. -/
def Obligations.HeaderFieldsTaken : Prop :=
  (∀ (s : State) (h : Header), h.Sound → h.test = false →
    exec (.header (recordRest 1 h.body)) s = .next (intakeHeader h.capped { s with sent := ⟨[], [], []⟩ }).1) ∧
  ∀ (s : State) (rest : List Byte) (h : Header),
    recordChecked (1 :: rest) = false ∨
      (rest = recordRest 1 h.body ∧ h.areas.length ≤ 80 ∧
        h.issuerClass < 256 ∧ h.severity < 256 ∧ h.issuedAt < 65536 ∧ h.duration < 65536 ∧
        (7 < h.issuerClass ∨ 3 < h.severity ∨ 10080 ≤ h.issuedAt ∨ h.duration = 0 ∨ h.areas = [] ∨
          12 < h.areas.length)) →
    exec (.header rest) s =
      .next { s with
        intake := { s.intake with
          counters := { s.intake.counters with error := min (s.intake.counters.error + 1) 65535 } }
        sent := ⟨[], [], []⟩ }

/-- R124, R125, R128: a stale header, a duplicate and a header that the filter discards are counted and leave no
record; only the last enters the recent-alert table, in its lowest empty entry, or else in place of the entry with the
fewest remaining minutes, the lowest among equals. -/
def Obligations.HeaderEndsEarly : Prop :=
  (∀ (recent : Vector (Option RecentEntry) 16) (k : Fin 16),
    (recent.get k = none → (∀ j, j < k → recent.get j ≠ none) → recentPlace recent = k) ∧
    ∀ e, (∀ j, recent.get j ≠ none) → recent.get k = some e →
      (∀ j d, recent.get j = some d → e.remaining < d.remaining ∨ (e.remaining = d.remaining ∧ k ≤ j)) →
      recentPlace recent = k) ∧
  ∀ (s : State) (h : Header), h.Sound → h.test = false →
    let remaining := s.intake.remainingOf h.capped
    let k := s.intake.counters
    let left (a : AlertIntake) : Host.Outcome State Fault Refusal := .next { s with intake := a, sent := ⟨[], [], []⟩ }
    let known := (∃ n e, s.intake.recent.get n = some e ∧ e.identity = h.identity) ∨ h.identity ∈ s.intake.identities
    (remaining = 0 →
      exec (.header (recordRest 1 h.body)) s =
        left { s.intake with counters := { k with stale := min (k.stale + 1) 65535 } }) ∧
    (0 < remaining → known →
      exec (.header (recordRest 1 h.body)) s =
        left { s.intake with counters := { k with duplicate := min (k.duplicate + 1) 65535 } }) ∧
    (0 < remaining → ¬known → (s.intake.filterDecision h.capped).verdict = .discard →
      exec (.header (recordRest 1 h.body)) s =
        left { s.intake with
          recent := s.intake.recent.set (recentPlace s.intake.recent) (some ⟨h.identity, remaining⟩)
          counters := { k with filterDiscard := min (k.filterDiscard + 1) 65535 } })

/-- R128: the lowest-numbered enabled entry whose masked tests of the event and of an area hold decides a header;
where none does, the three defaults do. -/
def Obligations.FilterLowestDecides : Prop :=
  ∀ (a : AlertIntake) (h : Header),
    let hit (k : Fin 16) : Prop :=
      let e := a.filter.get k
      e.enable = true ∧ h.event &&& e.eventMask = e.eventValue &&& e.eventMask ∧
        ∃ x ∈ h.areas, x &&& e.areaMask1 = e.areaValue1 &&& e.areaMask1 ∨
          (e.paired = true ∧ x &&& e.areaMask2 = e.areaValue2 &&& e.areaMask2)
    (∀ k, hit k → (∀ j, j < k → ¬hit j) →
      a.filterDecision h = ⟨(a.filter.get k).verdict, (a.filter.get k).airMode, (a.filter.get k).priority, k.val⟩) ∧
    ((∀ k, ¬hit k) → a.filterDecision h = ⟨a.defaultVerdict, a.defaultMode, a.defaultPriority, 255⟩)

/-- R129 to R132, R189, R191: an accepted header that fits joins the tail of the alert queue as a whole record, which
is counted and latches ALERT_ACCEPTED; it wakes a sleeping link and aborts a negotiation, unless LOG_ONLY. R149, R151:
the selection then runs, and in IDLE, no other record being eligible, it commits an IMMEDIATE record, which goes to
LEAD_IN, and waits in WAIT_BREAK with a NEXT_BREAK one whose deadline is not 0. R103, R104, R106: with audio, the
lowest-numbered EMPTY slot becomes RECORDING for it and holds the channel; with none EMPTY, the victim of an eviction,
whose pages return to the list and after them that of a burst cut (the model's choice, log entry 42); with no victim
the record has no audio. One that does not fit stores its first words as a torn record, counted as lost, with
ALERT_OVERRUN latched where no torn record was held; with no free word it stores none. -/
def Obligations.HeaderStored : Prop :=
  (∀ (s : State) (h : Header), h.Sound → h.test = false →
    let remaining := s.intake.remainingOf h.capped
    let d := s.intake.filterDecision h.capped
    0 < remaining → s.intake.knows h.identity = false → d.verdict = .accept →
    storedWords s.intake.queue + (6 + h.areas.length) ≤ 192 →
    ∃ t r, exec (.header (recordRest 1 h.body)) s = .next t ∧
      t = { s with clips := t.clips, intake := t.intake, air := t.air, link := t.link, notices := t.notices
                   sent := t.sent } ∧
      t.intake.identities = s.intake.identities ++ [h.identity] ∧ t.intake.queue.getLast? = some r ∧
      r.word 1 = h.identity.issuer ++ h.identity.serial ∧ r.remaining = remaining ∧ r.stamp = s.frameCount ∧
      r.torn = false ∧ r.timeUnknown = s.intake.minuteOfWeek.isNone ∧ r.airMode = d.airMode ∧
      r.priority = d.priority.val ∧ r.words.drop 6 = (h.areas.map fun a => a.setWidth 32) ∧
      t.intake.counters.accepted = min (s.intake.counters.accepted + 1) 65535 ∧
      t.intake.recent = s.intake.recent.set (recentPlace s.intake.recent) (some ⟨h.identity, remaining⟩) ∧
      (t.notices.latches.get 14).isSome ∧
      (d.airMode ≠ .logOnly → s.link.mode = .asleep → t.link.mode = .waking) ∧
      (s.air.state = .idle → chosenRecord s = none → h.identity ∉ s.air.waitSet →
        (s.link.mode = .sleepPending → s.air.waitSet = []) →
        (d.airMode = .immediate → t.air.state = .leadIn ∧ t.air.step = 0 ∧ t.air.airing = some h.identity ∧
          t.air.present = true ∧ r.onAir = true) ∧
        (d.airMode = .nextBreak → 0 < s.air.breakDeadline →
          t.air.state = .waitBreak ∧ t.air.airing = some h.identity ∧ r.onAir = false) ∧
        (d.airMode = .logOnly → t.air.state = .idle ∧ t.air.airing = none ∧ r.onAir = false)) ∧
      (h.audio = false → r.noAudio = true ∧ t.intake.recording = s.intake.recording) ∧
      ∀ n : Fin 32, h.audio = true → (s.clips.slots.get n).state = .empty → s.intake.recording.slot ≠ some n →
        (∀ m, m < n → (s.clips.slots.get m).state ≠ .empty) →
        r.slot = some n ∧ r.noAudio = false ∧
        t.intake.recording = ⟨.waiting, some h.identity, some n, 0, 0, false⟩ ∧
        t.clips.slots.get n = ⟨.recording, .alert, 60000, 0, [], 0, none⟩ ∧ t.clips.channelHeld = true) ∧
  (∀ (s : State) (h : Header), h.Sound → h.test = false →
    let remaining := s.intake.remainingOf h.capped
    let d := s.intake.filterDecision h.capped
    0 < remaining → s.intake.knows h.identity = false → d.verdict = .accept →
    storedWords s.intake.queue + (6 + h.areas.length) ≤ 192 →
    ∃ t r, exec (.header (recordRest 1 h.body)) s = .next t ∧ t.intake.queue.getLast? = some r ∧
      (d.airMode ≠ .logOnly → s.link.mode = .sleepPending →
        t.link.mode = .run ∧ t.link.phase = .none ∧
        t.link.counters.sleepsAborted = min (s.link.counters.sleepsAborted + 1) 65535 ∧
        t.notices.latches.get 21 = some ((s.notices.latches.get 21).getD [2, 3])) ∧
      (h.audio = true → (∀ m, (s.clips.slots.get m).state ≠ .empty) →
        let freed (n : Fin 32) : List Nat := (s.clips.slots.get n).chain
        let (burst, record) : List Nat × FillRecord := match s.clips.fill with
          | .opened b => ([b.page], .cut b.slot b.pageIndex)
          | record => ([], record)
        (∀ n, s.clips.Evicts s.frameCount n → s.intake.recording.slot ≠ some n →
          r.slot = some n ∧ r.noAudio = false ∧
          t.intake.recording = ⟨.waiting, some h.identity, some n, 0, 0, false⟩ ∧
          t.clips.slots.get n = ⟨.recording, .alert, 60000, 0, [], 0, none⟩ ∧ t.clips.channelHeld = true ∧
          t.clips.free = s.clips.free ++ freed n ++ burst ∧ t.clips.fill = record ∧
          t.clips.counters = { s.clips.counters with eviction := min (s.clips.counters.eviction + 1) 65535 } ∧
          t.notices.latches.get 12 =
            some ((s.notices.latches.get 12).getD [Word.nat n.val, Word.nat (freed n).length])) ∧
        ((∀ n, ¬s.clips.evictable n) →
          r.noAudio = true ∧ t.clips.free = s.clips.free ∧ t.clips.fill = s.clips.fill ∧
          t.notices.latches.get 12 = s.notices.latches.get 12 ∧
          (s.intake.recording.state = .none → t.intake.recording = s.intake.recording)))) ∧
  ∀ (s : State) (h : Header), h.Sound → h.test = false →
    let remaining := s.intake.remainingOf h.capped
    let free := 192 - storedWords s.intake.queue
    0 < remaining → s.intake.knows h.identity = false → (s.intake.filterDecision h.capped).verdict = .accept →
    free < 6 + h.areas.length →
    ∃ t, exec (.header (recordRest 1 h.body)) s = .next t ∧
      t = { s with clips := t.clips, intake := t.intake, air := t.air, link := t.link, notices := t.notices
                   sent := t.sent } ∧
      t.intake.counters.lost = min (s.intake.counters.lost + 1) 65535 ∧
      ((∀ r ∈ s.intake.queue, r.torn = false) → (t.notices.latches.get 15).isSome) ∧
      (free = 0 → t.intake.queue = s.intake.queue ∧ t.air = s.air ∧
        t.intake.counters.accepted = s.intake.counters.accepted) ∧
      (0 < free → ∃ r, t.intake.queue.getLast? = some r ∧ t.intake.queue.length = s.intake.queue.length + 1 ∧
        r.words.length = free ∧ r.identity = h.identity ∧ r.torn = true ∧ r.remaining = remaining ∧
        t.intake.counters.accepted = min (s.intake.counters.accepted + 1) 65535)

/-- R139: ALERT-TEST runs the steps of intake for the header that its words give, without audio and flagged as a test,
and is answered with the outcome and the matched filter entry, the none word where the filter was not reached (the
model's choice, log entry 28). With fewer than 4 or more than 15 argument words it is refused with REFUSED_ARGUMENT;
no counter of alert intake moves, and the refusal is counted in the refused order counter (the model's choice, log
entry 48, between R139 and R204). -/
def Obligations.AlertTestTaken : Prop :=
  (∀ (s : State) (o : QueuedOrder) (rest : List QueuedOrder) (ws : List Word), ws.length < 4 ∨ 15 < ws.length →
    s.Heads o rest 0x63 ws → exec .alertTest s = .next (s.answered o rest .refusedArgument [])) ∧
  ∀ (s : State) (o : QueuedOrder) (rest : List QueuedOrder) (h : Header), h.Sound → h.audio = false → h.test = true →
    s.Heads o rest 0x63
      ([h.identity.word, Word.nat (h.event.toNat + h.issuerClass * 2 ^ 16 + h.severity * 2 ^ 24),
        Word.nat (h.issuedAt + h.duration * 2 ^ 16)] ++ h.areas.map fun a => a.setWidth 48) →
    let r : Result := if h.duration ≤ 1440 then .done else .doneClamped
    let k := s.intake.counters
    let remaining := s.intake.remainingOf h.capped
    let d := s.intake.filterDecision h.capped
    (remaining = 0 →
      exec .alertTest s =
        .next ({ s with
          intake := { s.intake with counters := { k with stale := min (k.stale + 1) 65535 } } }.answered o rest r
            [Word.nat 3, Word.none])) ∧
    (0 < remaining → s.intake.knows h.identity = true →
      exec .alertTest s =
        .next ({ s with
          intake := { s.intake with counters := { k with duplicate := min (k.duplicate + 1) 65535 } } }.answered o rest r
            [Word.nat 4, Word.none])) ∧
    (0 < remaining → s.intake.knows h.identity = false → d.verdict = .discard →
      exec .alertTest s =
        .next ({ s with
          intake := { s.intake with
            recent := s.intake.recent.set (recentPlace s.intake.recent) (some ⟨h.identity, remaining⟩)
            counters := { k with filterDiscard := min (k.filterDiscard + 1) 65535 } } }.answered o rest r
              [Word.nat 5, Word.nat d.matched])) ∧
    (0 < remaining → s.intake.knows h.identity = false → d.verdict = .accept →
      storedWords s.intake.queue + (6 + h.areas.length) ≤ 192 →
      ∃ t q, exec .alertTest s = .next t ∧
        t = { s with
          intake := t.intake, air := t.air, clips := t.clips, link := t.link, orders := s.orders.took rest r
          notices := t.notices, sent := t.sent } ∧
        t.sent.studio.getLast? = some (replyTo o r [Word.nat 0, Word.nat d.matched]) ∧
        t.intake.identities = s.intake.identities ++ [h.identity] ∧ t.intake.queue.getLast? = some q ∧
        q.flag flagTest = true ∧ q.noAudio = true ∧ t.intake.recording = s.intake.recording) ∧
    (0 < remaining → s.intake.knows h.identity = false → d.verdict = .accept →
      192 < storedWords s.intake.queue + (6 + h.areas.length) →
      ∃ t, exec .alertTest s = .next t ∧
        t.intake.counters.lost = min (k.lost + 1) 65535 ∧ t.intake.recording = s.intake.recording ∧
        t.sent.studio.getLast? =
          some (replyTo o r [Word.nat (if storedWords s.intake.queue < 192 then 1 else 2), Word.nat d.matched]))

/-- R119, R133, R135, R210: AUDIO-BEGIN of the waiting identity takes the recording to WRITING (its mark for the frame
period it arrives in is the model's choice, log entry 17); AUDIO-END of it ends a writing recording without a cause,
and a waiting one as short; of any other identity or state they are unmatched. A whole alert record of unknown kind or
with a failed check, an AUDIO record with a failed check, and an incomplete record add 1 to the intake error counter
and are discarded. -/
def Obligations.AudioRecordsSteer : Prop :=
  (∀ (s : State) (i : Identity),
    let r := s.intake.recording
    let k := s.intake.counters
    let unmatched : State := { s with
      intake := { s.intake with counters := { k with unmatched := min (k.unmatched + 1) 65535 } }
      sent := ⟨[], [], []⟩ }
    (exec (.audioBegin (recordRest 2 i.body)) s =
      .next (if r.state = .waiting ∧ r.identity = some i then
        { s with
          intake := { s.intake with recording := { r with state := .writing, fresh := true } }
          sent := ⟨[], [], []⟩ }
      else unmatched)) ∧
    (r.state = .none ∨ r.identity ≠ some i → exec (.audioEnd (recordRest 3 i.body)) s = .next unmatched) ∧
    ∀ n, r.identity = some i → r.slot = some n → r.state ≠ .none →
      let clips := { s.clips with
        slots := s.clips.slots.set n { s.clips.slots.get n with state := .alertHeld }
        channelHeld := false }
      (r.state = .writing →
        exec (.audioEnd (recordRest 3 i.body)) s =
          .next { s with
            clips := clips
            intake := { s.intake with recording := ⟨.none, none, none, 0, 0, false⟩ }
            sent := ⟨[], [], []⟩ }) ∧
      (r.state = .waiting → ∃ t, exec (.audioEnd (recordRest 3 i.body)) s = .next t ∧
        t = { s with
          clips := clips
          intake := { s.intake with
            queue := s.intake.queue.map fun q => if q.identity = i then q.setFlag flagAudioShort else q
            recording := ⟨.none, none, none, 0, 0, false⟩
            counters := { k with audioShort := min (k.audioShort + 1) 65535 } }
          notices := t.notices
          sent := t.sent } ∧
        t.notices.latches.get 17 = some ((s.notices.latches.get 17).getD [i.word, Word.nat r.position, Word.nat 3]))) ∧
  ∀ (s : State) (bytes : List Byte),
    let counted : Host.Outcome State Fault Refusal := .next { s with
      intake := { s.intake with
        counters := { s.intake.counters with error := min (s.intake.counters.error + 1) 65535 } }
      sent := ⟨[], [], []⟩ }
    (recordChecked bytes = false ∨ (∀ b ∈ bytes.head?, b ∉ [1, 2, 3]) →
      exec (.alertRecordDiscard bytes) s = counted) ∧
    (bytes ≠ [] → (∀ n ∈ bytes[1]?, bytes.length < n.toNat + 4) → exec (.incompleteRecord bytes) s = counted) ∧
    (recordChecked (2 :: bytes) = false → exec (.audioBegin bytes) s = counted) ∧
    (recordChecked (3 :: bytes) = false → exec (.audioEnd bytes) s = counted)

/-- R105, R106, R120, R127, R134, R135: a frame of alert intake adopts the filter and the defaults, advances the
minute timer, advances the begin wait of a waiting recording, and writes the audio frame of a writing one at its
position, save the frame of its own AUDIO-BEGIN's frame period (kept apart by a mark of the model's own, log entry
17), a new page being taken every 256 frames: the head of the free-page list, or with an empty list the first page of
the victim of an eviction. With no victim the recording ends, as it does in the frame in which the begin wait reaches
10,000 and in the one that writes the 60,000th frame: its slot becomes ALERT_HELD, the channel is free, its record is
flagged "audio short", and ALERT_AUDIO_SHORT is latched with the length and the cause. Where the recording is in
another state the rows do nothing (the model's choice, log entry 3). -/
def Obligations.AlertFrameRecords : Prop :=
  (∀ (s : State) (audio : AudioInput), s.intake.minuteTimer + 1 < 60000 →
    let r := s.intake.recording
    let p := r.position
    let adopted : AlertIntake := { s.intake with
      minuteTimer := s.intake.minuteTimer + 1
      filter := s.tables.filter
      defaultVerdict := Verdict.ofCode (s.setting Setting.defaultVerdict)
      defaultMode := AirMode.ofCode (s.setting Setting.defaultMode)
      defaultPriority := priorityOf (s.setting Setting.defaultPriority) }
    (r.state = .none → exec (.alertFrame audio) s = .next { s with intake := adopted, sent := ⟨[], [], []⟩ }) ∧
    (r.state = .waiting → r.beginWait + 1 < 10000 →
      exec (.alertFrame audio) s =
        .next { s with
          intake := { adopted with recording := { r with beginWait := r.beginWait + 1 } }
          sent := ⟨[], [], []⟩ }) ∧
    (r.state = .writing → r.fresh = true →
      exec (.alertFrame audio) s =
        .next { s with intake := { adopted with recording := { r with fresh := false } }, sent := ⟨[], [], []⟩ }) ∧
    ∀ n i, r.state = .writing → r.fresh = false → r.slot = some n → r.identity = some i → p + 1 < 60000 →
      (p % 256 = 0 → s.clips.free ≠ []) →
      let page := if p % 256 = 0 then s.clips.free.take 1 else []
      let chain := (s.clips.slots.get n).chain ++ page
      ∃ t, exec (.alertFrame audio) s = .next t ∧
        t = { s with
          clips := { s.clips with
            region := t.clips.region
            free := s.clips.free.drop page.length
            slots := s.clips.slots.set n { s.clips.slots.get n with chain := chain, length := p + 1 } }
          intake := { adopted with
            queue := s.intake.queue.map fun q =>
              if q.identity = i then { q with words := q.words.modify 5 fun _ => audioWord n.val (p + 1) } else q
            recording := { r with position := p + 1 } }
          sent := ⟨[], [], []⟩ } ∧
        let block := chain.getD (p / 256) 0 * 256 + p % 256
        Memory.read StereoFrame.silence t.clips.region block =
          ⟨audio.left.map BitVec.toInt, audio.right.map BitVec.toInt⟩ ∧
        ∀ b, b ≠ block →
          Memory.read StereoFrame.silence t.clips.region b = Memory.read StereoFrame.silence s.clips.region b) ∧
  (∀ (s : State) (audio : AudioInput) (n v : Fin 32) (i : Identity) (page : Nat) (left : List Nat),
    s.intake.minuteTimer + 1 < 60000 →
    let r := s.intake.recording
    let p := r.position
    r.state = .writing → r.fresh = false → r.slot = some n → r.identity = some i → p + 1 < 60000 → p % 256 = 0 →
    s.clips.free = [] → s.clips.Evicts s.frameCount v → v ≠ n → (s.clips.slots.get v).chain = page :: left →
    let chain := (s.clips.slots.get n).chain ++ [page]
    ∃ t, exec (.alertFrame audio) s = .next t ∧
      t = { s with clips := t.clips, intake := t.intake, notices := t.notices, sent := t.sent } ∧
      t.clips = { s.clips with
        region := t.clips.region
        free := left
        slots := t.clips.slots
        counters := { s.clips.counters with eviction := min (s.clips.counters.eviction + 1) 65535 } } ∧
      (t.clips.slots.get v).state = .empty ∧ (t.clips.slots.get v).chain = [] ∧ (t.clips.slots.get v).length = 0 ∧
      t.clips.slots.get n = { s.clips.slots.get n with chain := chain, length := p + 1 } ∧
      (∀ m, m ≠ v → m ≠ n → t.clips.slots.get m = s.clips.slots.get m) ∧
      t.intake.recording = { r with position := p + 1 } ∧
      t.notices.latches.get 12 =
        some ((s.notices.latches.get 12).getD [Word.nat v.val, Word.nat (left.length + 1)]) ∧
      let block := chain.getD (p / 256) 0 * 256
      Memory.read StereoFrame.silence t.clips.region block =
        ⟨audio.left.map BitVec.toInt, audio.right.map BitVec.toInt⟩ ∧
      ∀ b, b ≠ block →
        Memory.read StereoFrame.silence t.clips.region b = Memory.read StereoFrame.silence s.clips.region b) ∧
  ∀ (s : State) (audio : AudioInput) (n : Fin 32) (i : Identity), s.intake.minuteTimer + 1 < 60000 →
    let r := s.intake.recording
    let ended (length cause : Nat) (t : State) : Prop :=
      exec (.alertFrame audio) s = .next t ∧
      (t.clips.slots.get n).state = .alertHeld ∧ t.clips.channelHeld = false ∧
      t.intake.recording = ⟨.none, none, none, 0, 0, false⟩ ∧
      t.intake.counters.audioShort = min (s.intake.counters.audioShort + 1) 65535 ∧
      t.intake.identities = s.intake.identities ∧
      (∀ q ∈ t.intake.queue, q.identity = i → 5 ≤ q.words.length → q.flag flagAudioShort = true) ∧
      t.notices.latches.get 17 = some ((s.notices.latches.get 17).getD [i.word, Word.nat length, Word.nat cause])
    (r.slot = some n → r.identity = some i →
      (r.state = .waiting → 10000 ≤ r.beginWait + 1 →
        ∃ t, exec (.beginWaitReached audio) s = .next t ∧ ended r.position 3 t) ∧
      (r.state = .writing → r.fresh = false → r.position % 256 = 0 → s.clips.free = [] →
        (∀ m, ¬s.clips.evictable m) →
        ∃ t, exec (.alertFrame audio) s = .next t ∧ ended r.position 2 t) ∧
      (r.state = .writing → r.fresh = false → r.position = 59999 →
        ∃ t, exec (.recordingLimit audio) s = .next t ∧ ended 60000 0 t ∧ (t.clips.slots.get n).length = 60000)) ∧
    (r.state ≠ .waiting → exec (.beginWaitReached audio) s = .next { s with sent := ⟨[], [], []⟩ }) ∧
    (r.state ≠ .writing → exec (.recordingLimit audio) s = .next { s with sent := ⟨[], [], []⟩ })

/-- R120, R126, R136: the frame in which the minute timer reaches 60,000 is a minute event: the minute of week goes
on, entries of the recent-alert table and records of the queue count down, and a record not on air whose minutes are 0
leaves and is counted. Where several leave in one minute, they all leave before the one selection (the model's choice,
log entry 15). In a frame of any other count the row does nothing (the model's choice, log entry 3). -/
def Obligations.MinuteEventCountsDown : Prop :=
  ∀ (s : State) (audio : AudioInput),
    (s.intake.minuteTimer + 1 < 60000 → exec (.minuteEvent audio) s = .next { s with sent := ⟨[], [], []⟩ }) ∧
    (60000 ≤ s.intake.minuteTimer + 1 → s.intake.identities.Nodup →
      let stays (r : AlertRecord) : Bool := 1 < r.remaining || r.onAir
      let leaving := s.intake.queue.filter fun r => !stays r
      ∃ t, exec (.minuteEvent audio) s = .next t ∧ exec (.alertFrame audio) s = .next t ∧
        t.intake.minuteTimer = 0 ∧
        (t.intake.minuteOfWeek = s.intake.minuteOfWeek.map fun m => if m + 1 = 10080 then 0 else m + 1) ∧
        (∀ k, t.intake.recent.get k = match s.intake.recent.get k with
          | some e => if e.remaining ≤ 1 then none else some ⟨e.identity, e.remaining - 1⟩
          | none => none) ∧
        t.intake.identities = (s.intake.queue.filter stays).map AlertRecord.identity ∧
        t.intake.queue.map AlertRecord.remaining = ((s.intake.queue.filter stays).map fun r => r.remaining - 1) ∧
        (t.intake.counters.expiry =
          if leaving = [] then s.intake.counters.expiry else min (s.intake.counters.expiry + leaving.length) 65535))

/-- R136 to R138, R107: ALERT-LIST answers with a record's place in the queue, marks, age and stored words, and
changes nothing; an index at or above the number of records is refused with REFUSED_STATE and that number, one above
191 with REFUSED_ARGUMENT. ALERT-RELEASE takes a record that is not on air out of the queue and erases its slot; a
record on air and an unknown identity are refused with REFUSED_STATE, and a word that is no identity with
REFUSED_ARGUMENT (log entry 14), both without data words (the model's choice, log entry 27). The age is held at
4,294,967,295 once there, by a mark of the model's own (log entry 45). -/
def Obligations.AlertListAndRelease : Prop :=
  (∀ (s : State) (o : QueuedOrder) (rest : List QueuedOrder) (w : Word), s.Heads o rest 0x60 [w] →
    (∀ r, s.intake.queue[w.toNat]? = some r → w.toNat < 192 → r.words.length ≤ 192 →
      exec .alertList s =
        .next (s.answered o rest .done
          ([Word.nat s.intake.queue.length, Word.nat (192 - storedWords s.intake.queue), Word.nat r.words.length,
            Word.flag r.torn, Word.flag r.onAir, Word.nat r.remaining,
            Word.nat (if r.ageHeld then 4294967295 else (s.frameCount - r.stamp).toNat)] ++
            r.words.map fun x => x.setWidth 48))) ∧
    (s.intake.queue.length ≤ w.toNat → w.toNat < 192 →
      exec .alertList s = .next (s.answered o rest .refusedState [Word.nat s.intake.queue.length])) ∧
    (192 ≤ w.toNat → exec .alertList s = .next (s.answered o rest .refusedArgument []))) ∧
  ∀ (s : State) (o : QueuedOrder) (rest : List QueuedOrder) (w : Word), s.Heads o rest 0x61 [w] →
    (2 ^ 32 ≤ w.toNat → exec .alertRelease s = .next (s.answered o rest .refusedArgument [])) ∧
    ∀ i : Identity, w = i.word →
      (i ∉ s.intake.identities → exec .alertRelease s = .next (s.answered o rest .refusedState [])) ∧
      ∀ r, s.intake.find i = some r →
        (r.onAir = true → exec .alertRelease s = .next (s.answered o rest .refusedState [])) ∧
        (r.onAir = false → ∃ t, exec .alertRelease s = .next t ∧
          t = { s with
            clips := t.clips, intake := t.intake, air := t.air, link := t.link, orders := s.orders.took rest .done
            notices := t.notices, sent := t.sent } ∧
          t.intake.identities = s.intake.identities.filter (· ≠ i) ∧
          t.intake.recording = (if s.intake.recording.identity = some i then ⟨.none, none, none, 0, 0, false⟩
            else s.intake.recording) ∧
          (∀ n, r.slot = some n → (s.clips.slots.get n).state ∈ [SlotState.recording, .alertHeld] →
            (t.clips.slots.get n).state = .empty ∧ t.clips.free = s.clips.free ++ (s.clips.slots.get n).chain) ∧
          t.sent.studio.getLast? =
            some (replyTo o .done [w, Word.nat t.intake.queue.length, Word.nat (192 - storedWords t.intake.queue)]))

/-! ### Alert airing -/

/-- R148: of the records that are whole, not LOG_ONLY, not on air and not waiting for a re-air, the choice is one of
the highest priority, the oldest among equals. -/
def Obligations.ChoiceIsOldestHighest : Prop :=
  ∀ s : State,
    let open' (r : AlertRecord) : Prop :=
      r.torn = false ∧ r.airMode ≠ .logOnly ∧ r.onAir = false ∧ r.identity ∉ s.air.waitSet
    (∀ r, chosenRecord s = some r →
      ∃ before after, s.intake.queue = before ++ r :: after ∧ open' r ∧
        (∀ q ∈ before, open' q → q.priority < r.priority) ∧ ∀ q ∈ after, open' q → q.priority ≤ r.priority) ∧
    (chosenRecord s = none ↔ ∀ q ∈ s.intake.queue, ¬open' q)

/-- R159: ALERT-CANCEL takes a record out of the queue in any case, and counts it. Of the record on air it also ends
the airing: in ATTENTION and MESSAGE it goes to CLOSING, in LEAD_IN to LEAD_OUT from the same weight; CLOSING and
LEAD_OUT go on. In WAIT_LINK, in LEAD_IN before its first frame, and in WAIT_BREAK the air stage becomes IDLE, where
no other record is eligible. A word that is no identity is refused with REFUSED_ARGUMENT (the model's choice, log
entry 14), and an unknown identity with REFUSED_STATE without data words (the model's choice, log entry 27). -/
def Obligations.AlertCancelEnds : Prop :=
  (∀ (s : State) (o : QueuedOrder) (rest : List QueuedOrder) (w : Word), s.Heads o rest 0x62 [w] → 2 ^ 32 ≤ w.toNat →
    exec .alertCancel s = .next (s.answered o rest .refusedArgument [])) ∧
  ∀ (s : State) (o : QueuedOrder) (rest : List QueuedOrder) (i : Identity), s.Heads o rest 0x62 [i.word] →
    (i ∉ s.intake.identities → exec .alertCancel s = .next (s.answered o rest .refusedState [])) ∧
    (i ∈ s.intake.identities → ∃ t, exec .alertCancel s = .next t ∧
      t = { s with
        delay := t.delay, clips := t.clips, intake := t.intake, air := t.air, link := t.link
        orders := s.orders.took rest .done, notices := t.notices, sent := t.sent } ∧
      t.intake.identities = s.intake.identities.filter (· ≠ i) ∧
      t.air.counters.cancels = min (s.air.counters.cancels + 1) 65535 ∧
      t.sent.studio.getLast? =
        some (replyTo o .done
          [i.word, Word.nat t.air.state.code, Word.nat t.intake.queue.length,
            Word.nat (192 - storedWords t.intake.queue)]) ∧
      (s.air.present = true → s.air.airing = some i →
        (s.air.state = .attention ∨ s.air.state = .message →
          t.air.state = .closing ∧ t.air.position = 0 ∧ t.air.present = false ∧ t.clips.holds.get 3 = none) ∧
        (s.air.state = .leadIn → 0 < s.air.step →
          t.air.state = .leadOut ∧ t.air.step = 16 - s.air.step ∧ t.air.present = false ∧ t.clips.holds.get 3 = none) ∧
        (s.air.state = .closing ∨ s.air.state = .leadOut →
          t.air = { s.air with present := false, waitSet := t.air.waitSet, counters := t.air.counters })) ∧
      ((∀ q ∈ s.intake.queue, q.identity ≠ i → s.air.eligible q = false) →
        s.air.state = .idle ∨ s.air.state = .waitBreak ∨
          (s.air.present = true ∧ s.air.airing = some i ∧
            (s.air.state = .waitLink ∨ (s.air.state = .leadIn ∧ s.air.step = 0))) →
        t.air.state = .idle ∧ t.air.airing = none ∧ (s.air.state = .leadIn → t.clips.holds.get 3 = none)) ∧
      (s.air.present = false ∨ s.air.airing ≠ some i → s.air.state.onAir = true ∨ s.air.state = .waitLink →
        t.air = { s.air with waitSet := t.air.waitSet, counters := t.air.counters }))

/-- R150, R151: BREAK commits the waiting record, which goes to LEAD_IN where the link is in RUN, WAKING or CUT and to
WAIT_LINK where it is asleep or going to sleep, and wakes the link; in any other air state it does nothing. It is
answered DONE with the air state and the airing identity. -/
def Obligations.BreakCommits : Prop :=
  ∀ (s : State) (o : QueuedOrder) (rest : List QueuedOrder), s.Heads o rest 0x64 [] →
    (s.air.state ≠ .waitBreak →
      exec .breakOrder s =
        .next (s.answered o rest .done
          [Word.nat s.air.state.code, ((s.air.airing.map Identity.word).getD Word.none)])) ∧
    ∀ i, s.air.state = .waitBreak → s.air.airing = some i → ∃ t, exec .breakOrder s = .next t ∧
      t = { s with
        clips := t.clips, intake := t.intake, air := t.air, link := t.link, orders := s.orders.took rest .done
        notices := t.notices, sent := t.sent } ∧
      t.air.airing = some i ∧ t.air.present = true ∧ t.air.impaired = false ∧ t.air.underruns = 0 ∧
      t.air.messageFrames = 0 ∧
      (t.intake.queue = s.intake.queue.map fun r => if r.identity = i then { r with onAir := true } else r) ∧
      (if s.link.mode ∈ [LinkMode.run, .waking, .cut] then
        t.air.state = .leadIn ∧ t.air.step = 0 ∧ t.air.position = 0 ∧ t.link.mode = s.link.mode
      else t.air.state = .waitLink ∧ t.link.mode = if s.link.mode = .asleep then .waking else .run) ∧
      t.sent.studio.getLast? = some (replyTo o .done [Word.nat t.air.state.code, i.word])

/-! ### Studio input and mix engine -/

/-- R3, R6: a well-formed PROGRAMME frame is taken by the first row of the table that applies: first frame, duplicate,
in window, resync, late. A frame of another length or channel count is malformed. -/
def Obligations.ProgrammeArrivalRows : Prop :=
  (∀ (s : State) (f : ProgrammeFrame), f.channels.length = s.studio.width → s.studio.width ∈ [2, 4, 8] →
    (∀ c ∈ f.channels, Frame.inRange c) →
    let i := s.studio
    let left (j : StudioInput) : Prop := exec (.programme f.body) s = .next { s with studio := j, sent := ⟨[], [], []⟩ }
    (i.expected = none → left { i with expected := some f.seq, queue := [f] }) ∧
    ∀ e, i.expected = some e →
      let d (g : ProgrammeFrame) : Nat := (g.seq - e).toNat
      (d f ≤ 3 → (∃ g ∈ i.queue, g.seq = f.seq) →
        left { i with counters := { i.counters with duplicate := min (i.counters.duplicate + 1) 65535 } }) ∧
      (d f ≤ 3 → (∀ g ∈ i.queue, g.seq ≠ f.seq) →
        ∃ before after, i.queue = before ++ after ∧ (∀ g ∈ before, d g ≤ d f) ∧
          (∀ g ∈ after.head?, d f < d g) ∧ left { i with queue := before ++ f :: after }) ∧
      (4 ≤ d f → d f ≤ 32768 ∨ i.lost = true →
        left { i with
          expected := some f.seq
          queue := [f]
          counters := { i.counters with resync := min (i.counters.resync + 1) 65535 } }) ∧
      (32768 < d f → i.lost = false →
        left { i with counters := { i.counters with late := min (i.counters.late + 1) 65535 } })) ∧
  ∀ (s : State) (body : List Byte), body.length ≠ 7 + 144 * s.studio.width ∨ (byteAt body 3).toNat ≠ s.studio.width →
    exec (.programme body) s =
      .next { s with
        studio := { s.studio with
          counters := { s.studio.counters with malformed := min (s.studio.counters.malformed + 1) 65535 } }
        sent := ⟨[], [], []⟩ }

/-- R4, R7 to R11, R114: a mix frame's request uses the frame with sequence E, or misses it: E goes on, the run of
missing frames ends or grows, the feed is lost at the loss limit with STUDIO_LOST latched, and is back at the first
frame used, with STUDIO_BACK latched. A changed width first empties the jitter queue, its frames counted as malformed.
While the feed is lost, an IDLE fill player starts on the fill slot where that is READY, of kind CART and can take its
hold, but not in the request that brings the feed back (the model's choice, log entry 12); a RUNNING one loops. Marked
for stop at the return, it stops once every route of sources 18 and 19 used multiplier 0. The BREAK flag of a used
frame commits the waiting record; no other frame's counts. STUDIO_LOST carries the slot started, and 255 where the
fill player starts none (the model's choice, log entry 11). -/
def Obligations.StudioFeedUsedOrMissed : Prop :=
  ∀ s : State, ∃ t, exec .mixFrame s = .next t ∧
    let i := s.studio
    let run := min (i.missingRun + 1) 65535
    let loses := i.lost = false ∧ s.setting Setting.studioLossLimit ≤ run
    let fill := s.players.get 2
    let start := s.fillStarts
    let marked : Prop :=
      if s.usedFrame.isSome ∧ i.lost = true then fill.state = .running
      else if s.usedFrame = none ∧ loses then False
      else i.fillStopMarked = true
    let stops := marked ∧ ∀ r : Fin 60, 54 ≤ r.val → (t.mix.ramps.get r).current = 0
    t.studio.width = s.setting Setting.studioWidth ∧
    t.studio.expected = i.expected.map (· + 1) ∧
    t.studio.lossLimit = s.setting Setting.studioLossLimit ∧
    (∀ f, s.usedFrame = some f →
      t.studio.queue = i.queue.erase f ∧ t.studio.missingRun = 0 ∧ t.studio.lost = false ∧
      t.studio.counters = i.counters ∧
      (i.lost = true →
        t.notices.latches.get 1 = some ((s.notices.latches.get 1).getD [Word.nat i.missingRun])) ∧
      ∀ x, f.breakFlag = true → s.air.state = .waitBreak → s.air.airing = some x →
        t.air.airing = some x ∧ t.air.present = true ∧
        t.air.state = (if s.link.mode = .asleep ∨ s.link.mode = .sleepPending then .waitLink else .leadIn) ∧
        ∀ q ∈ t.intake.queue, q.identity = x → q.onAir = true) ∧
    ((∀ f, s.usedFrame = some f → f.breakFlag = false) → s.link.mode ≠ .sleepPending → s.link.autoSleep = false →
      t.air = s.air) ∧
    (s.usedFrame = none →
      t.studio.queue = (if i.width = s.setting Setting.studioWidth then i.queue else []) ∧
      (i.width ≠ s.setting Setting.studioWidth → i.counters.malformed ≤ 65535 →
        t.studio.counters.malformed = min (i.counters.malformed + i.queue.length) 65535) ∧
      t.studio.missingRun = run ∧ (t.studio.lost = true ↔ i.lost = true ∨ loses) ∧
      t.studio.counters.missing = min (i.counters.missing + i.expected.toList.length) 65535 ∧
      (loses →
        t.notices.latches.get 0 =
          some ((s.notices.latches.get 0).getD [Word.nat ((start.map Fin.val).getD 255)]) ∧
        t.studio.counters.losses = min (i.counters.losses + 1) 65535) ∧
      (¬loses → t.studio.counters.losses = i.counters.losses ∧
        t.notices.latches.get 0 = s.notices.latches.get 0)) ∧
    (stops → t.players.get 2 = ⟨.idle, none, 0⟩ ∧ t.clips.holds.get 2 = none ∧ t.studio.fillStopMarked = false) ∧
    (¬stops → (t.studio.fillStopMarked = true ↔ marked) ∧
      (∀ n, start = some n → t.clips.holds.get 2 = some n ∧
        (t.clips.slots.get n).stamp = some s.frameCount ∧
        t.players.get 2 = ⟨.running, some n, if 1 < (s.clips.slots.get n).length then 1 else 0⟩) ∧
      (start = none → fill.state ≠ .running → t.players.get 2 = fill) ∧
      ∀ n, fill.state = .running → fill.slot = some n → s.clips.holds.get 2 = some n →
        fill.position < (s.clips.slots.get n).length →
        t.players.get 2 = ⟨.running, some n,
          if fill.position + 1 = (s.clips.slots.get n).length then 0 else fill.position + 1⟩)

/-- R16, R17, R20, R22, R23, R41: each route's ramp of a mix frame goes to the multiplier of its code, or to that of
code 0 where the source mask, its line's state or the closed fill gate shuts it; after a RESTART it stands there at
once. -/
def Obligations.RampsFollowGates : Prop :=
  ∀ s : State, ∃ t, exec .mixFrame s = .next t ∧ t.mix.snap = false ∧
    t.mix.gain = s.tables.gain ∧ t.mix.route = s.tables.route ∧ t.mix.mask = s.mix.mask ∧
    ∀ r : Fin 60,
      let source := r.val / 3
      let shut := s.mix.mask.getLsbD source = true ∨
        (∃ k : Fin 6, source = 8 + k.val ∧ (s.line.line k).state ≠ if r.val % 3 = 2 then .screening else .onAir) ∨
        (18 ≤ source ∧ s.studio.lost = false)
      let route := s.tables.route.get r
      let go (m : Nat) : Prop :=
        t.mix.ramps.get r =
          if s.mix.snap then ⟨m, m, 0, 0⟩ else ((s.mix.ramps.get r).retarget m route.ramp).advance
      (shut → go (s.tables.gain.get 0)) ∧ (¬shut → go (s.tables.gain.get route.code))

/-- R23, R24: a target that the ramp already has leaves its record as it stands, whatever the ramp length. A ramp that
is given a new target over n frames, and then the same target in each further frame, with any lengths, moves by the
step, the difference over n truncated toward zero, in each of the first n - 1 frames, stands at the target in the n-th
and then stays; every value it takes lies between its start and its target. -/
def Obligations.RampReachesTarget : Prop :=
  (∀ (r : Ramp) (length : Nat), r.retarget r.target length = r) ∧
  ∀ (r : Ramp) (m : Nat) (lengths : Nat → Nat), m ≠ r.target → 1 ≤ lengths 0 →
    let n := lengths 0
    let step := Int.tdiv (m - r.current : Int) n
    let after (j : Nat) : Ramp := (List.range j).foldl (fun x k => (x.retarget m (lengths k)).advance) r
    (∀ j, 1 ≤ j → j < n → ((after j).current : Int) = r.current + step * j ∧ (after j).left = n - j ∧
      (after j).target = m ∧ min r.current m ≤ (after j).current ∧ (after j).current ≤ max r.current m) ∧
    ∀ j, n ≤ j → (after j).current = m ∧ (after j).left = 0 ∧ (after j).target = m

/-- R27 to R35, R37, R38, R114: a mix frame's PGM and CUE are the sums of its sources (silence for a player that is
not RUNNING, the first frame of its slot for a fill player that starts) by the multipliers of their routes, rounded
half up and clamped; the PGM frame carries its peak and quiet flag; a clamp on PGM latches PGM_CLIP. The feed of a
line is, by its state, its mix-minus, the talkback channel, the mono of the last air frame, or silence, each but the
last scaled by its feed trim and clamped. R30, R36: the clip counters grow by the samples that a clamp changed, those
of PGM latching CLIP_COUNT_HALF at a climb to 32,768, once until their mark is cleared; with both climbing, bus 0
gives the detail (the model's choice, log entry 40). -/
def Obligations.MixFrameSums : Prop :=
  (∀ s : State, ∃ t x, exec .mixFrame s = .next t ∧ s.Sources x ∧
    t = { s with
      studio := t.studio, mix := t.mix, line := { s.line with feeds := t.line.feeds }, clips := t.clips
      players := t.players, intake := t.intake, air := t.air, link := t.link, notices := t.notices, sent := t.sent } ∧
    t.sent.link = [] ∧ t.sent.slots = [] ∧
    let sum := busSum t.mix.ramps x
    let round (a : Int) : Int := (a + 8192) / 16384
    let clamp (a : Int) : Int := max (-8388608) (min 8388607 a)
    let pgm := t.mix.pgm
    (∀ i, pgm.audio.left.get i = clamp (round (sum 0 i)) ∧ pgm.audio.right.get i = clamp (round (sum 1 i)) ∧
      t.mix.cue.get i = clamp (round (sum 2 i))) ∧
    (∀ i, (pgm.audio.left.get i).natAbs ≤ pgm.peak ∧ (pgm.audio.right.get i).natAbs ≤ pgm.peak) ∧
    (∃ i, (pgm.audio.left.get i).natAbs = pgm.peak ∨ (pgm.audio.right.get i).natAbs = pgm.peak) ∧
    (pgm.quiet = true ↔ pgm.peak ≤ s.setting Setting.silenceThreshold) ∧
    (t.mix.clampedLeft = true ↔ ∃ i, clamp (round (sum 0 i)) ≠ round (sum 0 i)) ∧
    (t.mix.clampedRight = true ↔ ∃ i, clamp (round (sum 1 i)) ≠ round (sum 1 i)) ∧
    (t.mix.clampedCue = true ↔ ∃ i, clamp (round (sum 2 i)) ≠ round (sum 2 i)) ∧
    ((t.notices.latches.get 2).isSome ↔
      (s.notices.latches.get 2).isSome ∨ t.mix.clampedLeft = true ∨ t.mix.clampedRight = true) ∧
    (let count (bus : Fin 3) : Nat := (List.finRange 48).countP fun i => clamp (round (sum bus i)) ≠ round (sum bus i)
     let climbs (k n : Nat) (mark : Bool) : Bool := k < 32768 ∧ 32768 ≤ min (k + n) 65535 ∧ mark = false
     let k := s.mix.counters
     let climbL := climbs k.pgmLeft (count 0) s.mix.climbLeft
     let climbR := climbs k.pgmRight (count 1) s.mix.climbRight
     t.mix.counters.pgmLeft = min (k.pgmLeft + count 0) 65535 ∧
     t.mix.counters.pgmRight = min (k.pgmRight + count 1) 65535 ∧
     t.mix.counters.cue = min (k.cue + count 2) 65535 ∧
     t.mix.climbLeft = (s.mix.climbLeft || climbL) ∧ t.mix.climbRight = (s.mix.climbRight || climbR) ∧
     t.notices.latches.get 3 =
       (s.notices.latches.get 3).or (if climbL then some [0] else if climbR then some [1] else none) ∧
     t.notices.latches.get 2 =
       (s.notices.latches.get 2).or (if count 0 + count 1 = 0 then none else some [Word.nat (count 0 + count 1)])) ∧
    t.mix.studioLeft = x.get 0 ∧ t.mix.studioRight = x.get 1) ∧
  ∀ s : State, ∃ t x, exec .mixFrame s = .next t ∧ s.Sources x ∧
    (let clamp (a : Int) : Int := max (-8388608) (min 8388607 a)
     let changed (a : Int) : Bool := clamp a ≠ a
     let trim (k : Fin 6) (y : Int) : Int := (y * (s.tables.gain.get (s.line.conf.get k).trim : Int) + 8192) / 16384
     let clipped (k : Fin 6) (i : Fin 48) : Bool :=
       match (s.line.line k).state with
       | .onAir =>
         let others (bus : Fin 3) : Int := busSum t.mix.ramps (x.set (8 + k.val) Frame.silence) bus i
         let pre := (others 0 + others 1 + 16384) / 32768
         changed pre || changed (trim k (clamp pre))
       | .screening => changed (trim k ((x.get ⟨s.setting Setting.talkback % 8, by omega⟩).get i))
       | .hold | .ready => changed (trim k ((s.air.lastAir.left.get i + s.air.lastAir.right.get i + 1) / 2))
       | .idle | .ringing | .fault => false
     t.mix.counters.feed =
       min (s.mix.counters.feed + ((List.finRange 6).map fun k => (List.finRange 48).countP (clipped k)).sum) 65535) ∧
    ∀ (k : Fin 6) (i : Fin 48),
      let clamp (a : Int) : Int := max (-8388608) (min 8388607 a)
      let trimmed (y : Int) : Int := clamp ((y * (s.tables.gain.get (s.line.conf.get k).trim : Int) + 8192) / 16384)
      let y := (t.line.feeds.get k).get i
      let others (bus : Fin 3) : Int := busSum t.mix.ramps (x.set (8 + k.val) Frame.silence) bus i
      match (s.line.line k).state with
      | .onAir => y = trimmed (clamp ((others 0 + others 1 + 16384) / 32768))
      | .screening =>
        ∀ c : Fin 8, c.val = s.setting Setting.talkback → y = trimmed ((x.get (c.castLE (by decide))).get i)
      | .hold | .ready => y = trimmed ((s.air.lastAir.left.get i + s.air.lastAir.right.get i + 1) / 2)
      | .idle | .ringing | .fault => y = 0

/-- R33: no caller hears itself: the feed of a line does not depend on the caller frame of that line. -/
def Obligations.NoCallerHearsItself : Prop :=
  ∀ (s : State) (k : Fin 6) (f : Option Frame), ∃ t u, exec .mixFrame s = .next t ∧
    exec .mixFrame { s with line := { s.line with callers := s.line.callers.set k f } } = .next u ∧
    t.line.feeds.get k = u.line.feeds.get k

/-! ### Programme delay -/

/-- R46 to R50, R52: in LIVE the exchange gives the arriving PGM frame and keeps none of it. In SAFE, BUILDING and
SHRINKING it puts the arriving frame after the held ones, gives the oldest of them and keeps the rest; an insertion in
BUILDING gives the last given frame again and keeps all, a skip in SHRINKING drops the oldest and gives the next. The
state then follows from the count and the target. In HELD it gives no frame and keeps the arriving one; with 65,536
held the oldest is discarded and counted, and the first such discard of a hold latches DELAY_OVERFLOW; with bypass on
nothing is kept. R45: DELAY_AT_TARGET is latched, with the target, exactly where the adopted target or the exchange
takes the state from BUILDING, SHRINKING or HELD to SAFE or LIVE. -/
def Obligations.ExchangeGivesFrames : Prop :=
  (∀ s : State, s.delayWf = true →
    let f := s.mix.pgm
    let d := ({ s.delay with target := s.setting Setting.delayTarget }).derive s.air.bypass
    let queue := s.delay.heldFrames ++ [f]
    let n := min (d.spacing + 1) 64
    let due := s.setting Setting.buildSpacing ≤ n ∧ (queue.headD f).quiet = true
    ∃ t, exec .exchange s = .next t ∧ t = { s with delay := t.delay, notices := t.notices, sent := t.sent } ∧
      t.delay.target = s.setting Setting.delayTarget ∧ t.delay.dumpLength = s.setting Setting.dumpLength ∧
      t.delay.policy = HoldPolicy.ofCode (s.setting Setting.holdPolicy) ∧
      t.delay.state = t.delay.derived s.air.bypass ∧
      let gives (g : PgmFrame) (held : List PgmFrame) : Prop :=
        t.delay.offered = some g ∧ t.delay.lastGiven = g ∧ t.delay.heldFrames = held
      (d.state = .live → gives f s.delay.heldFrames) ∧
      (d.state = .safe → gives (queue.headD f) queue.tail) ∧
      (d.state = .building ∧ ¬due ∨ d.state = .shrinking ∧ ¬due →
        gives (queue.headD f) queue.tail ∧ t.delay.spacing = n ∧ t.delay.counters = s.delay.counters) ∧
      (d.state = .building ∧ due →
        gives s.delay.lastGiven queue ∧ t.delay.spacing = 0 ∧
        t.delay.counters.insertion = min (s.delay.counters.insertion + 1) 65535) ∧
      (d.state = .shrinking ∧ due →
        gives (queue.getD 1 f) (queue.drop 2) ∧ t.delay.spacing = 0 ∧
        t.delay.counters.skip = min (s.delay.counters.skip + 1) 65535) ∧
      (let arrives (old new : DelayState) : Prop :=
         old ∈ [DelayState.building, .shrinking, .held] ∧ new ∈ [DelayState.safe, .live]
       (arrives s.delay.state d.state ∨ arrives d.state t.delay.state → t.notices.latches.get 10 =
         some ((s.notices.latches.get 10).getD [Word.nat (s.setting Setting.delayTarget)])) ∧
       (¬(arrives s.delay.state d.state ∨ arrives d.state t.delay.state) →
         t.notices.latches.get 10 = s.notices.latches.get 10) ∧
       ∀ k, k ≠ 9 → k ≠ 10 → t.notices.latches.get k = s.notices.latches.get k)) ∧
  ∀ s : State, s.delayWf = true → s.delay.state = .held →
    let queue := s.delay.heldFrames ++ [s.mix.pgm]
    let count := min (s.delay.holdExchanges + 1) 4294967295
    ∃ t, exec .exchange s = .next t ∧ t = { s with delay := t.delay, notices := t.notices, sent := t.sent } ∧
      t.delay.state = .held ∧ t.delay.offered = none ∧ t.delay.lastGiven = s.delay.lastGiven ∧
      t.delay.holdExchanges = count ∧
      (s.air.bypass = true → t.delay.heldFrames = s.delay.heldFrames ∧ t.notices = s.notices) ∧
      (s.air.bypass = false → s.delay.held < 65536 → t.delay.heldFrames = queue ∧ t.notices = s.notices) ∧
      (s.air.bypass = false → s.delay.held = 65536 →
        t.delay.heldFrames = queue.tail ∧
        t.delay.counters.overflow = min (s.delay.counters.overflow + 1) 65535 ∧ t.delay.overflowMark = true ∧
        (s.delay.overflowMark = true → t.notices = s.notices) ∧
        (s.delay.overflowMark = false →
          t.notices.latches.get 9 = some ((s.notices.latches.get 9).getD [Word.nat count])))

/-! ### The air stage -/

/-- R145, R151 to R157: the air frame is the programme outside an airing; in LEAD_IN and LEAD_OUT a crossfade, by
steps of 1,024, between the programme and the attention source or the tone; in ATTENTION the attention source; in
MESSAGE the recorded frame, or silence and an underrun, or silence alone where the hold has been dropped; in CLOSING
the tone. In WAIT_LINK with the link in RUN or CUT the stage enters LEAD_IN, whose first frame this is. A link mode
other than RUN marks ATTENTION, MESSAGE and CLOSING impaired. -/
def Obligations.AirFrameForms : Prop :=
  ∀ s : State,
    let a := s.air
    let j := a.step + 1
    ∃ t, exec .airFrame s = .next t ∧
      t.air.attentionSlot = s.slotSetting Setting.attentionSlot ∧
      t.air.attentionLength = s.setting Setting.attentionLength ∧
      t.air.breakDeadline = s.setting Setting.breakDeadline ∧
      let forms (f : StereoFrame) (on : Bool) : Prop :=
        t = { s with intake := { s.intake with queue := t.intake.queue }, air := t.air, sent := ⟨[], [], []⟩ } ∧
        t.intake.identities = s.intake.identities ∧ t.air.state = a.state ∧ t.air.lastAir = f ∧ t.air.onAirFlag = on
      (a.state = .idle → chosenRecord s = none → forms s.programme false) ∧
      (∀ r, a.state = .waitBreak → chosenRecord s = some r → r.airMode = .nextBreak →
        (s.frameCount - r.stamp).toNat < s.setting Setting.breakDeadline →
        forms s.programme false ∧ t.air.airing = some r.identity) ∧
      (a.state = .waitLink → s.link.mode ≠ .run → s.link.mode ≠ .cut → forms s.programme false) ∧
      (a.state = .waitLink → s.link.mode = .run ∨ s.link.mode = .cut →
        s.BeginsLeadIn t ∧ t.air.airing = a.airing ∧ t.air.present = a.present ∧ t.intake = s.intake ∧
        t.link.mode = s.link.mode) ∧
      (a.state = .leadIn → j < 16 →
        forms (crossfade (1024 * j) s.programme s.attention) true ∧ t.air.step = j ∧ t.air.position = a.position + 1) ∧
      (a.state = .attention → a.position + 1 < max a.attentionFrames 17 →
        forms s.attention true ∧ t.air.position = a.position + 1) ∧
      (∀ n, a.state = .message → s.clips.holds.get airReader = some n →
        (∀ f, s.clips.frameAt airReader n a.position = some f →
          forms f true ∧ t.air.position = a.position + 1 ∧ t.air.messageFrames = a.messageFrames + 1) ∧
        ((s.clips.slots.get n).length ≤ a.position → (s.clips.slots.get n).state ≠ .alertHeld →
          forms StereoFrame.silence true ∧ t.air.position = a.position ∧
          t.air.underruns = min (a.underruns + 1) 65535 ∧
          t.air.counters.underrun = min (a.counters.underrun + 1) 65535)) ∧
      (a.state = .message → s.clips.holds.get airReader = none →
        forms StereoFrame.silence true ∧ t.air.position = a.position ∧ t.air.messageFrames = a.messageFrames ∧
        t.air.underruns = a.underruns ∧ t.air.counters = a.counters) ∧
      (a.state = .closing → a.position + 1 < 1000 → forms toneFrame true ∧ t.air.position = a.position + 1) ∧
      (a.state = .leadOut → j < 16 →
        forms (crossfade (16384 - 1024 * j) s.programme toneFrame) true ∧ t.air.step = j) ∧
      (a.state ∈ [AirState.attention, .message, .closing] →
        (s.link.mode = .run → t.air.impaired = a.impaired) ∧
        (s.link.mode ≠ .run → t.air.impaired = true ∧
          ∀ i r, a.present = true → a.airing = some i → r ∈ t.intake.queue → r.identity = i → 5 ≤ r.words.length →
            r.flag flagImpaired = true))

/-- R152 to R156: LEAD_IN gives way to ATTENTION after its 16th frame, the delay line being held; ATTENTION after its
last frame to MESSAGE, or to CLOSING where the record is gone or names no slot; MESSAGE, where its slot is ALERT_HELD
and the position at or above the slot's length, to CLOSING, the hold being released and this frame the first of
CLOSING; CLOSING after its 1,000th frame to LEAD_OUT, the delay line being released. R55 to R57: the release clears
the hold flag, discards under REJOIN the oldest frames beyond the target, counted, and under RESUME none, and derives
the state, latching DELAY_AT_TARGET where that is SAFE or LIVE, under bypass too (the model's choice, log entry 25);
with the hold flag clear it changes nothing. In another air state the rows do nothing (the model's choice, log entry
3). -/
def Obligations.AirPhasesEnd : Prop :=
  ∀ s : State,
    let a := s.air
    let nothing : Host.Outcome State Fault Refusal := .next { s with sent := ⟨[], [], []⟩ }
    (a.state = .leadIn → 16 ≤ a.step + 1 → ∃ t, exec .leadInEnd s = .next t ∧ exec .airFrame s = .next t ∧
      t.air.state = .attention ∧ t.air.position = a.position + 1 ∧ t.delay.hold = true ∧
      (s.delay.hold = false → t.delay.state = .held ∧ t.delay.overflowMark = false ∧ t.delay.holdExchanges = 0) ∧
      t.air.lastAir = crossfade (1024 * (a.step + 1)) s.programme s.attention) ∧
    (a.state ≠ .leadIn → exec .leadInEnd s = nothing) ∧
    (a.state = .attention → max a.attentionFrames 17 ≤ a.position + 1 →
      ∃ t, exec .attentionEnd s = .next t ∧ exec .airFrame s = .next t ∧ t.air.position = 0 ∧
        t.air.lastAir = s.attention ∧
        (∀ i r n, a.present = true → a.airing = some i → s.intake.find i = some r → r.slot = some n →
          t.air.state = .message ∧ t.clips.holds.get airReader = some n) ∧
        ((a.present = true → ∀ i r, a.airing = some i → s.intake.find i = some r → r.slot = none) →
          t.air.state = .closing ∧ t.clips.holds.get airReader = none)) ∧
    (a.state ≠ .attention → exec .attentionEnd s = nothing) ∧
    (∀ n, a.state = .message → s.clips.holds.get airReader = some n → (s.clips.slots.get n).state = .alertHeld →
      (s.clips.slots.get n).length ≤ a.position → ∃ t, exec .airFrame s = .next t ∧
        t.air.state = .closing ∧ t.air.position = 1 ∧ t.air.lastAir = toneFrame ∧ t.air.onAirFlag = true ∧
        t.air.messageFrames = a.messageFrames ∧ t.air.underruns = a.underruns ∧
        t.clips = { s.clips with
          slots := s.clips.slots.set n { s.clips.slots.get n with useCount := (s.clips.slots.get n).useCount - 1 }
          holds := s.clips.holds.set 3 none }) ∧
    (a.state = .closing → 1000 ≤ a.position + 1 → ∃ t, exec .closingEnd s = .next t ∧ exec .airFrame s = .next t ∧
      t.air.state = .leadOut ∧ t.air.step = 0 ∧ t.delay.hold = false ∧ t.air.lastAir = toneFrame ∧
      (s.delay.hold = false → t.delay = s.delay ∧ t.notices = s.notices) ∧
      (s.delay.hold = true →
        let d := s.delay
        let gone := if d.policy = .rejoin then d.held - d.target else 0
        t.delay.heldFrames = d.heldFrames.drop gone ∧
        t.delay = { d with
          hold := false
          held := d.held - gone
          readPos := d.block gone
          state := t.delay.derived s.air.bypass
          spacing := if t.delay.state ≠ d.state ∧ t.delay.state ∈ [DelayState.building, .shrinking] then 0 else d.spacing
          counters := { d.counters with rejoin := min (d.counters.rejoin + gone) 65535 } } ∧
        (d.state = .held → t.notices.latches.get 10 = (s.notices.latches.get 10).or
          (if t.delay.state ∈ [DelayState.safe, .live] then some [Word.nat d.target] else none)))) ∧
    (a.state ≠ .closing → exec .closingEnd s = nothing)

/-- R149, R151, R152, R158, R161, R191, R193: after LEAD_OUT's 16th frame the airing is complete: ALERT_AIRED is
latched, the record leaves the queue, or stays for a re-air where it was impaired, has minutes left and has had none;
in a link mode other than RUN, which R193 has be neither SLEEP_PENDING nor ASLEEP there, its identity joins the re-air
wait set. An air frame in IDLE or WAIT_BREAK runs the selection: a chosen record that is due, an IMMEDIATE one or,
counted, a NEXT_BREAK one at its deadline, is committed, and goes to LEAD_IN, whose first frame this is, or waits in
WAIT_LINK for a sleeping link to wake; one that is not due waits in WAIT_BREAK; with none the stage is IDLE. In
another air state the rows do nothing (the model's choice, log entry 3). -/
def Obligations.AiringCompletesAndDeadline : Prop :=
  ∀ s : State,
    let a := s.air
    let nothing : Host.Outcome State Fault Refusal := .next { s with sent := ⟨[], [], []⟩ }
    (a.state = .leadOut → 16 ≤ a.step + 1 → ∃ t, exec .completion s = .next t ∧ exec .airFrame s = .next t ∧
      (t.notices.latches.get 16).isSome ∧ t.air.counters.airings = min (a.counters.airings + 1) 65535 ∧
      t.air.lastAir = crossfade (16384 - 1024 * (a.step + 1)) s.programme toneFrame ∧ t.air.state ≠ .leadOut ∧
      (a.present = false → t.intake.identities = s.intake.identities) ∧
      ∀ i r, a.present = true → a.airing = some i → s.intake.find i = some r →
        let again := a.impaired = true ∧ 0 < r.remaining ∧ r.flag flagReAirDone = false
        (again → t.intake.identities = s.intake.identities ∧
          t.air.counters.reAir = min (a.counters.reAir + 1) 65535 ∧
          (s.airLinked = true → s.link.mode ≠ .run → i ∈ t.air.waitSet)) ∧
        (¬again → t.intake.identities = s.intake.identities.filter (· ≠ i))) ∧
    (a.state ≠ .leadOut → exec .completion s = nothing) ∧
    (a.state = .idle ∨ a.state = .waitBreak → ∃ t, exec .airFrame s = .next t ∧
      let passes (state : AirState) (airing : Option Identity) : Prop :=
        t.air.state = state ∧ t.air.airing = airing ∧ t.air.lastAir = s.programme ∧ t.air.onAirFlag = false ∧
        t.intake = s.intake ∧ t.link = s.link ∧ t.air.counters = a.counters
      (chosenRecord s = none → passes .idle none) ∧
      ∀ r, chosenRecord s = some r →
        let late := r.airMode = .nextBreak ∧ s.setting Setting.breakDeadline ≤ (s.frameCount - r.stamp).toNat
        (r.airMode = .immediate ∨ late → s.Commits r t ∧
          t.air.counters.deadline = min (a.counters.deadline + if r.airMode = .nextBreak then 1 else 0) 65535) ∧
        (a.state = .waitBreak → late → exec .breakDeadlineReached s = .next t) ∧
        (r.airMode ≠ .immediate → ¬late → passes .waitBreak (some r.identity))) ∧
    (a.state ≠ .waitBreak → exec .breakDeadlineReached s = nothing)

/-! ### The transmitter link -/

/-- R165 to R167, R173, R177, R178, R188, R210: a send in RUN, or in SLEEP_PENDING with no negotiation timer at its
limit, save the request timer of a request acked (R193; where R188 and R193 differ, the model follows R193: log entry
44), at which the gap timer does not expire and no message is dropped, puts the air frame on the link port as an AUDIO
frame with the next sequence, in DEGRADED with its robust copy; in phase QUIET of SLEEP_PENDING both carry the silence
flag. The message in flight, or the head of the queue, rides it where it has not been sent or its resend timer reaches
20. The level follows from SFC, RFC and the warning limit just adopted, and a change of it latches LINK_LEVEL. The
MONITOR frame carries the air frame of the send before, and is the first studio frame of the send (the model's choice,
log entry 7). -/
def Obligations.SendCarriesAudio : Prop :=
  ∀ s : State, s.link.gapTimer + 1 < 8 → s.link.keepsMessage →
    s.link.mode = .run ∨ (s.link.mode = .sleepPending ∧
      (s.link.phase = .requesting → s.link.requestAcked = true ∨
        s.link.requestTimer + 1 < s.setting Setting.sleepRequestTimer) ∧
      (s.link.phase = .quiet → s.link.quietTimer + 1 < s.setting Setting.quietInterval)) →
    let l := s.link
    let quiet := l.mode = .sleepPending ∧ l.phase = .quiet
    let limit := s.setting Setting.warningLimit
    let level : Level :=
      if 127 < l.sfc ∨ 127 < l.rfc then .degraded else if limit ≤ l.sfc ∨ limit ≤ l.rfc then .warning else .clear
    let flight : Option InFlight := match l.inFlight with
      | some f => some (if 0 < f.sends then { f with timer := min (f.timer + 1) 20 } else f)
      | none => l.queue.head?.map fun m => ⟨m, 0, 0⟩
    let rides := flight.filter fun f => f.sends = 0 || 20 ≤ f.timer
    let bytes (copy : Bool) : List Byte :=
      linkBytes 1 ((if s.air.onAirFlag then 1 else 0) + (if copy then 2 else 0) + (if quiet then 4 else 0) +
        if rides.isSome then 8 else 0) l.nextSeq
        (stereoBytes s.air.lastAir ++ (rides.map fun f => f.message.bytes).getD [])
    ∃ t, exec .send s = .next t ∧ t = { s with link := t.link, notices := t.notices, sent := t.sent } ∧
      t.link.mode = l.mode ∧ t.link.level = some level ∧ t.link.gapTimer = l.gapTimer + 1 ∧ t.link.phase = l.phase ∧
      t.link.quietTimer = l.quietTimer + (if quiet then 1 else 0) ∧
      t.link.requestTimer =
        (if l.mode = .sleepPending ∧ l.phase = .requesting then min (l.requestTimer + 1) 10000 else l.requestTimer) ∧
      t.link.nextSeq = l.nextSeq + 1 ∧ t.link.lastSeq = l.nextSeq ∧ t.link.sfc = l.sfc ∧ t.link.rfc = l.rfc ∧
      t.sent.link =
        (if level = .degraded then [bytes false, bytes true] else [bytes false]).map (fun b => ⟨0x88B5, padded b⟩) ∧
      t.link.inFlight = (if rides.isSome then flight.map fun f => { f with sends := f.sends + 1, timer := 0 } else flight) ∧
      t.link.queue = (if l.inFlight.isSome then l.queue else l.queue.tail) ∧
      t.sent.studio.head? = some ⟨none, 0x88B5, padded ([0x81, if l.notSent then 1 else 0] ++ beBytes 2 s.frameCount.toNat ++
        stereoBytes l.monitorAir ++ blockBytes s.mix.cue)⟩ ∧
      t.link.monitorAir = s.air.lastAir ∧ t.link.notSent = false ∧
      (l.level = some level → t.notices = s.notices) ∧
      (l.level ≠ some level → t.notices.latches.get 18 = some ((s.notices.latches.get 18).getD
        [(l.level.map fun x => Word.nat x.code).getD Word.none, Word.nat level.code, Word.nat l.sfc, Word.nat l.rfc]))

/-- R165, R174 to R176, R178, R190, R192: outside RUN and SLEEP_PENDING no audio is sent. In ASLEEP every 1,000th send
is a KEEPALIVE and the asleep watch counts a gap; in CUT every eighth send is a PROBE; in WAKING a burst of WAKE
frames goes out, the burst index rising with each and standing at the burst's length after it (log entry 43), and the
wake timer runs after it. In CUT and WAKING a SLEEP_CANCEL alone rides: the one in flight or the oldest in the queue,
on a frame sent where it has not been sent or its resend timer has reached 20; a message of another kind is held back,
and in ASLEEP every message. No message is to be dropped at the send. A row whose occurrence does not come about does
nothing (the model's choice, log entry 3). -/
def Obligations.SendOutsideAudio : Prop :=
  ∀ s : State, s.link.keepsMessage →
    let l := s.link
    let permitted (m : Message) : Bool := l.mode ≠ .asleep && m.kind = .sleepCancel
    let flight : Option InFlight := match l.inFlight with
      | some f => some (if 0 < f.sends && permitted f.message then { f with timer := min (f.timer + 1) 20 } else f)
      | none => (l.queue.find? permitted).map fun m => ⟨m, 0, 0⟩
    let rides := flight.filter fun f => permitted f.message && (f.sends = 0 || 20 ≤ f.timer)
    let frame (kind : Byte) (bytes : List Byte) : List Byte :=
      linkBytes kind ((if s.air.onAirFlag then 1 else 0) + if rides.isSome then 8 else 0) l.nextSeq
        (bytes ++ (rides.map fun f => f.message.bytes).getD [])
    let nothing : Host.Outcome State Fault Refusal := .next { s with sent := ⟨[], [], []⟩ }
    let sends (t : State) (frames : List (List Byte)) : Prop :=
      exec .send s = .next t ∧ t = { s with link := t.link, notices := t.notices, sent := t.sent } ∧
      t.link.mode = l.mode ∧ t.sent.link = frames.map (fun b => ⟨0x88B5, padded b⟩) ∧ t.link.notSent = true ∧
      t.link.nextSeq = (if frames = [] then l.nextSeq else l.nextSeq + 1) ∧
      t.link.inFlight = (if frames ≠ [] ∧ rides.isSome then flight.map fun f => { f with sends := f.sends + 1, timer := 0 }
        else flight) ∧
      t.link.queue = (match l.inFlight, l.queue.find? permitted with
        | none, some m => l.queue.erase m
        | _, _ => l.queue) ∧
      exec .messageResend s = (if frames ≠ [] ∧ (rides.any fun f => 0 < f.sends) then .next t else nothing)
    (l.mode = .asleep → ∃ t,
      sends t (if 1000 ≤ l.keepaliveTimer + 1 then [frame 4 []] else []) ∧
      t.link.keepaliveTimer = (if 1000 ≤ l.keepaliveTimer + 1 then 0 else l.keepaliveTimer + 1) ∧
      t.link.asleepWatch = (if 1000 ≤ l.asleepWatch + 1 then 0 else l.asleepWatch + 1) ∧
      t.link.counters.gap = min (l.counters.gap + if 1000 ≤ l.asleepWatch + 1 then 1 else 0) 65535 ∧
      exec .keepalive s = (if 1000 ≤ l.keepaliveTimer + 1 then .next t else nothing) ∧
      exec .asleepWatch s = (if 1000 ≤ l.asleepWatch + 1 then .next t else nothing)) ∧
    (l.mode = .cut → l.gapTimer + 1 < 8 → ∃ t,
      sends t (if l.probeTimer = 0 then [frame 2 (patternWords 96 l.pattern).2] else []) ∧
      t.link.pattern = (if l.probeTimer = 0 then (patternWords 96 l.pattern).1 else l.pattern) ∧
      t.link.probeTimer = (l.probeTimer + 1) % 8 ∧ t.link.cutDuration = min (l.cutDuration + 1) 65535 ∧
      exec .probe s = (if l.probeTimer = 0 then .next t else nothing)) ∧
    (l.mode = .waking → l.wakePhase = .burst →
      let n := if l.burstIndex = 0 then s.setting Setting.wakeBurst else l.burstLength
      ∃ t, sends t [frame 3 [BitVec.ofNat 8 l.burstIndex, BitVec.ofNat 8 n]] ∧
        (l.burstIndex + 1 < n → t.link.wakePhase = .burst ∧ t.link.burstIndex = l.burstIndex + 1 ∧
          exec .burstEnd s = nothing) ∧
        (n ≤ l.burstIndex + 1 → t.link.wakePhase = .wait ∧ t.link.wakeTimer = 0 ∧
          t.link.burstIndex = l.burstIndex + 1 ∧ exec .burstEnd s = .next t)) ∧
    (l.mode = .waking → l.wakePhase = .wait → l.wakeTimer + 1 < s.setting Setting.wakeTimer →
      ∃ t, sends t [] ∧ t.link.wakeTimer = l.wakeTimer + 1)

/-- R170, R172, R174, R188, R192, R193: what a send does at which the gap timer reaches 8, the request timer of a
request not acked, the quiet timer or the wake timer its limit; a request acked waits for SLEEP_READY (where R188 and
R193 differ, the model follows R193: log entry 44). A send that enters CUT by the gap timer puts nothing on the link
port (the model's choice, log entry 7). In a mode without the timer the rows do nothing (the model's choice, log entry
3). -/
def Obligations.SendTimersExpire : Prop :=
  ∀ s : State, s.link.keepsMessage →
    let l := s.link
    let nothing : Host.Outcome State Fault Refusal := .next { s with sent := ⟨[], [], []⟩ }
    let cut (t : State) : Prop := t.link.mode = .cut ∧ t.link.level = none ∧ t.link.sfc = 127 ∧ t.link.rfc = 0 ∧
      (t.notices.latches.get 19).isSome ∧ t.sent.link = []
    (l.mode ∈ [LinkMode.run, .sleepPending, .cut] → 8 ≤ l.gapTimer + 1 →
      ∃ t, exec .gapTimer s = .next t ∧ exec .send s = .next t ∧
        t.link.gapTimer = 0 ∧ t.link.counters.gap = min (l.counters.gap + 1) 65535 ∧
        (l.rfc < 254 → t.link.rfc = l.rfc + 1) ∧ (254 ≤ l.rfc → cut t)) ∧
    (l.mode ∈ [LinkMode.asleep, .waking] → exec .gapTimer s = nothing) ∧
    (l.mode = .sleepPending → l.gapTimer + 1 < 8 →
      (l.phase = .requesting → l.requestAcked = true →
        exec .requestTimer s = nothing ∧
          ∃ t, exec .send s = .next t ∧ t.link.mode = .sleepPending ∧ t.link.phase = .requesting ∧
            t.link.requestTimer = min (l.requestTimer + 1) 10000) ∧
      (l.phase = .requesting → l.requestAcked = false → s.setting Setting.sleepRequestTimer ≤ l.requestTimer + 1 →
        ∃ t, exec .requestTimer s = .next t ∧ exec .send s = .next t ∧
          t.link.mode = .run ∧ t.link.phase = .none ∧
          t.link.counters.sleepsRefused = min (l.counters.sleepsRefused + 1) 65535 ∧
          (t.notices.latches.get 21).isSome) ∧
      (l.phase = .quiet → s.setting Setting.quietInterval ≤ l.quietTimer + 1 →
        ∃ t, exec .quietTimer s = .next t ∧ exec .send s = .next t ∧
          t.link.mode = .asleep ∧ t.link.phase = .none ∧ t.link.level = none ∧ t.sent.link = [] ∧
          t.link.counters.sleepsEntered = min (l.counters.sleepsEntered + 1) 65535 ∧
          (t.notices.latches.get 21).isSome)) ∧
    (l.mode ≠ .sleepPending → exec .requestTimer s = nothing ∧ exec .quietTimer s = nothing) ∧
    (l.mode = .waking → l.wakePhase = .wait → s.setting Setting.wakeTimer ≤ l.wakeTimer + 1 →
      ∃ t, exec .wakeTimerTimeout s = .next t ∧ exec .send s = .next t ∧
        (l.burstNumber < 3 → t.link.mode = .waking ∧ t.link.burstNumber = l.burstNumber + 1 ∧
          t.link.counters.wakeBurst = min (l.counters.wakeBurst + 1) 65535 ∧ t.sent.link.length = 1) ∧
        (3 ≤ l.burstNumber → cut t ∧ (t.notices.latches.get 22).isSome ∧
          t.link.counters.wakeFailure = min (l.counters.wakeFailure + 1) 65535)) ∧
    (l.mode ≠ .waking → exec .wakeTimerTimeout s = nothing)

/-- R178, R172: in RUN, a message in flight rides again at the send at which its resend timer reaches 20; after five
sends it is dropped instead, counted, latched in LINK_MESSAGE_LOST and charged to SFC, and the head of the queue takes
its place. Before its timer reaches 20 the rows do nothing (the model's choice, log entry 3). -/
def Obligations.MessagesRideAndDrop : Prop :=
  ∀ (s : State) (f : InFlight), s.link.mode = .run → s.link.gapTimer + 1 < 8 → s.link.inFlight = some f → 1 ≤ f.sends →
    let l := s.link
    let nothing : Host.Outcome State Fault Refusal := .next { s with sent := ⟨[], [], []⟩ }
    (f.sends < 5 → 20 ≤ f.timer + 1 → ∃ t, exec .messageResend s = .next t ∧ exec .send s = .next t ∧
      t.link.inFlight = some { f with sends := f.sends + 1, timer := 0 } ∧ t.link.queue = l.queue) ∧
    (5 ≤ f.sends → 20 ≤ f.timer + 1 → l.sfc + 16 ≤ 255 → ∃ t, exec .messageDrop s = .next t ∧ exec .send s = .next t ∧
      t.link.mode = .run ∧ t.link.sfc = l.sfc + 16 ∧ t.link.counters.messageLost = min (l.counters.messageLost + 1) 65535 ∧
      t.notices.latches.get 23 = some ((s.notices.latches.get 23).getD
        [Word.nat f.message.kind.code, Word.nat f.message.number.toNat, Word.nat 1]) ∧
      t.link.inFlight = (l.queue.head?.map fun m => ⟨m, 1, 0⟩) ∧ t.link.queue = l.queue.tail) ∧
    (f.timer + 1 < 20 → exec .messageResend s = nothing ∧ exec .messageDrop s = nothing)

/-- R168, R172 to R174, R177, R180, R189, R207: a return frame of another length or with a failed check, one whose far
state is none of the five, and one with a sequence after the last sent, is corrupt: it is counted, and none of its
fields is used. In RUN, SLEEP_PENDING and CUT it is a fault too, and RFC rises by 1, with the level that follows; the
rise from 254 brings the cut, its fault record showing RFC 255, and in SLEEP_PENDING the end of the negotiation, whose
SLEEP_CANCEL is queued, or dropped where 8 messages wait. A frame of another type on the link port is counted only.
The count that reaches 32,768 with the climb mark clear sets the mark and latches RETURN_CORRUPT_HALF; with the mark
set it latches nothing. All else stands. Where one event latches two kinds their order is the model's choice (log
entry 47), as is RETURN_CORRUPT_HALF by a frame of another type (log entry 24). A frame of 46 bytes is taken as padded
(R207, log entry 30). -/
def Obligations.CorruptReturnCounted : Prop :=
  ∀ (s : State) (frame : List Byte),
    let l := s.link
    let bytes := if frame.length = 46 then frame.take 16 else frame
    let foreign := frame.head? ≠ some 0x80
    let corrupt := frame.head? = some 0x80 ∧
      (bytes.length ≠ 16 ∨ bytes.drop 12 ≠ crc32Bytes (bytes.take 12) ∨ 4 < (byteAt bytes 1).toNat ∨
        (1 ≤ (byteAt bytes 2 ++ byteAt bytes 3 - l.lastSeq).toNat ∧
          (byteAt bytes 2 ++ byteAt bytes 3 - l.lastSeq).toNat ≤ 32767))
    let counting := l.mode ∈ [LinkMode.run, .sleepPending, .cut]
    let half : List (NoticeKind × List Word) :=
      if l.counters.corrupt = 32767 ∧ l.climb = false then [(.returnCorruptHalf, [])] else []
    let counted : LinkUnit := { l with
      counters := { l.counters with corrupt := min (l.counters.corrupt + 1) 65535 }
      climb := l.climb || l.counters.corrupt = 32767 }
    let faulted : LinkUnit := { counted with
      rfc := l.rfc + 1
      faultsSince := min (l.faultsSince + 1) 65535
      capture := some (l.capture.getD ⟨.corruptReturn, l.lastSeq.toNat, l.mode, l.sfc, l.rfc + 1⟩) }
    let leaves (link : LinkUnit) (notices : List (NoticeKind × List Word)) : Prop :=
      exec (.returnFrame frame) s =
        .next (notices.foldl (fun x p => latch p.1 p.2 x) { s with link := link, sent := ⟨[], [], []⟩ })
    (foreign ∨ (corrupt ∧ ¬counting) → leaves counted half) ∧
    (corrupt → counting → l.rfc < 254 →
      let level : Level :=
        if 127 < l.sfc ∨ 127 < l.rfc + 1 then .degraded
        else if l.warningLimit ≤ l.sfc ∨ l.warningLimit ≤ l.rfc + 1 then .warning else .clear
      (l.mode = .cut ∨ l.level = some level → leaves faulted half) ∧
      (l.mode ≠ .cut → l.level ≠ some level →
        leaves { faulted with level := some level }
          (half ++ [(.linkLevel, [(l.level.map fun x => Word.nat x.code).getD Word.none, Word.nat level.code,
            Word.nat l.sfc, Word.nat (l.rfc + 1)])]))) ∧
    (corrupt → counting → 254 ≤ l.rfc →
      let cut : LinkUnit := { faulted with
        mode := .cut
        level := none
        sfc := 127
        rfc := 0
        gapTimer := 0
        cutDuration := 0
        cutProbeFailures := 0
        probeTimer := 0
        counters := { counted.counters with cut := min (l.counters.cut + 1) 65535 } }
      let told : List (NoticeKind × List Word) :=
        half ++ [(.linkCut, [1, Word.nat l.mode.code, Word.nat l.lastSeq.toNat])]
      let waiting := l.queue.filter fun m => !m.isRequest l.requestNumber
      (l.mode ≠ .sleepPending → leaves cut told) ∧
      (l.mode = .sleepPending → waiting.length < 8 →
        leaves
          { cut with
            phase := .none
            queue := waiting ++ [⟨l.nextNumber, .sleepCancel, [l.requestNumber.getD 255]⟩]
            nextNumber := l.nextNumber + 1
            counters := { cut.counters with sleepsAborted := min (l.counters.sleepsAborted + 1) 65535 } }
          (told ++ [(.sleepResult, [2, 5])])) ∧
      (l.mode = .sleepPending → 8 ≤ waiting.length →
        leaves
          { cut with
            phase := .none
            queue := waiting
            faultsSince := min (l.faultsSince + 2) 65535
            lateNumber :=
              if ∃ f, l.inFlight = some f ∧ f.message.isRequest l.requestNumber = true then l.requestNumber
              else l.lateNumber
            counters := { cut.counters with
              messageLost := min (l.counters.messageLost + 1) 65535
              sleepsAborted := min (l.counters.sleepsAborted + 1) 65535 } }
          (told ++ [(.linkMessageLost, [Word.nat MessageKind.sleepCancel.code, 255, 0]), (.sleepResult, [2, 5])])))

/-- R169 to R174, R176, R179, R188 to R192: what a good return does, in each link mode. In RUN and SLEEP_PENDING RFC
falls, the gap timer restarts, and each sequence after the last judged, up to 8 before the highest received, is judged
in turn: unknown, received or missing, SFC standing, falling by 1 or rising by 8; the rise above 255 brings the cut,
which ends the judging. In SLEEP_PENDING the far state then moves the negotiation. In CUT a good probe lowers SFC, and
at 0 restores the link. An ack completes the message in flight, and one of the late number queues a SLEEP_CANCEL. In
WAKING an awake far end brings RUN; in ASLEEP a wake request starts a wake. -/
def Obligations.GoodReturnTaken : Prop :=
  (∀ (s : State) (r : Return) (frame : List Byte), frame = r.frame ∨ frame = padded r.frame → r.errors < 256 →
    seqAfter r.h s.link.lastSeq = false →
    let l := s.link
    ∃ t, exec (.returnFrame frame) s = .next t ∧
      t = { s with
        clips := t.clips, intake := t.intake, air := t.air, link := t.link, notices := t.notices, sent := t.sent } ∧
      t.link.lastFar = some r.far ∧ t.link.lastAck = r.ack ∧
      (∀ f, l.inFlight = some f →
        t.link.inFlight = if r.ack = some f.message.number then none else some f) ∧
      (t.link.requestAcked = true ↔ l.requestAcked = true ∨ ∃ f, l.inFlight = some f ∧
        r.ack = some f.message.number ∧ f.message.isRequest l.requestNumber = true) ∧
      (∀ a, r.ack = some a → l.lateNumber = some a → l.mode ≠ .sleepPending → t.link.lateNumber = none ∧
        (l.queue.length < (if l.mode = .cut then 7 else 8) →
          ∃ m ∈ t.link.queue, m.kind = .sleepCancel ∧ m.body = [a])) ∧
      (l.mode ∈ [LinkMode.run, .sleepPending, .cut] → t.link.gapTimer = 0) ∧
      (l.mode = .cut →
        t.link.lockSeen = (l.lockSeen || r.lock) ∧ t.link.lockLost = (l.lockLost || (l.lockSeen && !r.lock)) ∧
        (r.lock = true ∧ r.errors = 0 →
          (1 < l.sfc → t.link.mode = .cut ∧ t.link.sfc = l.sfc - 1 ∧ t.link.rfc = l.rfc - 1) ∧
          (l.sfc ≤ 1 → t.link.mode = .run ∧ t.link.sfc = 0 ∧ t.link.rfc = 0 ∧ t.link.judged = l.lastSeq ∧
            t.link.counters.restored = min (l.counters.restored + 1) 65535 ∧
            t.notices.latches.get 20 = some ((s.notices.latches.get 20).getD
              [Word.nat l.cutDuration, Word.nat l.cutProbeFailures]))) ∧
        (¬(r.lock = true ∧ r.errors = 0) → t.link.mode = .cut ∧ t.link.sfc = l.sfc ∧ t.link.rfc = l.rfc - 1 ∧
          t.link.cutProbeFailures = min (l.cutProbeFailures + 1) 65535 ∧
          t.link.counters.probeFailure = min (l.counters.probeFailure + 1) 65535)) ∧
      (l.mode = .waking →
        (r.far = .awake → t.link.mode = .run ∧ t.link.sfc = 0 ∧ t.link.rfc = 0 ∧ t.link.judged = l.lastSeq ∧
          t.link.gapTimer = 0 ∧ t.link.counters.wakesCompleted = min (l.counters.wakesCompleted + 1) 65535) ∧
        (r.far ≠ .awake → t.link.mode = .waking ∧ t.link.sfc = l.sfc ∧ t.link.rfc = l.rfc)) ∧
      (l.mode = .asleep → t.link.asleepWatch = 0 ∧ t.link.sfc = l.sfc ∧ t.link.rfc = l.rfc ∧
        (r.far = .wakeRequest → t.link.mode = .waking ∧ t.link.wakePhase = .burst ∧ t.link.burstNumber = 1 ∧
          t.link.burstIndex = 0 ∧ t.link.counters.wakesStarted = min (l.counters.wakesStarted + 1) 65535) ∧
        (r.far ≠ .wakeRequest → t.link.mode = .asleep))) ∧
  ∀ (s : State) (r : Return) (frame : List Byte), frame = r.frame ∨ frame = padded r.frame → r.errors < 256 →
    seqAfter r.h s.link.lastSeq = false → s.link.mode = .run ∨ s.link.mode = .sleepPending →
    let l := s.link
    let k := l.counters
    let e := r.h - 8
    let newly : List (BitVec 16) := if seqAfter e l.judged then
      (List.range (e - l.judged).toNat).map fun i => l.judged + 1 + BitVec.ofNat 16 i else []
    let sfc (n : Nat) : Nat := (newly.take n).foldl (fun x q => (r.verdict q).sfc x) l.sfc
    let number (n : Nat) (v : FrameVerdict) : Nat := (newly.take n).countP fun q => r.verdict q = v
    let counted (before n after : Nat) : Prop := after = if n = 0 then before else min (before + n) 65535
    ∃ t, exec (.returnFrame frame) s = .next t ∧
      (∀ n, n < newly.length → (∀ i, i ≤ n → sfc i ≤ 255) → 255 < sfc (n + 1) →
        t.link.mode = .cut ∧ t.link.level = none ∧ t.link.sfc = 127 ∧ t.link.rfc = 0 ∧ t.link.judged = l.judged ∧
        (t.notices.latches.get 19).isSome ∧ t.link.counters.cut = min (k.cut + 1) 65535 ∧
        counted k.missing (number (n + 1) .missing) t.link.counters.missing ∧
        counted k.unknown (number (n + 1) .unknown) t.link.counters.unknown ∧
        (l.mode = .sleepPending → t.link.phase = .none ∧
          t.link.counters.sleepsAborted = min (k.sleepsAborted + 1) 65535)) ∧
      ((∀ i, i ≤ newly.length → sfc i ≤ 255) →
        t.link.sfc = sfc newly.length ∧ t.link.rfc = l.rfc - 1 ∧
        t.link.judged = (if newly = [] then l.judged else e) ∧
        counted k.missing (number newly.length .missing) t.link.counters.missing ∧
        counted k.unknown (number newly.length .unknown) t.link.counters.unknown ∧
        t.link.counters.cut = k.cut ∧
        (l.mode = .run → t.link.mode = .run ∧
          t.link.level = some (levelOf l.warningLimit t.link.sfc t.link.rfc)) ∧
        (l.mode = .sleepPending →
          let acked := l.requestAcked = true ∨ ∃ f, l.inFlight = some f ∧ r.ack = some f.message.number ∧
            f.message.isRequest l.requestNumber = true
          let agreed := (r.far = .sleepReady ∨ r.far = .sleeping) ∧ acked ∧ l.phase = .requesting
          let declined := r.far = .sleepBusy ∨ r.far = .wakeRequest
          (agreed → l.quietInterval ≠ 0 →
            t.link.mode = .sleepPending ∧ t.link.phase = .quiet ∧ t.link.quietTimer = 0) ∧
          (agreed → l.quietInterval = 0 →
            t.link.mode = .asleep ∧ t.link.phase = .none ∧ t.link.level = none ∧
            t.link.counters.sleepsEntered = min (k.sleepsEntered + 1) 65535 ∧
            t.notices.latches.get 21 = some ((s.notices.latches.get 21).getD [0, 255])) ∧
          (declined → t.link.mode = .run ∧ t.link.phase = .none ∧
            t.link.counters.sleepsRefused = min (k.sleepsRefused + 1) 65535 ∧
            t.notices.latches.get 21 = some ((s.notices.latches.get 21).getD [1, 1])) ∧
          (¬agreed → ¬declined → t.link.mode = .sleepPending ∧ t.link.phase = l.phase ∧
            t.link.quietTimer = l.quietTimer ∧ t.link.requestTimer = l.requestTimer)))

/-- R182, R187, R189, R191, R194: LINK-SLEEP starts a sleep where the link is in RUN and the air stage is IDLE with no
eligible record, and is refused otherwise, without data words (the model's choice, log entry 27); with 8 messages
pending its request is dropped. LINK-WAKE wakes a sleeping link, aborts a negotiation, and does nothing else;
LINK-STATUS reads the link unit out and clears the fault capture, faults since read and the lock flags (its words: log
entry 26). At a mix frame that brings no break event, a SIGN_OFF end with AUTO_SLEEP on starts a sleep on the same
conditions and is otherwise deferred, or ignored where the link already sleeps or is about to; an active PGM frame
aborts a negotiation with ABORT_ON_ACTIVITY on, and wakes a sleeping link with WAKE_ON_ACTIVITY on. -/
def Obligations.LinkOrders : Prop :=
  (∀ (s : State) (o : QueuedOrder) (rest : List QueuedOrder),
    let l := s.link
    let k := l.counters
    let allowed := l.mode = .run ∧ s.air.state = .idle ∧ chosenRecord s = none
    let number (x : Option Nat) : Word := (x.map Word.nat).getD Word.none
    (s.Heads o rest 0x68 [] →
      (allowed → l.queue.length < 8 →
        exec .linkSleep s =
          .next ({ s with link := l.sleepStarted s.intake.minuteOfWeek }.answered o rest .done
            [Word.nat 1, Word.nat l.nextNumber.toNat])) ∧
      (allowed → 8 ≤ l.queue.length →
        ∃ t, exec .linkSleep s = .next t ∧ t.link.mode = .sleepPending ∧ t.link.phase = .requesting ∧
          t.link.requestNumber = none ∧ t.link.queue = l.queue ∧
          t.link.counters.sleepsRequested = min (k.sleepsRequested + 1) 65535 ∧
          t.link.counters.messageLost = min (k.messageLost + 1) 65535) ∧
      (¬allowed → exec .linkSleep s = .next (s.answered o rest .refusedState []))) ∧
    (s.Heads o rest 0x69 [] →
      (l.mode = .asleep →
        exec .linkWake s =
          .next ({ s with link := l.wakeStarted }.answered o rest .done [Word.nat 3])) ∧
      (l.mode ∈ [LinkMode.run, .waking, .cut] →
        exec .linkWake s = .next (s.answered o rest .done [Word.nat l.mode.code])) ∧
      (l.mode = .sleepPending → ∃ t, exec .linkWake s = .next t ∧ s.Aborts 4 t ∧
        t.sent.studio.getLast? = some (replyTo o .done [Word.nat 0]))) ∧
    (s.Heads o rest 0x6A [] →
      exec .linkStatus s =
        .next ({ s with
          link := { l with capture := none, faultsSince := 0, lockSeen := false, lockLost := false } }.answered o rest .done
            ([Word.nat l.mode.code, number (l.level.map Level.code), Word.nat l.sfc, Word.nat l.rfc,
              Word.nat l.warningLimit, Word.nat l.nextSeq.toNat, Word.nat l.lastSeq.toNat, Word.nat l.judged.toNat,
              Word.nat l.queue.length, Word.nat ((l.inFlight.map fun (f : InFlight) => f.message.number.toNat).getD 255),
              number (l.inFlight.map fun (f : InFlight) => f.message.kind.code), number (l.inFlight.map InFlight.sends),
              number (l.inFlight.map InFlight.timer), Word.flag l.capture.isNone,
              number (l.capture.map fun (c : FaultRecord) => c.kind.code), number (l.capture.map FaultRecord.reference)] ++
            [number (l.capture.map fun (c : FaultRecord) => c.mode.code), number (l.capture.map FaultRecord.sfc),
              number (l.capture.map FaultRecord.rfc), Word.nat l.faultsSince, Word.flag l.lockSeen, Word.flag l.lockLost,
              number (l.lastFar.map FarState.code), number (l.lastAck.map BitVec.toNat), Word.nat l.phase.code,
              Word.nat l.burstNumber])))) ∧
  ∀ s : State, (∀ f, s.usedFrame = some f → f.breakFlag = false) → ∃ t, exec .mixFrame s = .next t ∧
    let l := s.link
    let allowed := l.mode = .run ∧ s.air.state = .idle ∧ chosenRecord s = none
    let active := t.mix.pgm.quiet = false
    let signsOff := ∃ (p : Fin 2) (n : Fin 32), s.players.get (p.castLE (by decide)) =
      ⟨.running, some n, (s.clips.slots.get n).length - 1⟩ ∧ 0 < (s.clips.slots.get n).length ∧
      s.clips.holds.get (p.castLE (by decide)) = some n ∧ (s.tables.slotConf.get n).endAction = .signOff
    (signsOff → ¬active →
      (l.autoSleep = false ∨ l.mode ∈ [LinkMode.sleepPending, .asleep] →
        t.link = l ∧ t.notices.latches.get 21 = s.notices.latches.get 21) ∧
      (l.autoSleep = true → allowed → l.queue.length < 8 → t.link = l.sleepStarted s.intake.minuteOfWeek) ∧
      (l.autoSleep = true → ¬allowed → l.mode ∈ [LinkMode.run, .waking, .cut] →
        t.link = l ∧ t.notices.latches.get 21 = some ((s.notices.latches.get 21).getD [3, 255]))) ∧
    (¬signsOff ∨ l.autoSleep = false → l.mode ∈ [LinkMode.run, .waking, .cut] → t.link = l) ∧
    (l.mode = .sleepPending →
      (active → l.abortOnActivity = true → s.Aborts 2 t) ∧ (¬active ∨ l.abortOnActivity = false → t.link = l)) ∧
    (l.mode = .asleep →
      (active → l.wakeOnActivity = true → t.link = l.wakeStarted) ∧
      (¬active ∨ l.wakeOnActivity = false → t.link = l))

/-! ### Frame periods and notices -/

/-- R1, R196, R201, R202, R205: a frame period adds 1 to the frame count, lets an order be taken again, those that
arrived before it included (log entry 4), and adopts NOTICECONF. While a latched, enabled kind with repeat on stands,
the repeat timer counts frame periods, and in the one in which it would reach 1,000 the lowest-numbered such kind is
sent again, marked as a repeat. Where that is not due the repeat timer's row does nothing (the model's choice, log
entry 3); the mark of an AUDIO-BEGIN's own frame period and the holding of the records' ages are the model's own (log
entries 17 and 45). A block's latching of a kind whose latch is clear sets it with the detail, counts it, and, the
kind being enabled, sends its NOTICE frame; of one already set it changes nothing. -/
def Obligations.FramePeriodBegins : Prop :=
  (∀ (s : State) (kind : NoticeKind) (detail : List Word),
    let k := kind.index
    let n := s.notices
    let latched : NoticeUnit := { n with
      latches := n.latches.set k (some detail)
      latched := min (n.latched + 1) 65535 }
    (∀ d, n.latches.get k = some d → latch kind detail s = s) ∧
    (n.latches.get k = none →
      let out : List StudioFrame := if (n.conf.get k).enable then
        [⟨none, 0x88B5, padded ([0x83, BitVec.ofNat 8 detail.length] ++ beBytes 4 latched.latchSet ++
          [1, BitVec.ofNat 8 k.val] ++ detail.flatMap wordBytes)⟩] else []
      latch kind detail s = { s with
        notices := { latched with repeatTimer := if ∃ j, n.repeating j = true then n.repeatTimer else 0 }
        sent := { s.sent with studio := s.sent.studio ++ out } })) ∧
  ∀ s : State,
    let repeats (conf : Vector NoticeConf 25) (k : Fin 25) : Prop :=
      (s.notices.latches.get k).isSome ∧ (conf.get k).enable = true ∧ (conf.get k).repeats = true
    let before := ∃ k, repeats s.notices.conf k
    let base (n : NoticeUnit) (out : List StudioFrame) : Host.Outcome State Fault Refusal := .next { s with
      frameCount := s.frameCount + 1
      orders := { s.orders with taken := false, queue := s.orders.queue.map fun o => { o with fresh := false } }
      intake := { s.intake with
        queue := s.intake.queue.map fun r =>
          { r with ageHeld := r.ageHeld || (s.frameCount + 1 - r.stamp).toNat = 4294967295 }
        recording := { s.intake.recording with fresh := false } }
      notices := n
      sent := ⟨out, [], []⟩ }
    let adopted := { s.notices with conf := s.tables.noticeConf }
    ((¬before ∨ ∀ k, ¬repeats s.tables.noticeConf k) →
      exec .framePeriod s = base { adopted with repeatTimer := 0 } [] ∧
      exec .repeatTimer s = .next { s with sent := ⟨[], [], []⟩ }) ∧
    ∀ k, before → repeats s.tables.noticeConf k → (∀ j, j < k → ¬repeats s.tables.noticeConf j) →
      (s.notices.repeatTimer + 1 < 1000 →
        exec .framePeriod s = base { adopted with repeatTimer := s.notices.repeatTimer + 1 } [] ∧
        exec .repeatTimer s = .next { s with sent := ⟨[], [], []⟩ }) ∧
      ∀ detail, s.notices.latches.get k = some detail → 1000 ≤ s.notices.repeatTimer + 1 →
        let out := base { adopted with repeatTimer := 0, repeated := min (s.notices.repeated + 1) 65535 }
          [⟨none, 0x88B5, padded ([0x83, BitVec.ofNat 8 detail.length] ++ beBytes 4 s.notices.latchSet ++
            [3, BitVec.ofNat 8 k.val] ++ detail.flatMap wordBytes)⟩]
        exec .framePeriod s = out ∧ exec .repeatTimer s = out

/-- R16, R46, R64, R134, R145, R165, R196: the frame work of a block and the arrivals reach the blocks that the manual
names for them and no other. Of the commands below, only alert intake's frame writes the clip region of the DRAM and
only the exchange the delay region; no order writes either, and none but T-WRITE changes a table. -/
def Obligations.CommandsKeepOtherBlocks : Prop :=
  ∀ (c : Instr) (s t : State), exec c s = .next t →
    (c ∈ airRows →
      t = { s with
        delay := t.delay, clips := t.clips, intake := t.intake, air := t.air, link := t.link, notices := t.notices
        sent := t.sent } ∧
      t.clips.region = s.clips.region ∧ t.delay.region = s.delay.region) ∧
    (c ∈ sendRows ∨ (∃ frame, c = .returnFrame frame) ∨ (∃ rest, c = .header rest ∨ c = .audioEnd rest) →
      t = { s with
        clips := t.clips, intake := t.intake, air := t.air, link := t.link, notices := t.notices, sent := t.sent } ∧
      t.clips.region = s.clips.region) ∧
    ((∃ audio, c ∈ [.alertFrame audio, .beginWaitReached audio, .recordingLimit audio, .minuteEvent audio]) →
      t = { s with
        clips := t.clips, intake := t.intake, air := t.air, link := t.link, notices := t.notices, sent := t.sent }) ∧
    ((∃ k slots, c ∈ [.lineBusCycle slots, .ringLimitReached k slots, .holdLimitReached k slots]) →
      t = { s with line := t.line, notices := t.notices, sent := t.sent }) ∧
    (c = .exchange → t = { s with delay := t.delay, notices := t.notices, sent := t.sent }) ∧
    (c = .mixFrame → t.clips.region = s.clips.region ∧ t.delay = s.delay ∧ t.tables = s.tables ∧ t.orders = s.orders) ∧
    (c ∈ orderRows.map Prod.fst →
      t.clips.region = s.clips.region ∧ t.delay.region = s.delay.region ∧ t.frameCount = s.frameCount ∧
      (c ≠ .tWrite → t.tables = s.tables))

/-! ### What every step keeps -/

/-- R14, R40, R62, R87, R117, R142, R162, R184, R205: the reset state, with the values that the sections "State after
reset" and section 10.7 give and, where they give none, those of log entry 9, has every property that the statements
below say each step keeps. -/
def Obligations.ResetIsSafe : Prop :=
  State.reset.Safe ∧ State.reset.holdAgrees = true ∧ State.reset.airLinked = true ∧ State.reset.marksAgree = true

/-- R5, R42, R89, R164, R172, R173, R177, R195: every step keeps the canonical form of the two memory regions, the
order and window of the jitter queue, and the size of the order queue; and SFC and RFC within 0..255, a level exactly
in RUN and SLEEP_PENDING, and at most 8 messages pending. -/
def Obligations.StepKeepsQueuesAndCounts : Prop :=
  (∀ s t : State, s.memoryWf = true → s.studio.queueWf = true → s.orders.wf = true → step s = .next t →
    t.memoryWf = true ∧ t.studio.queueWf = true ∧ t.orders.wf = true) ∧
  ∀ s t : State, s.link.wf = true → step s = .next t → t.link.wf = true

/-- R42, R44, R55, R56: every step keeps the held count and the target in range and the delay state the one that
follows from the hold flag, the bypass flag, the count and the target, with the hold flag set exactly in ATTENTION,
MESSAGE and CLOSING. -/
def Obligations.StepKeepsDelayState : Prop :=
  ∀ s t : State, s.delayWf = true → s.holdAgrees = true → step s = .next t → t.delayWf = true ∧ t.holdAgrees = true

/-- R67, R69, R79: every step keeps the ready queue, the screening line and the on-air count in agreement with the six
line records. -/
def Obligations.StepKeepsLinesAgreed : Prop :=
  ∀ s t : State, s.line.agrees = true → step s = .next t → t.line.agrees = true

/-- R89, R91, R92, R105, R107, R125, R129, R132: every step keeps each of the 768 pages in exactly one place, each use
count the number of readers that hold the slot, each identity once in the alert queue within its 192 words, and each
alert slot named by exactly one record. -/
def Obligations.StepKeepsStore : Prop :=
  ∀ s t : State, s.StoreWf → step s = .next t → t.StoreWf

/-- R144, R147, R151, R160, R193: in every step, from LEAD_IN to LEAD_OUT the link stays awake, and only the record
being aired bears the on-air mark. -/
def Obligations.StepKeepsAiring : Prop :=
  ∀ s t : State, s.airLinked = true → s.marksAgree = true → step s = .next t →
    t.airLinked = true ∧ t.marksAgree = true
end

