-- ==== Sys2Proof/Laws/Memory.lean ====
section
/-!
SUPPORT. The block memory of the DRAM: what a read gives after a write, and that every write keeps the canonical form.
-/

namespace Sys2Proof.Machine

variable {α : Type}

/-- An entry of a list with one block set is that entry or an old one. -/
theorem Memory.mem_insert {a : Nat} {v : α} {m : List (Nat × α)} {c : Nat × α} (h : c ∈ Memory.insert a v m) :
    c = (a, v) ∨ c ∈ m := by
  induction m with
  | nil => simpa [Memory.insert] using h
  | cons e rest ih =>
    obtain ⟨b, w⟩ := e
    simp only [Memory.insert] at h
    split at h
    · simpa using h
    · split at h
      · rcases List.mem_cons.mp h with h | h
        · exact .inl h
        · exact .inr (List.mem_cons_of_mem _ h)
      · rcases List.mem_cons.mp h with h | h
        · exact .inr (by simp [h])
        · rcases ih h with h | h
          · exact .inl h
          · exact .inr (List.mem_cons_of_mem _ h)

/-- The block that was set reads as its new contents, every other as before. -/
theorem Memory.find_insert (m : List (Nat × α)) (a b : Nat) (v : α) :
    (Memory.insert a v m).find? (fun c => c.1 = b) = if b = a then some (a, v) else m.find? fun c => c.1 = b := by
  induction m with
  | nil => by_cases h : b = a <;> simp [Memory.insert, h, eq_comm]
  | cons e rest ih =>
    obtain ⟨x, w⟩ := e
    simp only [Memory.insert]
    split
    · by_cases h : b = a <;> simp_all [eq_comm]
    · split
      · by_cases h : b = a <;> simp_all [eq_comm]
      · by_cases h : x = b <;> by_cases h' : b = a <;> simp_all [List.find?_cons, eq_comm]

/-- A block reads as what was last written to it, and every other block as before. -/
theorem Memory.read_write [DecidableEq α] (blank v : α) (m : List (Nat × α)) (a b : Nat) :
    Memory.read blank (Memory.write blank m a v) b = if b = a then v else Memory.read blank m b := by
  unfold Memory.read Memory.write
  split
  · rename_i h
    by_cases h' : b = a
    · subst h'
      have : (m.filter fun c => c.1 ≠ b).find? (fun c => c.1 = b) = none := by
        simp [List.find?_eq_none]
      rw [this]
      simp [h]
    · have : (m.filter fun c => c.1 ≠ a).find? (fun c => c.1 = b) = m.find? fun c => c.1 = b := by
        induction m with
        | nil => rfl
        | cons e rest ih => by_cases h1 : e.1 = a <;> by_cases h2 : e.1 = b <;> simp_all
      simp_all
  · rw [Memory.find_insert]
    split <;> simp_all

/-- A write keeps the canonical form. -/
theorem Memory.write_wf [DecidableEq α] (blank v : α) (m : List (Nat × α)) (a : Nat) (h : Memory.wf blank m = true) :
    Memory.wf blank (Memory.write blank m a v) = true := by
  simp only [Memory.wf, Bool.and_eq_true, decide_eq_true_eq, List.all_eq_true] at h ⊢
  unfold Memory.write
  split
  · exact ⟨h.1.filter _, fun c hc => h.2 c (List.mem_of_mem_filter hc)⟩
  · rename_i hv
    refine ⟨?_, fun c hc => ?_⟩
    · replace h := h.1
      clear hv
      induction m with
      | nil => simp [Memory.insert]
      | cons e rest ih =>
        obtain ⟨b, w⟩ := e
        rw [List.pairwise_cons] at h
        simp only [Memory.insert]
        split
        · refine List.pairwise_cons.mpr ⟨fun c hc => ?_, List.pairwise_cons.mpr h⟩
          rcases List.mem_cons.mp hc with rfl | hc
          · assumption
          · exact lt_trans ‹a < b› (h.1 c hc)
        · split
          · subst_vars
            exact List.pairwise_cons.mpr ⟨h.1, h.2⟩
          · refine List.pairwise_cons.mpr ⟨fun c hc => ?_, ih h.2⟩
            rcases Memory.mem_insert hc with rfl | hc
            · simp; omega
            · exact h.1 c hc
    · rcases Memory.mem_insert hc with rfl | hc
      · simpa using hv
      · exact h.2 c hc

/-- The reset memory has the canonical form. -/
theorem State.reset_memoryWf : State.reset.memoryWf = true := by decide

end Sys2Proof.Machine
end

