-- ==== Sys2Proof/Laws/State.lean ====
section
/-!
SUPPORT. One lemma for each field and each update of the state.
-/

namespace Sys2Proof.Machine

@[simp] theorem State.modFrameCount_frameCount (s : State) (f : BitVec 32 → BitVec 32) : (s.modFrameCount f).frameCount = f s.frameCount := rfl
@[simp] theorem State.modFrameCount_tables (s : State) (f : BitVec 32 → BitVec 32) : (s.modFrameCount f).tables = s.tables := rfl
@[simp] theorem State.modFrameCount_studio (s : State) (f : BitVec 32 → BitVec 32) : (s.modFrameCount f).studio = s.studio := rfl
@[simp] theorem State.modFrameCount_mix (s : State) (f : BitVec 32 → BitVec 32) : (s.modFrameCount f).mix = s.mix := rfl
@[simp] theorem State.modFrameCount_delay (s : State) (f : BitVec 32 → BitVec 32) : (s.modFrameCount f).delay = s.delay := rfl
@[simp] theorem State.modFrameCount_line (s : State) (f : BitVec 32 → BitVec 32) : (s.modFrameCount f).line = s.line := rfl
@[simp] theorem State.modFrameCount_clips (s : State) (f : BitVec 32 → BitVec 32) : (s.modFrameCount f).clips = s.clips := rfl
@[simp] theorem State.modFrameCount_players (s : State) (f : BitVec 32 → BitVec 32) : (s.modFrameCount f).players = s.players := rfl
@[simp] theorem State.modFrameCount_intake (s : State) (f : BitVec 32 → BitVec 32) : (s.modFrameCount f).intake = s.intake := rfl
@[simp] theorem State.modFrameCount_air (s : State) (f : BitVec 32 → BitVec 32) : (s.modFrameCount f).air = s.air := rfl
@[simp] theorem State.modFrameCount_link (s : State) (f : BitVec 32 → BitVec 32) : (s.modFrameCount f).link = s.link := rfl
@[simp] theorem State.modFrameCount_orders (s : State) (f : BitVec 32 → BitVec 32) : (s.modFrameCount f).orders = s.orders := rfl
@[simp] theorem State.modFrameCount_notices (s : State) (f : BitVec 32 → BitVec 32) : (s.modFrameCount f).notices = s.notices := rfl
@[simp] theorem State.modFrameCount_sent (s : State) (f : BitVec 32 → BitVec 32) : (s.modFrameCount f).sent = s.sent := rfl
@[simp] theorem State.modFrameCount_pending (s : State) (f : BitVec 32 → BitVec 32) : (s.modFrameCount f).pending = s.pending := rfl

@[simp] theorem State.modTables_frameCount (s : State) (f : Tables → Tables) : (s.modTables f).frameCount = s.frameCount := rfl
@[simp] theorem State.modTables_tables (s : State) (f : Tables → Tables) : (s.modTables f).tables = f s.tables := rfl
@[simp] theorem State.modTables_studio (s : State) (f : Tables → Tables) : (s.modTables f).studio = s.studio := rfl
@[simp] theorem State.modTables_mix (s : State) (f : Tables → Tables) : (s.modTables f).mix = s.mix := rfl
@[simp] theorem State.modTables_delay (s : State) (f : Tables → Tables) : (s.modTables f).delay = s.delay := rfl
@[simp] theorem State.modTables_line (s : State) (f : Tables → Tables) : (s.modTables f).line = s.line := rfl
@[simp] theorem State.modTables_clips (s : State) (f : Tables → Tables) : (s.modTables f).clips = s.clips := rfl
@[simp] theorem State.modTables_players (s : State) (f : Tables → Tables) : (s.modTables f).players = s.players := rfl
@[simp] theorem State.modTables_intake (s : State) (f : Tables → Tables) : (s.modTables f).intake = s.intake := rfl
@[simp] theorem State.modTables_air (s : State) (f : Tables → Tables) : (s.modTables f).air = s.air := rfl
@[simp] theorem State.modTables_link (s : State) (f : Tables → Tables) : (s.modTables f).link = s.link := rfl
@[simp] theorem State.modTables_orders (s : State) (f : Tables → Tables) : (s.modTables f).orders = s.orders := rfl
@[simp] theorem State.modTables_notices (s : State) (f : Tables → Tables) : (s.modTables f).notices = s.notices := rfl
@[simp] theorem State.modTables_sent (s : State) (f : Tables → Tables) : (s.modTables f).sent = s.sent := rfl
@[simp] theorem State.modTables_pending (s : State) (f : Tables → Tables) : (s.modTables f).pending = s.pending := rfl

@[simp] theorem State.modStudio_frameCount (s : State) (f : StudioInput → StudioInput) : (s.modStudio f).frameCount = s.frameCount := rfl
@[simp] theorem State.modStudio_tables (s : State) (f : StudioInput → StudioInput) : (s.modStudio f).tables = s.tables := rfl
@[simp] theorem State.modStudio_studio (s : State) (f : StudioInput → StudioInput) : (s.modStudio f).studio = f s.studio := rfl
@[simp] theorem State.modStudio_mix (s : State) (f : StudioInput → StudioInput) : (s.modStudio f).mix = s.mix := rfl
@[simp] theorem State.modStudio_delay (s : State) (f : StudioInput → StudioInput) : (s.modStudio f).delay = s.delay := rfl
@[simp] theorem State.modStudio_line (s : State) (f : StudioInput → StudioInput) : (s.modStudio f).line = s.line := rfl
@[simp] theorem State.modStudio_clips (s : State) (f : StudioInput → StudioInput) : (s.modStudio f).clips = s.clips := rfl
@[simp] theorem State.modStudio_players (s : State) (f : StudioInput → StudioInput) : (s.modStudio f).players = s.players := rfl
@[simp] theorem State.modStudio_intake (s : State) (f : StudioInput → StudioInput) : (s.modStudio f).intake = s.intake := rfl
@[simp] theorem State.modStudio_air (s : State) (f : StudioInput → StudioInput) : (s.modStudio f).air = s.air := rfl
@[simp] theorem State.modStudio_link (s : State) (f : StudioInput → StudioInput) : (s.modStudio f).link = s.link := rfl
@[simp] theorem State.modStudio_orders (s : State) (f : StudioInput → StudioInput) : (s.modStudio f).orders = s.orders := rfl
@[simp] theorem State.modStudio_notices (s : State) (f : StudioInput → StudioInput) : (s.modStudio f).notices = s.notices := rfl
@[simp] theorem State.modStudio_sent (s : State) (f : StudioInput → StudioInput) : (s.modStudio f).sent = s.sent := rfl
@[simp] theorem State.modStudio_pending (s : State) (f : StudioInput → StudioInput) : (s.modStudio f).pending = s.pending := rfl

@[simp] theorem State.modMix_frameCount (s : State) (f : MixEngine → MixEngine) : (s.modMix f).frameCount = s.frameCount := rfl
@[simp] theorem State.modMix_tables (s : State) (f : MixEngine → MixEngine) : (s.modMix f).tables = s.tables := rfl
@[simp] theorem State.modMix_studio (s : State) (f : MixEngine → MixEngine) : (s.modMix f).studio = s.studio := rfl
@[simp] theorem State.modMix_mix (s : State) (f : MixEngine → MixEngine) : (s.modMix f).mix = f s.mix := rfl
@[simp] theorem State.modMix_delay (s : State) (f : MixEngine → MixEngine) : (s.modMix f).delay = s.delay := rfl
@[simp] theorem State.modMix_line (s : State) (f : MixEngine → MixEngine) : (s.modMix f).line = s.line := rfl
@[simp] theorem State.modMix_clips (s : State) (f : MixEngine → MixEngine) : (s.modMix f).clips = s.clips := rfl
@[simp] theorem State.modMix_players (s : State) (f : MixEngine → MixEngine) : (s.modMix f).players = s.players := rfl
@[simp] theorem State.modMix_intake (s : State) (f : MixEngine → MixEngine) : (s.modMix f).intake = s.intake := rfl
@[simp] theorem State.modMix_air (s : State) (f : MixEngine → MixEngine) : (s.modMix f).air = s.air := rfl
@[simp] theorem State.modMix_link (s : State) (f : MixEngine → MixEngine) : (s.modMix f).link = s.link := rfl
@[simp] theorem State.modMix_orders (s : State) (f : MixEngine → MixEngine) : (s.modMix f).orders = s.orders := rfl
@[simp] theorem State.modMix_notices (s : State) (f : MixEngine → MixEngine) : (s.modMix f).notices = s.notices := rfl
@[simp] theorem State.modMix_sent (s : State) (f : MixEngine → MixEngine) : (s.modMix f).sent = s.sent := rfl
@[simp] theorem State.modMix_pending (s : State) (f : MixEngine → MixEngine) : (s.modMix f).pending = s.pending := rfl

@[simp] theorem State.modDelay_frameCount (s : State) (f : DelayLine → DelayLine) : (s.modDelay f).frameCount = s.frameCount := rfl
@[simp] theorem State.modDelay_tables (s : State) (f : DelayLine → DelayLine) : (s.modDelay f).tables = s.tables := rfl
@[simp] theorem State.modDelay_studio (s : State) (f : DelayLine → DelayLine) : (s.modDelay f).studio = s.studio := rfl
@[simp] theorem State.modDelay_mix (s : State) (f : DelayLine → DelayLine) : (s.modDelay f).mix = s.mix := rfl
@[simp] theorem State.modDelay_delay (s : State) (f : DelayLine → DelayLine) : (s.modDelay f).delay = f s.delay := rfl
@[simp] theorem State.modDelay_line (s : State) (f : DelayLine → DelayLine) : (s.modDelay f).line = s.line := rfl
@[simp] theorem State.modDelay_clips (s : State) (f : DelayLine → DelayLine) : (s.modDelay f).clips = s.clips := rfl
@[simp] theorem State.modDelay_players (s : State) (f : DelayLine → DelayLine) : (s.modDelay f).players = s.players := rfl
@[simp] theorem State.modDelay_intake (s : State) (f : DelayLine → DelayLine) : (s.modDelay f).intake = s.intake := rfl
@[simp] theorem State.modDelay_air (s : State) (f : DelayLine → DelayLine) : (s.modDelay f).air = s.air := rfl
@[simp] theorem State.modDelay_link (s : State) (f : DelayLine → DelayLine) : (s.modDelay f).link = s.link := rfl
@[simp] theorem State.modDelay_orders (s : State) (f : DelayLine → DelayLine) : (s.modDelay f).orders = s.orders := rfl
@[simp] theorem State.modDelay_notices (s : State) (f : DelayLine → DelayLine) : (s.modDelay f).notices = s.notices := rfl
@[simp] theorem State.modDelay_sent (s : State) (f : DelayLine → DelayLine) : (s.modDelay f).sent = s.sent := rfl
@[simp] theorem State.modDelay_pending (s : State) (f : DelayLine → DelayLine) : (s.modDelay f).pending = s.pending := rfl

@[simp] theorem State.modLine_frameCount (s : State) (f : LineUnit → LineUnit) : (s.modLine f).frameCount = s.frameCount := rfl
@[simp] theorem State.modLine_tables (s : State) (f : LineUnit → LineUnit) : (s.modLine f).tables = s.tables := rfl
@[simp] theorem State.modLine_studio (s : State) (f : LineUnit → LineUnit) : (s.modLine f).studio = s.studio := rfl
@[simp] theorem State.modLine_mix (s : State) (f : LineUnit → LineUnit) : (s.modLine f).mix = s.mix := rfl
@[simp] theorem State.modLine_delay (s : State) (f : LineUnit → LineUnit) : (s.modLine f).delay = s.delay := rfl
@[simp] theorem State.modLine_line (s : State) (f : LineUnit → LineUnit) : (s.modLine f).line = f s.line := rfl
@[simp] theorem State.modLine_clips (s : State) (f : LineUnit → LineUnit) : (s.modLine f).clips = s.clips := rfl
@[simp] theorem State.modLine_players (s : State) (f : LineUnit → LineUnit) : (s.modLine f).players = s.players := rfl
@[simp] theorem State.modLine_intake (s : State) (f : LineUnit → LineUnit) : (s.modLine f).intake = s.intake := rfl
@[simp] theorem State.modLine_air (s : State) (f : LineUnit → LineUnit) : (s.modLine f).air = s.air := rfl
@[simp] theorem State.modLine_link (s : State) (f : LineUnit → LineUnit) : (s.modLine f).link = s.link := rfl
@[simp] theorem State.modLine_orders (s : State) (f : LineUnit → LineUnit) : (s.modLine f).orders = s.orders := rfl
@[simp] theorem State.modLine_notices (s : State) (f : LineUnit → LineUnit) : (s.modLine f).notices = s.notices := rfl
@[simp] theorem State.modLine_sent (s : State) (f : LineUnit → LineUnit) : (s.modLine f).sent = s.sent := rfl
@[simp] theorem State.modLine_pending (s : State) (f : LineUnit → LineUnit) : (s.modLine f).pending = s.pending := rfl

@[simp] theorem State.modClips_frameCount (s : State) (f : ClipStore → ClipStore) : (s.modClips f).frameCount = s.frameCount := rfl
@[simp] theorem State.modClips_tables (s : State) (f : ClipStore → ClipStore) : (s.modClips f).tables = s.tables := rfl
@[simp] theorem State.modClips_studio (s : State) (f : ClipStore → ClipStore) : (s.modClips f).studio = s.studio := rfl
@[simp] theorem State.modClips_mix (s : State) (f : ClipStore → ClipStore) : (s.modClips f).mix = s.mix := rfl
@[simp] theorem State.modClips_delay (s : State) (f : ClipStore → ClipStore) : (s.modClips f).delay = s.delay := rfl
@[simp] theorem State.modClips_line (s : State) (f : ClipStore → ClipStore) : (s.modClips f).line = s.line := rfl
@[simp] theorem State.modClips_clips (s : State) (f : ClipStore → ClipStore) : (s.modClips f).clips = f s.clips := rfl
@[simp] theorem State.modClips_players (s : State) (f : ClipStore → ClipStore) : (s.modClips f).players = s.players := rfl
@[simp] theorem State.modClips_intake (s : State) (f : ClipStore → ClipStore) : (s.modClips f).intake = s.intake := rfl
@[simp] theorem State.modClips_air (s : State) (f : ClipStore → ClipStore) : (s.modClips f).air = s.air := rfl
@[simp] theorem State.modClips_link (s : State) (f : ClipStore → ClipStore) : (s.modClips f).link = s.link := rfl
@[simp] theorem State.modClips_orders (s : State) (f : ClipStore → ClipStore) : (s.modClips f).orders = s.orders := rfl
@[simp] theorem State.modClips_notices (s : State) (f : ClipStore → ClipStore) : (s.modClips f).notices = s.notices := rfl
@[simp] theorem State.modClips_sent (s : State) (f : ClipStore → ClipStore) : (s.modClips f).sent = s.sent := rfl
@[simp] theorem State.modClips_pending (s : State) (f : ClipStore → ClipStore) : (s.modClips f).pending = s.pending := rfl

@[simp] theorem State.modPlayers_frameCount (s : State) (f : Vector Player 3 → Vector Player 3) : (s.modPlayers f).frameCount = s.frameCount := rfl
@[simp] theorem State.modPlayers_tables (s : State) (f : Vector Player 3 → Vector Player 3) : (s.modPlayers f).tables = s.tables := rfl
@[simp] theorem State.modPlayers_studio (s : State) (f : Vector Player 3 → Vector Player 3) : (s.modPlayers f).studio = s.studio := rfl
@[simp] theorem State.modPlayers_mix (s : State) (f : Vector Player 3 → Vector Player 3) : (s.modPlayers f).mix = s.mix := rfl
@[simp] theorem State.modPlayers_delay (s : State) (f : Vector Player 3 → Vector Player 3) : (s.modPlayers f).delay = s.delay := rfl
@[simp] theorem State.modPlayers_line (s : State) (f : Vector Player 3 → Vector Player 3) : (s.modPlayers f).line = s.line := rfl
@[simp] theorem State.modPlayers_clips (s : State) (f : Vector Player 3 → Vector Player 3) : (s.modPlayers f).clips = s.clips := rfl
@[simp] theorem State.modPlayers_players (s : State) (f : Vector Player 3 → Vector Player 3) : (s.modPlayers f).players = f s.players := rfl
@[simp] theorem State.modPlayers_intake (s : State) (f : Vector Player 3 → Vector Player 3) : (s.modPlayers f).intake = s.intake := rfl
@[simp] theorem State.modPlayers_air (s : State) (f : Vector Player 3 → Vector Player 3) : (s.modPlayers f).air = s.air := rfl
@[simp] theorem State.modPlayers_link (s : State) (f : Vector Player 3 → Vector Player 3) : (s.modPlayers f).link = s.link := rfl
@[simp] theorem State.modPlayers_orders (s : State) (f : Vector Player 3 → Vector Player 3) : (s.modPlayers f).orders = s.orders := rfl
@[simp] theorem State.modPlayers_notices (s : State) (f : Vector Player 3 → Vector Player 3) : (s.modPlayers f).notices = s.notices := rfl
@[simp] theorem State.modPlayers_sent (s : State) (f : Vector Player 3 → Vector Player 3) : (s.modPlayers f).sent = s.sent := rfl
@[simp] theorem State.modPlayers_pending (s : State) (f : Vector Player 3 → Vector Player 3) : (s.modPlayers f).pending = s.pending := rfl

@[simp] theorem State.modIntake_frameCount (s : State) (f : AlertIntake → AlertIntake) : (s.modIntake f).frameCount = s.frameCount := rfl
@[simp] theorem State.modIntake_tables (s : State) (f : AlertIntake → AlertIntake) : (s.modIntake f).tables = s.tables := rfl
@[simp] theorem State.modIntake_studio (s : State) (f : AlertIntake → AlertIntake) : (s.modIntake f).studio = s.studio := rfl
@[simp] theorem State.modIntake_mix (s : State) (f : AlertIntake → AlertIntake) : (s.modIntake f).mix = s.mix := rfl
@[simp] theorem State.modIntake_delay (s : State) (f : AlertIntake → AlertIntake) : (s.modIntake f).delay = s.delay := rfl
@[simp] theorem State.modIntake_line (s : State) (f : AlertIntake → AlertIntake) : (s.modIntake f).line = s.line := rfl
@[simp] theorem State.modIntake_clips (s : State) (f : AlertIntake → AlertIntake) : (s.modIntake f).clips = s.clips := rfl
@[simp] theorem State.modIntake_players (s : State) (f : AlertIntake → AlertIntake) : (s.modIntake f).players = s.players := rfl
@[simp] theorem State.modIntake_intake (s : State) (f : AlertIntake → AlertIntake) : (s.modIntake f).intake = f s.intake := rfl
@[simp] theorem State.modIntake_air (s : State) (f : AlertIntake → AlertIntake) : (s.modIntake f).air = s.air := rfl
@[simp] theorem State.modIntake_link (s : State) (f : AlertIntake → AlertIntake) : (s.modIntake f).link = s.link := rfl
@[simp] theorem State.modIntake_orders (s : State) (f : AlertIntake → AlertIntake) : (s.modIntake f).orders = s.orders := rfl
@[simp] theorem State.modIntake_notices (s : State) (f : AlertIntake → AlertIntake) : (s.modIntake f).notices = s.notices := rfl
@[simp] theorem State.modIntake_sent (s : State) (f : AlertIntake → AlertIntake) : (s.modIntake f).sent = s.sent := rfl
@[simp] theorem State.modIntake_pending (s : State) (f : AlertIntake → AlertIntake) : (s.modIntake f).pending = s.pending := rfl

@[simp] theorem State.modAir_frameCount (s : State) (f : AirStage → AirStage) : (s.modAir f).frameCount = s.frameCount := rfl
@[simp] theorem State.modAir_tables (s : State) (f : AirStage → AirStage) : (s.modAir f).tables = s.tables := rfl
@[simp] theorem State.modAir_studio (s : State) (f : AirStage → AirStage) : (s.modAir f).studio = s.studio := rfl
@[simp] theorem State.modAir_mix (s : State) (f : AirStage → AirStage) : (s.modAir f).mix = s.mix := rfl
@[simp] theorem State.modAir_delay (s : State) (f : AirStage → AirStage) : (s.modAir f).delay = s.delay := rfl
@[simp] theorem State.modAir_line (s : State) (f : AirStage → AirStage) : (s.modAir f).line = s.line := rfl
@[simp] theorem State.modAir_clips (s : State) (f : AirStage → AirStage) : (s.modAir f).clips = s.clips := rfl
@[simp] theorem State.modAir_players (s : State) (f : AirStage → AirStage) : (s.modAir f).players = s.players := rfl
@[simp] theorem State.modAir_intake (s : State) (f : AirStage → AirStage) : (s.modAir f).intake = s.intake := rfl
@[simp] theorem State.modAir_air (s : State) (f : AirStage → AirStage) : (s.modAir f).air = f s.air := rfl
@[simp] theorem State.modAir_link (s : State) (f : AirStage → AirStage) : (s.modAir f).link = s.link := rfl
@[simp] theorem State.modAir_orders (s : State) (f : AirStage → AirStage) : (s.modAir f).orders = s.orders := rfl
@[simp] theorem State.modAir_notices (s : State) (f : AirStage → AirStage) : (s.modAir f).notices = s.notices := rfl
@[simp] theorem State.modAir_sent (s : State) (f : AirStage → AirStage) : (s.modAir f).sent = s.sent := rfl
@[simp] theorem State.modAir_pending (s : State) (f : AirStage → AirStage) : (s.modAir f).pending = s.pending := rfl

@[simp] theorem State.modLink_frameCount (s : State) (f : LinkUnit → LinkUnit) : (s.modLink f).frameCount = s.frameCount := rfl
@[simp] theorem State.modLink_tables (s : State) (f : LinkUnit → LinkUnit) : (s.modLink f).tables = s.tables := rfl
@[simp] theorem State.modLink_studio (s : State) (f : LinkUnit → LinkUnit) : (s.modLink f).studio = s.studio := rfl
@[simp] theorem State.modLink_mix (s : State) (f : LinkUnit → LinkUnit) : (s.modLink f).mix = s.mix := rfl
@[simp] theorem State.modLink_delay (s : State) (f : LinkUnit → LinkUnit) : (s.modLink f).delay = s.delay := rfl
@[simp] theorem State.modLink_line (s : State) (f : LinkUnit → LinkUnit) : (s.modLink f).line = s.line := rfl
@[simp] theorem State.modLink_clips (s : State) (f : LinkUnit → LinkUnit) : (s.modLink f).clips = s.clips := rfl
@[simp] theorem State.modLink_players (s : State) (f : LinkUnit → LinkUnit) : (s.modLink f).players = s.players := rfl
@[simp] theorem State.modLink_intake (s : State) (f : LinkUnit → LinkUnit) : (s.modLink f).intake = s.intake := rfl
@[simp] theorem State.modLink_air (s : State) (f : LinkUnit → LinkUnit) : (s.modLink f).air = s.air := rfl
@[simp] theorem State.modLink_link (s : State) (f : LinkUnit → LinkUnit) : (s.modLink f).link = f s.link := rfl
@[simp] theorem State.modLink_orders (s : State) (f : LinkUnit → LinkUnit) : (s.modLink f).orders = s.orders := rfl
@[simp] theorem State.modLink_notices (s : State) (f : LinkUnit → LinkUnit) : (s.modLink f).notices = s.notices := rfl
@[simp] theorem State.modLink_sent (s : State) (f : LinkUnit → LinkUnit) : (s.modLink f).sent = s.sent := rfl
@[simp] theorem State.modLink_pending (s : State) (f : LinkUnit → LinkUnit) : (s.modLink f).pending = s.pending := rfl

@[simp] theorem State.modOrders_frameCount (s : State) (f : OrderUnit → OrderUnit) : (s.modOrders f).frameCount = s.frameCount := rfl
@[simp] theorem State.modOrders_tables (s : State) (f : OrderUnit → OrderUnit) : (s.modOrders f).tables = s.tables := rfl
@[simp] theorem State.modOrders_studio (s : State) (f : OrderUnit → OrderUnit) : (s.modOrders f).studio = s.studio := rfl
@[simp] theorem State.modOrders_mix (s : State) (f : OrderUnit → OrderUnit) : (s.modOrders f).mix = s.mix := rfl
@[simp] theorem State.modOrders_delay (s : State) (f : OrderUnit → OrderUnit) : (s.modOrders f).delay = s.delay := rfl
@[simp] theorem State.modOrders_line (s : State) (f : OrderUnit → OrderUnit) : (s.modOrders f).line = s.line := rfl
@[simp] theorem State.modOrders_clips (s : State) (f : OrderUnit → OrderUnit) : (s.modOrders f).clips = s.clips := rfl
@[simp] theorem State.modOrders_players (s : State) (f : OrderUnit → OrderUnit) : (s.modOrders f).players = s.players := rfl
@[simp] theorem State.modOrders_intake (s : State) (f : OrderUnit → OrderUnit) : (s.modOrders f).intake = s.intake := rfl
@[simp] theorem State.modOrders_air (s : State) (f : OrderUnit → OrderUnit) : (s.modOrders f).air = s.air := rfl
@[simp] theorem State.modOrders_link (s : State) (f : OrderUnit → OrderUnit) : (s.modOrders f).link = s.link := rfl
@[simp] theorem State.modOrders_orders (s : State) (f : OrderUnit → OrderUnit) : (s.modOrders f).orders = f s.orders := rfl
@[simp] theorem State.modOrders_notices (s : State) (f : OrderUnit → OrderUnit) : (s.modOrders f).notices = s.notices := rfl
@[simp] theorem State.modOrders_sent (s : State) (f : OrderUnit → OrderUnit) : (s.modOrders f).sent = s.sent := rfl
@[simp] theorem State.modOrders_pending (s : State) (f : OrderUnit → OrderUnit) : (s.modOrders f).pending = s.pending := rfl

@[simp] theorem State.modNotices_frameCount (s : State) (f : NoticeUnit → NoticeUnit) : (s.modNotices f).frameCount = s.frameCount := rfl
@[simp] theorem State.modNotices_tables (s : State) (f : NoticeUnit → NoticeUnit) : (s.modNotices f).tables = s.tables := rfl
@[simp] theorem State.modNotices_studio (s : State) (f : NoticeUnit → NoticeUnit) : (s.modNotices f).studio = s.studio := rfl
@[simp] theorem State.modNotices_mix (s : State) (f : NoticeUnit → NoticeUnit) : (s.modNotices f).mix = s.mix := rfl
@[simp] theorem State.modNotices_delay (s : State) (f : NoticeUnit → NoticeUnit) : (s.modNotices f).delay = s.delay := rfl
@[simp] theorem State.modNotices_line (s : State) (f : NoticeUnit → NoticeUnit) : (s.modNotices f).line = s.line := rfl
@[simp] theorem State.modNotices_clips (s : State) (f : NoticeUnit → NoticeUnit) : (s.modNotices f).clips = s.clips := rfl
@[simp] theorem State.modNotices_players (s : State) (f : NoticeUnit → NoticeUnit) : (s.modNotices f).players = s.players := rfl
@[simp] theorem State.modNotices_intake (s : State) (f : NoticeUnit → NoticeUnit) : (s.modNotices f).intake = s.intake := rfl
@[simp] theorem State.modNotices_air (s : State) (f : NoticeUnit → NoticeUnit) : (s.modNotices f).air = s.air := rfl
@[simp] theorem State.modNotices_link (s : State) (f : NoticeUnit → NoticeUnit) : (s.modNotices f).link = s.link := rfl
@[simp] theorem State.modNotices_orders (s : State) (f : NoticeUnit → NoticeUnit) : (s.modNotices f).orders = s.orders := rfl
@[simp] theorem State.modNotices_notices (s : State) (f : NoticeUnit → NoticeUnit) : (s.modNotices f).notices = f s.notices := rfl
@[simp] theorem State.modNotices_sent (s : State) (f : NoticeUnit → NoticeUnit) : (s.modNotices f).sent = s.sent := rfl
@[simp] theorem State.modNotices_pending (s : State) (f : NoticeUnit → NoticeUnit) : (s.modNotices f).pending = s.pending := rfl

@[simp] theorem State.modSent_frameCount (s : State) (f : Sent → Sent) : (s.modSent f).frameCount = s.frameCount := rfl
@[simp] theorem State.modSent_tables (s : State) (f : Sent → Sent) : (s.modSent f).tables = s.tables := rfl
@[simp] theorem State.modSent_studio (s : State) (f : Sent → Sent) : (s.modSent f).studio = s.studio := rfl
@[simp] theorem State.modSent_mix (s : State) (f : Sent → Sent) : (s.modSent f).mix = s.mix := rfl
@[simp] theorem State.modSent_delay (s : State) (f : Sent → Sent) : (s.modSent f).delay = s.delay := rfl
@[simp] theorem State.modSent_line (s : State) (f : Sent → Sent) : (s.modSent f).line = s.line := rfl
@[simp] theorem State.modSent_clips (s : State) (f : Sent → Sent) : (s.modSent f).clips = s.clips := rfl
@[simp] theorem State.modSent_players (s : State) (f : Sent → Sent) : (s.modSent f).players = s.players := rfl
@[simp] theorem State.modSent_intake (s : State) (f : Sent → Sent) : (s.modSent f).intake = s.intake := rfl
@[simp] theorem State.modSent_air (s : State) (f : Sent → Sent) : (s.modSent f).air = s.air := rfl
@[simp] theorem State.modSent_link (s : State) (f : Sent → Sent) : (s.modSent f).link = s.link := rfl
@[simp] theorem State.modSent_orders (s : State) (f : Sent → Sent) : (s.modSent f).orders = s.orders := rfl
@[simp] theorem State.modSent_notices (s : State) (f : Sent → Sent) : (s.modSent f).notices = s.notices := rfl
@[simp] theorem State.modSent_sent (s : State) (f : Sent → Sent) : (s.modSent f).sent = f s.sent := rfl
@[simp] theorem State.modSent_pending (s : State) (f : Sent → Sent) : (s.modSent f).pending = s.pending := rfl

@[simp] theorem State.modPending_frameCount (s : State) (f : List Instr → List Instr) : (s.modPending f).frameCount = s.frameCount := rfl
@[simp] theorem State.modPending_tables (s : State) (f : List Instr → List Instr) : (s.modPending f).tables = s.tables := rfl
@[simp] theorem State.modPending_studio (s : State) (f : List Instr → List Instr) : (s.modPending f).studio = s.studio := rfl
@[simp] theorem State.modPending_mix (s : State) (f : List Instr → List Instr) : (s.modPending f).mix = s.mix := rfl
@[simp] theorem State.modPending_delay (s : State) (f : List Instr → List Instr) : (s.modPending f).delay = s.delay := rfl
@[simp] theorem State.modPending_line (s : State) (f : List Instr → List Instr) : (s.modPending f).line = s.line := rfl
@[simp] theorem State.modPending_clips (s : State) (f : List Instr → List Instr) : (s.modPending f).clips = s.clips := rfl
@[simp] theorem State.modPending_players (s : State) (f : List Instr → List Instr) : (s.modPending f).players = s.players := rfl
@[simp] theorem State.modPending_intake (s : State) (f : List Instr → List Instr) : (s.modPending f).intake = s.intake := rfl
@[simp] theorem State.modPending_air (s : State) (f : List Instr → List Instr) : (s.modPending f).air = s.air := rfl
@[simp] theorem State.modPending_link (s : State) (f : List Instr → List Instr) : (s.modPending f).link = s.link := rfl
@[simp] theorem State.modPending_orders (s : State) (f : List Instr → List Instr) : (s.modPending f).orders = s.orders := rfl
@[simp] theorem State.modPending_notices (s : State) (f : List Instr → List Instr) : (s.modPending f).notices = s.notices := rfl
@[simp] theorem State.modPending_sent (s : State) (f : List Instr → List Instr) : (s.modPending f).sent = s.sent := rfl
@[simp] theorem State.modPending_pending (s : State) (f : List Instr → List Instr) : (s.modPending f).pending = f s.pending := rfl

end Sys2Proof.Machine
end

