-- ==== Sys2Proof/Laws/Notices.lean ====
section
/-!
SUPPORT. What latching a notice and sending a frame do, and what they leave alone.
-/

namespace Sys2Proof.Machine

/-- Reading a vector with one place set. -/
theorem get_set {α : Type} {n : Nat} (v : Vector α n) (i : Nat) (h : i < n) (x : α) (j : Fin n) :
    (v.set i x h).get j = if i = j.val then x else v.get j := by
  simp [Vector.get_eq_getElem, Vector.getElem_set]

/-- A latch changes the notice unit and what was sent, and nothing else. -/
theorem latch_frame (kind : NoticeKind) (detail : List Word) (s : State) :
    latch kind detail s =
      { s with notices := (latch kind detail s).notices, sent := (latch kind detail s).sent } := by
  cases h : s.notices.latches.get kind.index with
  | some d => simp only [latch, h]
  | none => simp only [latch, h]; split <;> rfl

/-- A kind that is latched already stays as it is. -/
theorem latch_of_some {kind : NoticeKind} {d : List Word} {s : State} (detail : List Word)
    (h : s.notices.latches.get kind.index = some d) : latch kind detail s = s := by
  simp [latch, h]

/-- The latches after a latch: the kind's own holds its detail, the old one where it had one; the others stand. -/
theorem latch_get (kind : NoticeKind) (detail : List Word) (s : State) (k : Fin 25) :
    (latch kind detail s).notices.latches.get k =
      if k = kind.index then some ((s.notices.latches.get k).getD detail) else s.notices.latches.get k := by
  cases h : s.notices.latches.get kind.index with
  | some d =>
    rw [latch_of_some detail h]
    split
    · simp_all
    · rfl
  | none =>
    have : (latch kind detail s).notices.latches = s.notices.latches.set kind.index.val (some detail) := by
      simp only [latch, h]; split <;> rfl
    rw [this, get_set]
    by_cases hk : k = kind.index
    · subst hk; simp [h]
    · have : ¬ kind.index.val = k.val := fun e => hk (Fin.ext e.symm)
      simp [hk, this]

/-- A latch sends at most one frame, on the studio port. -/
theorem latch_sent (kind : NoticeKind) (detail : List Word) (s : State) :
    ∃ frames, (latch kind detail s).sent = { s.sent with studio := s.sent.studio ++ frames } := by
  cases h : s.notices.latches.get kind.index with
  | some d => exact ⟨[], by simp [latch, h]⟩
  | none =>
    simp only [latch, h]
    split
    · exact ⟨_, rfl⟩
    · exact ⟨[], by simp [State.modNotices]⟩

@[simp] theorem latch_frameCount (kind : NoticeKind) (detail : List Word) (s : State) : (latch kind detail s).frameCount = s.frameCount := by
  rw [latch_frame]
@[simp] theorem latch_tables (kind : NoticeKind) (detail : List Word) (s : State) : (latch kind detail s).tables = s.tables := by
  rw [latch_frame]
@[simp] theorem latch_studio (kind : NoticeKind) (detail : List Word) (s : State) : (latch kind detail s).studio = s.studio := by
  rw [latch_frame]
@[simp] theorem latch_mix (kind : NoticeKind) (detail : List Word) (s : State) : (latch kind detail s).mix = s.mix := by
  rw [latch_frame]
@[simp] theorem latch_delay (kind : NoticeKind) (detail : List Word) (s : State) : (latch kind detail s).delay = s.delay := by
  rw [latch_frame]
@[simp] theorem latch_line (kind : NoticeKind) (detail : List Word) (s : State) : (latch kind detail s).line = s.line := by
  rw [latch_frame]
@[simp] theorem latch_clips (kind : NoticeKind) (detail : List Word) (s : State) : (latch kind detail s).clips = s.clips := by
  rw [latch_frame]
@[simp] theorem latch_players (kind : NoticeKind) (detail : List Word) (s : State) : (latch kind detail s).players = s.players := by
  rw [latch_frame]
@[simp] theorem latch_intake (kind : NoticeKind) (detail : List Word) (s : State) : (latch kind detail s).intake = s.intake := by
  rw [latch_frame]
@[simp] theorem latch_air (kind : NoticeKind) (detail : List Word) (s : State) : (latch kind detail s).air = s.air := by
  rw [latch_frame]
@[simp] theorem latch_link (kind : NoticeKind) (detail : List Word) (s : State) : (latch kind detail s).link = s.link := by
  rw [latch_frame]
@[simp] theorem latch_orders (kind : NoticeKind) (detail : List Word) (s : State) : (latch kind detail s).orders = s.orders := by
  rw [latch_frame]
@[simp] theorem latch_pending (kind : NoticeKind) (detail : List Word) (s : State) : (latch kind detail s).pending = s.pending := by
  rw [latch_frame]

@[simp] theorem latch_conf (kind : NoticeKind) (detail : List Word) (s : State) :
    (latch kind detail s).notices.conf = s.notices.conf := by
  cases h : s.notices.latches.get kind.index with
  | some d => simp only [latch, h]
  | none => simp only [latch, h]; split <;> rfl

end Sys2Proof.Machine
end

