-- ==== Sys2Proof/Laws/Clips.lean ====
section
/-!
SUPPORT. What the shared operations of the clip store do: a slot changed, pages returned, the fill record replaced, holds
taken and given up, blocks written, the victim of an eviction (R89 to R97, R105 to R107).
-/

namespace Sys2Proof.Machine

/-- A slot of the store after slot `n` has been changed. -/
@[simp] theorem ClipStore.modSlot_get (c : ClipStore) (n m : Fin 32) (f : Slot → Slot) :
    (c.modSlot n f).slots.get m = if m = n then f (c.slots.get m) else c.slots.get m := by
  simp only [ClipStore.modSlot, get_set]
  by_cases h : m = n
  · simp [h]
  · have : ¬ n.val = m.val := fun e => h (Fin.ext e.symm)
    simp [h, this]

@[simp] theorem ClipStore.modSlot_region (c : ClipStore) (n : Fin 32) (f : Slot → Slot) : (c.modSlot n f).region = c.region := rfl
@[simp] theorem ClipStore.modSlot_free (c : ClipStore) (n : Fin 32) (f : Slot → Slot) : (c.modSlot n f).free = c.free := rfl
@[simp] theorem ClipStore.modSlot_holds (c : ClipStore) (n : Fin 32) (f : Slot → Slot) : (c.modSlot n f).holds = c.holds := rfl
@[simp] theorem ClipStore.modSlot_fill (c : ClipStore) (n : Fin 32) (f : Slot → Slot) : (c.modSlot n f).fill = c.fill := rfl
@[simp] theorem ClipStore.modSlot_channelHeld (c : ClipStore) (n : Fin 32) (f : Slot → Slot) :
    (c.modSlot n f).channelHeld = c.channelHeld := rfl
@[simp] theorem ClipStore.modSlot_counters (c : ClipStore) (n : Fin 32) (f : Slot → Slot) :
    (c.modSlot n f).counters = c.counters := rfl

/-- Emptying a slot returns its chain to the list and clears its record; nothing else of the store changes (R91). -/
theorem ClipStore.emptySlot_eq (c : ClipStore) (n : Fin 32) :
    c.emptySlot n =
      { c with
        free := c.free ++ (c.slots.get n).chain
        slots := c.slots.set n { c.slots.get n with state := .empty, length := 0, chain := [], useCount := 0 } } := rfl

/-- Replacing the fill record returns the page of an open burst, and changes nothing else (R97, R101, R103). -/
theorem ClipStore.replaceFill_eq (c : ClipStore) (next : FillRecord) :
    c.replaceFill next =
      { c with
        free := c.free ++ (match c.fill with
          | .opened b => [b.page]
          | _ => [])
        fill := next } := by
  cases h : c.fill <;> simp [ClipStore.replaceFill, h, ClipStore.returnPages]

/-- Giving up a hold changes the slots' use counts and the reader's record, and nothing else. -/
theorem ClipStore.release_frame (c : ClipStore) (r : Reader) :
    c.release r = { c with slots := (c.release r).slots, holds := c.holds.set r none } := by
  simp only [ClipStore.release]; split
  · rename_i h
    have : c.holds.set r.val none = c.holds := by
      refine Vector.ext fun i hi => ?_
      rw [Vector.getElem_set]
      split
      · subst_vars; exact h.symm
      · rfl
    rw [this]
  · rfl

/-- The slots once a reader has given up its hold: the use count of the slot it held falls by 1. -/
theorem ClipStore.release_get (c : ClipStore) (r : Reader) (n : Fin 32) :
    (c.release r).slots.get n =
      if c.holds.get r = some n then { c.slots.get n with useCount := (c.slots.get n).useCount - 1 }
      else c.slots.get n := by
  simp only [ClipStore.release]; split
  · rename_i h; simp [h]
  · rename_i m h
    simp only [ClipStore.modSlot_get, h, Option.some.injEq]
    by_cases hn : n = m
    · simp [hn]
    · simp [hn, Ne.symm hn]

/-- The holds once a reader has given up its own. -/
theorem ClipStore.release_holds (c : ClipStore) (r q : Reader) :
    (c.release r).holds.get q = if q = r then none else c.holds.get q := by
  rw [ClipStore.release_frame, get_set]
  by_cases h : q = r
  · simp [h]
  · have : ¬ r.val = q.val := fun e => h (Fin.ext e.symm)
    simp [h, this]

/-- Taking a hold changes the slots' use counts and the reader's record, and nothing else. -/
theorem ClipStore.hold_frame (c : ClipStore) (r : Reader) (n : Fin 32) :
    c.hold r n = { c with slots := (c.hold r n).slots, holds := (c.hold r n).holds } := by
  simp only [ClipStore.hold]; split
  · rfl
  · rw [ClipStore.release_frame]; rfl

/-- The holds once a reader has taken one: its own names the slot, the others stand. -/
theorem ClipStore.hold_holds (c : ClipStore) (r q : Reader) (n : Fin 32) :
    (c.hold r n).holds.get q = if q = r then some n else c.holds.get q := by
  simp only [ClipStore.hold]; split
  · rename_i h
    by_cases hq : q = r
    · simp [hq, h]
    · simp [hq]
  · simp only [get_set, ClipStore.release_holds]
    by_cases h : q = r
    · simp [h]
    · have : ¬ r.val = q.val := fun e => h (Fin.ext e.symm)
      simp [h, this]

/-- The slots once a reader has taken a hold on slot `n`: a new hold adds 1 to its use count, and the slot held before
loses 1. -/
theorem ClipStore.hold_get (c : ClipStore) (r : Reader) (n m : Fin 32) :
    (c.hold r n).slots.get m =
      if c.holds.get r = some n then c.slots.get m
      else if m = n then { c.slots.get m with useCount := (c.slots.get m).useCount + 1 }
      else if c.holds.get r = some m then { c.slots.get m with useCount := (c.slots.get m).useCount - 1 }
      else c.slots.get m := by
  simp only [ClipStore.hold]; split
  · rfl
  · rename_i h
    simp only [ClipStore.modSlot_get, ClipStore.release_get]
    by_cases hm : m = n
    · subst hm; simp [h]
    · simp [hm]

/-- A block of the clip region after another has been written. -/
theorem ClipStore.writeBlock_read (c : ClipStore) (block b : Nat) (f : StereoFrame) :
    Memory.read StereoFrame.silence (c.writeBlock block f).region b =
      if b = block then f else Memory.read StereoFrame.silence c.region b :=
  Memory.read_write ..

/-- The end of a recording, as an equation (R105). -/
theorem ClipStore.endRecording_eq (c : ClipStore) (n : Fin 32) :
    c.endRecording n =
      { c with slots := c.slots.set n { c.slots.get n with state := .alertHeld }, channelHeld := false } := rfl

/-- The erase of a slot that is neither RECORDING nor ALERT_HELD does nothing (R107). -/
theorem ClipStore.eraseAlert_other (c : ClipStore) (n : Fin 32) (h : (c.slots.get n).state.alert = false) :
    c.eraseAlert n = c := by
  revert h
  cases hs : (c.slots.get n).state <;> simp [ClipStore.eraseAlert, hs, SlotState.alert]

/-- The erase of an alert slot empties it and drops its holds; of a RECORDING slot it also frees the channel (R107). -/
theorem ClipStore.eraseAlert_eq (c : ClipStore) (n : Fin 32) (h : (c.slots.get n).state.alert = true) :
    c.eraseAlert n =
      { (c.dropHolds n).emptySlot n with
        channelHeld := if (c.slots.get n).state = .recording then false else c.channelHeld } := by
  revert h
  cases hs : (c.slots.get n).state <;> simp [ClipStore.eraseAlert, hs, SlotState.alert]; rfl

/-- The victim of an eviction is a candidate than which none is older, the lowest among equals; and there is one where there
is any candidate (R106). -/
theorem ClipStore.victim_cases (c : ClipStore) (now : BitVec 32) :
    match c.victim now with
    | none => ∀ m, c.candidate m = false
    | some n => c.candidate n = true ∧ ∀ m, c.candidate m = true →
        stampAge now (c.slots.get m).stamp < stampAge now (c.slots.get n).stamp ∨
          (stampAge now (c.slots.get m).stamp = stampAge now (c.slots.get n).stamp ∧ n ≤ m) := by
  let age (m : Fin 32) : Nat := stampAge now (c.slots.get m).stamp
  let best (seen : List (Fin 32)) : Option (Fin 32) → Prop
    | none => ∀ m ∈ seen, c.candidate m = false
    | some n => n ∈ seen ∧ c.candidate n = true ∧
        ∀ m ∈ seen, c.candidate m = true → age m < age n ∨ (age m = age n ∧ n ≤ m)
  have key : ∀ (l seen : List (Fin 32)) (b : Option (Fin 32)), (seen ++ l).Pairwise (· < ·) → best seen b →
      best (seen ++ l) (l.foldl (fun best n => if c.candidate n then
        match best with
        | none => some n
        | some m => if age m < age n then some n else some m
        else best) b) := by
    intro l
    induction l with
    | nil => intro seen b _ hb; simpa using hb
    | cons x l ih =>
      intro seen b hp hb
      rw [List.append_cons] at hp ⊢
      refine ih _ _ hp ?_
      have below : ∀ m ∈ seen, m < x := fun m hm =>
        (List.pairwise_append.mp (List.pairwise_append.mp hp).1).2.2 m hm x (List.mem_singleton_self x)
      by_cases hx : c.candidate x = true
      · cases b with
        | none =>
          simp only [best, hx, if_true] at hb ⊢
          refine ⟨by simp, trivial, fun m hm h => ?_⟩
          rcases List.mem_append.mp hm with hm | hm
          · simp [hb m hm] at h
          · right; simp [List.mem_singleton.mp hm]
        | some n =>
          obtain ⟨hn, hc, ho⟩ := hb
          by_cases ha : age n < age x
          · simp only [best, hx, ha, if_true]
            refine ⟨by simp, trivial, fun m hm h => ?_⟩
            rcases List.mem_append.mp hm with hm | hm
            · rcases ho m hm h with h | h <;> left <;> omega
            · right; simp [List.mem_singleton.mp hm]
          · simp only [best, hx, ha, if_true, if_false]
            refine ⟨by simp [hn], hc, fun m hm h => ?_⟩
            rcases List.mem_append.mp hm with hm | hm
            · exact ho m hm h
            · rw [List.mem_singleton.mp hm]; have := below n hn; omega
      · simp only [Bool.not_eq_true] at hx
        cases b with
        | none =>
          simp only [best, hx] at hb ⊢
          intro m hm
          rcases List.mem_append.mp hm with hm | hm
          · exact hb m hm
          · rw [List.mem_singleton.mp hm, hx]
        | some n =>
          obtain ⟨hn, hc, ho⟩ := hb
          simp only [best, hx]
          refine ⟨by simp [hn], hc, fun m hm h => ?_⟩
          rcases List.mem_append.mp hm with hm | hm
          · exact ho m hm h
          · simp [List.mem_singleton.mp hm, hx] at h
  have all := key (List.finRange 32) [] none (by simpa using List.pairwise_lt_finRange 32) (by simp [best])
  simp only [List.nil_append] at all
  change best (List.finRange 32) (c.victim now) at all
  cases h : c.victim now with
  | none => rw [h] at all; exact fun m => all m (List.mem_finRange m)
  | some n => rw [h] at all; exact ⟨all.2.1, fun m => all.2.2 m (List.mem_finRange m)⟩

end Sys2Proof.Machine
end

