-- ==== Sys2Proof/Laws/AlertQueue.lean ====
section
/-!
SUPPORT. What a record leaving the alert queue, and a change of one record, do to the queue (R129, R136, R138).
-/

namespace Sys2Proof.Machine

/-- A record leaving the queue changes the clip store, alert intake and the air stage's wait set, and nothing else. -/
theorem removeRecord_frame (i : Identity) (s : State) :
    removeRecord i s =
      { s with
        clips := (removeRecord i s).clips, intake := (removeRecord i s).intake
        air := { s.air with waitSet := s.air.waitSet.filter fun j => j ≠ i } } := by
  simp only [removeRecord]; split <;> rfl

/-- Alert intake after a record has left. -/
theorem removeRecord_intake (i : Identity) (s : State) :
    (removeRecord i s).intake =
      { s.intake with
        queue := s.intake.queue.filter fun r => r.identity ≠ i
        recording := if s.intake.recording.identity = some i then Recording.idle else s.intake.recording } := by
  simp only [removeRecord]; split <;> rfl

/-- The clip store after a record has left: the slot it named is erased. -/
theorem removeRecord_clips (i : Identity) (s : State) :
    (removeRecord i s).clips =
      match (s.intake.find i).bind AlertRecord.slot with
      | some n => s.clips.eraseAlert n
      | none => s.clips := by
  cases h : (s.intake.find i).bind AlertRecord.slot <;> simp [removeRecord, h]

/-- The identities after a record has left. -/
theorem removeRecord_identities (i : Identity) (s : State) :
    (removeRecord i s).intake.identities = s.intake.identities.filter (· ≠ i) := by
  simp [AlertIntake.identities, removeRecord_intake, List.filter_map, Function.comp_def]

/-- A change of one record that keeps its identity keeps the identities of the queue. -/
theorem AlertIntake.modRecord_identities (a : AlertIntake) (i : Identity) (f : AlertRecord → AlertRecord)
    (h : ∀ r, (f r).identity = r.identity) : (a.modRecord i f).identities = a.identities := by
  simp only [AlertIntake.identities, AlertIntake.modRecord, List.map_map]
  refine List.map_congr_left fun r _ => ?_
  by_cases hr : r.identity = i <;> simp [hr, h]

/-- A word other than the first does not belong to the identity. -/
theorem AlertRecord.modWord_identity (r : AlertRecord) (k : Nat) (f : StoreWord → StoreWord) (h : 2 ≤ k) :
    (r.modWord k f).identity = r.identity := by
  have : ¬ k - 1 = 0 := by omega
  simp [AlertRecord.identity, AlertRecord.word, AlertRecord.modWord, List.getD_eq_getElem?_getD, this]

@[simp] theorem AlertRecord.setFlag_identity (r : AlertRecord) (bit : Nat) : (r.setFlag bit).identity = r.identity :=
  r.modWord_identity 5 _ (by omega)

@[simp] theorem AlertRecord.countDown_identity (r : AlertRecord) : r.countDown.identity = r.identity :=
  r.modWord_identity 4 _ (by omega)

@[simp] theorem AlertRecord.modWord_length (r : AlertRecord) (k : Nat) (f : StoreWord → StoreWord) :
    (r.modWord k f).words.length = r.words.length := by
  simp [AlertRecord.modWord]

@[simp] theorem AlertRecord.holdAge_identity (r : AlertRecord) (now : BitVec 32) :
    (r.holdAge now).identity = r.identity := rfl
@[simp] theorem AlertRecord.holdAge_words (r : AlertRecord) (now : BitVec 32) : (r.holdAge now).words = r.words := rfl
@[simp] theorem AlertRecord.holdAge_torn (r : AlertRecord) (now : BitVec 32) : (r.holdAge now).torn = r.torn := rfl
@[simp] theorem AlertRecord.holdAge_onAir (r : AlertRecord) (now : BitVec 32) : (r.holdAge now).onAir = r.onAir := rfl
@[simp] theorem AlertRecord.holdAge_stamp (r : AlertRecord) (now : BitVec 32) : (r.holdAge now).stamp = r.stamp := rfl
@[simp] theorem AlertRecord.holdAge_remaining (r : AlertRecord) (now : BitVec 32) :
    (r.holdAge now).remaining = r.remaining := rfl

/-- A record's age after a frame period: held once it has reached its end, the frames since the stamp before (R138). -/
theorem AlertRecord.holdAge_age (r : AlertRecord) (now : BitVec 32) : (r.holdAge now).age now = r.age now := by
  by_cases h : frameAge now r.stamp = Config.timerMax <;> cases hr : r.ageHeld <;>
    simp [AlertRecord.age, AlertRecord.holdAge, h, hr]

end Sys2Proof.Machine
end

