-- ==== Sys2Proof/Laws/Link.lean ====
section
/-!
SUPPORT. What the shared operations of the link unit do: a fault, a message, the level, the entry to RUN, the starts of a
sleep and of a wake (R172, R173, R177, R180, R187, R190, R191).
-/

namespace Sys2Proof.Machine

/-- A latch and a change of the link unit do not meet, so either may be taken first. -/
theorem latch_modLink (kind : NoticeKind) (detail : List Word) (s : State) (f : LinkUnit → LinkUnit) :
    (latch kind detail s).modLink f = latch kind detail (s.modLink f) := by
  cases h : s.notices.latches.get kind.index with
  | some d => simp [latch, h, State.modLink]
  | none =>
    by_cases hc : (s.notices.conf.get kind.index).enable = true
    · simp [latch, h, hc, State.modLink, State.modNotices, sendStudio, State.modSent]; exact ⟨rfl, rfl⟩
    · simp [latch, h, hc, State.modLink, State.modNotices]; rfl

/-- A fault changes the fault capture and faults since read, and nothing else. -/
theorem takeFault_eq (kind : FaultKind) (reference : Nat) (s : State) :
    takeFault kind reference s =
      { s with link := { s.link with
        faultsSince := bump s.link.faultsSince 1
        capture := some (s.link.capture.getD ⟨kind, reference, s.link.mode, s.link.sfc, s.link.rfc⟩) } } := rfl

/-- A message passed to a queue with room joins its tail under the next number. -/
theorem queueMessage_room (kind : MessageKind) (body : List Byte) (s : State) (h : s.link.queue.length < 8) :
    queueMessage kind body s =
      ({ s with link := { s.link with
        queue := s.link.queue ++ [⟨s.link.nextNumber, kind, body⟩], nextNumber := s.link.nextNumber + 1 } },
        some s.link.nextNumber) := by
  have : ¬ 8 ≤ s.link.queue.length := by omega
  simp [queueMessage, Config.messageQueueSize, this, State.modLink]

/-- A message passed to a full queue is dropped: counted, taken as a fault, and latched in LINK_MESSAGE_LOST. -/
theorem queueMessage_full (kind : MessageKind) (body : List Byte) (s : State) (h : 8 ≤ s.link.queue.length) :
    queueMessage kind body s =
      (latch .linkMessageLost [Word.nat kind.code, Word.nat 255, Word.nat 0]
        { s with link := { s.link with
          counters := { s.link.counters with messageLost := bump s.link.counters.messageLost 1 }
          faultsSince := bump s.link.faultsSince 1
          capture := some (s.link.capture.getD ⟨.messageLost, 255, s.link.mode, s.link.sfc, s.link.rfc⟩) } },
        none) := by
  simp [queueMessage, Config.messageQueueSize, h, takeFault, State.modLink]

/-- Passing a message changes the link unit, the notices and what was sent, and nothing else. -/
theorem queueMessage_frame (kind : MessageKind) (body : List Byte) (s : State) :
    (queueMessage kind body s).1 =
      { s with
        link := (queueMessage kind body s).1.link, notices := (queueMessage kind body s).1.notices
        sent := (queueMessage kind body s).1.sent } := by
  rcases Nat.lt_or_ge s.link.queue.length 8 with h | h
  · rw [queueMessage_room kind body s h]
  · rw [queueMessage_full kind body s h, latch_frame]

/-- The level: within RUN and SLEEP_PENDING it is the one that follows from the counts, elsewhere it stands. -/
theorem workLevel_link (s : State) :
    (workLevel s).link =
      { s.link with
        level := if s.link.mode.audio then some (levelOf s.link.warningLimit s.link.sfc s.link.rfc)
          else s.link.level } := by
  simp only [workLevel]; split
  · rename_i h
    simp only [Bool.and_eq_true, decide_eq_true_eq] at h
    simp [h.1]
  · rename_i h
    simp only [Bool.and_eq_true, decide_eq_true_eq, not_and, ne_eq, Decidable.not_not] at h
    by_cases ha : s.link.mode.audio = true
    · rw [if_pos ha, ← h ha]
    · rw [if_neg ha]

/-- Working the level out changes the link unit, the notices and what was sent, and nothing else. -/
theorem workLevel_frame (s : State) :
    workLevel s =
      { s with link := (workLevel s).link, notices := (workLevel s).notices, sent := (workLevel s).sent } := by
  simp only [workLevel]; split
  · rw [latch_frame]; rfl
  · rfl

/-- Working the level out latches LINK_LEVEL at most. -/
theorem workLevel_get (s : State) (k : Fin 25) (h : k ≠ 18) :
    (workLevel s).notices.latches.get k = s.notices.latches.get k := by
  simp only [workLevel]; split
  · rw [latch_get, if_neg (by simpa [NoticeKind.index] using h)]; rfl
  · rfl

/-- The entry to RUN, as an equation. -/
theorem enterRun_eq (s : State) :
    enterRun s =
      { s with
        link := { s.link with
          mode := .run, gapTimer := 0, level := some (levelOf s.link.warningLimit s.link.sfc s.link.rfc) }
        air := { s.air with waitSet := [] } } := rfl

/-- The start of a wake, as an equation. -/
theorem startWake_eq (s : State) :
    startWake s =
      { s with link := { s.link with
        mode := .waking, wakePhase := .burst, burstNumber := 1, burstIndex := 0
        counters := { s.link.counters with wakesStarted := bump s.link.counters.wakesStarted 1 } } } := rfl

/-- The entry to ASLEEP leaves every block alone but the link unit, the notices and what was sent. -/
theorem enterAsleep_frame (s : State) :
    enterAsleep s =
      { s with link := (enterAsleep s).link, notices := (enterAsleep s).notices, sent := (enterAsleep s).sent } := by
  rw [enterAsleep, latch_frame]; rfl

/-- The end of a negotiation changes the link unit, the air stage's wait set, the notices and what was sent, and nothing
else. -/
theorem endNegotiation_frame (e : Ending) (cause : Nat) (s : State) :
    endNegotiation e cause s =
      { s with
        link := (endNegotiation e cause s).link
        air := { s.air with waitSet := if s.link.mode = .sleepPending then [] else s.air.waitSet }
        notices := (endNegotiation e cause s).notices
        sent := (endNegotiation e cause s).sent } := by
  have hq : ∀ u : State, (queueCancel e u).1 =
      { u with
        link := (queueCancel e u).1.link, notices := (queueCancel e u).1.notices, sent := (queueCancel e u).1.sent } := by
    intro u
    cases e
    · rfl
    · exact queueMessage_frame ..
  simp only [endNegotiation]
  rw [latch_frame]
  split <;> rw [hq] <;> rfl

/-- The entry to CUT changes the link unit, the air stage's wait set, the notices and what was sent, and nothing else.
-/
theorem enterCut_frame (cause : Nat) (s : State) :
    enterCut cause s =
      { s with link := (enterCut cause s).link, notices := (enterCut cause s).notices, sent := (enterCut cause s).sent } := by
  simp only [enterCut]; split
  · rw [endNegotiation_frame, latch_frame]; simp
  · rw [latch_frame]; rfl

/-- A cause of a wake or of an abort changes nothing in RUN, WAKING and CUT. -/
theorem wakeOrAbort_awake (cause : Nat) (s : State) (h : s.link.mode ∈ [LinkMode.run, .waking, .cut]) :
    wakeOrAbort cause s = s := by
  revert h
  cases hm : s.link.mode <;> simp [wakeOrAbort, hm]

@[simp] theorem levelOf_zero (w : Nat) (h : 0 < w) : levelOf w 0 0 = .clear := by
  have : ¬ w ≤ 0 := by omega
  simp [levelOf, this]

end Sys2Proof.Machine
end

