-- ==== Sys2Proof/Laws/Air.lean ====
section
/-!
SUPPORT. What the choice and the commit of an alert do, and what they leave alone (R148 to R152).
-/

namespace Sys2Proof.Machine

/-- A record chosen is one of the queue, and eligible (R148). -/
theorem chosenRecord_mem (s : State) (r : AlertRecord) (h : chosenRecord s = some r) :
    r ∈ s.intake.queue ∧ s.air.eligible r = true := by
  have key : ∀ (rest : List AlertRecord) (best : Option AlertRecord),
      (∀ b, best = some b → b ∈ s.intake.queue ∧ s.air.eligible b = true) →
      (∀ b ∈ rest, b ∈ s.intake.queue) →
      ∀ b, rest.foldl
        (fun best r =>
          if s.air.eligible r then
            match best with
            | none => some r
            | some b => if b.priority < r.priority then some r else some b
          else best) best = some b → b ∈ s.intake.queue ∧ s.air.eligible b = true := by
    intro rest
    induction rest with
    | nil => intro best hb _ b e; exact hb b e
    | cons x rest ih =>
      intro best hb hm b e
      refine ih _ ?_ (fun y hy => hm y (List.mem_cons_of_mem _ hy)) b e
      intro y hy
      have hx := hm x (List.mem_cons_self ..)
      simp only [] at hy
      split at hy
      · rename_i he
        split at hy
        · cases hy; exact ⟨hx, he⟩
        · split at hy
          · cases hy; exact ⟨hx, he⟩
          · cases hy; exact hb _ rfl
      · exact hb y hy
  exact key _ none (by simp) (fun _ hb => hb) r h

/-- The choice of the attention source changes the clip store's holds and the air stage's attention, and nothing else
(R152). -/
theorem chooseAttention_frame (s : State) :
    chooseAttention s =
      { s with
        clips := (chooseAttention s).clips
        air := { s.air with
          attention := (chooseAttention s).air.attention
          attentionFrames := (chooseAttention s).air.attentionFrames } } := by
  simp only [chooseAttention]; split
  · rfl
  · split <;> rfl

/-- The entry to LEAD_IN changes the clip store, the air stage, the link unit, the notices and what was sent, and
nothing else (R152). -/
theorem enterLeadIn_frame (s : State) :
    enterLeadIn s =
      { s with
        clips := (enterLeadIn s).clips, air := (enterLeadIn s).air, link := (enterLeadIn s).link
        notices := (enterLeadIn s).notices, sent := (enterLeadIn s).sent } := by
  simp only [enterLeadIn]; split
  · rw [queueMessage_frame, chooseAttention_frame]; rfl
  · rw [chooseAttention_frame]; rfl

/-- The air state after the entry to LEAD_IN. -/
@[simp] theorem enterLeadIn_state (s : State) : (enterLeadIn s).air.state = .leadIn := by
  simp only [enterLeadIn]; split
  · rw [queueMessage_frame, chooseAttention_frame]; rfl
  · rw [chooseAttention_frame]; rfl

/-- A cause of a wake or of an abort changes the link unit, the air stage's wait set, the notices and what was sent, and
nothing else (R189, R191). -/
theorem wakeOrAbort_frame (cause : Nat) (s : State) :
    wakeOrAbort cause s =
      { s with
        link := (wakeOrAbort cause s).link
        air := { s.air with waitSet := if s.link.mode = .sleepPending then [] else s.air.waitSet }
        notices := (wakeOrAbort cause s).notices
        sent := (wakeOrAbort cause s).sent } := by
  cases h : s.link.mode <;> simp only [wakeOrAbort, h]
  case sleepPending => rw [endNegotiation_frame]; simp [h]
  all_goals rfl

/-- A commit changes the clip store, alert intake's queue, the air stage, the link unit, the notices and what was sent,
and nothing else (R151). -/
theorem commit_frame (i : Identity) (s : State) :
    commit i s =
      { s with
        clips := (commit i s).clips
        intake := s.intake.modRecord i fun r => { r with onAir := true }
        air := (commit i s).air, link := (commit i s).link, notices := (commit i s).notices
        sent := (commit i s).sent } := by
  simp only [commit]; split
  · rw [wakeOrAbort_frame]; rfl
  · rw [wakeOrAbort_frame]; rfl
  all_goals rw [enterLeadIn_frame]; rfl

/-- The selection is run in IDLE and WAIT_BREAK only (R149). -/
theorem select_busy (s : State) (h : s.air.state ∉ [AirState.idle, .waitBreak]) : select s = s := by
  revert h
  cases hs : s.air.state <;> simp [select, hs]

/-- With no eligible record, the selection leaves the air stage IDLE (R149). -/
theorem select_none {s : State} (h : s.air.state ∈ [AirState.idle, .waitBreak]) (hc : chosenRecord s = none) :
    select s = s.modAir fun a => { a with state := .idle, airing := none } := by
  revert h
  cases hs : s.air.state <;> simp [select, hs, hc]

/-- A chosen record that is due is committed, and counted in the deadline counter where it is NEXT_BREAK (R149). -/
theorem select_due {s : State} {r : AlertRecord} (h : s.air.state ∈ [AirState.idle, .waitBreak])
    (hc : chosenRecord s = some r) (hd : recordDue s r = true) :
    select s = commit r.identity (s.modAir fun a =>
      { a with counters := { a.counters with
        deadline := bump a.counters.deadline (if r.airMode = .nextBreak then 1 else 0) } }) := by
  revert h
  cases hs : s.air.state <;> simp [select, hs, hc, hd]

/-- A chosen record that is not due waits for its break (R149). -/
theorem select_waits {s : State} {r : AlertRecord} (h : s.air.state ∈ [AirState.idle, .waitBreak])
    (hc : chosenRecord s = some r) (hd : recordDue s r = false) :
    select s = s.modAir fun a => { a with state := .waitBreak, airing := some r.identity } := by
  revert h
  cases hs : s.air.state <;> simp [select, hs, hc, hd]

/-- The start of an air frame changes nothing at the link check where the stage does not wait for the link (R151). -/
theorem checkLink_busy {s : State} (h : s.air.state ≠ .waitLink) : checkLink s = s := by simp [checkLink, h]

/-- In WAIT_LINK, a link in RUN or CUT brings LEAD_IN (R151). -/
theorem checkLink_enters {s : State} (h : s.air.state = .waitLink) (hm : s.link.mode = .run ∨ s.link.mode = .cut) :
    checkLink s = enterLeadIn s := by simp [checkLink, h, hm]

/-- The selection changes what a commit changes, and nothing else (R149). -/
theorem select_frame (s : State) :
    select s =
      { s with
        clips := (select s).clips, intake := (select s).intake, air := (select s).air, link := (select s).link
        notices := (select s).notices, sent := (select s).sent } := by
  unfold select
  split
  iterate 2
    split
    · rfl
    · split
      · rw [commit_frame]; rfl
      · rfl
  all_goals rfl

/-- A record that leaves the queue, with the selection that follows, changes no other block (R136, R149). -/
theorem recordLeaves_frame (i : Identity) (s : State) :
    recordLeaves i s =
      { s with
        clips := (recordLeaves i s).clips, intake := (recordLeaves i s).intake, air := (recordLeaves i s).air
        link := (recordLeaves i s).link, notices := (recordLeaves i s).notices, sent := (recordLeaves i s).sent } := by
  simp only [recordLeaves]
  rw [select_frame, removeRecord_frame]

end Sys2Proof.Machine
end

