-- ==== Sys2Proof/Laws/Bytes.lean ====
section
/-!
SUPPORT. The byte layouts: lengths, and that a number or a sample read back from its bytes is itself (R207).
-/

namespace Sys2Proof.Machine

@[simp] theorem beBytes_length (n x : Nat) : (beBytes n x).length = n := by
  induction n generalizing x with
  | zero => rfl
  | succ n ih => simp [beBytes, ih]

@[simp] theorem leBytes_length (n x : Nat) : (leBytes n x).length = n := by
  induction n generalizing x with
  | zero => rfl
  | succ n ih => simp [leBytes, ih]

@[simp] theorem wordBytes_length (w : Word) : (wordBytes w).length = 6 := by simp [wordBytes]

@[simp] theorem sampleBytes_length (x : Int) : (sampleBytes x).length = 3 := by simp [sampleBytes]

@[simp] theorem crc16Bytes_length (bytes : List Byte) : (crc16Bytes bytes).length = 2 := by simp [crc16Bytes]

@[simp] theorem crc32Bytes_length (bytes : List Byte) : (crc32Bytes bytes).length = 4 := by simp [crc32Bytes]

@[simp] theorem blockBytes_length (f : Frame) : (blockBytes f).length = 144 := by
  simp [blockBytes, List.length_flatMap]

@[simp] theorem stereoBytes_length (f : StereoFrame) : (stereoBytes f).length = 288 := by simp [stereoBytes]

/-- Padding brings a frame to 46 bytes where it is shorter. -/
@[simp] theorem padded_length (bytes : List Byte) : (padded bytes).length = max bytes.length 46 := by
  simp [padded, Config.minPayload]; omega

theorem padded_of_long (bytes : List Byte) (h : 46 ≤ bytes.length) : padded bytes = bytes := by
  simp [padded, Config.minPayload, Nat.sub_eq_zero_of_le h]

/-- A padded frame read with its own layout is the frame. -/
theorem unpadded_padded (bytes : List Byte) (h : bytes.length < 46) : unpadded bytes.length (padded bytes) = bytes := by
  have : max bytes.length 46 = 46 := by omega
  simp [unpadded, Config.minPayload, h, this]
  simp [padded]

/-- A number read from its bytes, most significant first, is its low bits. -/
theorem foldl_beBytes (n x acc : Nat) :
    (beBytes n x).foldl (fun acc b => acc * 256 + b.toNat) acc = acc * 256 ^ n + x % 256 ^ n := by
  induction n generalizing acc with
  | zero => simp [beBytes, Nat.mod_one]
  | succ n ih =>
    have : x % 256 ^ (n + 1) = x % 256 ^ n + 256 ^ n * (x / 256 ^ n % 256) := by rw [pow_succ, Nat.mod_mul]
    rw [beBytes, List.foldl_cons, ih, BitVec.toNat_ofNat, this]
    norm_num
    ring

/-- A number read back from its bytes. -/
theorem beAt_beBytes (n x : Nat) (h : x < 256 ^ n) : beAt (beBytes n x) 0 n = x := by
  rw [beAt, List.drop_zero, List.take_of_length_le (by simp), foldl_beBytes]
  simp [Nat.mod_eq_of_lt h]

/-- A sample read back from its bytes. -/
theorem sampleAt_sampleBytes (x : Int) (h : -8388608 ≤ x ∧ x ≤ 8388607) : sampleAt (sampleBytes x) 0 = x := by
  have hb : (BitVec.ofNat 8 ((BitVec.ofInt 24 x).toNat / 256 / 256) ++ BitVec.ofNat 8 ((BitVec.ofInt 24 x).toNat / 256) ++
      BitVec.ofNat 8 (BitVec.ofInt 24 x).toNat : BitVec 24) = BitVec.ofInt 24 x := by
    generalize BitVec.ofInt 24 x = b
    have e1 (k : Nat) : (b.toNat / 256).testBit k = b.getLsbD (k + 8) := by
      rw [show (256 : Nat) = 2 ^ 8 from rfl, Nat.testBit_div_two_pow, BitVec.testBit_toNat]
    have e2 (k : Nat) : (b.toNat / 256 / 256).testBit k = b.getLsbD (k + 16) := by
      rw [Nat.div_div_eq_div_mul, show (256 * 256 : Nat) = 2 ^ 16 from rfl, Nat.testBit_div_two_pow,
        BitVec.testBit_toNat]
    refine BitVec.eq_of_getLsbD_eq fun i hi => ?_
    simp only [BitVec.getLsbD_append, BitVec.getLsbD_ofNat, e1, e2, BitVec.testBit_toNat]
    by_cases h1 : i < 8
    · simp [h1]
    · by_cases h2 : i < 16
      · have : i - 8 < 8 := by omega
        have h3 : i - 8 + 8 = i := by omega
        simp [h1, this, h3]
      · have : ¬ i - 8 < 8 := by omega
        have h3 : i - 8 - 8 + 16 = i := by omega
        have h4 : i - 8 - 8 < 8 := by omega
        simp [h1, this, h3, h4]
  simp only [sampleAt, sampleBytes, leBytes, byteAt, List.getD_cons_zero, List.getD_cons_succ, Nat.zero_add]
  rw [hb, BitVec.toInt_ofInt, Int.bmod_eq_of_le (by omega) (by omega)]

end Sys2Proof.Machine
end

