-- ==== Sys2Proof/Laws/Delay.lean ====
section
/-!
SUPPORT. What the derivation of the delay state does (R44, R45), and what storing and dropping held frames do (R42).
-/

namespace Sys2Proof.Machine

@[simp] theorem deriveDelay_delay (s : State) : (deriveDelay s).delay = s.delay.derive s.air.bypass := by
  simp only [deriveDelay]; split <;> simp

/-- The derivation changes the delay line, the notices and what was sent, and nothing else. -/
theorem deriveDelay_frame (s : State) :
    deriveDelay s =
      { s with
        delay := s.delay.derive s.air.bypass, notices := (deriveDelay s).notices, sent := (deriveDelay s).sent } := by
  simp only [deriveDelay]; split
  · rw [latch_frame]; rfl
  · rfl

/-- The derivation latches DELAY_AT_TARGET where R45 says so, and no other kind. -/
theorem deriveDelay_get (s : State) (k : Fin 25) :
    (deriveDelay s).notices.latches.get k =
      if k = 10 ∧ reachesTarget s.delay.state (s.delay.derived s.air.bypass) = true then
        some ((s.notices.latches.get k).getD [Word.nat s.delay.target])
      else s.notices.latches.get k := by
  have hd : (s.delay.derive s.air.bypass).state = s.delay.derived s.air.bypass := rfl
  have ht : (s.delay.derive s.air.bypass).target = s.delay.target := rfl
  simp only [deriveDelay, State.modDelay_delay, hd, ht]; split
  · rename_i h
    rw [latch_get]; by_cases hk : k = 10 <;> simp [h, NoticeKind.index, hk]
  · rename_i h; simp [h]

/-- The derivation sends at most frames on the studio port. -/
theorem deriveDelay_sent (s : State) :
    ∃ frames, (deriveDelay s).sent = { s.sent with studio := s.sent.studio ++ frames } := by
  simp only [deriveDelay]; split
  · exact latch_sent ..
  · exact ⟨[], by simp⟩

/-- A held frame after another has been stored behind the newest: the stored one at its place, the others as before. -/
theorem DelayLine.store_heldFrame (d : DelayLine) (f : PgmFrame) (i : Nat) (hi : i ≤ d.held) (h : d.held < 65536) :
    (d.store f).heldFrame i = if i = d.held then f else d.heldFrame i := by
  simp only [DelayLine.heldFrame, DelayLine.store, DelayLine.block, DelayLine.writePos, Memory.read_write,
    Config.delayBlocks]
  by_cases he : i = d.held
  · simp [he]
  · have : ¬ (d.readPos + i) % 65536 = (d.readPos + d.held) % 65536 := by omega
    simp [he, this]

/-- Storing a frame puts it behind the held ones. -/
theorem DelayLine.store_heldFrames (d : DelayLine) (f : PgmFrame) (h : d.held < 65536) :
    (d.store f).heldFrames = d.heldFrames ++ [f] := by
  have hn : (d.store f).held = d.held + 1 := rfl
  simp only [DelayLine.heldFrames, hn, List.range_succ, List.map_append, List.map_cons, List.map_nil]
  congr 1
  · refine List.map_congr_left fun i hi => ?_
    have := List.mem_range.mp hi
    rw [d.store_heldFrame f i (by omega) h, if_neg (by omega)]
  · rw [d.store_heldFrame f _ le_rfl h, if_pos rfl]

/-- Dropping held frames leaves the newer ones, in order. -/
theorem DelayLine.dropOldest_heldFrames (d : DelayLine) (n : Nat) :
    (d.dropOldest n).heldFrames = d.heldFrames.drop n := by
  refine List.ext_getElem (by simp [DelayLine.heldFrames, DelayLine.dropOldest]) fun i h₁ h₂ => ?_
  simp only [DelayLine.heldFrames, List.getElem_map, List.getElem_range, List.getElem_drop, DelayLine.heldFrame,
    DelayLine.dropOldest, DelayLine.block, Config.delayBlocks]
  congr 1
  omega

@[simp] theorem DelayLine.give_heldFrames (d : DelayLine) (f : PgmFrame) : (d.give f).heldFrames = d.heldFrames := rfl
@[simp] theorem DelayLine.give_held (d : DelayLine) (f : PgmFrame) : (d.give f).held = d.held := rfl
@[simp] theorem DelayLine.derive_heldFrames (d : DelayLine) (b : Bool) : (d.derive b).heldFrames = d.heldFrames := rfl
@[simp] theorem DelayLine.derive_held (d : DelayLine) (b : Bool) : (d.derive b).held = d.held := rfl
@[simp] theorem DelayLine.derive_state (d : DelayLine) (b : Bool) : (d.derive b).state = d.derived b := rfl

/-- Where no frame leaves and the newest ones are cut off, the older ones stay. -/
theorem DelayLine.heldFrames_take (d : DelayLine) (n : Nat) (h : n ≤ d.held) :
    ({ d with held := n } : DelayLine).heldFrames = d.heldFrames.take n := by
  simp only [DelayLine.heldFrames, ← List.map_take, List.take_range, Nat.min_eq_left h]
  rfl

end Sys2Proof.Machine
end

