-- ==== Sys2Proof/Laws/Lines.lean ====
section
/-!
SUPPORT. What a change of state does to the line unit (R69).
-/

namespace Sys2Proof.Machine

/-- The line that changes: its new state, a time of 0, and the tag cleared on entry to RINGING. -/
theorem LineUnit.change_self (l : LineUnit) (k : Fin 6) (new : LineState) :
    (l.change k new).line k =
      { l.line k with state := new, timeInState := 0, tag := if new = .ringing then 0 else (l.line k).tag } := by
  simp [LineUnit.change, LineUnit.modLine, LineUnit.line, get_set]

/-- The other lines stand. -/
theorem LineUnit.change_other (l : LineUnit) (k j : Fin 6) (new : LineState) (h : j ≠ k) :
    (l.change k new).line j = l.line j := by
  have : ¬ k.val = j.val := fun e => h (Fin.ext e.symm)
  simp [LineUnit.change, LineUnit.modLine, LineUnit.line, get_set, this]

/-- What a change of state leaves alone. -/
theorem LineUnit.change_frame (l : LineUnit) (k : Fin 6) (new : LineState) :
    l.change k new =
      { l with
        lines := (l.change k new).lines, ready := (l.change k new).ready, screening := (l.change k new).screening
        onAir := (l.change k new).onAir } := rfl

@[simp] theorem LineUnit.change_conf (l : LineUnit) (k : Fin 6) (new : LineState) : (l.change k new).conf = l.conf := rfl
@[simp] theorem LineUnit.change_capacity (l : LineUnit) (k : Fin 6) (new : LineState) :
    (l.change k new).capacity = l.capacity := rfl
@[simp] theorem LineUnit.change_ringLimit (l : LineUnit) (k : Fin 6) (new : LineState) :
    (l.change k new).ringLimit = l.ringLimit := rfl
@[simp] theorem LineUnit.change_callers (l : LineUnit) (k : Fin 6) (new : LineState) :
    (l.change k new).callers = l.callers := rfl
@[simp] theorem LineUnit.change_feeds (l : LineUnit) (k : Fin 6) (new : LineState) : (l.change k new).feeds = l.feeds := rfl
@[simp] theorem LineUnit.change_counters (l : LineUnit) (k : Fin 6) (new : LineState) :
    (l.change k new).counters = l.counters := rfl

end Sys2Proof.Machine
end

