-- ==== Sys2Proof/Laws/Orders.lean ====
section
/-!
SUPPORT. What the taking of an order does: one lemma for the order at the head of the queue, one for its reply, and what
both leave alone.
-/

namespace Sys2Proof.Machine

/-! ### Frames sent -/

@[simp] theorem sendStudio_sent (dest : Option MacAddress) (payload : List Byte) (s : State) :
    (sendStudio dest payload s).sent = { s.sent with studio := s.sent.studio ++ [studioFrame dest payload] } := rfl

/-- A frame sent on the studio port changes nothing but what was sent. -/
theorem sendStudio_eq (dest : Option MacAddress) (payload : List Byte) (s : State) :
    sendStudio dest payload s =
      { s with sent := { s.sent with studio := s.sent.studio ++ [studioFrame dest payload] } } := rfl

/-- A reply of at most 240 words leaves as one frame. -/
theorem sendReply_single (dest : MacAddress) (tag : BitVec 16) (code : Byte) (result : Nat) (ws : List Word) (s : State)
    (h : ws.length ≤ 240) :
    sendReply dest tag code result ws s = sendStudio (some dest) (replyFrame tag code result 0 true ws) s := by
  have : replyParts ws.length ws = [ws] := by
    cases hn : ws.length with
    | zero => rfl
    | succ n => simp [replyParts, Config.replyWords, h]
  simp [sendReply, this]

/-- Frames sent one after another on the studio port change nothing but what was sent there. -/
theorem foldl_sendStudio {α : Type} (dest : α → Option MacAddress) (payload : α → List Byte) (l : List α) (s : State) :
    l.foldl (fun s p => sendStudio (dest p) (payload p) s) s =
      { s with sent := { s.sent with studio := s.sent.studio ++ l.map fun p => studioFrame (dest p) (payload p) } } := by
  induction l generalizing s with
  | nil => simp
  | cons p rest ih => rw [List.foldl_cons, ih]; simp [sendStudio, State.modSent]

/-- A reply changes nothing but what was sent, and adds its frames on the studio port. -/
theorem sendReply_eq (dest : MacAddress) (tag : BitVec 16) (code : Byte) (result : Nat) (ws : List Word) (s : State) :
    sendReply dest tag code result ws s =
      { s with sent := { s.sent with studio := s.sent.studio ++
        ((replyParts ws.length ws).zipIdx.map fun p =>
          studioFrame (some dest) (replyFrame tag code result p.2 (p.2 + 1 = (replyParts ws.length ws).length) p.1)) } } :=
  foldl_sendStudio (fun _ => some dest) _ _ s

/-! ### Taking and replying -/

/-- The state with nothing sent and the order before `rest` taken, which an order's handler works on. -/
def State.taking (s : State) (rest : List QueuedOrder) : State :=
  { s with orders := { s.orders with queue := rest, taken := true }, sent := ⟨[], [], []⟩ }

@[simp] theorem State.taking_frameCount (s : State) (rest : List QueuedOrder) : (s.taking rest).frameCount = s.frameCount := rfl
@[simp] theorem State.taking_tables (s : State) (rest : List QueuedOrder) : (s.taking rest).tables = s.tables := rfl
@[simp] theorem State.taking_studio (s : State) (rest : List QueuedOrder) : (s.taking rest).studio = s.studio := rfl
@[simp] theorem State.taking_mix (s : State) (rest : List QueuedOrder) : (s.taking rest).mix = s.mix := rfl
@[simp] theorem State.taking_delay (s : State) (rest : List QueuedOrder) : (s.taking rest).delay = s.delay := rfl
@[simp] theorem State.taking_line (s : State) (rest : List QueuedOrder) : (s.taking rest).line = s.line := rfl
@[simp] theorem State.taking_clips (s : State) (rest : List QueuedOrder) : (s.taking rest).clips = s.clips := rfl
@[simp] theorem State.taking_players (s : State) (rest : List QueuedOrder) : (s.taking rest).players = s.players := rfl
@[simp] theorem State.taking_intake (s : State) (rest : List QueuedOrder) : (s.taking rest).intake = s.intake := rfl
@[simp] theorem State.taking_air (s : State) (rest : List QueuedOrder) : (s.taking rest).air = s.air := rfl
@[simp] theorem State.taking_link (s : State) (rest : List QueuedOrder) : (s.taking rest).link = s.link := rfl
@[simp] theorem State.taking_notices (s : State) (rest : List QueuedOrder) : (s.taking rest).notices = s.notices := rfl
@[simp] theorem State.taking_pending (s : State) (rest : List QueuedOrder) : (s.taking rest).pending = s.pending := rfl

/-- An order that has arrived in this frame period, one of another row's code, and any order where one has been taken
stay in the queue (R196, R205). -/
theorem takeOrder_passes {s : State} (code : Byte → Bool) (handler : List Word → State → Answer) (after : State → State)
    (h : s.orders.taken = true ∨ ∀ o, s.orders.queue.head? = some o → code o.code = false ∨ o.fresh = true) :
    takeOrder code handler after s = s := by
  unfold takeOrder
  split
  · rfl
  · rename_i hq
    rcases h with ht | h
    · simp [OrderUnit.ready, ht]
    · rcases h _ (by rw [hq]; rfl) with hc | hf
      · simp [hc]
      · simp [OrderUnit.ready, hf]

/-- A new frame period keeps the number of queued orders. -/
@[simp] theorem OrderUnit.nextPeriod_queue_length (u : OrderUnit) : u.nextPeriod.queue.length = u.queue.length := by
  simp [OrderUnit.nextPeriod]

/-- An order's row with its order at the head of the queue gives the reply of its handler. -/
theorem perform_takeCode {s : State} {o : QueuedOrder} {rest : List QueuedOrder} {code : Byte} {args : List Word}
    (h : s.Heads o rest code args) (handler : List Word → State → Answer) :
    perform (takeCode code handler) s = .next (reply o (handler args (s.taking rest))) := by
  obtain ⟨hq, hc, ha, hf, hw⟩ := h
  simp [perform, takeCode, takeOrder, OrderUnit.ready, State.modSent, hq, hc, ha, hf, hw, judgeForm, dequeue, State.taking, State.modOrders,
    Sent.nothing]

/-- A reply of at most 240 words, as an equation. -/
theorem reply_single (o : QueuedOrder) (a : Answer) (h : a.words.length ≤ 240) :
    reply o a = { a.state with
      orders := { a.state.orders with
        refused := min (a.state.orders.refused + if a.result.countedRefusal then 1 else 0) 65535 }
      sent := { a.state.sent with studio := a.state.sent.studio ++ [replyTo o a.result a.words] } } := by
  simp [reply, sendReply_single _ _ _ _ _ _ h, sendStudio, State.modSent, State.modOrders, bump, Config.counterMax,
    replyTo]

/-- An order whose handler changes nothing of the order unit and sends nothing, answered by one frame. -/
theorem reply_answered (s t : State) (o : QueuedOrder) (rest : List QueuedOrder) (r : Result) (ws : List Word)
    (ho : t.orders = (s.taking rest).orders) (hs : t.sent = ⟨[], [], []⟩) (h : ws.length ≤ 240) :
    reply o ⟨t, r, ws⟩ = { t with orders := s.orders.took rest r, sent := ⟨[replyTo o r ws], [], []⟩ } := by
  rw [reply_single _ _ h]
  simp [ho, hs, OrderUnit.took, State.taking]

/-- The order at the head of the queue, its handler giving an answer of at most 240 words that leaves the order unit and
what was sent alone. -/
theorem order_answered {s t : State} {o : QueuedOrder} {rest : List QueuedOrder} {code : Byte} {args ws : List Word}
    {r : Result} (h : s.Heads o rest code args) (handler : List Word → State → Answer)
    (ha : handler args (s.taking rest) = ⟨t, r, ws⟩) (ho : t.orders = (s.taking rest).orders) (hs : t.sent = ⟨[], [], []⟩)
    (hw : ws.length ≤ 240) :
    perform (takeCode code handler) s =
      .next { t with orders := s.orders.took rest r, sent := ⟨[replyTo o r ws], [], []⟩ } := by
  rw [perform_takeCode h, ha, reply_answered s t o rest r ws ho hs hw]

/-- A refusal changes nothing but the queue, the refused order counter and what was sent. -/
theorem reply_refuse (s : State) (o : QueuedOrder) (rest : List QueuedOrder) (r : Result) :
    reply o (refuse r (s.taking rest)) = s.answered o rest r [] := by
  rw [refuse, reply_answered s _ o rest r [] rfl rfl (by simp)]; rfl

/-- The order at the head of the queue, refused. -/
theorem order_refused {s : State} {o : QueuedOrder} {rest : List QueuedOrder} {code : Byte} {args : List Word}
    {r : Result} (h : s.Heads o rest code args) (handler : List Word → State → Answer)
    (ha : handler args (s.taking rest) = refuse r (s.taking rest)) :
    perform (takeCode code handler) s = .next (s.answered o rest r []) := by
  rw [perform_takeCode h, ha, reply_refuse]

end Sys2Proof.Machine
end

