-- ==== Sys2Proof/Laws/PerInstr.lean ====
section
/-!
SUPPORT. A well-formed command carries at most 1,500 bytes, the greatest payload of an Ethernet frame: one lemma for each
command.
-/

namespace Sys2Proof.Laws

/-- The bytes that a command carries (R119, R207, R209, R210). -/
def carriedBytes : Instr → Nat
  | .programme body | .fill body | .fillCheck _ body => body.length + 1
  | .order _ frame | .returnFrame frame => frame.length
  | .lineBusCycle slots | .ringLimitReached _ slots | .holdLimitReached _ slots => (slots.map List.length).sum
  | .header rest | .audioBegin rest | .audioEnd rest => rest.length + 1
  | .alertRecordDiscard bytes | .incompleteRecord bytes => bytes.length
  | .alertFrame _ | .beginWaitReached _ | .recordingLimit _ | .minuteEvent _ => 288
  | .powerOnReset | .framePeriod | .unknownOrder | .mixFrame | .exchange | .airFrame | .leadInEnd | .attentionEnd
  | .closingEnd | .completion | .breakDeadlineReached | .send | .burstEnd | .wakeTimerTimeout | .probe | .gapTimer
  | .messageResend | .messageDrop | .requestTimer | .quietTimer | .keepalive | .asleepWatch | .repeatTimer | .tPoint
  | .tWrite | .tRead | .status | .mask | .counters | .restart | .timeSet | .bypass | .dump | .lineAnswer | .lineHold
  | .lineReady | .lineTake | .lineDrop | .lineTag | .clipOpen | .clipAbort | .clipErase | .playerCue | .playerStart
  | .playerStop | .alertList | .alertRelease | .alertCancel | .alertTest | .breakOrder | .linkSleep | .linkWake
  | .linkStatus => 0

/-- The slots of a cycle that fit carry at most 882 bytes. -/
theorem slotsFit_sum (slots : IncomingSlots) (h : slotsFit slots = true) : (slots.map List.length).sum ≤ 882 := by
  have each : ∀ (i : Nat) (hi : i < 6), slots[i].length ≤ 147 := by
    intro i hi
    have := Vector.all_eq_true.mp h i hi
    simpa using this
  obtain ⟨⟨l⟩, hs⟩ := slots
  match l, hs with
  | [a, b, c, d, e, f], _ =>
    have h0 := each 0 (by omega); have h1 := each 1 (by omega); have h2 := each 2 (by omega)
    have h3 := each 3 (by omega); have h4 := each 4 (by omega); have h5 := each 5 (by omega)
    simp at h0 h1 h2 h3 h4 h5
    simp [Vector.sum]
    omega

/-- A whole record is at most 259 bytes long. -/
theorem recordWhole_length (record : List Byte) (h : recordWhole record = true) : record.length ≤ 1500 := by
  simp only [recordWhole, Bool.and_eq_true, decide_eq_true_eq] at h
  have := (record.getD 1 0).isLt
  omega

/-- A record that has begun is at most 258 bytes long. -/
theorem recordBegun_length (bytes : List Byte) (h : recordBegun bytes = true) : bytes.length ≤ 1500 := by
  simp only [recordBegun, Bool.and_eq_true, Bool.or_eq_true, decide_eq_true_eq] at h
  have := (bytes.getD 1 0).isLt
  omega

namespace Carried

/-- A well-formed command carries at most 1,500 bytes. -/
def Statement (i : Instr) : Prop := i.wellFormed = true → carriedBytes i ≤ 1500

theorem powerOnReset : Statement .powerOnReset := fun _ => Nat.zero_le _
theorem framePeriod : Statement .framePeriod := fun _ => Nat.zero_le _
theorem programme (body : List Byte) : Statement (.programme body) := fun h => by
  simpa [Instr.wellFormed, payloadFits, carriedBytes, Nat.add_comm] using h

theorem order (src : MacAddress) (frame : List Byte) : Statement (.order src frame) := fun h => by
  simp only [Instr.wellFormed, payloadFits, Bool.and_eq_true, decide_eq_true_eq, Nat.add_zero] at h
  exact h.1

theorem unknownOrder : Statement .unknownOrder := fun _ => Nat.zero_le _
theorem fill (body : List Byte) : Statement (.fill body) := fun h => by
  simpa [Instr.wellFormed, payloadFits, carriedBytes, Nat.add_comm] using h

theorem fillCheck (src : MacAddress) (body : List Byte) : Statement (.fillCheck src body) := fun h => by
  simpa [Instr.wellFormed, payloadFits, carriedBytes, Nat.add_comm] using h

theorem lineBusCycle (slots : IncomingSlots) : Statement (.lineBusCycle slots) := fun h =>
  le_trans (slotsFit_sum slots h) (by omega)

theorem ringLimitReached (line : Fin 6) (slots : IncomingSlots) : Statement (.ringLimitReached line slots) := fun h =>
  le_trans (slotsFit_sum slots h) (by omega)

theorem holdLimitReached (line : Fin 6) (slots : IncomingSlots) : Statement (.holdLimitReached line slots) := fun h =>
  le_trans (slotsFit_sum slots h) (by omega)

theorem mixFrame : Statement .mixFrame := fun _ => Nat.zero_le _
theorem exchange : Statement .exchange := fun _ => Nat.zero_le _
theorem airFrame : Statement .airFrame := fun _ => Nat.zero_le _
theorem leadInEnd : Statement .leadInEnd := fun _ => Nat.zero_le _
theorem attentionEnd : Statement .attentionEnd := fun _ => Nat.zero_le _
theorem closingEnd : Statement .closingEnd := fun _ => Nat.zero_le _
theorem completion : Statement .completion := fun _ => Nat.zero_le _
theorem breakDeadlineReached : Statement .breakDeadlineReached := fun _ => Nat.zero_le _
theorem send : Statement .send := fun _ => Nat.zero_le _
theorem burstEnd : Statement .burstEnd := fun _ => Nat.zero_le _
theorem wakeTimerTimeout : Statement .wakeTimerTimeout := fun _ => Nat.zero_le _
theorem probe : Statement .probe := fun _ => Nat.zero_le _
theorem gapTimer : Statement .gapTimer := fun _ => Nat.zero_le _
theorem messageResend : Statement .messageResend := fun _ => Nat.zero_le _
theorem messageDrop : Statement .messageDrop := fun _ => Nat.zero_le _
theorem requestTimer : Statement .requestTimer := fun _ => Nat.zero_le _
theorem quietTimer : Statement .quietTimer := fun _ => Nat.zero_le _
theorem keepalive : Statement .keepalive := fun _ => Nat.zero_le _
theorem asleepWatch : Statement .asleepWatch := fun _ => Nat.zero_le _
theorem returnFrame (frame : List Byte) : Statement (.returnFrame frame) := fun h => by
  simpa [Instr.wellFormed, payloadFits, carriedBytes, Nat.add_comm] using h

theorem header (rest : List Byte) : Statement (.header rest) := fun h =>
  recordWhole_length (1 :: rest) h

theorem audioBegin (rest : List Byte) : Statement (.audioBegin rest) := fun h =>
  recordWhole_length (2 :: rest) h

theorem audioEnd (rest : List Byte) : Statement (.audioEnd rest) := fun h =>
  recordWhole_length (3 :: rest) h

theorem alertRecordDiscard (record : List Byte) : Statement (.alertRecordDiscard record) := fun h =>
  recordWhole_length record h

theorem incompleteRecord (bytes : List Byte) : Statement (.incompleteRecord bytes) := fun h =>
  recordBegun_length bytes h

theorem alertFrame (audio : AudioInput) : Statement (.alertFrame audio) := fun _ => by simp [carriedBytes]
theorem beginWaitReached (audio : AudioInput) : Statement (.beginWaitReached audio) := fun _ => by simp [carriedBytes]
theorem recordingLimit (audio : AudioInput) : Statement (.recordingLimit audio) := fun _ => by simp [carriedBytes]
theorem minuteEvent (audio : AudioInput) : Statement (.minuteEvent audio) := fun _ => by simp [carriedBytes]
theorem repeatTimer : Statement .repeatTimer := fun _ => Nat.zero_le _
theorem tPoint : Statement .tPoint := fun _ => Nat.zero_le _
theorem tWrite : Statement .tWrite := fun _ => Nat.zero_le _
theorem tRead : Statement .tRead := fun _ => Nat.zero_le _
theorem status : Statement .status := fun _ => Nat.zero_le _
theorem mask : Statement .mask := fun _ => Nat.zero_le _
theorem counters : Statement .counters := fun _ => Nat.zero_le _
theorem restart : Statement .restart := fun _ => Nat.zero_le _
theorem timeSet : Statement .timeSet := fun _ => Nat.zero_le _
theorem bypass : Statement .bypass := fun _ => Nat.zero_le _
theorem dump : Statement .dump := fun _ => Nat.zero_le _
theorem lineAnswer : Statement .lineAnswer := fun _ => Nat.zero_le _
theorem lineHold : Statement .lineHold := fun _ => Nat.zero_le _
theorem lineReady : Statement .lineReady := fun _ => Nat.zero_le _
theorem lineTake : Statement .lineTake := fun _ => Nat.zero_le _
theorem lineDrop : Statement .lineDrop := fun _ => Nat.zero_le _
theorem lineTag : Statement .lineTag := fun _ => Nat.zero_le _
theorem clipOpen : Statement .clipOpen := fun _ => Nat.zero_le _
theorem clipAbort : Statement .clipAbort := fun _ => Nat.zero_le _
theorem clipErase : Statement .clipErase := fun _ => Nat.zero_le _
theorem playerCue : Statement .playerCue := fun _ => Nat.zero_le _
theorem playerStart : Statement .playerStart := fun _ => Nat.zero_le _
theorem playerStop : Statement .playerStop := fun _ => Nat.zero_le _
theorem alertList : Statement .alertList := fun _ => Nat.zero_le _
theorem alertRelease : Statement .alertRelease := fun _ => Nat.zero_le _
theorem alertCancel : Statement .alertCancel := fun _ => Nat.zero_le _
theorem alertTest : Statement .alertTest := fun _ => Nat.zero_le _
theorem breakOrder : Statement .breakOrder := fun _ => Nat.zero_le _
theorem linkSleep : Statement .linkSleep := fun _ => Nat.zero_le _
theorem linkWake : Statement .linkWake := fun _ => Nat.zero_le _
theorem linkStatus : Statement .linkStatus := fun _ => Nat.zero_le _

end Carried

end Sys2Proof.Laws
end

