-- ==== Sys2Proof/Laws/Players.lean ====
section
/-!
SUPPORT. What the shared operations of the players do, and what they leave alone (R109 to R114, R187).
-/

namespace Sys2Proof.Machine

/-- A player after another, or itself, has been changed. -/
@[simp] theorem modPlayer_player (p q : Fin 3) (f : Player → Player) (s : State) :
    (modPlayer p f s).player q = if q = p then f (s.player q) else s.player q := by
  simp only [modPlayer, State.player, State.modPlayers, get_set]
  by_cases h : q = p
  · simp [h]
  · have : ¬ p.val = q.val := fun e => h (Fin.ext e.symm)
    simp [h, this]

/-- Holding a slot, as an equation: the player stands at position 0 of it, and the store records the hold. -/
theorem holdSlot_eq (p : Fin 3) (n : Fin 32) (state : PlayerState) (s : State) :
    holdSlot p n state s =
      { s with clips := s.clips.hold (playerReader p) n, players := s.players.set p ⟨state, some n, 0⟩ } := rfl

/-- A player becoming IDLE, as an equation: its record is cleared and its hold given up. -/
theorem idlePlayer_eq (p : Fin 3) (s : State) :
    idlePlayer p s = { s with clips := s.clips.release (playerReader p), players := s.players.set p Player.idle } := rfl

/-- A player beginning a slot, as an equation: the hold is taken and the stamp set to the frame count. -/
theorem runSlot_eq (p : Fin 3) (n : Fin 32) (s : State) :
    runSlot p n s =
      { s with
        clips := (s.clips.hold (playerReader p) n).modSlot n fun t => { t with stamp := some s.frameCount }
        players := s.players.set p ⟨.running, some n, 0⟩ } := rfl

/-- A start request that is taken starts the slot asked for; one that is not changes nothing (R9, R114). -/
theorem startFill_cases (slot : Option (Fin 32)) (s : State) :
    (∃ n, slot = some n ∧ (s.player fillPlayer).state = .idle ∧ cueable fillPlayer n s = true ∧
      startFill slot s = (runSlot fillPlayer n s, some n)) ∨ startFill slot s = (s, none) := by
  cases slot with
  | none => exact .inr rfl
  | some n =>
    simp only [startFill]; split
    · rename_i h
      simp only [Bool.and_eq_true, decide_eq_true_eq] at h
      exact .inl ⟨n, rfl, h.1, h.2, rfl⟩
    · exact .inr rfl

/-- The start of a sleep changes the link unit, the notices and what was sent, and nothing else (R187). -/
theorem startSleep_frame (s : State) :
    startSleep s =
      { s with link := (startSleep s).link, notices := (startSleep s).notices, sent := (startSleep s).sent } := by
  simp only [startSleep]
  rw [queueMessage_frame]
  rfl

/-- A sign-off changes the link unit, the notices and what was sent, and nothing else (R187). -/
theorem signOff_frame (s : State) :
    signOff s = { s with link := (signOff s).link, notices := (signOff s).notices, sent := (signOff s).sent } := by
  simp only [signOff]; split
  · rfl
  · split
    · split
      · rw [startSleep_frame]
      · rw [deferSignOff, latch_frame]
    · rfl
    · rfl
    · rw [deferSignOff, latch_frame]
    · rw [deferSignOff, latch_frame]

/-- A sign-off with AUTO_SLEEP off is ignored (R187). -/
theorem signOff_off (s : State) (h : s.link.autoSleep = false) : signOff s = s := by simp [signOff, h]

/-- The end of a clip under LOOP returns the position to 0 and does nothing else (R112). -/
theorem endAction_loop (p : Fin 3) (n : Fin 32) (s : State) (h : (s.clips.conf.get n).endAction = .loop) :
    endAction p n s = modPlayer p (fun r => { r with position := 0 }) s := by simp [endAction, h]

/-- The fill player returns to position 0 whatever the slot's end action (R114). -/
theorem clipEnd_fill (n : Fin 32) (s : State) :
    clipEnd fillPlayer n s = modPlayer fillPlayer (fun r => { r with position := 0 }) s := by simp [clipEnd]

/-- The end of a clip changes the clip store, the players, the link unit, the notices and what was sent, and nothing
else (R112, R113). -/
theorem clipEnd_frame (p : Fin 3) (n : Fin 32) (s : State) :
    clipEnd p n s =
      { s with
        clips := (clipEnd p n s).clips, players := (clipEnd p n s).players, link := (clipEnd p n s).link
        notices := (clipEnd p n s).notices, sent := (clipEnd p n s).sent } := by
  simp only [clipEnd]; split
  · rfl
  · simp only [endAction]; split
    · rw [endClip, latch_frame]; rfl
    · rfl
    · split <;> (rw [endClip, latch_frame]; rfl)
    · rw [endClip, latch_frame, signOff_frame]; rfl

/-- A player order refused for its arguments changes nothing (R108). -/
theorem playerRefused_answer (args : List Word) (s : State) :
    playerRefused args s = ⟨s, .refusedArgument, (playerRefused args s).words⟩ := by
  unfold playerRefused
  split
  · rfl
  · split <;> rfl

end Sys2Proof.Machine
end

