-- ==== Sys2Proof/Tests/Slice0.lean ====
section
/-!
SUPPORT. Tests: what the checks of `WellFormed` refuse, worked examples and check values of the manual, one observed effect
of every command, and a witness of the hypotheses of every obligation. A test's comment names the place in the manual that
its expected value comes from; the expected values of a witness are the obligation's own hypotheses.
-/

namespace Sys2Proof.Tests

open Sys2Proof.Machine

set_option Elab.async false

/-! ### Helpers -/

/-- The state that a command leads to. -/
def after (c : Instr) (s : State) : State :=
  match exec c s with
  | .next t => t
  | .fault _ => s
  | .refused _ => s

/-- The order that the tests send, as it stands in the queue from the next frame period on. -/
def sentOrder (code : Byte) (args : List Word) : QueuedOrder := ⟨0x0A0B0C0D0E0F, 77, code, some args, false⟩

/-- The state with that order as the one in the order queue. -/
def withOrder (code : Byte) (args : List Word) (s : State) : State :=
  s.modOrders fun u => { u with queue := [sentOrder code args], taken := false }

/-- The order stands at the head of the queue, and none has been taken. -/
theorem withOrder_heads (code : Byte) (args : List Word) (s : State) :
    (withOrder code args s).Heads (sentOrder code args) [] code args := ⟨rfl, rfl, rfl, rfl, rfl⟩

/-- The last frame that a command sent on the studio port. -/
def lastReply (s : State) : List Byte := (s.sent.studio.getLast?.map StudioFrame.payload).getD []

/-- Data word `i` of that frame. -/
def replyWord (i : Nat) (s : State) : Nat := beAt (lastReply s) (8 + 6 * i) 6

/-- The result byte of that frame. -/
def replyResult (s : State) : Nat := (byteAt (lastReply s) 5).toNat

/-- The reset state with the link in RUN. -/
def running : State := State.reset.modLink fun l => { l with mode := .run, level := some .clear }

/-- A frame whose samples are all the same. -/
def level (x : Int) : StereoFrame := ⟨Vector.replicate 48 x, Vector.replicate 48 x⟩

/-- The link in SLEEP_PENDING, in a phase. -/
def pendingSleep (p : Phase) (f : LinkUnit → LinkUnit) : State :=
  running.modLink fun l => f { l with mode := .sleepPending, phase := p }

/-! ### Well-formed commands -/

theorem test_wellFormed_programme_too_long : (Instr.programme (List.replicate 1500 0)).wellFormed = false := by
  decide +kernel
theorem test_wellFormed_order_too_long : (Instr.order 1 (List.replicate 1501 2)).wellFormed = false := by decide +kernel
theorem test_wellFormed_order_type : (Instr.order 1 [3, 0]).wellFormed = false := by decide
theorem test_wellFormed_fill_too_long : (Instr.fill (List.replicate 1500 0)).wellFormed = false := by decide +kernel
theorem test_wellFormed_fillCheck_too_long : (Instr.fillCheck 1 (List.replicate 1500 0)).wellFormed = false := by
  decide +kernel
theorem test_wellFormed_slot_too_long :
    (Instr.lineBusCycle (Vector.replicate 6 (List.replicate 148 0))).wellFormed = false := by decide +kernel
theorem test_wellFormed_ringLimit_slot_too_long :
    (Instr.ringLimitReached 0 (Vector.replicate 6 (List.replicate 148 0))).wellFormed = false := by decide +kernel
theorem test_wellFormed_holdLimit_slot_too_long :
    (Instr.holdLimitReached 0 (Vector.replicate 6 (List.replicate 148 0))).wellFormed = false := by decide +kernel
theorem test_wellFormed_return_too_long : (Instr.returnFrame (List.replicate 1501 0)).wellFormed = false := by
  decide +kernel
theorem test_wellFormed_header_cut : (Instr.header [5, 1, 2, 3]).wellFormed = false := by decide
theorem test_wellFormed_audioBegin_empty : (Instr.audioBegin []).wellFormed = false := by decide
theorem test_wellFormed_audioEnd_long : (Instr.audioEnd [0, 1, 2, 3]).wellFormed = false := by decide
theorem test_wellFormed_discard_cut : (Instr.alertRecordDiscard [9]).wellFormed = false := by decide
theorem test_wellFormed_incomplete_whole : (Instr.incompleteRecord [1, 0, 9, 9]).wellFormed = false := by decide
theorem test_wellFormed_incomplete_empty : (Instr.incompleteRecord []).wellFormed = false := by decide
theorem test_wellFormed_accepts :
    (Instr.fill (List.replicate 1499 0)).wellFormed = true ∧ (Instr.header [0, 7, 7]).wellFormed = true ∧
      (Instr.incompleteRecord [1, 0, 9]).wellFormed = true := by decide +kernel

/-! ### Check values of the manual -/

/-- Whether entry `c` of a gain table is 16,384 × 10^((c − 208)/80) rounded half up, checked on the 80th powers of its
bounds, both sides times 10^208 and 2^80. -/
def gainEntryHolds (c v : Nat) : Bool :=
  (2 * v - 1) ^ 80 * 10 ^ 208 ≤ 32768 ^ 80 * 10 ^ c && 32768 ^ 80 * 10 ^ c < (2 * v + 1) ^ 80 * 10 ^ 208

/-- R17: every entry from 1 on follows the law. -/
theorem test_gain_law :
    (List.range 16).all (fun b =>
      ((gainLaw.zipIdx.drop (16 * b)).take 16).all fun p => p.2 = 0 || gainEntryHolds p.2 p.1) = true := by
  decide +kernel

/-- R17: entry 0 holds 0, and there are 256 entries. -/
theorem test_gain_zero : gainLaw.getD 0 1 = 0 ∧ gainLaw.length = 256 := by decide +kernel

/-- Section 11.7: the CRC-16 of "123456789" is 29B1h. -/
theorem test_crc16_check : crc16 [0x31, 0x32, 0x33, 0x34, 0x35, 0x36, 0x37, 0x38, 0x39] = 0x29B1 := by decide +kernel

/-- Section 11.7: the CRC-32 of "123456789" is CBF43926h. -/
theorem test_crc32_check : crc32 [0x31, 0x32, 0x33, 0x34, 0x35, 0x36, 0x37, 0x38, 0x39] = 0xCBF43926 := by decide +kernel

/-- Section 11.7: from all ones the first outputs are fourteen 0s, then a 1. -/
theorem test_probe_pattern : (patternBits 15 (BitVec.allOnes 15) 0).2 = 1 := by decide +kernel

/-- R152: with p = 1,000,000 and a = 2,652,674 at j = 1 the air sample is 1,103,292. -/
theorem test_crossfade : (crossfade 1024 (level 1000000) (level 2652674)).left.get 0 = 1103292 := by decide +kernel

/-- R153: the tone table is odd about its middle, and its entries lie within half of 2,652,674 × sin(2πi/48) at the
angles where the sine is exact: 0, 30 and 90 degrees. -/
theorem test_tone : toneChannel.get 0 = 0 ∧ toneChannel.get 4 = 1326337 ∧ toneChannel.get 12 = 2652674 ∧
    toneChannel.get 36 = -2652674 := by decide +kernel

/-- Section 2.6: the multipliers of a ramp from 16,384 to 13,014 over 4 frames. -/
theorem test_ramp :
    (List.range 4).map (fun j => (Nat.repeat Ramp.advance (j + 1) ((Ramp.settled 16384).retarget 13014 4)).current) =
      [15542, 14700, 13858, 13014] := by decide +kernel

/-! ### Orders -/

/-- The reset state with `n` orders queued. -/
def queued (n : Nat) : State :=
  State.reset.modOrders fun u => { u with queue := List.replicate n (sentOrder 0x20 []) }

theorem test_witness_StepRunsFrontCommand :
    (State.reset.withCommand .exchange).pending = [.exchange] ∧ State.reset.pending = [] := ⟨rfl, rfl⟩

/-- R195, section 11.2: a MASK order with tag 1234h and one argument word, padded to 46 bytes. -/
theorem test_order_arrives :
    (after (.order 7 (padded [0x02, 1, 0x12, 0x34, 0x21, 0, 0, 0, 0, 0, 0, 5])) State.reset).orders.queue =
      [⟨7, 0x1234, 0x21, some [5], true⟩] := by decide +kernel

/-- R205: an order is not taken in the frame period of its arrival, and is taken in the next. -/
theorem test_order_waits :
    let s := after (.order 7 [2, 0, 0, 1, 0x20, 0]) State.reset
    (after .status s).orders.queue.length = 1 ∧ (after .status (after .framePeriod s)).orders.queue = [] := by
  decide +kernel

/-- R195: the seventeenth order is answered REFUSED_FULL (4). -/
theorem test_order_full : replyResult (after (.order 7 [2, 0, 0, 1, 0x20, 0]) (queued 16)) = 4 := by decide +kernel

theorem test_witness_OrderFramesArrive :
    (List.replicate 16 (0 : Word)).length ≤ 16 ∧ (queued 15).orders.queue.length < 16 ∧
      16 ≤ (queued 16).orders.queue.length ∧
      ([0x02, 0, 0, 0] : List Byte).head? = some 0x02 ∧ ([0x02, 0, 0, 0] : List Byte).length < 5 ∧
      (∀ b, ([0x05] : List Byte).head? = some b → b ∉ [0x01, 0x02, 0x03, 0x04]) ∧
      (∀ b, ([] : List Byte).head? = some b → b ∉ [0x01, 0x02, 0x03, 0x04]) := by
  refine ⟨by decide, by decide +kernel, by decide +kernel, rfl, by decide, ?_, ?_⟩ <;> simp

/-- A count of 17, a count of 7 in 46 bytes, and a count of 1 in 11 bytes. -/
theorem test_witness_OrderFramesArrive_count :
    ∀ frame ∈ [[0x02, 17, 0, 0, 0x20], 0x02 :: 7 :: List.replicate 44 (0 : Byte), 0x02 :: 1 :: List.replicate 9 0],
      frame.head? = some 0x02 ∧ 5 ≤ frame.length ∧
        (16 < (byteAt frame 1).toNat ∨
          (frame.length ≠ 6 + 6 * (byteAt frame 1).toNat ∧ ¬(frame.length = 46 ∧ (byteAt frame 1).toNat ≤ 6))) := by
  decide

/-- The rows that take an order: one order taken in this frame period, an order that arrived in it, and a MASK order at
the head of the queue. -/
theorem test_witness_OrdersTakenInTurn_nothing :
    (Instr.status, 0x20) ∈ orderRows ∧ (State.reset.modOrders fun u => { u with taken := true }).orders.taken = true ∧
      (∀ o, (withOrder 0x21 [1] State.reset).orders.queue.head? = some o →
        o.code ≠ 0x20 ∧ o.code ∈ orderRows.map Prod.snd) ∧
      ∀ code ∈ [0x20, 0x13], ∀ o,
        (after (.order 7 [2, 0, 0, 1, code, 0]) State.reset).orders.queue.head? = some o → o.code = code ∧ o.fresh = true := by
  refine ⟨by decide, rfl, by decide, by decide +kernel⟩

/-- A DUMP of bad form, a DUMP with a word, a count that each order of `countRows` does not take, a LINE-HOLD of line 6,
and code 13h. -/
theorem test_witness_OrdersTakenInTurn_refused :
    ((Instr.dump, 0x28) ∈ orderRows ∧ (⟨1, 0, 0x28, none, false⟩ : QueuedOrder).code = 0x28 ∧
      (⟨1, 0, 0x28, none, false⟩ : QueuedOrder).args = none) ∧
    (sentOrder 0x28 [1]).args = some [1] ∧ (countRows.map fun row => row.2.1).contains 0x28 = true ∧
    (∀ row ∈ countRows, (row.1, row.2.1) ∈ orderRows ∧ (sentOrder row.2.1 []).code = row.2.1 ∧
      (row.2.2 ([] : List Word).length = false ∨ row.2.2 (List.replicate 16 (0 : Word)).length = false)) ∧
    ((Instr.lineHold, 0x41) ∈ lineRows ∧ (sentOrder 0x41 [6]).args = some [6] ∧ 6 ≤ (6 : Word).toNat) ∧
    (sentOrder 0x13 []).code ∉ orderRows.map Prod.snd ∧
    (withOrder 0x28 [1] State.reset).orders.queue = sentOrder 0x28 [1] :: [] ∧
    (withOrder 0x28 [1] State.reset).orders.taken = false ∧ (sentOrder 0x28 [1]).fresh = false := by decide +kernel

/-- R197: an unknown order is refused with REFUSED_UNKNOWN (5). -/
theorem test_unknownOrder : replyResult (after .unknownOrder (withOrder 0x13 [] State.reset)) = 5 := by decide +kernel

/-- R197: MASK without a word and CLIP-OPEN with three are refused with REFUSED_ARGUMENT (3), without data words. -/
theorem test_count_refused :
    (let t := after .mask (withOrder 0x21 [] State.reset)
     replyResult t = 3 ∧ byteAt (lastReply t) 1 = 0) ∧
    (let t := after .clipOpen (withOrder 0x50 [3, 600, 0] State.reset)
     replyResult t = 3 ∧ byteAt (lastReply t) 1 = 0) := by decide +kernel

/-- R209: 241 data words leave as two frames. -/
theorem test_reply_split :
    (sendReply 1 0 0x20 0 (List.replicate 241 0) State.reset).sent.studio.map (fun f => byteAt f.payload 6) = [0, 129] := by
  decide +kernel

/-! ### Tables -/

/-- The reset state with the pointer somewhere. -/
def pointed (p : TablePointer) : State := State.reset.modOrders fun u => { u with pointer := p }

/-- Section 10.4: the first T-WRITE commits ROUTE entry 14 and stages field 0 of entry 15. -/
theorem test_tWrite_route :
    let t := after .tWrite (withOrder 0x11 [200, 8, 200] (pointed ⟨.route, 14, 0, .write⟩))
    t.tables.route.get 14 = ⟨200, 8⟩ ∧ t.orders.pointer = ⟨.route, 15, 1, .write⟩ ∧ t.orders.staged = [200] := by
  decide +kernel

/-- Section 10.4: the second clamps entry 15's length to 64. -/
theorem test_tWrite_clamp :
    let s := (pointed ⟨.route, 15, 1, .write⟩).modOrders fun u => { u with staged := [200] }
    let t := after .tWrite (withOrder 0x11 [80] s)
    t.tables.route.get 15 = ⟨200, 64⟩ ∧ replyResult t = 1 := by decide +kernel

/-- R198: T-POINT to NOTICECONF entry 24 in READ mode takes the entry as committed. -/
theorem test_tPoint :
    (after .tPoint (withOrder 0x10 [6, 24, 0] State.reset)).orders.holding = [1, 0] := by decide +kernel

theorem test_witness_TPointSetsPointer :
    255 < TableId.gain.entries ∧
    (withOrder 0x10 [Word.nat TableId.gain.code, Word.nat 255, Word.nat PointerMode.write.code] State.reset).Heads
      (sentOrder 0x10 [Word.nat TableId.gain.code, Word.nat 255, Word.nat PointerMode.write.code]) [] 0x10
      [Word.nat TableId.gain.code, Word.nat 255, Word.nat PointerMode.write.code] := ⟨by decide, withOrder_heads ..⟩

/-- Table 7, mode 2, and entry 6 of LINECONF. -/
theorem test_witness_TPointSetsPointer_refused :
    (∀ args ∈ [[7, 0, 0], [0, 0, 2], [4, 6, 0]],
      (withOrder 0x10 args State.reset).Heads (sentOrder 0x10 args) [] 0x10 args) ∧
    6 < (7 : Word).toNat ∧ 1 < (2 : Word).toNat ∧
    tableIds[(4 : Word).toNat]? = some .lineConf ∧ TableId.lineConf.entries ≤ (6 : Word).toNat :=
  ⟨fun _ _ => withOrder_heads .., by decide⟩

/-- The last entry of NOTICECONF written whole, and its last field after a staged one; a repeat field of 2 refused;
one field of FILTER's nine; READ mode; and two runs of words. -/
theorem test_witness_TWriteWholeEntry :
    (∀ ws s, (withOrder 0x11 ws s).Heads (sentOrder 0x11 ws) [] 0x11 ws) ∧
    (∀ p ∈ [(0, ([] : List Word), ([1, 1] : List Word)), (1, [1], [1])],
      let s := (pointed ⟨.noticeConf, 24, p.1, .write⟩).modOrders fun u => { u with staged := p.2.1 }
      s.orders.pointer = ⟨.noticeConf, 24, p.1, .write⟩ ∧ s.orders.staged.length = p.1 ∧ p.2.2 ≠ [] ∧
        24 < TableId.noticeConf.entries ∧ p.1 + p.2.2.length = TableId.noticeConf.fields ∧
        (s.tables.commit .noticeConf 24 (s.orders.staged ++ p.2.2)).isSome = true) ∧
    defaultTables.commit .noticeConf 24 [1, 2] = none ∧
    0 + ([1] : List Word).length < TableId.filter.fields ∧ 7 + ([1] : List Word).length < TableId.filter.fields ∧
    (pointed ⟨.filter, 0, 7, .read⟩).orders.pointer.mode = .read ∧
    (([200, 8] : List Word) ≠ [] ∧ ([200] : List Word) ≠ [] ∧
      (pointed ⟨.route, 14, 0, .write⟩).orders.pointer.mode = .write) :=
  ⟨fun _ _ => withOrder_heads .., by decide +kernel⟩

/-- R19: a ROUTE entry with a gain code of 256 and a ramp length of 8 is committed as 255 and 8. -/
theorem test_commit_clamps :
    (defaultTables.commit .route 14 [256, 8]).map (fun p => (p.1.entryWords .route 14, p.2)) = some ([255, 8], true) := by
  decide +kernel

/-- What the fields of a table take and store at the ends of their ranges, and the shapes of the seven tables. -/
theorem test_fieldRules :
    (∀ t ∈ tableIds, ∀ e < t.entries, (t.fieldRules e).length = t.fields) ∧
    (FieldRule.areaTest.takes 0x0FFFFF0FFFFF = true ∧ FieldRule.areaTest.takes 0x100000 = false ∧
      FieldRule.areaTest.takes 0x100000000000 = false) ∧
    (FieldRule.clamps 1 64).stores 0 = 1 ∧ (FieldRule.clamps 1 64).stores 65 = 64 ∧
    (FieldRule.oneOf [2, 4, 8]).takes 3 = false ∧ (FieldRule.below 32).takes 31 = true ∧ (FieldRule.below 32).takes 32 = false := by
  decide +kernel

/-- GAIN entry 0, the last ROUTE entry with a ramp length of 65, and settings below and above their ranges. -/
theorem test_witness_CommitStoresInRange :
    (∃ U, defaultTables.commit .gain 0 [5] = some (U, true)) ∧
    (∃ U, defaultTables.commit .route 59 [1, 65] = some (U, true)) ∧
    (∃ U, defaultTables.commit .lineConf 5 [208, 10] = some (U, false)) ∧
    (∃ U, defaultTables.commit .settings 0 [8] = some (U, false)) ∧
    (∃ U, defaultTables.commit .settings 25 [1] = some (U, false)) ∧
    ∃ U, defaultTables.commit .settings 1 [5001] = some (U, true) :=
  ⟨⟨_, rfl⟩, ⟨_, rfl⟩, ⟨_, rfl⟩, ⟨_, rfl⟩, ⟨_, rfl⟩, ⟨_, rfl⟩⟩

/-- Section 10.4: four words read from ROUTE entry 14 lead to entry 16. -/
theorem test_tRead_route :
    let s := (pointed ⟨.route, 14, 0, .read⟩).modOrders fun u => { u with holding := [200, 8] }
    let t := after .tRead (withOrder 0x12 [4] s)
    t.orders.pointer = ⟨.route, 16, 0, .read⟩ ∧ replyWord 0 t = 200 ∧ replyWord 1 t = 8 := by decide +kernel

/-- WRITE mode; one word of ROUTE's two; the last word of the last entry; a count of 0 taken as 1; and 16 words as 1 and
15. -/
theorem test_witness_TReadGivesHolding :
    (∀ w p, (withOrder 0x12 [w] (pointed p)).Heads (sentOrder 0x12 [w]) [] 0x12 [w]) ∧
    State.reset.orders.pointer.mode = .write ∧
    ((pointed ⟨.route, 59, 0, .read⟩).modOrders fun u => { u with holding := [0, 16] }).orders.holding.length =
      TableId.route.fields ∧
    0 + max 1 (min 16 (0 : Word).toNat) < TableId.route.fields ∧
    1 + max 1 (min 16 (1 : Word).toNat) = TableId.route.fields ∧
    ((16 : Word).toNat = 1 + 15 ∧ (pointed ⟨.route, 59, 0, .read⟩).orders.pointer.mode = .read) :=
  ⟨fun _ _ => withOrder_heads .., by decide +kernel⟩

/-! ### Reports, mask, clock, bypass, dump -/

/-- The reset state with some latches set. -/
def latched (ks : List NoticeKind) (s : State) : State := ks.foldl (fun s k => latch k [] s) s

/-- R203: STATUS clears a latch. -/
theorem test_status :
    (after .status (withOrder 0x20 [] (latched [.ring] State.reset))).notices.latches.get 4 = none := by decide +kernel

/-- R204: COUNTERS clears a counter. -/
theorem test_counters :
    (after .counters (withOrder 0x22 [] (latched [.ring] State.reset))).notices.latched = 0 ∧
      (latched [.ring] State.reset).notices.latched = 1 := by decide +kernel

theorem test_witness_StatusAndCountersReadOut :
    (withOrder 0x20 [] State.reset).Heads (sentOrder 0x20 []) [] 0x20 [] ∧
      (withOrder 0x22 [] State.reset).Heads (sentOrder 0x22 []) [] 0x22 [] := ⟨withOrder_heads .., withOrder_heads ..⟩

/-- R21: MASK answers with the mask before it. -/
theorem test_mask :
    let t := after .mask (withOrder 0x21 [3] (State.reset.modMix fun m => { m with mask := 0x80000 }))
    t.mix.mask = 3 ∧ replyWord 0 t = 0x80000 := by decide +kernel

/-- R121: TIME-SET of an unset clock answers 65,535 and queues a TIME_NOTE. -/
theorem test_timeSet :
    let t := after .timeSet (withOrder 0x26 [10079] State.reset)
    t.intake.minuteOfWeek = some 10079 ∧ replyWord 0 t = 65535 ∧ t.link.queue = [⟨0, .timeNote, [0x27, 0x5F]⟩] := by
  decide +kernel

/-- The reset state with `n` link messages pending. -/
def messages (n : Nat) : State :=
  State.reset.modLink fun l => { l with queue := List.replicate n ⟨0, .timeNote, [0, 0]⟩ }

theorem test_witness_MaskAndTimeSet :
    (∀ w s, (withOrder 0x21 [w] s).Heads (sentOrder 0x21 [w]) [] 0x21 [w]) ∧
    (∀ w s, (withOrder 0x26 [w] s).Heads (sentOrder 0x26 [w]) [] 0x26 [w]) ∧
    (0xFFFFF : Word).toNat < 2 ^ 20 ∧ 2 ^ 20 ≤ (0x100000 : Word).toNat ∧ (10079 : Word).toNat < 10080 ∧
    10080 ≤ (10080 : Word).toNat ∧ (messages 7).link.queue.length < 8 ∧ 8 ≤ (messages 8).link.queue.length :=
  ⟨fun _ _ => withOrder_heads .., fun _ _ => withOrder_heads .., by decide +kernel⟩

/-- The reset state with the delay line changed. -/
def delayed (f : DelayLine → DelayLine) : State := State.reset.modDelay f

/-- The reset state with bypass on. -/
def bypassed : State := State.reset.modAir fun a => { a with bypass := true }

/-- R59: BYPASS on discards the held frames. -/
theorem test_bypass :
    let t := after .bypass (withOrder 0x27 [1] (delayed fun d => { d with held := 3, state := .shrinking }))
    t.air.bypass = true ∧ t.delay.held = 0 ∧ t.delay.readPos = 3 ∧ t.delay.state = .live := by decide +kernel

theorem test_witness_BypassSwitches :
    (∀ w s, (withOrder 0x27 [w] s).Heads (sentOrder 0x27 [w]) [] 0x27 [w]) ∧
    ((0 : Word) = Word.flag State.reset.air.bypass ∧ (1 : Word) = Word.flag bypassed.air.bypass) ∧
    State.reset.air.bypass = false ∧ bypassed.air.bypass = true ∧ bypassed.delay.held = 0 ∧
    bypassed.delay.state = (if bypassed.delay.hold then DelayState.held else .live) ∧ 1 < (2 : Word).toNat :=
  ⟨fun _ _ => withOrder_heads .., by decide +kernel⟩

/-- Section 3.9: DUMP of a SAFE line of 10,000 frames leaves none, BUILDING. -/
theorem test_dump :
    let t := after .dump (withOrder 0x28 []
      (delayed fun d => { d with held := 10000, state := .safe, target := 10000, dumpLength := 10000 }))
    t.delay.held = 0 ∧ t.delay.state = .building ∧ replyWord 0 t = 10000 ∧ t.notices.latches.get 8 = none := by
  decide +kernel

/-- Section 3.9: a second DUMP latches DUMP_SHORT with detail 0. -/
theorem test_dump_short :
    (after .dump (withOrder 0x28 [] (delayed fun d => { d with state := .building, target := 10000 }))).notices.latches.get 8 =
      some [0] := by decide +kernel

theorem test_witness_DumpRemovesNewest : (withOrder 0x28 [] State.reset).Heads (sentOrder 0x28 []) [] 0x28 [] :=
  withOrder_heads ..

/-! ### The two resets -/

/-- R205: power-on reset empties the order queue. -/
theorem test_powerOnReset : (after .powerOnReset (queued 3)).orders.queue = [] := by decide +kernel

/-- R206, R163: RESTART takes an airing off the air, and leaves the flag to the next air frame. -/
theorem test_restart :
    let t := after .restart (withOrder 0x23 [] (State.reset.modAir fun a => { a with state := .message, onAirFlag := true }))
    t.air.state = .idle ∧ t.air.onAirFlag = true := by decide +kernel

theorem test_witness_RestartLeaves : (withOrder 0x23 [] State.reset).Heads (sentOrder 0x23 []) [] 0x23 [] :=
  withOrder_heads ..

/-! ### Caller lines -/

/-- The reset state with line `k` in a state; the shared items agree. -/
def lineIn (k : Fin 6) (x : LineState) (s : State) : State := s.modLine fun l => l.change k x

/-- The incoming slots of a cycle in which every slot is missing. -/
def noSlots : IncomingSlots := Vector.replicate 6 []

/-- R64, R66: 145 bytes with their CRC are a present slot. -/
theorem test_slotPresent (slot : List Byte) (h : slot.length = 145) : slotPresent (slot ++ crc16Bytes slot) = true := by
  have : (crc16Bytes slot).length = 2 := rfl
  simp [slotPresent, List.take_left' h, List.drop_left' h, h, this]

theorem test_witness_LineChangesState :
    State.reset.line.agrees = true ∧ (lineIn 5 .ready (lineIn 0 .onAir State.reset)).line.agrees = true := by
  decide +kernel

/-- R71: a RING event takes an IDLE line to RINGING and latches RING with the line. -/
theorem test_line_ring :
    let t := lineEvent 5 .ring State.reset
    (t.line.line 5).state = .ringing ∧ t.notices.latches.get 4 = some [5] := by decide +kernel

/-- R64, R70: a cycle of missing slots counts six missing frames and sends six slots of 147 bytes. -/
theorem test_lineBusCycle :
    let t := after (.lineBusCycle noSlots) State.reset
    t.line.counters.missingFrame = 6 ∧ t.sent.slots.map List.length = List.replicate 6 147 := by decide +kernel

/-- R77: LINE-ANSWER of line 1 moves the SCREENING line 0 to HOLD. -/
theorem test_lineAnswer :
    let t := after .lineAnswer (withOrder 0x40 [1] (lineIn 1 .ringing (lineIn 0 .screening State.reset)))
    (t.line.line 0).state = .hold ∧ (t.line.line 1).state = .screening ∧ t.line.screening = some 1 := by decide +kernel

/-- R78: LINE-HOLD of the ON_AIR line takes the on-air count to 0. -/
theorem test_lineHold :
    let t := after .lineHold (withOrder 0x41 [2] (lineIn 2 .onAir State.reset))
    (t.line.line 2).state = .hold ∧ t.line.onAir = 0 := by decide +kernel

/-- R79: LINE-READY puts the line at the tail of the ready queue. -/
theorem test_lineReady :
    (after .lineReady (withOrder 0x42 [0] (lineIn 0 .hold (lineIn 3 .ready State.reset)))).line.ready = [3, 0] := by
  decide +kernel

/-- R80: LINE-TAKE without a line takes the head of the ready queue. -/
theorem test_lineTake :
    let t := after .lineTake (withOrder 0x43 [] (lineIn 1 .ready (lineIn 4 .ready State.reset)))
    (t.line.line 4).state = .onAir ∧ t.line.ready = [1] ∧ replyWord 0 t = 4 := by decide +kernel

/-- R80: a third line on air is refused with REFUSED_FULL (4), the capacity being 2. -/
theorem test_lineTake_full :
    replyResult (after .lineTake
      (withOrder 0x43 [5] (lineIn 5 .hold (lineIn 1 .onAir (lineIn 0 .onAir State.reset))))) = 4 := by decide +kernel

/-- R82: LINE-DROP of a RINGING line is refused with REFUSED_STATE (2). -/
theorem test_lineDrop : replyResult (after .lineDrop (withOrder 0x44 [0] (lineIn 0 .ringing State.reset))) = 2 := by
  decide +kernel

/-- R83: a tag above 65,535 is clamped, with DONE_CLAMPED (1). -/
theorem test_lineTag :
    let t := after .lineTag (withOrder 0x45 [0, 65536] State.reset)
    (t.line.line 0).tag = 65535 ∧ replyResult t = 1 := by decide +kernel

theorem test_witness_LineOrdersMoveLines :
    (∀ code, ∀ args ∈ [[5], [0]], ∀ s, (withOrder code args s).Heads (sentOrder code args) [] code args) ∧
    (5 : Word).toNat = (5 : Fin 6).val ∧ (0 : Word).toNat = (0 : Fin 6).val ∧ 5 < (6 : Word).toNat ∧
    (withOrder 0x45 [6, 0] State.reset).Heads (sentOrder 0x45 [6, 0]) [] 0x45 [6, 0] ∧
    (withOrder 0x45 [5, 65536] State.reset).Heads (sentOrder 0x45 [5, 65536]) [] 0x45 [5, 65536] :=
  ⟨fun _ _ _ _ => withOrder_heads .., by decide, by decide, by decide, withOrder_heads .., withOrder_heads ..⟩

theorem test_witness_LineTakePutsOnAir :
    (withOrder 0x43 [5] State.reset).Heads (sentOrder 0x43 [5]) [] 0x43 [5] ∧ (5 : Word).toNat = (5 : Fin 6).val ∧
    (withOrder 0x43 [] State.reset).Heads (sentOrder 0x43 []) [] 0x43 [] :=
  ⟨withOrder_heads .., by decide, withOrder_heads ..⟩

/-- Line 0 RINGING for 59,999 cycles, one short of the default ring limit. -/
def ringing : State :=
  State.reset.modLine fun l => (l.change 0 .ringing).modLine 0 fun r => { r with timeInState := 59999 }

/-- Line 5 in a state for 1,199,999 cycles, one short of the default hold limit of 1,200 seconds. -/
def waiting (x : LineState) : State :=
  State.reset.modLine fun l => (l.change 5 x).modLine 5 fun r => { r with timeInState := 1199999 }

/-- R74: the ring limit counts a missed call. -/
theorem test_ringLimit :
    let t := after (.ringLimitReached 0 noSlots) ringing
    (t.line.line 0).state = .idle ∧ t.line.counters.missed = 1 := by decide +kernel

/-- R75: the hold limit counts a hold timeout. -/
theorem test_holdLimit :
    let t := after (.holdLimitReached 5 noSlots) (waiting .hold)
    (t.line.line 5).state = .idle ∧ t.line.counters.holdTimeout = 1 := by decide +kernel

theorem test_witness_LineLimits :
    slotPresent (noSlots.get 0) = false ∧
    ((ringing.line.line 0).state.afterSlot (noSlots.get 0) 1 = .ringing ∧ (ringing.line.line 0).state = .ringing ∧
      ringing.setting Setting.ringLimit ≤ min ((ringing.line.line 0).timeInState + 1) 4294967295) ∧
    (∀ x ∈ [LineState.hold, .ready],
      ((waiting x).line.line 5).state.afterSlot (noSlots.get 5) 1 = ((waiting x).line.line 5).state ∧
        ((waiting x).line.line 5).state = x ∧
        ((waiting x).tables.lineConf.get 5).holdSeconds * 1000 ≤ min (((waiting x).line.line 5).timeInState + 1) 4294967295) ∧
    (State.reset.line.line 0).state ≠ .ringing ∧ (State.reset.line.line 0).state ≠ .hold ∧
    (State.reset.line.line 0).state ≠ .ready := by decide +kernel

/-! ### Clip store and players -/

/-- The reset state with a slot. -/
def slotIs (n : Fin 32) (t : Slot) (s : State) : State := s.modClips fun c => c.modSlot n fun _ => t

/-- Section 5.5: slot 3 opened with a declared length of 600 frames. -/
def opening : State := slotIs 3 ⟨.filling, .cart, 600, 0, [], 0, none⟩ State.reset

/-- A READY cart of 3 frames in page 7. -/
def cart : Slot := ⟨.ready, .cart, 3, 3, [7], 0, none⟩

/-- R95, section 5.5: three pages are announced for 600 frames. -/
theorem test_clipOpen :
    let t := after .clipOpen (withOrder 0x50 [3, 600] State.reset)
    (t.clips.slots.get 3).state = .filling ∧ (t.clips.slots.get 3).declared = 600 ∧ replyWord 2 t = 3 := by decide +kernel

/-- R101: CLIP-ABORT returns the burst page first, then the chain. -/
theorem test_clipAbort :
    let s := (slotIs 3 ⟨.filling, .cart, 600, 256, [0], 0, none⟩ State.reset).modClips fun c =>
      { c with free := [9], fill := .opened ⟨3, 1, 1, 1, 256, 0, false⟩ }
    (after .clipAbort (withOrder 0x51 [3] s)).clips.free = [9, 1, 0] := by decide +kernel

/-- R102: CLIP-ERASE returns a cart's pages to the tail of the list. -/
theorem test_clipErase :
    let t := after .clipErase (withOrder 0x52 [31] (slotIs 31 cart State.reset))
    (t.clips.slots.get 31).state = .empty ∧ t.clips.free.getLast? = some 7 := by decide +kernel

theorem test_witness_ClipOpenAbortErase :
    (∀ s, ∀ n ∈ [(31 : Word), 32],
      (withOrder 0x50 [n, 0] s).Heads (sentOrder 0x50 [n, 0]) [] 0x50 [n, 0] ∧
      (withOrder 0x51 [n] s).Heads (sentOrder 0x51 [n]) [] 0x51 [n] ∧
      (withOrder 0x52 [n] s).Heads (sentOrder 0x52 [n]) [] 0x52 [n]) ∧
    31 < (32 : Word).toNat ∧ (31 : Word).toNat = (31 : Fin 32).val :=
  ⟨fun _ _ _ => ⟨withOrder_heads .., withOrder_heads .., withOrder_heads ..⟩, by decide⟩

/-- A FILL frame's bytes after its type byte: slot, page index, frame index and silence. -/
def fillBody (n pageIndex index : Nat) : List Byte :=
  [BitVec.ofNat 8 n] ++ beBytes 2 pageIndex ++ [BitVec.ofNat 8 index, 0, 0, 0] ++ List.replicate 288 0

/-- Section 5.5: FILL 3/0, frame 0 opens page 0. -/
theorem test_fill :
    let t := after (.fill (fillBody 3 0 0)) opening
    t.clips.free.length = 767 ∧
      (match t.clips.fill with
        | .opened b => some (b.page, b.nextFrame, b.expected)
        | _ => none) = some (0, 1, 256) := by decide +kernel

/-- Section 5.5, FILL 3/2: the last burst of 600 frames has an expected count of 88. -/
theorem test_fill_expected : expectedCount 600 2 = 88 := by decide

theorem test_witness_FillFramesTaken :
    767 < 768 ∧ (List.replicate 288 (0 : Byte)).length = 288 ∧
    ((slotIs 3 cart State.reset).modClips fun c => { c with channelHeld := true }).clips.channelHeld = true ∧
    opening.clips.channelHeld = false ∧ (opening.clips.slots.get 0).state ≠ .filling ∧
    1 ≠ (opening.clips.slots.get 3).length / 256 ∧ (opening.clips.slots.get 3).state = .filling ∧
    0 = (opening.clips.slots.get 3).length / 256 ∧
    (opening.clips.free ++ ([] : List Nat) = 0 :: (List.range 768).tail ∧
      opening.clips.reserve < (opening.clips.free ++ ([] : List Nat)).length) ∧
    ((opening.modClips fun c => { c with free := List.range 240 }).clips.free ++ ([] : List Nat)).length ≤
      opening.clips.reserve := by decide +kernel

/-- Frames of another length, of slot 32 and of page 768; the next frame of an open burst, and one that is not. -/
theorem test_witness_FillFramesTaken_later :
    ((fillBody 3 0 0).tail.length ≠ 295 ∧ (fillBody 32 0 0).length = 295 ∧ 31 < (byteAt (fillBody 32 0 0) 0).toNat ∧
      768 ≤ (byteAt (fillBody 0 768 0) 1 ++ byteAt (fillBody 0 768 0) 2).toNat) ∧
    (∀ b, b = (⟨3, 0, 0, 255, 256, 0, false⟩ : OpenBurst) →
      b.spoiled = false ∧ b.slot = 3 ∧ b.pageIndex = 0 ∧ b.nextFrame = 255 ∧ 255 < b.expected ∧ b.nextFrame ≠ 1 ∧
        1 ≤ 255 ∧ 255 < 256) ∧
    (opening.modClips fun c => { c with fill := .opened ⟨3, 0, 0, 255, 256, 0, false⟩ }).clips.fill =
      .opened ⟨3, 0, 0, 255, 256, 0, false⟩ ∧
    opening.clips.fill = .nothing := by
  refine ⟨by decide +kernel, ?_, rfl, rfl⟩
  rintro b rfl
  decide

/-- A FILL-CHECK's bytes after its type byte: slot, page index, tag, frame count and CRC. -/
def checkBody (n pageIndex tag count crc : Nat) : List Byte :=
  [BitVec.ofNat 8 n] ++ beBytes 2 pageIndex ++ beBytes 2 tag ++ beBytes 2 count ++ beBytes 2 crc

/-- Section 5.5: the good check of FILL 3/2 makes slot 3 READY. -/
theorem test_fillCheck :
    let s := (slotIs 3 ⟨.filling, .cart, 600, 512, [0, 2], 0, none⟩ State.reset).modClips fun c =>
      { c with fill := .opened ⟨3, 2, 7, 88, 88, 0xABCD, false⟩ }
    let t := after (.fillCheck 1 (checkBody 3 2 5 88 0xABCD)) s
    t.clips.slots.get 3 = ⟨.ready, .cart, 600, 600, [0, 2, 7], 0, none⟩ ∧
      t.notices.latches.get 11 = some [3, 600] := by decide +kernel

/-- R99: a check with another CRC is answered BURST_BAD (11h) and returns the page. -/
theorem test_fillCheck_bad :
    let s := opening.modClips fun c => { c with free := [5], fill := .opened ⟨3, 0, 1, 256, 256, 7, false⟩ }
    let t := after (.fillCheck 1 (checkBody 3 0 5 256 8)) s
    replyResult t = 0x11 ∧ t.clips.free = [5, 1] := by decide +kernel

theorem test_witness_FillCheckJudges :
    65535 < 65536 ∧
    0x04 :: checkBody 3 0 5 256 8 =
      [0x04, BitVec.ofNat 8 (3 : Fin 32).val] ++ beBytes 2 0 ++ beBytes 2 (5 : BitVec 16).toNat ++ beBytes 2 256 ++
        beBytes 2 (8 : BitVec 16).toNat ∧
    (∀ b, b = (⟨3, 0, 1, 256, 256, 8, false⟩ : OpenBurst) →
      b.slot = 3 ∧ b.pageIndex = 0 ∧ b.spoiled = false ∧ 256 = b.nextFrame ∧ 256 = b.expected ∧ (8 : BitVec 16) = b.crc ∧
        ¬(255 = b.nextFrame)) ∧
    (opening.modClips fun c => { c with fill := .opened ⟨3, 0, 1, 256, 256, 8, false⟩ }).clips.fill =
      .opened ⟨3, 0, 1, 256, 256, 8, false⟩ ∧
    (344 + 256 = (⟨.filling, .cart, 600, 344, [0, 2], 0, none⟩ : Slot).declared ∧
      ¬ 0 + 256 = (opening.clips.slots.get 3).declared) ∧
    opening.clips.fill = .nothing := by
  refine ⟨by decide, by decide, ?_, rfl, by decide +kernel, rfl⟩
  rintro b rfl
  decide

/-- A check of another slot, of another page, with a cut and a refused record, and with none; and one of slot 32. -/
theorem test_witness_FillCheckJudges_unmatched :
    (∀ f ∈ [FillRecord.opened ⟨3, 0, 1, 256, 256, 8, false⟩, .opened ⟨4, 1, 1, 256, 256, 8, false⟩, .cut 4 0,
        .refused 4 0 .full, .nothing],
      ∀ b, (opening.modClips fun c => { c with fill := f }).clips.fill = .opened b → b.slot ≠ 4 ∨ b.pageIndex ≠ 0) ∧
    31 < (32 : Byte).toNat := by
  refine ⟨fun f hf b (hb : f = .opened b) => ?_, by decide⟩
  simp only [List.mem_cons, List.not_mem_nil, or_false] at hf
  rcases hf with rfl | rfl | rfl | rfl | rfl <;> cases hb <;> decide

/-- R109: PLAYER-CUE takes a hold. -/
theorem test_playerCue :
    let t := after .playerCue (withOrder 0x58 [1, 4] (slotIs 4 cart State.reset))
    t.players.get 1 = ⟨.cued, some 4, 0⟩ ∧ (t.clips.slots.get 4).useCount = 1 := by decide +kernel

/-- R110: PLAYER-START with a slot stamps it with the frame count. -/
theorem test_playerStart :
    let t := after .playerStart (withOrder 0x59 [0, 4] ((slotIs 4 cart State.reset).modFrameCount fun _ => 50))
    t.players.get 0 = ⟨.running, some 4, 0⟩ ∧ (t.clips.slots.get 4).stamp = some 50 := by decide +kernel

/-- The reset state with player A in a state on slot 4, held once. -/
def playing (x : PlayerState) : State :=
  (slotIs 4 { cart with useCount := 1 } State.reset).modClips (fun c => { c with holds := c.holds.set 0 (some 4) })
    |>.modPlayers fun p => p.set 0 ⟨x, some 4, 2⟩

/-- R111: PLAYER-STOP gives up the hold. -/
theorem test_playerStop :
    let t := after .playerStop (withOrder 0x5A [0] (playing .running))
    t.players.get 0 = ⟨.idle, none, 0⟩ ∧ (t.clips.slots.get 4).useCount = 0 ∧ t.clips.holds.get 0 = none := by
  decide +kernel

/-- R108: an order refused for player word 2 carries the words of the third player, here 255 for its slot. -/
theorem test_player_refused :
    let t := after .playerCue (withOrder 0x58 [2, 4] (slotIs 4 cart State.reset))
    replyResult t = 3 ∧ replyWord 0 t = 2 ∧ replyWord 1 t = 0 ∧ replyWord 2 t = 255 := by decide +kernel

/-- R108: an order that names a player and is refused for its count of argument words carries the player's words. -/
theorem test_player_count_refused :
    (let t := after .playerCue (withOrder 0x58 [0] (playing .running))
     replyResult t = 3 ∧ (List.range 4).map (replyWord · t) = [0, 2, 4, 2]) ∧
    (let t := after .playerStop (withOrder 0x5A [0, 1] (playing .running))
     replyResult t = 3 ∧ (List.range 4).map (replyWord · t) = [0, 2, 4, 2]) := by decide +kernel

/-- Player A at the last frame of slot 4, of an end action, chained to slot 5, with a silent studio frame to use. -/
def ending (x : EndAction) : State :=
  (((slotIs 5 cart (playing .running)).modStudio fun i => { i with expected := some 5, queue :=
    [⟨5, [Frame.silence, Frame.silence], false⟩] }).modTables fun t =>
      { t with slotConf := t.slotConf.set 4 { t.slotConf.get 4 with endAction := x, chain := 5 } })

/-- R113: the CHAIN end begins the target at position 0 and stamps it. -/
theorem test_chain :
    let t := after .mixFrame ((ending .chain).modFrameCount fun _ => 50)
    t.players.get 0 = ⟨.running, some 5, 0⟩ ∧ (t.clips.slots.get 5).stamp = some 50 := by decide +kernel

theorem test_witness_PlayersCueStartStop :
    (∀ s code args, (withOrder code args s).Heads (sentOrder code args) [] code args) ∧
    ((1 : Word).toNat = (1 : Fin 2).val ∧ (31 : Word).toNat = (31 : Fin 32).val ∧ 1 < (2 : Word).toNat ∧ 1 < (3 : Word).toNat) ∧
    (let s := slotIs 31 { cart with useCount := 2 } State.reset
     (s.players.get 1).state ≠ .running ∧ (s.clips.slots.get 31).state = .ready ∧ (s.clips.slots.get 31).kind = .cart ∧
        (s.clips.slots.get 31).useCount < 3) ∧
    (playing .cued).clips.holds.get 0 = some 4 ∧ ((playing .cued).clips.slots.get 4).state = .ready ∧
    ((playing .running).players.get 0).state = .running ∧ (opening.clips.slots.get 3).state ≠ .ready ∧
    ((slotIs 0 { cart with kind := .alert } State.reset).clips.slots.get 0).kind ≠ .cart ∧
    (let s := slotIs 31 { cart with useCount := 3 } State.reset
     s.clips.holds.get 0 ≠ some 31 ∧ 3 ≤ (s.clips.slots.get 31).useCount) ∧
    ((playing .cued).players.get 0).state = .cued ∧ ((playing .cued).players.get 0).slot = some 4 ∧
    (State.reset.players.get 0).state = .idle ∧ (State.reset.players.get 0).state ≠ .cued ∧
    ((playing .cued).players.get 0).state ≠ .idle :=
  ⟨fun _ _ _ => withOrder_heads .., by decide, by decide +kernel⟩

/-- Argument words of every kind that the player orders refuse: none, too few, too many, player 2, slot 32. -/
theorem test_witness_PlayersCueStartStop_refused :
    (∀ s code args, (withOrder code args s).Heads (sentOrder code args) [] code args) ∧
    (∀ ws ∈ [[], [(0 : Word)], [2, 4, 5]], ws.length ≠ 2) ∧
    (∀ ws ∈ [[], [(0 : Word), 1, 5]], ws.length ≠ 1 ∧ ws.length ≠ 2) ∧
    (∃ v more, [(2 : Word), 4] = v :: more ∧ 1 < v.toNat) ∧ ∃ v x, [(1 : Word), 32] = [v, x] ∧ 31 < x.toNat :=
  ⟨fun _ _ _ => withOrder_heads .., by decide, by decide, ⟨2, [4], rfl, by decide⟩, ⟨1, 32, rfl, by decide⟩⟩

/-- Player A short of the end of its clip and at its end, of each end action, and alone in RUNNING; the target of a
chain READY and free, held three times, or not READY; and player B with player A not RUNNING. -/
theorem test_witness_PlayersCueStartStop_end :
    (∀ x ∈ [EndAction.stop, .loop, .chain, .signOff],
      let s := ending x
      (s.players.get 0).state = .running ∧ (s.players.get 0).slot = some 4 ∧ s.clips.holds.get 0 = some 4 ∧
        (s.players.get 0).position + 1 = (s.clips.slots.get 4).length ∧ (s.tables.slotConf.get 4).endAction = x ∧
        (∀ j : Fin 3, j < 2 → j ≠ 0 → (s.players.get j).state ≠ .running) ∧
        s.usedFrame.map ProgrammeFrame.breakFlag = some false ∧ (s.tables.slotConf.get 4).chain = 5) ∧
    ((ending .stop).modPlayers fun p => p.set 0 ⟨.running, some 4, 1⟩).players.get 0 = ⟨.running, some 4, 1⟩ ∧
    (let free (s : State) : Bool := (s.clips.slots.get 5).state = .ready ∧ (s.clips.slots.get 5).kind = .cart ∧
       ((5 : Fin 32) = 4 ∨ (s.clips.slots.get 5).useCount < 3)
     free (ending .chain) = true ∧ free (slotIs 5 { cart with useCount := 3 } (ending .chain)) = false ∧
       free (slotIs 5 Slot.empty (ending .chain)) = false) ∧
    (let s := ((ending .chain).modPlayers fun p => (p.set 0 Player.idle).set 1 ⟨.running, some 4, 2⟩).modClips fun c =>
       { c with holds := (c.holds.set 0 none).set 1 (some 4) }
     (s.players.get 0).state ≠ .running ∧ (s.players.get 1).slot = some 4 ∧ s.clips.holds.get 1 = some 4) := by
  decide +kernel

/-! ### Alert intake -/

/-- Section 6.13: identity (41, 7). -/
def alert : Identity := ⟨41, 7⟩

/-- A header at the ends of its ranges: class 7, severity 3, issued at 10,079, its duration above 1,440. -/
def alertHeader : Header where
  identity := alert
  issuerClass := 7
  event := 0x12C
  severity := 3
  issuedAt := 10079
  duration := 1441
  audio := false
  areas := [0xFFFFF]
  test := false

/-- A record of `n` words with a verdict word. -/
def record (i : Identity) (verdict : StoreWord) (n : Nat) : AlertRecord :=
  ⟨([i.issuer ++ i.serial, 0, 0, 0, verdict, audioWord 255 0] ++ List.replicate 186 0).take n, false, false, 0, false, 5, true, false⟩

/-- The reset state with records in the queue. -/
def holding (rs : List AlertRecord) : State := State.reset.modIntake fun a => { a with queue := rs }

/-- The reset state with alert intake changed. -/
def intakeIs (f : AlertIntake → AlertIntake) : State := State.reset.modIntake f

/-- The filter table of section 6.6, with DEFAULT_VERDICT DISCARD. -/
def exampleIntake : AlertIntake :=
  { AlertIntake.reset with
    defaultVerdict := .discard
    filter := ((AlertIntake.reset.filter.set 0 ⟨true, false, .discard, 0, .immediate, 0xFA0, 0xFFF, 0, 0, 0, 0⟩).set 1
      ⟨true, true, .accept, 3, .immediate, 0, 0, 0x12340, 0xFFFFF, 0x12300, 0xFFF00⟩).set 2
      ⟨true, false, .accept, 1, .nextBreak, 0x100, 0xF00, 0, 0, 0, 0⟩ }

/-- Section 6.6: what decides the headers a, b, c and d. -/
theorem test_filter :
    [((0xFA0 : BitVec 12), [(0x12340 : BitVec 20)]), (0x00A, [0x55555, 0x12377]), (0x12C, [0x55555]), (0x014, [0x55555])].map
      (fun p => exampleIntake.filterDecision { alertHeader with event := p.1, areas := p.2 }) =
    [⟨.discard, .immediate, 0, 0⟩, ⟨.accept, .immediate, 3, 1⟩, ⟨.accept, .nextBreak, 1, 2⟩,
      ⟨.discard, .immediate, 0, 255⟩] := by decide +kernel

/-- Section 6.6: the minute of week is 30 and issued-at 10,050: a duration of 60 is stale, one of 90 leaves 30. -/
theorem test_remaining :
    ({ AlertIntake.reset with minuteOfWeek := some 30 } : AlertIntake).remainingOf
        { alertHeader with issuedAt := 10050, duration := 60 } = 0 ∧
      ({ AlertIntake.reset with minuteOfWeek := some 30 } : AlertIntake).remainingOf
        { alertHeader with issuedAt := 10050, duration := 90 } = 30 := by decide

/-- R122, R129: an accepted header of one area is stored as 7 words. -/
theorem test_header :
    let t := after (.header (recordRest 1 alertHeader.body)) State.reset
    t.intake.identities = [alert] ∧ t.intake.counters.accepted = 1 ∧
      t.intake.queue.map (fun r => (r.words.length, r.remaining)) = [(7, 1440)] := by decide +kernel

/-- R123: a body that ends after its kind byte is an intake error. -/
theorem test_header_error : (after (.header []) State.reset).intake.counters.error = 1 := by decide +kernel

theorem alertHeader_sound : alertHeader.Sound := ⟨by decide, by decide, by decide, by decide, by decide⟩

theorem test_witness_HeaderFieldsTaken :
    (alertHeader.Sound ∧ alertHeader.test = false) ∧ recordChecked [1] = false ∧
    ∀ h ∈ [{ alertHeader with issuerClass := 8 }, { alertHeader with severity := 4 },
        { alertHeader with issuedAt := 10080 }, { alertHeader with duration := 0 }, { alertHeader with areas := [] },
        { alertHeader with areas := List.replicate 13 0 }],
      recordRest 1 h.body = recordRest 1 h.body ∧ h.areas.length ≤ 80 ∧ h.issuerClass < 256 ∧ h.severity < 256 ∧
        h.issuedAt < 65536 ∧ h.duration < 65536 ∧
        (7 < h.issuerClass ∨ 3 < h.severity ∨ 10080 ≤ h.issuedAt ∨ h.duration = 0 ∨ h.areas = [] ∨
          12 < h.areas.length) := by
  refine ⟨⟨alertHeader_sound, rfl⟩, by decide, fun h hh => ⟨rfl, ?_⟩⟩
  revert h
  decide

/-- Stale at an age of its duration, and one minute short of it known in the table, known in the queue, or discarded. -/
theorem test_witness_HeaderEndsEarly :
    (alertHeader.Sound ∧ alertHeader.test = false) ∧
    (intakeIs fun a => { a with minuteOfWeek := some 1439 }).intake.remainingOf alertHeader.capped = 0 ∧
    (∀ f ∈ [fun a : AlertIntake => { a with recent := a.recent.set 15 (some ⟨alert, 1⟩) },
        fun a => { a with queue := [record alert 0 7] }],
      0 < ({ f AlertIntake.reset with minuteOfWeek := some 1438 } : AlertIntake).remainingOf alertHeader.capped ∧
        ((∃ n e, (f AlertIntake.reset).recent.get n = some e ∧ e.identity = alertHeader.identity) ∨
          alertHeader.identity ∈ (f AlertIntake.reset).identities)) ∧
    (let a : AlertIntake := { AlertIntake.reset with minuteOfWeek := some 1438, defaultVerdict := .discard }
     0 < a.remainingOf alertHeader.capped ∧
      ¬((∃ n e, a.recent.get n = some e ∧ e.identity = alertHeader.identity) ∨ alertHeader.identity ∈ a.identities) ∧
      (a.filterDecision alertHeader.capped).verdict = .discard) := by
  refine ⟨⟨alertHeader_sound, rfl⟩, by decide +kernel, ?_, by decide +kernel, ?_, by decide +kernel⟩
  · intro f hf
    rcases List.mem_cons.mp hf with rfl | hf
    · exact ⟨by decide +kernel, .inl ⟨15, ⟨alert, 1⟩, by decide +kernel, rfl⟩⟩
    · rcases List.mem_singleton.mp hf with rfl
      exact ⟨by decide +kernel, .inr (by decide +kernel)⟩
  · rintro (⟨n, e, h, -⟩ | h)
    · revert h; revert n; simp [AlertIntake.reset, Vector.get_eq_getElem]
    · revert h; decide +kernel

/-- The recent-alert table empty, with its last entry empty, and full, with equal and different remaining minutes. -/
theorem test_witness_HeaderEndsEarly_place :
    (∀ p ∈ [((Vector.replicate 16 none : Vector (Option RecentEntry) 16), (0 : Fin 16)),
        ((Vector.replicate 16 (some ⟨alert, 5⟩)).set 15 none, 15)],
      p.1.get p.2 = none ∧ ∀ j, j < p.2 → p.1.get j ≠ none) ∧
    ∀ p ∈ [((Vector.replicate 16 (some ⟨alert, 5⟩) : Vector (Option RecentEntry) 16), (0 : Fin 16)),
        ((Vector.replicate 16 (some ⟨alert, 5⟩)).set 15 (some ⟨alert, 4⟩), 15)],
      (∀ j, p.1.get j ≠ none) ∧
        ∀ j, ((p.1.get p.2).map RecentEntry.remaining).getD 0 < ((p.1.get j).map RecentEntry.remaining).getD 0 ∨
          (((p.1.get p.2).map RecentEntry.remaining).getD 0 = ((p.1.get j).map RecentEntry.remaining).getD 0 ∧
            p.2 ≤ j) := by decide +kernel

/-- An entry hits a header where the hypotheses of `FilterLowestDecides` say so. -/
theorem test_filter_hits (e : FilterEntry) (h : Header) :
    e.hits h = true ↔
      e.enable = true ∧ h.event &&& e.eventMask = e.eventValue &&& e.eventMask ∧
        ∃ x ∈ h.areas, x &&& e.areaMask1 = e.areaValue1 &&& e.areaMask1 ∨
          (e.paired = true ∧ x &&& e.areaMask2 = e.areaValue2 &&& e.areaMask2) := by
  simp only [FilterEntry.hits, masked, Bool.and_eq_true, Bool.or_eq_true, decide_eq_true_eq, List.any_eq_true, and_assoc]
  refine and_congr_right fun _ => and_congr_right fun _ => ⟨?_, ?_⟩
  · rintro (⟨x, hx, h1⟩ | ⟨hp, x, hx, h2⟩)
    · exact ⟨x, hx, .inl h1⟩
    · exact ⟨x, hx, .inr ⟨hp, h2⟩⟩
  · rintro ⟨x, hx, h1 | ⟨hp, h2⟩⟩
    · exact .inl ⟨x, hx, h1⟩
    · exact .inr ⟨hp, x, hx, h2⟩

/-- Entry 2 of section 6.6 hits header c, and no entry before it; no entry hits header d. -/
theorem test_witness_FilterLowestDecides :
    ((exampleIntake.filter.get 2).hits { alertHeader with event := 0x12C, areas := [0x55555] } = true ∧
      ∀ j : Fin 16, j < 2 →
        ¬(exampleIntake.filter.get j).hits { alertHeader with event := 0x12C, areas := [0x55555] } = true) ∧
    ∀ k : Fin 16, ¬(exampleIntake.filter.get k).hits { alertHeader with event := 0x014, areas := [0x55555] } = true := by
  decide +kernel

/-- A whole record that just fits, with audio and the last slot EMPTY; and the torn and lost headers of section 6.12. -/
theorem test_witness_HeaderStored :
    (let h := { alertHeader with audio := true }
     let s := (holding [record ⟨1, 1⟩ 0 185]).modClips fun c =>
       { c with slots := (Vector.replicate 32 cart).set 31 Slot.empty }
     h.test = false ∧ 0 < s.intake.remainingOf h.capped ∧ s.intake.knows h.identity = false ∧
       (s.intake.filterDecision h.capped).verdict = .accept ∧
       storedWords s.intake.queue + (6 + h.areas.length) ≤ 192 ∧ h.audio = true ∧
       (s.clips.slots.get 31).state = .empty ∧ s.intake.recording.slot ≠ some 31 ∧
       ∀ m : Fin 32, m < 31 → (s.clips.slots.get m).state ≠ .empty) ∧
    (∀ p ∈ [(12, 8), (0, 1), (6, 1)],
      let h := { alertHeader with areas := List.replicate p.2 0 }
      let s := holding [record ⟨1, 1⟩ 0 (192 - p.1)]
      h.test = false ∧ 0 < s.intake.remainingOf h.capped ∧ s.intake.knows h.identity = false ∧
        (s.intake.filterDecision h.capped).verdict = .accept ∧
        192 - storedWords s.intake.queue < 6 + h.areas.length) ∧
    ∀ n : Nat, 1 ≤ n → n ≤ 12 → ({ alertHeader with audio := true, areas := List.replicate n 0 } : Header).Sound := by
  refine ⟨by decide +kernel, by decide +kernel, fun n h1 h2 => ?_⟩
  obtain ⟨h3, h4, h5, h6, -⟩ := alertHeader_sound
  exact ⟨h3, h4, h5, h6, by simpa using ⟨h1, h2⟩⟩

/-- The reset state with a default air mode. -/
def defaulting (x : AirMode) : State := intakeIs fun a => { a with defaultMode := x }

/-- R149, R151: an IMMEDIATE record accepted in IDLE is committed at once; a NEXT_BREAK one waits. -/
theorem test_header_selects :
    (let t := after (.header (recordRest 1 alertHeader.body)) (defaulting .immediate)
     t.air.state = .leadIn ∧ t.air.airing = some alert ∧ t.intake.queue.map AlertRecord.onAir = [true]) ∧
    (let t := after (.header (recordRest 1 alertHeader.body)) (defaulting .nextBreak)
     t.air.state = .waitBreak ∧ t.intake.queue.map AlertRecord.onAir = [false]) := by decide +kernel

/-- An air stage that is IDLE with no record eligible, a header of each air mode, and a link about to sleep. -/
theorem test_witness_HeaderStored_selects :
    (∀ x ∈ [AirMode.immediate, .nextBreak, .logOnly],
      let s := defaulting x
      s.air.state = .idle ∧ chosenRecord s = none ∧ alertHeader.identity ∉ s.air.waitSet ∧ s.link.mode ≠ .sleepPending ∧
        0 < s.intake.remainingOf alertHeader.capped ∧ s.intake.knows alertHeader.identity = false ∧
        (s.intake.filterDecision alertHeader.capped).verdict = .accept ∧
        (s.intake.filterDecision alertHeader.capped).airMode = x ∧ 0 < s.air.breakDeadline ∧
        storedWords s.intake.queue + (6 + alertHeader.areas.length) ≤ 192) ∧
    (let s := pendingSleep .requesting id
     s.link.mode = .sleepPending ∧ s.air.waitSet = [] ∧ s.air.state = .idle ∧ chosenRecord s = none) := by
  decide +kernel

/-- No slot EMPTY: two carts, of which slot 9 was never started, among slots FILLING. -/
def crowded (s : State) : State :=
  s.modClips fun c => { c with
    slots := ((Vector.replicate 32 ⟨.filling, .cart, 600, 0, [], 0, none⟩).set 5 { cart with stamp := some 0 }).set 9 cart }

/-- An accepted header with audio and no slot EMPTY: with a victim, a burst in flight or none, and without a victim;
and a negotiation. -/
theorem test_witness_HeaderStored_evicts :
    (let h := { alertHeader with audio := true }
     ∀ s ∈ [crowded State.reset, crowded (pendingSleep .requesting id)],
       h.test = false ∧ 0 < s.intake.remainingOf h.capped ∧ s.intake.knows h.identity = false ∧
         (s.intake.filterDecision h.capped).verdict = .accept ∧ (s.intake.filterDecision h.capped).airMode ≠ .logOnly ∧
         storedWords s.intake.queue + (6 + h.areas.length) ≤ 192 ∧ h.audio = true ∧
         (∀ m, (s.clips.slots.get m).state ≠ .empty) ∧ s.intake.recording.slot ≠ some 9) ∧
    (crowded State.reset).clips.Evicts (crowded State.reset).frameCount 9 ∧
    (let s := slotIs 5 opening.clips.slots[3] (slotIs 9 { cart with useCount := 1 } (crowded State.reset))
     (∀ m, (s.clips.slots.get m).state ≠ .empty) ∧ (∀ n, ¬s.clips.evictable n) ∧ s.intake.recording.state = .none) ∧
    (pendingSleep .requesting id).link.mode = .sleepPending := by
  unfold ClipStore.Evicts ClipStore.evictable
  decide +kernel

/-- R106: the cart that was never started is evicted, its page going to the list, and a burst's page after it. -/
theorem test_eviction :
    let s := (crowded State.reset).modClips fun c => { c with free := [1], fill := .opened ⟨3, 0, 2, 1, 256, 0, false⟩ }
    let t := after (.header (recordRest 1 { alertHeader with audio := true }.body)) s
    (t.clips.slots.get 9).state = .recording ∧ t.clips.free = [1, 7, 2] ∧ t.notices.latches.get 12 = some [9, 1] := by
  decide +kernel

/-- The argument words of an ALERT-TEST for a header. -/
def testWords (h : Header) : List Word :=
  [h.identity.word, Word.nat (h.event.toNat + h.issuerClass * 2 ^ 16 + h.severity * 2 ^ 24),
    Word.nat (h.issuedAt + h.duration * 2 ^ 16)] ++ h.areas.map fun a => a.setWidth 48

/-- R139: an ALERT-TEST of a duration above 1,440 is clamped (1), its record flagged as a test (bit 14 of word 5). -/
theorem test_alertTest :
    let t := after .alertTest (withOrder 0x63 (testWords { alertHeader with test := true }) State.reset)
    replyResult t = 1 ∧ t.intake.queue.map (fun r => r.flag 14) = [true] := by decide +kernel

theorem test_witness_AlertTestTaken :
    (∀ ws s, (withOrder 0x63 ws s).Heads (sentOrder 0x63 ws) [] 0x63 ws) ∧
    ((List.replicate 3 (0 : Word)).length < 4 ∧ 15 < (List.replicate 16 (0 : Word)).length) ∧
    ({ alertHeader with test := true } : Header).Sound ∧ alertHeader.audio = false ∧
    (intakeIs fun a => { a with minuteOfWeek := some 1439 }).intake.remainingOf alertHeader.capped = 0 ∧
    (0 < State.reset.intake.remainingOf alertHeader.capped ∧ (holding [record alert 0 7]).intake.knows alert = true ∧
      State.reset.intake.knows alert = false ∧ (exampleIntake.filterDecision { alertHeader with event := 0x014 }).verdict = .discard ∧
      exampleIntake.knows alert = false ∧ (State.reset.intake.filterDecision alertHeader.capped).verdict = .accept) ∧
    storedWords (holding [record ⟨1, 1⟩ 0 185]).intake.queue + (6 + alertHeader.areas.length) ≤ 192 ∧
    192 < storedWords (holding [record ⟨1, 1⟩ 0 186]).intake.queue + (6 + alertHeader.areas.length) :=
  ⟨fun _ _ => withOrder_heads .., by decide, ⟨by decide, by decide, by decide, by decide, by decide⟩, rfl,
    by decide +kernel, by decide +kernel, by decide +kernel, by decide +kernel⟩

/-- The state with the alert record in the queue and its recording in a state, at a position and a begin wait, in slot 0
with page 9 for its chain. -/
def recordingIs (x : RecordingState) (position beginWait : Nat) (fresh : Bool) : State :=
  let s := (holding [record alert 0 7]).modIntake fun a =>
    { a with recording := ⟨x, some alert, some 0, position, beginWait, fresh⟩ }
  (slotIs 0 ⟨.recording, .alert, 60000, position, [9], 0, none⟩ s).modClips fun c => { c with channelHeld := true }

/-- Section 6.13: AUDIO-BEGIN takes the recording to WRITING. -/
theorem test_audioBegin :
    (after (.audioBegin (recordRest 2 alert.body)) (recordingIs .waiting 0 40 false)).intake.recording.state = .writing := by
  decide +kernel

/-- Section 6.13: AUDIO-END leaves the slot ALERT_HELD with its length. -/
theorem test_audioEnd :
    let t := after (.audioEnd (recordRest 3 alert.body)) (recordingIs .writing 12000 40 false)
    (t.clips.slots.get 0).state = .alertHeld ∧ (t.clips.slots.get 0).length = 12000 ∧ t.intake.recording.state = .none := by
  decide +kernel

/-- R119: a whole record of unknown kind is counted as an intake error. -/
theorem test_alertRecordDiscard :
    (after (.alertRecordDiscard [9, 0, 0, 0]) State.reset).intake.counters.error = 1 := by decide +kernel

/-- R210: an incomplete record is counted as an intake error. -/
theorem test_incompleteRecord : (after (.incompleteRecord [1]) State.reset).intake.counters.error = 1 := by decide +kernel

theorem test_witness_AudioRecordsSteer :
    ((recordingIs .waiting 0 0 false).intake.recording.state = .waiting ∧
      (recordingIs .waiting 0 0 false).intake.recording.identity = some alert ∧
      (recordingIs .waiting 0 0 false).intake.recording.slot = some 0) ∧
    (recordingIs .writing 0 0 false).intake.recording.state = .writing ∧ State.reset.intake.recording.state = .none ∧
    (recordingIs .writing 0 0 false).intake.recording.identity ≠ some ⟨1, 1⟩ ∧
    recordChecked [] = false ∧ (∀ b ∈ ([4, 0, 0, 0] : List Byte).head?, b ∉ [1, 2, 3]) ∧
    (([1, 255] ++ List.replicate 256 0 : List Byte) ≠ [] ∧
      ∀ n ∈ ([1, 255] ++ List.replicate 256 0 : List Byte)[1]?,
        ([1, 255] ++ List.replicate 256 0 : List Byte).length < n.toNat + 4) ∧
    recordChecked (2 :: []) = false ∧ recordChecked (3 :: []) = false := by decide +kernel

/-- A frame of the audio input. -/
def input (x : BitVec 24) : AudioInput := ⟨Vector.replicate 48 x, Vector.replicate 48 x⟩

/-- R105, R134: the first frame of a recording takes a page and is written to its first block. -/
theorem test_alertFrame :
    let s := (recordingIs .writing 0 40 false).modClips fun c => c.modSlot 0 fun t => { t with chain := [] }
    let t := after (.alertFrame (input 5)) s
    t.clips.slots.get 0 = ⟨.recording, .alert, 60000, 1, [0], 0, none⟩ ∧ t.intake.recording.position = 1 ∧
      (Memory.read StereoFrame.silence t.clips.region 0).left.get 47 = 5 := by decide +kernel

/-- R134: the 10,000th frame of waiting ends the recording with cause 3. -/
theorem test_beginWait :
    (after (.beginWaitReached (input 0)) (recordingIs .waiting 0 9999 false)).notices.latches.get 17 =
      some [alert.word, 0, 3] := by decide +kernel

/-- R134: the 60,000th frame ends the recording with cause 0. -/
theorem test_recordingLimit :
    (after (.recordingLimit (input 0)) (recordingIs .writing 59999 0 false)).notices.latches.get 17 =
      some [alert.word, 60000, 0] := by decide +kernel

theorem test_witness_AlertFrameRecords :
    (intakeIs fun a => { a with minuteTimer := 59998 }).intake.minuteTimer + 1 < 60000 ∧
    (State.reset.intake.recording.state = .none ∧ (recordingIs .waiting 0 9998 false).intake.recording.state = .waiting ∧
      (recordingIs .waiting 0 9998 false).intake.recording.beginWait + 1 < 10000 ∧
      (recordingIs .writing 0 0 true).intake.recording.fresh = true) ∧
    (∀ p ∈ [0, 59998],
      let s := recordingIs .writing p 0 false
      let r := s.intake.recording
      r.state = .writing ∧ r.fresh = false ∧ r.slot = some 0 ∧ r.identity = some alert ∧ r.position = p ∧ p + 1 < 60000 ∧
        (p % 256 = 0 → s.clips.free ≠ [])) ∧
    10000 ≤ (recordingIs .waiting 0 9999 false).intake.recording.beginWait + 1 ∧
    (recordingIs .writing 59999 0 false).intake.recording.position = 59999 ∧
    (recordingIs .writing 59999 0 false).intake.recording.state ≠ .waiting ∧
    (recordingIs .waiting 0 9999 false).intake.recording.state ≠ .writing := by decide +kernel

/-- A page due with an empty list: slot 9's page by eviction, or none to evict. -/
theorem test_witness_AlertFrameRecords_page :
    (let s := (slotIs 9 cart (recordingIs .writing 256 0 false)).modClips fun c => { c with free := [] }
     let r := s.intake.recording
     s.intake.minuteTimer + 1 < 60000 ∧ r.state = .writing ∧ r.fresh = false ∧ r.slot = some 0 ∧
       r.identity = some alert ∧ r.position + 1 < 60000 ∧ r.position % 256 = 0 ∧ s.clips.free = [] ∧
       s.clips.Evicts s.frameCount 9 ∧ (9 : Fin 32) ≠ 0 ∧ (s.clips.slots.get 9).chain = 7 :: []) ∧
    (let s := (recordingIs .writing 0 0 false).modClips fun c => { c with free := [] }
     s.intake.recording.position % 256 = 0 ∧ s.clips.free = [] ∧ ∀ m, ¬s.clips.evictable m) := by
  unfold ClipStore.Evicts ClipStore.evictable
  decide +kernel

/-- R105: with no page and no victim the recording ends with cause 2. -/
theorem test_alertFrame_no_page :
    (after (.alertFrame (input 0)) ((recordingIs .writing 256 0 false).modClips fun c =>
      { c with free := [] })).notices.latches.get 17 = some [alert.word, 256, 2] := by decide +kernel

/-- R120: the last minute of the week is followed by minute 0. -/
theorem test_minuteEvent :
    (after (.minuteEvent (input 0)) (intakeIs fun a =>
      { a with minuteOfWeek := some 10079, minuteTimer := 59999 })).intake.minuteOfWeek = some 0 := by decide +kernel

theorem test_witness_MinuteEventCountsDown :
    (intakeIs fun a => { a with minuteTimer := 59998 }).intake.minuteTimer + 1 < 60000 ∧
    60000 ≤ (intakeIs fun a => { a with minuteTimer := 59999 }).intake.minuteTimer + 1 ∧
    (holding [record alert 0 7, record ⟨1, 1⟩ 0 7]).intake.identities.Nodup := by decide +kernel

/-- R138: ALERT-LIST of an index at the number of records is refused (2) with that number. -/
theorem test_alertList :
    let t := after .alertList (withOrder 0x60 [1] (holding [record alert 0 7]))
    replyResult t = 2 ∧ replyWord 0 t = 1 := by decide +kernel

/-- R137: ALERT-RELEASE takes the record out of the queue. -/
theorem test_alertRelease :
    (after .alertRelease (withOrder 0x61 [alert.word] (holding [record alert 0 7]))).intake.queue = [] := by decide +kernel

/-- R138: an age that reaches 4,294,967,295 is held there. -/
theorem test_age_held :
    let t := after .framePeriod (holding [{ record alert 0 7 with stamp := 2 }])
    t.intake.queue.map AlertRecord.ageHeld = [true] ∧
      (after .framePeriod (holding [{ record alert 0 7 with stamp := 3 }])).intake.queue.map AlertRecord.ageHeld = [false] := by
  decide +kernel

theorem test_witness_AlertListAndRelease :
    (∀ code w s, (withOrder code [w] s).Heads (sentOrder code [w]) [] code [w]) ∧
    (let s := holding (List.replicate 192 (record alert 0 1))
     s.intake.queue[(191 : Word).toNat]? = some (record alert 0 1) ∧ (191 : Word).toNat < 192 ∧
       (record alert 0 1).words.length ≤ 192) ∧
    (State.reset.intake.queue.length ≤ (191 : Word).toNat ∧ 192 ≤ (192 : Word).toNat ∧
      2 ^ 32 ≤ (0x100000000 : Word).toNat) ∧
    alert ∉ State.reset.intake.identities ∧
    (∀ on ∈ [true, false],
      let r := { record alert 0 7 with onAir := on }
      (holding [r]).intake.find alert = some r ∧ r.onAir = on) ∧
    (let s := recordingIs .writing 5 0 false
     ((holding [record alert 0 7]).intake.find alert).bind AlertRecord.slot = none ∧
       (s.clips.slots.get 0).state ∈ [SlotState.recording, .alertHeld]) :=
  ⟨fun _ _ _ => withOrder_heads .., by decide +kernel⟩

/-! ### Alert airing -/

/-- Verdict words: the air mode in bits 0..1, the priority in bits 4..5. -/
def verdict (mode : AirMode) (priority : Nat) : StoreWord := BitVec.ofNat 32 (mode.code + priority * 16)

/-- The reset state with the air stage changed, and one alert record, of a verdict, in the queue. -/
def airing (v : StoreWord) (f : AirStage → AirStage) : State := (holding [record alert v 7]).modAir f

/-- R148: of priorities 1, 2, 2 and 3 (LOG_ONLY) the second is chosen. -/
theorem test_choice :
    (chosenRecord (holding [record ⟨1, 1⟩ (verdict .immediate 1) 7, record ⟨2, 2⟩ (verdict .nextBreak 2) 7,
      record ⟨3, 3⟩ (verdict .immediate 2) 7, record ⟨4, 4⟩ (verdict .logOnly 3) 7])).map AlertRecord.identity =
      some ⟨2, 2⟩ := by decide +kernel

theorem test_witness_ChoiceIsOldestHighest :
    chosenRecord (holding [record alert (verdict .immediate 3) 7]) = some (record alert (verdict .immediate 3) 7) ∧
      chosenRecord (holding [record alert (verdict .logOnly 3) 7]) = none := by decide +kernel

/-- R159: ALERT-CANCEL of the record on air in LEAD_IN at step 4 goes to LEAD_OUT at step 12. -/
theorem test_alertCancel :
    let s := airing 0 fun a => { a with state := .leadIn, step := 4, airing := some alert, present := true }
    let t := after .alertCancel (withOrder 0x62 [alert.word] s)
    t.air.state = .leadOut ∧ t.air.step = 12 ∧ t.intake.queue = [] := by decide +kernel

theorem test_witness_AlertCancelEnds :
    (∀ w s, (withOrder 0x62 [w] s).Heads (sentOrder 0x62 [w]) [] 0x62 [w]) ∧ 2 ^ 32 ≤ (0x100000000 : Word).toNat ∧
    alert ∉ State.reset.intake.identities ∧
    (∀ x ∈ [AirState.attention, .message, .leadIn, .closing, .leadOut],
      let s := airing 0 fun a => { a with state := x, step := 1, airing := some alert, present := true }
      alert ∈ s.intake.identities ∧ s.air.present = true ∧ s.air.airing = some alert ∧ s.air.state = x ∧ 0 < s.air.step) ∧
    (∀ x ∈ [AirState.leadIn, .waitLink],
      let s := airing 0 fun a => { a with state := x }
      s.air.present = false ∧ s.air.airing ≠ some alert ∧ (s.air.state.onAir = true ∨ s.air.state = .waitLink)) :=
  ⟨fun _ _ => withOrder_heads .., by decide +kernel⟩

/-- The one record of the queue waiting or on air before its first frame, or the air stage IDLE. -/
theorem test_witness_AlertCancelEnds_idle :
    ∀ x ∈ [AirState.idle, .waitBreak, .waitLink, .leadIn],
      let s := airing 0 fun a => { a with state := x, airing := some alert, present := x = .waitLink ∨ x = .leadIn }
      alert ∈ s.intake.identities ∧ (∀ q ∈ s.intake.queue, q.identity ≠ alert → s.air.eligible q = false) ∧
        (s.air.state = .idle ∨ s.air.state = .waitBreak ∨
          (s.air.present = true ∧ s.air.airing = some alert ∧
            (s.air.state = .waitLink ∨ (s.air.state = .leadIn ∧ s.air.step = 0)))) := by decide +kernel

/-- R150: BREAK commits the waiting record; the link is in WAKING, and LEAD_IN begins. -/
theorem test_break :
    let s := airing (verdict .nextBreak 0) fun a => { a with state := .waitBreak, airing := some alert }
    let t := after .breakOrder (withOrder 0x64 [] s)
    t.air.state = .leadIn ∧ t.air.present = true ∧ t.intake.queue.map AlertRecord.onAir = [true] := by decide +kernel

theorem test_witness_BreakCommits :
    (∀ s, (withOrder 0x64 [] s).Heads (sentOrder 0x64 []) [] 0x64 []) ∧ State.reset.air.state ≠ .waitBreak ∧
    (airing 0 fun a => { a with state := .waitBreak, airing := some alert }).air.state = .waitBreak ∧
    (airing 0 fun a => { a with state := .waitBreak, airing := some alert }).air.airing = some alert :=
  ⟨fun _ => withOrder_heads .., by decide +kernel⟩

/-! ### Studio input and mix engine -/

/-- A PROGRAMME frame of two silent channels. -/
def programme (seq : BitVec 16) : ProgrammeFrame := ⟨seq, [Frame.silence, Frame.silence], false⟩

/-- The reset state with the studio input expecting a sequence and holding frames. -/
def expecting (e : BitVec 16) (q : List (BitVec 16)) : State :=
  State.reset.modStudio fun i => { i with expected := some e, queue := q.map programme }

/-- The sequences held, E, and the resync, late and duplicate counters. -/
def jitter (s : State) : List (BitVec 16) × Option (BitVec 16) × Nat × Nat × Nat :=
  (s.studio.queue.map ProgrammeFrame.seq, s.studio.expected, s.studio.counters.resync, s.studio.counters.late,
    s.studio.counters.duplicate)

/-- Section 1.10: arrivals in window, late, duplicate, and resync. -/
theorem test_programme :
    (jitter (after (.programme (programme 100).body) (expecting 100 [101])) = ([100, 101], some 100, 0, 0, 0) ∧
      jitter (after (.programme (programme 100).body) (expecting 101 [101])) = ([101], some 101, 0, 1, 0)) ∧
    (jitter (after (.programme (programme 101).body) (expecting 101 [101])) = ([101], some 101, 0, 0, 1) ∧
      jitter (after (.programme (programme 200).body) (expecting 105 [])) = ([200], some 200, 1, 0, 0)) := by decide +kernel

/-- Section 1.11: D = 59,935 with studio-lost set is a resync. -/
theorem test_programme_lost :
    jitter (after (.programme (programme 0).body) ((expecting 5601 []).modStudio fun i => { i with lost := true })) =
      ([0], some 0, 1, 0, 0) := by decide +kernel

theorem test_witness_ProgrammeArrivalRows :
    ((programme 100).channels.length = State.reset.studio.width ∧ State.reset.studio.width ∈ [2, 4, 8] ∧
      (∀ c ∈ (programme 100).channels, ∀ i : Fin 48, -8388608 ≤ c.get i ∧ c.get i ≤ 8388607) ∧
      State.reset.studio.expected = none) ∧
    (((103 : BitVec 16) - 100).toNat ≤ 3 ∧ (∃ g ∈ (expecting 100 [103]).studio.queue, g.seq = (programme 103).seq) ∧
      ∀ g ∈ (expecting 100 [101]).studio.queue, g.seq ≠ (programme 103).seq) ∧
    (4 ≤ ((104 : BitVec 16) - 100).toNat ∧ ((32868 : BitVec 16) - 100).toNat ≤ 32768 ∧
      32768 < ((32869 : BitVec 16) - 100).toNat ∧ (expecting 100 []).studio.lost = false ∧
      ((expecting 100 []).modStudio fun i => { i with lost := true }).studio.lost = true) ∧
    (([] : List Byte).length ≠ 7 + 144 * State.reset.studio.width ∧
      (byteAt (0 :: 0 :: 0 :: 4 :: List.replicate 291 0) 3).toNat ≠ State.reset.studio.width) := by decide +kernel

/-- A studio input one missing frame short of the default loss limit. -/
def losing : State := (expecting 5 []).modStudio fun i => { i with missingRun := 499 }

/-- The frame in the queue is used; the feed is lost, or is not. -/
theorem test_witness_StudioFeedUsedOrMissed :
    State.reset.studio.width = State.reset.setting Setting.studioWidth ∧
    ((expecting 100 [100]).modStudio fun i => { i with lost := true }).usedFrame = some (programme 100) ∧
    (losing.usedFrame = none ∧ losing.studio.lost = false ∧
      losing.setting Setting.studioLossLimit ≤ min (losing.studio.missingRun + 1) 65535) ∧
    ¬((expecting 5 []).setting Setting.studioLossLimit ≤ min ((expecting 5 []).studio.missingRun + 1) 65535) := by
  decide +kernel

/-- R10: the request that reaches the loss limit latches STUDIO_LOST with detail 255, no fill slot being set. -/
theorem test_studio_lost : (after .mixFrame losing).notices.latches.get 0 = some [255] := by decide +kernel

/-- The feed lost, a cart in the fill slot, and the fill player in a state on it. -/
def filling (x : PlayerState) : State :=
  ((slotIs 4 { cart with useCount := 1 } (expecting 5 [])).modClips fun c => { c with holds := c.holds.set 2 (some 4) })
    |>.modPlayers (fun p => p.set 2 ⟨x, some 4, 2⟩) |>.modStudio (fun i => { i with lost := true })
    |>.modTables fun t => { t with settings := t.settings.set 2 4 }

/-- A changed width; the fill player's start at the loss and in a later frame, its loop, and its stop, the fill routes
at 0; and a break flag with the link awake or not. -/
theorem test_witness_StudioFeedUsedOrMissed_fill :
    (let s := (expecting 5 [5]).modTables fun t => { t with settings := t.settings.set 0 4 }
     s.usedFrame = none ∧ s.studio.width ≠ s.setting Setting.studioWidth ∧ s.studio.counters.malformed ≤ 65535) ∧
    (let s := (filling .idle).modStudio fun i => { i with lost := false, missingRun := 499 }
     s.usedFrame = none ∧ s.studio.lost = false ∧ s.setting Setting.studioLossLimit ≤ min (s.studio.missingRun + 1) 65535 ∧
       s.slotSetting Setting.fillSlot = some 4 ∧ (s.players.get 2).state = .idle) ∧
    ((filling .idle).usedFrame = none ∧ (filling .idle).studio.lost = true ∧
      ((filling .idle).clips.slots.get 4).state = .ready ∧ ((filling .idle).clips.slots.get 4).kind = .cart ∧
      (filling .idle).clips.holds.get 2 = some 4) ∧
    (((filling .running).players.get 2).state = .running ∧ ((filling .running).players.get 2).slot = some 4 ∧
      ((filling .running).players.get 2).position < ((filling .running).clips.slots.get 4).length) ∧
    (let s := (filling .running).modStudio fun i => { i with queue := [programme 5] }
     s.usedFrame.isSome = true ∧ s.studio.lost = true) ∧
    (let s := (filling .running).modStudio fun i =>
       { i with queue := [programme 5], lost := false, fillStopMarked := true }
     s.studio.lost = false ∧ s.studio.fillStopMarked = true ∧
       ∀ r : Fin 60, 54 ≤ r.val → ((after .mixFrame s).mix.ramps.get r).current = 0) ∧
    (∀ m ∈ [LinkMode.run, .asleep],
      let s := ((airing (verdict .nextBreak 0) fun a => { a with state := .waitBreak, airing := some alert }).modStudio
        fun i => { i with expected := some 5, queue := [{ programme 5 with breakFlag := true }] }).modLink fun l =>
          { l with mode := m }
      s.usedFrame.map ProgrammeFrame.breakFlag = some true ∧ s.air.state = .waitBreak ∧ s.air.airing = some alert ∧
        s.link.mode = m) ∧
    (State.reset.usedFrame = none ∧ State.reset.link.mode ≠ .sleepPending ∧ State.reset.link.autoSleep = false) := by
  decide +kernel

/-- R10, R114: the fill player that starts at the loss of the feed gives its first frame in it. -/
theorem test_fill_start :
    let t := after .mixFrame ((filling .idle).modStudio fun i => { i with lost := false, missingRun := 499 })
    t.players.get 2 = ⟨.running, some 4, 1⟩ ∧ t.notices.latches.get 0 = some [4] := by decide +kernel

/-- A source muted, line 0 ON_AIR and not SCREENING, the fill gate open and closed, and route 0 not shut. -/
theorem test_witness_RampsFollowGates :
    (State.reset.modMix fun m => { m with mask := 1 }).mix.mask.getLsbD 0 = true ∧
    ((26 : Fin 60).val / 3 = 8 + (0 : Fin 6).val ∧ ((lineIn 0 .onAir State.reset).line.line 0).state ≠ .screening) ∧
    ((24 : Fin 60).val / 3 = 8 + (0 : Fin 6).val ∧ ((lineIn 0 .screening State.reset).line.line 0).state ≠ .onAir) ∧
    (18 ≤ (59 : Fin 60).val / 3 ∧ State.reset.studio.lost = false) ∧
    ¬(State.reset.mix.mask.getLsbD 0 = true ∨
      (∃ k : Fin 6, (0 : Fin 60).val / 3 = 8 + k.val ∧ (State.reset.line.line k).state ≠ .onAir) ∨
      18 ≤ (0 : Fin 60).val / 3) := by decide +kernel

/-- Targets at the ends of the range, over the least and the greatest number of frames, and a ramp in progress. -/
theorem test_witness_RampReachesTarget :
    (0 : Nat) ≠ (⟨9000, 13014, -842, 2⟩ : Ramp).target ∧
    ∀ p ∈ [(16384, 13014, 1), (65535, 0, 64), (0, 65535, 64)], p.2.1 ≠ (Ramp.settled p.1).target ∧ 1 ≤ p.2.2 := by decide

/-- R23, section 2.6: with the same target in every mix frame the ramp goes on, whatever the new ramp length. -/
theorem test_retarget_same :
    let r := (Ramp.settled 16384).retarget 13014 4
    ((List.range 3).foldl (fun x k => (x.retarget 13014 (k + 9)).advance) r.advance).current = 13014 := by decide +kernel

/-- Section 2.11: sources 0 and 1 at 4,000,000, line 0 at −2,500,000, routes (0, PGM-L), (1, PGM-R) at 16,384 and
(8, PGM-L), (8, PGM-R) at 13,014. The sums, PGM-L, and the sum without the line. -/
theorem test_mix :
    let ramps := (((MixEngine.reset.ramps.set 24 (Ramp.settled 13014)).set 25 (Ramp.settled 13014)))
    let x : Vector Frame 20 := (((Vector.replicate 20 Frame.silence).set 0 (level 4000000).left).set 1
      (level 4000000).left).set 8 (level (-2500000)).left
    busSum ramps x 0 7 = 33001000000 ∧ busSum ramps x 1 7 = 33001000000 ∧ busSum ramps x 2 7 = 0 ∧
      roundGain 33001000000 = 2014221 ∧ busSum ramps (x.set 8 Frame.silence) 0 7 = 65536000000 := by decide +kernel

/-- R30, R36: with sources 0 and 1 both at full scale on PGM-L its 48 samples are clamped, which takes its counter from
32,720 to 32,768, and latches CLIP_COUNT_HALF with bus 0. -/
theorem test_clip_half :
    let full : Frame := Vector.replicate 48 8388607
    let s := ((expecting 5 []).modStudio fun i => { i with queue := [⟨5, [full, full], false⟩] }).modMix fun m =>
      { m with counters := { m.counters with pgmLeft := 32720 }, snap := true }
    let t := after .mixFrame (s.modTables fun t => { t with route := t.route.set 3 ⟨208, 1⟩ })
    t.mix.counters.pgmLeft = 32768 ∧ t.notices.latches.get 3 = some [0] ∧ t.notices.latches.get 2 = some [48] := by
  decide +kernel

/-- A SCREENING line with the default talkback channel, and lines in each other state; a fill player that starts, one
that does not, and one that reads. -/
theorem test_witness_MixFrameSums :
    ((filling .idle).fillStarts = some 4 ∧ 0 < ((filling .idle).clips.slots.get 4).length) ∧
    (State.reset.fillStarts = none ∧ ∀ p, State.reset.playerReads p = none) ∧
    ((filling .running).fillStarts = none ∧ ((filling .running).playerReads 2).isSome = true) ∧
    (∀ x ∈ [LineState.onAir, .screening, .hold, .ready, .idle, .ringing, .fault],
      ((lineIn 5 x State.reset).line.line 5).state = x) ∧
    (0 : Fin 8).val = State.reset.setting Setting.talkback := by decide +kernel

/-! ### Programme delay -/

/-- A PGM frame that is quiet or not, with one sample value. -/
def pgmFrame (x : Int) (quiet : Bool) : PgmFrame := ⟨level x, x.natAbs, quiet⟩

/-- The delay line of section 3.4 with frames held, numbered by their samples, of which f3 alone is active, a spacing
count and a target, and the frame that arrives. -/
def exampleLine (held : List Int) (spacing target : Nat) (state : DelayState) (arriving : Int) : State :=
  let d := held.foldl (fun d x => d.store (pgmFrame x (x ≠ 3))) { DelayLine.reset with
    spacing := spacing, target := target, buildSpacing := 2, state := state, lastGiven := pgmFrame 1 true }
  ((State.reset.modDelay fun _ => d).modMix fun m => { m with pgm := pgmFrame arriving (arriving ≠ 3) }).modTables fun t =>
    { t with settings := (t.settings.set 6 target).set 7 2 }

/-- The frame given, the frames held, the spacing count and the state. -/
def exchanged (s : State) : Option Int × List Int × Nat × DelayState :=
  let t := after .exchange s
  (t.delay.offered.map fun f => f.audio.left.get 0, t.delay.heldFrames.map (fun f => f.audio.left.get 0), t.delay.spacing,
    t.delay.state)

/-- Section 3.4, exchanges 1 to 5, 7 and 8 (each from the row before it). -/
theorem test_exchange_building :
    (exchanged (exampleLine [] 0 3 .building 1) = (some 1, [], 1, .building) ∧
      exchanged (exampleLine [] 1 3 .building 2) = (some 1, [2], 0, .building) ∧
      exchanged (exampleLine [2] 0 3 .building 3) = (some 2, [3], 1, .building) ∧
      exchanged (exampleLine [3] 1 3 .building 4) = (some 3, [4], 2, .building)) ∧
    ((exchanged (exampleLine [4] 2 3 .building 5)).2 = ([4, 5], 0, .building) ∧
      (exchanged (exampleLine [5, 6] 1 3 .building 7)).2 = ([5, 6, 7], 0, .safe) ∧
      exchanged (exampleLine [5, 6, 7] 0 3 .safe 8) = (some 5, [6, 7, 8], 0, .safe)) := by decide +kernel

/-- Section 3.4, exchanges 9 to 11. -/
theorem test_exchange_shrinking :
    exchanged (exampleLine [6, 7, 8] 0 1 .shrinking 9) = (some 6, [7, 8, 9], 1, .shrinking) ∧
    exchanged (exampleLine [7, 8, 9] 1 1 .shrinking 10) = (some 8, [9, 10], 0, .shrinking) ∧
    exchanged (exampleLine [9, 10] 0 1 .shrinking 11) = (some 9, [10, 11], 1, .shrinking) := by decide +kernel

/-- R45, section 3.4: exchange 7 takes BUILDING to SAFE, and latches DELAY_AT_TARGET with the target. -/
theorem test_exchange_arrives :
    (after .exchange (exampleLine [5, 6] 1 3 .building 7)).notices.latches.get 10 = some [3] := by decide +kernel

/-- The delay states and whether an insertion or a skip is due, in the terms of `ExchangeGivesFrames`. -/
theorem test_witness_ExchangeGivesFrames :
    (State.reset.delayWf = true ∧ (State.reset.delay.derive State.reset.air.bypass).state = .live) ∧
    (∀ p ∈ [(exampleLine [5, 6, 7] 0 3 .safe 8, DelayState.safe, false), (exampleLine [] 1 3 .building 2, .building, true),
        (exampleLine [3] 1 3 .building 4, .building, false), (exampleLine [7, 8, 9] 1 1 .shrinking 10, .shrinking, true),
        (exampleLine [9, 10] 0 1 .shrinking 11, .shrinking, false)],
      let s := p.1
      s.delayWf = true ∧
        (({ s.delay with target := s.setting Setting.delayTarget }).derive s.air.bypass).state = p.2.1 ∧
        (s.setting Setting.buildSpacing ≤
            min ((({ s.delay with target := s.setting Setting.delayTarget }).derive s.air.bypass).spacing + 1) 64 &&
          ((s.delay.heldFrames ++ [s.mix.pgm]).headD s.mix.pgm).quiet) = p.2.2 || p.2.1 = .safe) := by
  decide +kernel

/-- A held line with room, one that is full, with and without the overflow mark, and one under bypass. -/
theorem test_witness_ExchangeGivesFrames_held :
    ∀ p ∈ [(65535, false, false), (65536, false, false), (65536, true, false), (0, false, true)],
      let s := (delayed fun d => { d with hold := true, state := .held, held := p.1, overflowMark := p.2.1 }).modAir fun a =>
        { a with bypass := p.2.2 }
      s.delayWf = true ∧ s.delay.state = .held ∧ s.air.bypass = p.2.2 ∧ s.delay.held = p.1 ∧
        s.delay.overflowMark = p.2.1 := by decide +kernel

/-! ### The air stage -/

/-- Section 7.11 and R154: the 16th frame of LEAD_IN is the attention source alone, here the tone; the line is held. -/
theorem test_leadInEnd :
    let t := after .leadInEnd (airing 0 fun a => { a with state := .leadIn, step := 15, position := 15 })
    t.air.state = .attention ∧ t.air.lastAir = toneFrame ∧ t.delay.state = .held := by decide +kernel

/-- R154: ATTENTION without a record ends in CLOSING. -/
theorem test_attentionEnd :
    (after .attentionEnd (airing 0 fun a => { a with state := .attention, position := 7999 })).air.state = .closing := by
  decide +kernel

/-- R156: the 1,000th frame of CLOSING ends it. -/
theorem test_closingEnd :
    (after .closingEnd (airing 0 fun a => { a with state := .closing, position := 999 })).air.state = .leadOut := by
  decide +kernel

/-- The last frame of CLOSING, with frames held in a hold. -/
def releasing (policy : HoldPolicy) : State :=
  (airing 0 fun a => { a with state := .closing, position := 999 }).modDelay fun d =>
    { d with hold := true, state := .held, held := 5, target := 2, policy := policy }

/-- R57: REJOIN discards what exceeds the target, and the line is SAFE; RESUME discards nothing, and it is SHRINKING. -/
theorem test_release :
    (let t := after .closingEnd (releasing .rejoin)
     t.delay.held = 2 ∧ t.delay.counters.rejoin = 3 ∧ t.delay.state = .safe ∧ t.notices.latches.get 10 = some [2]) ∧
    (let t := after .closingEnd (releasing .resume)
     t.delay.held = 5 ∧ t.delay.state = .shrinking ∧ t.notices.latches.get 10 = none) := by decide +kernel

/-- R158: a completed airing leaves no record and latches ALERT_AIRED. -/
theorem test_completion :
    let t := after .completion (airing 0 fun a =>
      { a with state := .leadOut, step := 15, airing := some alert, present := true })
    t.air.state = .idle ∧ t.intake.queue = [] ∧ (t.notices.latches.get 16).isSome = true := by decide +kernel

/-- The waiting NEXT_BREAK record, with a frame count. -/
def waitingBreak (now : BitVec 32) : State :=
  (airing (verdict .nextBreak 0) fun a => { a with state := .waitBreak, airing := some alert }).modFrameCount fun _ => now

/-- R149: a NEXT_BREAK record is committed at an age of 300,000 frames. -/
theorem test_breakDeadline :
    let t := after .breakDeadlineReached (waitingBreak 300000)
    t.air.state = .leadIn ∧ t.air.counters.deadline = 1 := by decide +kernel

/-- R149, R151: an air frame in IDLE commits an IMMEDIATE record, and is the first frame of LEAD_IN; in ASLEEP the record
waits for the link, which it wakes. -/
theorem test_select :
    (let t := after .airFrame (airing (verdict .immediate 0) id)
     t.air.state = .leadIn ∧ t.air.step = 1 ∧ t.air.airing = some alert ∧ t.air.onAirFlag = true) ∧
    (let t := after .airFrame ((airing (verdict .immediate 0) id).modLink fun l => { l with mode := .asleep })
     t.air.state = .waitLink ∧ t.link.mode = .waking ∧ t.air.onAirFlag = false) := by decide +kernel

/-- R151: WAIT_LINK ends with the link in RUN, and the frame is the first of LEAD_IN. -/
theorem test_waitLink :
    let t := after .airFrame ((airing 0 fun a => { a with state := .waitLink, airing := some alert, present := true }).modLink
      fun l => { l with mode := .run })
    t.air.state = .leadIn ∧ t.air.step = 1 ∧ t.air.onAirFlag = true := by decide +kernel

/-- R145: outside an airing the air frame is the offered frame. -/
theorem test_airFrame :
    (after .airFrame (delayed fun d => { d with offered := some (pgmFrame 9 true) })).air.lastAir = level 9 := by
  decide +kernel

/-- The air stage holding slot 4, of `length` frames, in a slot state. -/
def messaging (x : SlotState) (length position : Nat) : State :=
  ((slotIs 4 ⟨x, .alert, 60000, length, [7], 1, none⟩ State.reset).modClips fun c =>
    { c with holds := c.holds.set 3 (some 4) }).modAir fun a => { a with state := .message, position := position }

/-- R155: past the end of a slot still recording, MESSAGE is silent and counts an underrun. -/
theorem test_underrun : (after .airFrame (messaging .recording 5 5)).air.counters.underrun = 1 := by decide +kernel

/-- R155: a message that has been given whole ends in CLOSING, whose first frame this is; with its hold dropped it goes on
in silence. -/
theorem test_messageEnd :
    (let t := after .airFrame (messaging .alertHeld 5 5)
     t.air.state = .closing ∧ t.air.position = 1 ∧ t.clips.holds.get 3 = none ∧ t.air.lastAir = toneFrame) ∧
    (let t := after .airFrame ((messaging .alertHeld 5 5).modClips fun c => c.dropHolds 4)
     t.air.state = .message ∧ t.air.position = 5 ∧ t.air.lastAir = StereoFrame.silence) := by decide +kernel

theorem test_witness_AirFrameForms :
    (State.reset.air.state = .idle ∧ chosenRecord State.reset = none) ∧
    (let s := waitingBreak 299999
     s.air.state = .waitBreak ∧ chosenRecord s = some (record alert (verdict .nextBreak 0) 7) ∧
       (record alert (verdict .nextBreak 0) 7).airMode = .nextBreak ∧
       (s.frameCount - (record alert (verdict .nextBreak 0) 7).stamp).toNat < s.setting Setting.breakDeadline) ∧
    (let s := airing 0 fun a => { a with state := .waitLink }
     s.air.state = .waitLink ∧ s.link.mode ≠ .run ∧ s.link.mode ≠ .cut) ∧
    (∀ m ∈ [LinkMode.run, .cut],
      let s := (airing 0 fun a => { a with state := .waitLink }).modLink fun l => { l with mode := m }
      s.air.state = .waitLink ∧ (s.link.mode = .run ∨ s.link.mode = .cut)) ∧
    (let s := (messaging .alertHeld 5 5).modClips fun c => c.dropHolds 4
     s.air.state = .message ∧ s.clips.holds.get airReader = none) ∧
    (let s := airing 0 fun a => { a with state := .leadIn, step := 14 }
     s.air.state = .leadIn ∧ s.air.step + 1 < 16) ∧
    (∀ p ∈ [(7998, 8000), (15, 0)],
      let s := airing 0 fun a => { a with state := .attention, position := p.1, attentionFrames := p.2 }
      s.air.state = .attention ∧ s.air.position + 1 < max s.air.attentionFrames 17) ∧
    ((messaging .alertHeld 5 4).clips.holds.get airReader = some 4 ∧
      ((messaging .alertHeld 5 4).clips.frameAt airReader 4 4).isSome = true ∧
      ((messaging .recording 5 5).clips.slots.get 4).length ≤ 5 ∧
      ((messaging .recording 5 5).clips.slots.get 4).state ≠ .alertHeld) ∧
    (let s := airing 0 fun a => { a with state := .closing, position := 998 }
     s.air.state = .closing ∧ s.air.position + 1 < 1000) ∧
    (let s := airing 0 fun a => { a with state := .leadOut, step := 14 }
     s.air.state = .leadOut ∧ s.air.step + 1 < 16) ∧
    (∀ m ∈ [LinkMode.run, .cut],
      ((airing 0 fun a => { a with state := .closing, airing := some alert, present := true }).modLink fun l =>
        { l with mode := m }).link.mode = m) ∧
    5 ≤ (record alert 0 7).words.length := by decide +kernel

/-- The hypotheses of `State.BeginsLeadIn`: no attention slot, a slot that can be held, one that cannot, and a record to
note. -/
theorem test_witness_BeginsLeadIn :
    let s := (airing 0 fun a => { a with state := .waitLink, airing := some alert }).modTables fun t =>
      { t with settings := t.settings.set Setting.attentionSlot 4 }
    State.reset.slotSetting Setting.attentionSlot = none ∧ s.slotSetting Setting.attentionSlot = some 4 ∧
    (slotIs 4 cart s).attends 4 ∧ (playing .running).attends 4 ∧ ¬s.attends 4 ∧
    ¬(slotIs 4 { cart with useCount := 3 } s).attends 4 ∧
    s.link.queue.length < 7 ∧ s.air.airing = some alert ∧ s.intake.find alert = some (record alert 0 7) := by
  unfold State.attends
  decide +kernel

theorem test_witness_AirPhasesEnd :
    (let s := airing 0 fun a => { a with state := .leadIn, step := 15 }
     s.air.state = .leadIn ∧ 16 ≤ s.air.step + 1 ∧ s.delay.hold = false) ∧
    (∀ p ∈ [(7999, 8000), (16, 0)],
      let s := airing 0 fun a => { a with state := .attention, position := p.1, attentionFrames := p.2 }
      s.air.state = .attention ∧ max s.air.attentionFrames 17 ≤ s.air.position + 1) ∧
    (let s := airing 0 fun a => { a with state := .closing, position := 999 }
     s.air.state = .closing ∧ 1000 ≤ s.air.position + 1 ∧ s.delay.hold = false) ∧
    (∀ p ∈ [HoldPolicy.resume, .rejoin],
      (releasing p).air.state = .closing ∧ (releasing p).delay.hold = true ∧ (releasing p).delay.state = .held ∧
        (releasing p).delay.policy = p) ∧
    (∀ p ∈ [(5, 5), (0, 0)],
      let s := messaging .alertHeld p.1 p.2
      s.air.state = .message ∧ s.clips.holds.get airReader = some 4 ∧ (s.clips.slots.get 4).state = .alertHeld ∧
        (s.clips.slots.get 4).length ≤ s.air.position) ∧
    (let s := recordingIs .writing 5 0 false
     let r := { record alert 0 7 with words := (record alert 0 7).words.set 5 (audioWord 0 5) }
     let s := (s.modIntake fun a => { a with queue := [r] }).modAir fun a =>
       { a with state := .attention, position := 7999, airing := some alert, present := true }
     s.air.state = .attention ∧ s.intake.find alert = some r ∧ r.slot = some 0) ∧
    (let s := airing 0 fun a => { a with state := .attention, position := 7999, airing := some alert, present := true }
     s.intake.find alert = some (record alert 0 7) ∧ (record alert 0 7).slot = none) ∧
    State.reset.air.state ≠ .leadIn ∧ State.reset.air.state ≠ .attention ∧ State.reset.air.state ≠ .closing := by
  decide +kernel

theorem test_witness_AiringCompletesAndDeadline :
    (∀ impaired ∈ [true, false],
      let s := airing 0 fun a =>
        { a with state := .leadOut, step := 15, airing := some alert, present := true, impaired := impaired }
      s.air.state = .leadOut ∧ 16 ≤ s.air.step + 1 ∧ s.intake.find alert = some (record alert 0 7) ∧
        0 < (record alert 0 7).remaining ∧
        (record alert 0 7).flag flagReAirDone = false ∧ s.air.impaired = impaired ∧ s.link.mode ≠ .run ∧
        s.airLinked = true) ∧
    (airing 0 fun a => { a with state := .leadOut, step := 15 }).air.present = false ∧
    (let s := waitingBreak 300000
     s.air.state = .waitBreak ∧ chosenRecord s = some (record alert (verdict .nextBreak 0) 7) ∧
       s.setting Setting.breakDeadline ≤ (s.frameCount - (record alert (verdict .nextBreak 0) 7).stamp).toNat ∧
       s.link.mode ≠ .asleep ∧ (s.modLink fun l => { l with mode := .asleep }).link.mode = .asleep) ∧
    (let s := waitingBreak 299999
     let r := record alert (verdict .nextBreak 0) 7
     chosenRecord s = some r ∧ r.airMode ≠ .immediate ∧
       ¬s.setting Setting.breakDeadline ≤ (s.frameCount - r.stamp).toNat) ∧
    (∀ x ∈ [AirState.idle, .waitBreak],
      let s := airing (verdict .immediate 0) fun a => { a with state := x }
      s.air.state = x ∧ chosenRecord s = some (record alert (verdict .immediate 0) 7) ∧
        (record alert (verdict .immediate 0) 7).airMode = .immediate) ∧
    chosenRecord State.reset = none ∧
    State.reset.air.state ≠ .leadOut ∧ State.reset.air.state ≠ .waitBreak := by decide +kernel

/-! ### The transmitter link -/

/-- The reset state with the link unit changed. -/
def linked (f : LinkUnit → LinkUnit) : State := State.reset.modLink f

/-- The link in RUN, with no fault. -/
def inRun (f : LinkUnit → LinkUnit) : State := running.modLink f

/-- The link in a mode that sends no audio. -/
def inMode (m : LinkMode) (f : LinkUnit → LinkUnit) : State := State.reset.modLink fun l => f { l with mode := m }

/-- Section 8.11: message 12 in the queue, or in flight. -/
def note : Message := ⟨12, .alertNote, []⟩

/-- Section 8.11: at the send of period t, message 12 goes into flight and rides, in a frame of EtherType 88B5h
(R207). -/
theorem test_send_message :
    let t := after .send (inRun fun l => { l with queue := [note], nextNumber := 13 })
    t.link.inFlight = some ⟨note, 1, 0⟩ ∧ t.link.queue = [] ∧ t.sent.link.map LinkPortFrame.etherType = [0x88B5] := by
  decide +kernel

/-- R173: in DEGRADED every AUDIO frame goes twice. -/
theorem test_send_robust : (after .send (inRun fun l => { l with sfc := 128 })).sent.link.length = 2 := by decide +kernel

/-- R173: SFC at the warning limit of 96 brings WARNING, which LINK_LEVEL carries with the counts. -/
theorem test_send_level :
    (after .send (inRun fun l => { l with sfc := 96 })).notices.latches.get 18 = some [0, 1, 96, 0] := by decide +kernel

/-- R188, R210: the flags of the AUDIO frames sent in SLEEP_PENDING, on both copies: the silence flag (4) in QUIET. -/
theorem test_send_silence :
    (let t := after .send (pendingSleep .quiet fun l => { l with sfc := 128 })
     t.sent.link.map (fun f => byteAt f.payload 1) = [4, 6] ∧ t.link.quietTimer = 1) ∧
    (let t := after .send (pendingSleep .requesting id)
     t.sent.link.map (fun f => byteAt f.payload 1) = [0] ∧ t.link.requestTimer = 1) := by decide +kernel

/-- A negotiation one short of its limits, and one whose request is acked. -/
theorem test_witness_SendCarriesAudio_pending :
    (let s := pendingSleep .requesting fun l => { l with requestTimer := 1998 }
     s.link.mode = .sleepPending ∧ s.link.phase = .requesting ∧
       s.link.requestTimer + 1 < s.setting Setting.sleepRequestTimer) ∧
    (let s := pendingSleep .requesting fun l => { l with requestTimer := 10000, requestAcked := true }
     s.link.phase = .requesting ∧ s.link.requestAcked = true ∧ s.link.gapTimer + 1 < 8 ∧ s.link.inFlight = none) ∧
    (let s := pendingSleep .quiet fun l => { l with quietTimer := 498 }
     s.link.mode = .sleepPending ∧ s.link.phase = .quiet ∧ s.link.quietTimer + 1 < s.setting Setting.quietInterval) := by
  decide +kernel

theorem test_witness_SendCarriesAudio :
    (∀ f ∈ [none, some ⟨note, 4, 19⟩, some ⟨note, 1, 18⟩],
      let s := inRun fun l => { l with gapTimer := 6, inFlight := f }
      s.link.mode = .run ∧ s.link.gapTimer + 1 < 8 ∧ s.link.inFlight = f) ∧
    (running.link.level = some .clear ∧ (inRun fun l => { l with sfc := 96 }).link.level ≠ some .warning ∧
      (inRun fun l => { l with rfc := 128 }).link.level ≠ some .degraded) ∧
    (inRun fun l => { l with inFlight := some ⟨note, 4, 19⟩ }).link.keepsMessage ∧ running.link.keepsMessage := by
  refine ⟨by decide +kernel, by decide +kernel, ?_, ?_⟩ <;> intro f h
  · rw [← Option.some.inj h]; decide
  · cases h

/-- R190: the 1,000th send in ASLEEP is a KEEPALIVE. -/
theorem test_keepalive :
    let t := after .keepalive (inMode .asleep fun l => { l with keepaliveTimer := 999 })
    t.link.keepaliveTimer = 0 ∧ t.sent.link.length = 1 := by decide +kernel

/-- R190: the asleep watch counts a gap after 1,000 sends. -/
theorem test_asleepWatch :
    (after .asleepWatch (inMode .asleep fun l => { l with asleepWatch := 999 })).link.counters.gap = 1 := by decide +kernel

/-- R175: a PROBE goes at the send at which the probe timer is 0. -/
theorem test_probe :
    let t := after .probe (inMode .cut fun l => l)
    t.link.probeTimer = 1 ∧ t.sent.link.length = 1 := by decide +kernel

/-- R192: after the last WAKE of a burst the phase is WAIT, and the index stands at the burst's length. -/
theorem test_burstEnd :
    let t := after .burstEnd (inMode .waking fun l => { l with burstIndex := 63, burstLength := 64 })
    t.link.wakePhase = .wait ∧ t.link.burstIndex = 64 := by decide +kernel

theorem test_witness_SendOutsideAudio :
    (∀ p ∈ [(LinkMode.asleep, 999), (.asleep, 998), (.cut, 0), (.waking, 0)],
      let s := inMode p.1 fun l => { l with keepaliveTimer := p.2, asleepWatch := p.2, gapTimer := 6 }
      s.link.inFlight = none ∧ s.link.mode = p.1 ∧ s.link.gapTimer + 1 < 8 ∧
        s.link.wakePhase = .burst) ∧
    (inMode .cut fun l => { l with probeTimer := 7 }).link.probeTimer ≠ 0 ∧
    ((inMode .waking fun l => { l with burstIndex := 62, burstLength := 64 }).link.burstIndex + 1 < 64 ∧
      64 ≤ (inMode .waking fun l => { l with burstIndex := 63, burstLength := 64 }).link.burstIndex + 1) ∧
    (let s := inMode .waking fun l => { l with wakePhase := .wait, wakeTimer := 1998 }
     s.link.wakePhase = .wait ∧ s.link.wakeTimer + 1 < s.setting Setting.wakeTimer) := by decide +kernel

/-- A SLEEP_CANCEL. -/
def cancel : Message := ⟨13, .sleepCancel, [7]⟩

/-- R178, R210: in CUT a SLEEP_CANCEL overtakes the note before it in the queue and rides the probe, which carries flag
bit 3. -/
theorem test_probe_cancel :
    let t := after .send (inMode .cut fun l => { l with queue := [note, cancel] })
    t.link.inFlight = some ⟨cancel, 1, 0⟩ ∧ t.link.queue = [note] ∧
      t.sent.link.map (fun f => byteAt f.payload 1) = [8] := by decide +kernel

/-- Messages in flight outside audio: a SLEEP_CANCEL new, due and not yet due, and a note held back. -/
theorem test_witness_SendOutsideAudio_message :
    (∀ f ∈ [⟨cancel, 0, 0⟩, ⟨cancel, 4, 19⟩, ⟨cancel, 1, 18⟩, ⟨note, 4, 20⟩], ∀ m ∈ [LinkMode.cut, .waking, .asleep],
      let s := inMode m fun l => { l with gapTimer := 6, inFlight := some f, queue := [note, cancel] }
      s.link.mode = m ∧ s.link.inFlight = some f ∧ f.sends < 5 ∧ s.link.gapTimer + 1 < 8) ∧
    ∀ f s, (s : State).link.inFlight = some f → f.sends < 5 → s.link.keepsMessage := by
  refine ⟨by decide +kernel, fun f s h hf g hg => ?_⟩
  rw [h] at hg
  exact Option.some.inj hg ▸ hf

/-- R170: the 8th send without a good return raises RFC. -/
theorem test_gapTimer :
    let t := after .gapTimer (inRun fun l => { l with gapTimer := 7 })
    t.link.rfc = 1 ∧ t.link.gapTimer = 0 := by decide +kernel

/-- R172, R174: the rise of RFC to 255 brings the cut, with SFC 127. -/
theorem test_gapTimer_cut :
    let t := after .gapTimer (inRun fun l => { l with gapTimer := 7, rfc := 254 })
    t.link.mode = .cut ∧ t.link.sfc = 127 ∧ t.link.rfc = 0 := by decide +kernel

/-- R188: the request timer at its limit ends the negotiation as refused. -/
theorem test_requestTimer :
    let t := after .requestTimer (pendingSleep .requesting fun l => { l with requestTimer := 1999 })
    t.link.mode = .run ∧ t.notices.latches.get 21 = some [1, 0] := by decide +kernel

/-- R193, row 1: an acked request waits for SLEEP_READY, past its timer's value. -/
theorem test_request_acked :
    (after .send (pendingSleep .requesting fun l => { l with requestTimer := 1999, requestAcked := true })).link.mode =
      .sleepPending := by decide +kernel

/-- R188, R190: the quiet timer at its limit brings ASLEEP. -/
theorem test_quietTimer :
    (after .quietTimer (pendingSleep .quiet fun l => { l with quietTimer := 999 })).link.mode = .asleep := by decide +kernel

/-- R192: the wake timer at its limit after the third burst is a failed wake and the cut. -/
theorem test_wakeTimer :
    let t := after .wakeTimerTimeout (inMode .waking fun l =>
      { l with wakePhase := .wait, wakeTimer := 1999, burstNumber := 3 })
    t.link.mode = .cut ∧ t.link.counters.wakeFailure = 1 := by decide +kernel

theorem test_witness_SendTimersExpire :
    (∀ m ∈ [LinkMode.run, .sleepPending, .cut], ∀ r ∈ [253, 254],
      let s := inMode m fun l => { l with gapTimer := 7, rfc := r }
      s.link.mode ∈ [LinkMode.run, .sleepPending, .cut] ∧ 8 ≤ s.link.gapTimer + 1 ∧ s.link.rfc = r) ∧
    (inMode .asleep id).link.mode ∈ [LinkMode.asleep, .waking] ∧
    (let s := pendingSleep .requesting fun l => { l with requestTimer := 1999, gapTimer := 6 }
     s.link.mode = .sleepPending ∧ s.link.gapTimer + 1 < 8 ∧ s.link.phase = .requesting ∧
       s.setting Setting.sleepRequestTimer ≤ s.link.requestTimer + 1 ∧ s.link.requestAcked = false ∧
       (pendingSleep .requesting fun l => { l with requestAcked := true }).link.requestAcked = true) ∧
    (let s := pendingSleep .quiet fun l => { l with quietTimer := 999 }
     s.link.phase = .quiet ∧ s.setting Setting.quietInterval ≤ s.link.quietTimer + 1) ∧
    (∀ n ∈ [2, 3],
      let s := inMode .waking fun l => { l with wakePhase := .wait, wakeTimer := 1999, burstNumber := n }
      s.link.mode = .waking ∧ s.link.wakePhase = .wait ∧ s.setting Setting.wakeTimer ≤ s.link.wakeTimer + 1 ∧
        s.link.burstNumber = n) ∧
    running.link.mode ≠ .sleepPending ∧ running.link.mode ≠ .waking ∧ State.reset.link.keepsMessage := by
  refine ⟨by decide +kernel, by decide +kernel, by decide +kernel, by decide +kernel, by decide +kernel, by decide,
    by decide, ?_⟩
  intro f h
  cases h

/-- Section 8.11: with its timer at 20 the message rides again. -/
theorem test_messageResend :
    (after .messageResend (inRun fun l => { l with inFlight := some ⟨note, 1, 19⟩ })).link.inFlight = some ⟨note, 2, 0⟩ := by
  decide +kernel

/-- R178: after five sends it is dropped, and SFC rises by 16. -/
theorem test_messageDrop :
    let t := after .messageDrop (inRun fun l => { l with inFlight := some ⟨note, 5, 19⟩ })
    t.link.inFlight = none ∧ t.link.sfc = 16 ∧ t.link.counters.messageLost = 1 := by decide +kernel

theorem test_witness_MessagesRideAndDrop :
    ∀ p ∈ [(4, 19), (5, 19), (1, 18)],
      let s := inRun fun l => { l with gapTimer := 6, inFlight := some ⟨note, p.1, p.2⟩, sfc := 239 }
      s.link.mode = .run ∧ s.link.gapTimer + 1 < 8 ∧ s.link.inFlight = some ⟨note, p.1, p.2⟩ ∧ 1 ≤ p.1 ∧
        s.link.sfc + 16 ≤ 255 ∧ (20 ≤ p.2 + 1 ∧ (p.1 < 5 ∨ 5 ≤ p.1) ∨ p.2 + 1 < 20) := by decide +kernel

/-- Section 8.5: SFC 20, J 992 and the last sequence 1,009. -/
def judging : State := inRun fun l => { l with sfc := 20, judged := 992, lastSeq := 1009 }

/-- Section 8.5: the return with h = 1,008 and bit 10 of its map clear. -/
def exampleReturn : Return := ⟨.awake, 1008, 0xFFFFFBFF, none, true, 0⟩

/-- Section 8.5: SFC 21, J 1,000, one missing, and the fault capture. -/
theorem test_returnFrame :
    let t := after (.returnFrame exampleReturn.frame) judging
    t.link.sfc = 21 ∧ t.link.judged = 1000 ∧ t.link.counters.missing = 1 ∧
      t.link.capture = some ⟨.missingFrame, 998, .run, 23, 0⟩ := by decide +kernel

/-- Section 8.5: the return with h = 1,040. -/
theorem test_returnFrame_unknown :
    let s := inRun fun l => { l with sfc := 21, rfc := 3, judged := 1000, lastSeq := 1041 }
    let t := after (.returnFrame { exampleReturn with h := 1040, map := BitVec.allOnes 32 }.frame) s
    t.link.sfc = 0 ∧ t.link.rfc = 2 ∧ t.link.judged = 1032 ∧ t.link.counters.unknown = 8 := by decide +kernel

/-- A frame with another check, one with far state 5, one with a sequence after the last sent, one of 15 bytes, and
another type; RFC 253 and 254 in each counting mode, with the level that follows and with another; a SLEEP_CANCEL with
room and without; and counts below, at and past the climb. -/
theorem test_witness_CorruptReturnCounted :
    (∀ frame ∈ [0x80 :: List.replicate 15 0, padded (0x80 :: List.replicate 15 0), (0x80 :: 5 :: List.replicate 10 (0 : Byte)) ++
          crc32Bytes (0x80 :: 5 :: List.replicate 10 0), 0x80 :: List.replicate 14 0,
          ({ exampleReturn with h := 1010 } : Return).frame],
      frame.head? = some 0x80 ∧
        let bytes := if frame.length = 46 then frame.take 16 else frame
        (bytes.length ≠ 16 ∨ bytes.drop 12 ≠ crc32Bytes (bytes.take 12) ∨ 4 < (byteAt bytes 1).toNat ∨
          (1 ≤ (byteAt bytes 2 ++ byteAt bytes 3 - judging.link.lastSeq).toNat ∧
            (byteAt bytes 2 ++ byteAt bytes 3 - judging.link.lastSeq).toNat ≤ 32767))) ∧
    ([0x81] : List Byte).head? ≠ some 0x80 ∧
    (∀ m ∈ [LinkMode.asleep, .waking], (inMode m id).link.mode = m ∧ m ∉ [LinkMode.run, .sleepPending, .cut]) ∧
    (∀ m ∈ [LinkMode.run, .sleepPending, .cut], ∀ rfc ∈ [253, 254], ∀ lv ∈ [some Level.degraded, none],
      let l := (inMode m fun l => { l with rfc := rfc, level := lv }).link
      l.mode = m ∧ l.rfc = rfc ∧ l.level = lv ∧ 127 < l.rfc + 1) ∧
    (∀ n ∈ [7, 8],
      let l := (inMode .sleepPending fun l => { l with rfc := 254, queue := List.replicate n note }).link
      l.rfc = 254 ∧ (l.queue.filter fun m => !m.isRequest l.requestNumber).length = n) ∧
    ∀ k ∈ [32766, 32767, 32768], ∀ mark ∈ [false, true],
      let l := (inRun fun l => { l with climb := mark, counters := { l.counters with corrupt := k } }).link
      l.counters.corrupt = k ∧ l.climb = mark ∧ l.rfc < 254 := by decide +kernel

/-- What the link unit judges newly of a return, as `GoodReturnTaken` has it. -/
def newly (s : State) (r : Return) : List (BitVec 16) :=
  let e := r.h - 8
  if seqAfter e s.link.judged then
    (List.range (e - s.link.judged).toNat).map fun i => s.link.judged + 1 + BitVec.ofNat 16 i
  else []

/-- SFC after the first `n` of them. -/
def judged (s : State) (r : Return) (n : Nat) : Nat :=
  ((newly s r).take n).foldl (fun x q => (r.verdict q).sfc x) s.link.sfc

/-- In RUN and SLEEP_PENDING: nothing newly judged; eight sequences, of which one is missing, SFC rising to 255 at
most; and a rise above it, at the first and at a later one. -/
theorem test_witness_GoodReturnTaken :
    (exampleReturn.errors < 256 ∧ seqAfter exampleReturn.h judging.link.lastSeq = false) ∧
    (∀ m ∈ [LinkMode.run, .sleepPending], (judging.modLink fun l => { l with mode := m }).link.mode = m) ∧
    newly (judging.modLink fun l => { l with judged := 1000 }) exampleReturn = [] ∧
    ((newly judging exampleReturn).length = 8 ∧ judged judging exampleReturn 8 = 21 ∧
      ∀ i, i ≤ 8 → judged (judging.modLink fun l => { l with sfc := 252 }) exampleReturn i ≤ 255) ∧
    (let s := judging.modLink fun l => { l with sfc := 253 }
     (∀ i, i ≤ 5 → judged s exampleReturn i ≤ 255) ∧ 255 < judged s exampleReturn 6) ∧
    (let s := judging.modLink fun l => { l with sfc := 248 }
     judged s { exampleReturn with map := 0 } 0 ≤ 255 ∧ 255 < judged s { exampleReturn with map := 0 } 1) := by
  decide +kernel

/-- In SLEEP_PENDING, nothing newly judged: agreed, with a quiet interval and without, declined, and neither. -/
theorem test_witness_GoodReturnTaken_negotiation :
    (∀ q ∈ [0, 1000],
      let s := pendingSleep .requesting fun l =>
        { l with judged := 1000, lastSeq := 1009, requestAcked := true, quietInterval := q }
      s.link.mode = .sleepPending ∧ newly s exampleReturn = [] ∧ s.link.sfc ≤ 255 ∧ s.link.requestAcked = true ∧
        s.link.phase = .requesting ∧ s.link.quietInterval = q) ∧
    (pendingSleep .requesting id).link.requestAcked = false ∧
    ∀ x ∈ [FarState.awake, .sleepReady, .sleepBusy, .sleeping, .wakeRequest],
      ({ exampleReturn with far := x } : Return).far = x := by decide +kernel

/-- R188: SLEEP_READY with the request acked brings QUIET, and SLEEP_BUSY ends the negotiation with SLEEP_RESULT 1,
cause 1. -/
theorem test_negotiation :
    let s := pendingSleep .requesting fun l => { l with judged := 1000, lastSeq := 1009, requestAcked := true }
    (after (.returnFrame ({ exampleReturn with far := .sleepReady } : Return).frame) s).link.phase = .quiet ∧
      (after (.returnFrame ({ exampleReturn with far := .sleepBusy } : Return).frame) s).notices.latches.get 21 =
        some [1, 1] := by decide +kernel

/-- In CUT, one probe short of the restoration and at it, and a bad probe; in WAKING and ASLEEP; an ack of the message
in flight, and one of a late number. -/
theorem test_witness_GoodReturnTaken_other :
    (∀ sfc ∈ [2, 1],
      let s := inMode .cut fun l => { l with lastSeq := 1009, sfc := sfc }
      s.link.mode = .cut ∧ seqAfter exampleReturn.h s.link.lastSeq = false ∧ s.link.sfc = sfc) ∧
    ¬(({ exampleReturn with errors := 1 } : Return).lock = true ∧
        ({ exampleReturn with errors := 1 } : Return).errors = 0) ∧
    exampleReturn.lock = true ∧ exampleReturn.errors = 0 ∧ FarState.awake ≠ .wakeRequest ∧
    (∀ m ∈ [LinkMode.waking, .asleep],
      (inMode m fun l => { l with lastSeq := 1009 }).link.mode = m ∧
        seqAfter exampleReturn.h (inMode m fun l => { l with lastSeq := 1009 }).link.lastSeq = false) ∧
    (inRun fun l => { l with inFlight := some ⟨note, 1, 0⟩ }).link.inFlight = some ⟨note, 1, 0⟩ ∧
    some (12 : Byte) = some note.number ∧
    (∀ p ∈ [(LinkMode.run, 7), (.cut, 6)],
      let s := inMode p.1 fun l => { l with lateNumber := some 12, queue := List.replicate p.2 note }
      s.link.lateNumber = some 12 ∧ s.link.mode ≠ .sleepPending ∧
        s.link.queue.length < if s.link.mode = .cut then 7 else 8) := by decide +kernel

/-- R187: LINK-SLEEP in RUN starts a negotiation with request number 0. -/
theorem test_linkSleep :
    let t := after .linkSleep (withOrder 0x68 [] running)
    t.link.mode = .sleepPending ∧ replyWord 1 t = 0 ∧ t.link.queue.map Message.kind = [.sleepRequest] := by decide +kernel

/-- R191: LINK-WAKE in ASLEEP answers WAKING (3). -/
theorem test_linkWake : replyWord 0 (after .linkWake (withOrder 0x69 [] (inMode .asleep id))) = 3 := by decide +kernel

/-- R182: LINK-STATUS clears faults since read. -/
theorem test_linkStatus :
    (after .linkStatus (withOrder 0x6A [] (inRun fun l => { l with faultsSince := 7 }))).link.faultsSince = 0 := by
  decide +kernel

theorem test_witness_LinkOrders :
    (∀ code s, (withOrder code [] s).Heads (sentOrder code []) [] code []) ∧
    (∀ n ∈ [7, 8],
      let s := inRun fun l => { l with queue := List.replicate n note }
      s.link.mode = .run ∧ s.air.state = .idle ∧ chosenRecord s = none ∧ s.link.queue.length = n) ∧
    ¬(State.reset.link.mode = .run ∧ State.reset.air.state = .idle ∧ chosenRecord State.reset = none) ∧
    (inMode .asleep id).link.mode = .asleep ∧ (inMode .cut id).link.mode ∈ [LinkMode.run, .waking, .cut] ∧
    (pendingSleep .requesting id).link.mode = .sleepPending :=
  ⟨fun _ _ => withOrder_heads .., by decide +kernel⟩

/-- A studio frame at full scale on both channels, which makes the PGM frame active. -/
def loud (s : State) : State :=
  s.modStudio fun i => { i with expected := some 5, queue := [⟨5, [(level 8388607).left, (level 8388607).left], false⟩] }

/-- A SIGN_OFF end, quiet, with AUTO_SLEEP on, in RUN, elsewhere, and asleep; and an active frame in a negotiation and
in ASLEEP. -/
theorem test_witness_LinkOrders_mixFrame :
    (∀ m ∈ [LinkMode.run, .cut, .sleepPending, .asleep],
      let s := (ending .signOff).modLink fun l => { l with mode := m, autoSleep := true }
      s.usedFrame.map ProgrammeFrame.breakFlag = some false ∧
        s.players.get 0 = ⟨.running, some 4, (s.clips.slots.get 4).length - 1⟩ ∧ 0 < (s.clips.slots.get 4).length ∧
        s.clips.holds.get 0 = some 4 ∧ (s.tables.slotConf.get 4).endAction = .signOff ∧ s.link.autoSleep = true ∧
        s.link.mode = m ∧ s.air.state = .idle ∧ chosenRecord s = none ∧ s.link.queue.length < 8) ∧
    (loud State.reset).usedFrame.map ProgrammeFrame.breakFlag = some false ∧
    (pendingSleep .requesting fun l => { l with abortOnActivity := true }).link.abortOnActivity = true ∧
    (inMode .asleep fun l => { l with wakeOnActivity := true }).link.wakeOnActivity = true := by decide +kernel

/-- R187: a SIGN_OFF end with AUTO_SLEEP on starts a sleep in RUN, here at a quiet frame. -/
theorem test_signOff :
    let t := after .mixFrame ((ending .signOff).modLink fun l =>
      { l with mode := .run, level := some .clear, autoSleep := true })
    t.link.mode = .sleepPending ∧ t.mix.pgm.quiet = true := by decide +kernel

/-- R189: an active frame aborts a negotiation (2, cause 2). -/
theorem test_activity :
    let t := after .mixFrame (loud (pendingSleep .requesting id))
    t.notices.latches.get 21 = some [2, 2] ∧ t.mix.pgm.quiet = false := by decide +kernel

/-! ### Frame periods and notices -/

/-- R1: the frame count wraps. -/
theorem test_framePeriod :
    (after .framePeriod (State.reset.modFrameCount fun _ => 0xFFFFFFFF)).frameCount = 0 := by decide +kernel

/-- LINK_CUT (19) latched, with the repeat timer at a count. -/
def repeating (count : Nat) : State := (latched [.linkCut] State.reset).modNotices fun n => { n with repeatTimer := count }

/-- R202, R209: the 1,000th frame period repeats the notice, marked as a repeat and latched (3). -/
theorem test_repeatTimer :
    let t := after .repeatTimer (repeating 999)
    t.notices.repeatTimer = 0 ∧ byteAt (lastReply t) 6 = 3 ∧ byteAt (lastReply t) 7 = 19 := by decide +kernel

/-- No repeating kind before, none after, and LINK_CUT the first before and after, one short of the period and at it. -/
theorem test_witness_FramePeriodBegins :
    ((latched [.linkCut] State.reset).notices.latches.get 19 = some [] ∧ State.reset.notices.latches.get 19 = none) ∧
    (¬∃ k : Fin 25, (State.reset.notices.latches.get k).isSome ∧ (State.reset.notices.conf.get k).enable = true ∧
      (State.reset.notices.conf.get k).repeats = true) ∧
    (∀ count ∈ [998, 999],
      let s := repeating count
      (∃ k : Fin 25, (s.notices.latches.get k).isSome ∧ (s.notices.conf.get k).enable = true ∧
          (s.notices.conf.get k).repeats = true) ∧
        ((s.notices.latches.get 19).isSome ∧ (s.tables.noticeConf.get 19).enable = true ∧
          (s.tables.noticeConf.get 19).repeats = true) ∧
        (∀ j : Fin 25, j < 19 → ¬((s.notices.latches.get j).isSome ∧ (s.tables.noticeConf.get j).enable = true ∧
          (s.tables.noticeConf.get j).repeats = true)) ∧
        s.notices.repeatTimer = count ∧ s.notices.latches.get 19 = some []) := by decide +kernel

/-- One command of each kind that `CommandsKeepOtherBlocks` names, each with a next state. -/
theorem test_witness_CommandsKeepOtherBlocks :
    (∃ t, exec .airFrame State.reset = .next t) ∧ (∃ t, exec .send State.reset = .next t) ∧
    (∃ t, exec (.header []) State.reset = .next t) ∧ (∃ t, exec (.alertFrame (input 0)) State.reset = .next t) ∧
    (∃ t, exec (.lineBusCycle noSlots) State.reset = .next t) ∧ (∃ t, exec .exchange State.reset = .next t) ∧
    (∃ t, exec .mixFrame State.reset = .next t) ∧ (∃ t, exec .dump State.reset = .next t) ∧
    Instr.airFrame ∈ airRows ∧ Instr.send ∈ sendRows ∧ Instr.dump ∈ orderRows.map Prod.fst :=
  ⟨⟨_, rfl⟩, ⟨_, rfl⟩, ⟨_, rfl⟩, ⟨_, rfl⟩, ⟨_, rfl⟩, ⟨_, rfl⟩, ⟨_, rfl⟩, ⟨_, rfl⟩, by decide, by decide, by decide⟩

/-! ### What every step keeps -/

/-- A record of the reset state's kind that names the alert slot of a recording. -/
def recordingState : State :=
  let s := recordingIs .writing 5 0 false
  (s.modIntake fun a =>
    { a with queue := [{ record alert 0 7 with words := (record alert 0 7).words.set 5 (audioWord 0 5) }] }).modClips fun c =>
      { c with free := c.free.erase 9 }

/-- The hypotheses of the five statements hold at reset with a command waiting, which leads to a next state. -/
theorem test_witness_StepKeeps :
    (let s := State.reset.withCommand .airFrame
     s.memoryWf = true ∧ s.studio.queueWf = true ∧ s.orders.wf = true ∧ s.link.wf = true ∧ s.delayWf = true ∧
       s.holdAgrees = true ∧ s.line.agrees = true ∧ s.airLinked = true ∧ s.marksAgree = true) ∧
    ∃ t, step (State.reset.withCommand .airFrame) = .next t := ⟨by decide +kernel, ⟨_, rfl⟩⟩

/-- A jitter queue, a held line, lines in use, a record on air: states within the invariants and away from reset. -/
theorem test_witness_StepKeeps_away :
    (expecting 100 [100, 103]).studio.queueWf = true ∧ (exampleLine [5, 6, 7] 0 3 .safe 8).delayWf = true ∧
    (exampleLine [5, 6, 7] 0 3 .safe 8).memoryWf = true ∧ (queued 16).orders.wf = true ∧
    (lineIn 5 .ready (lineIn 0 .onAir State.reset)).line.agrees = true ∧
    (inRun fun l => { l with sfc := 255, queue := List.replicate 8 note }).link.wf = true ∧
    (let s := (airing 0 fun a => { a with state := .leadIn, airing := some alert, present := true }).modIntake fun a =>
       { a with queue := a.queue.map fun r => { r with onAir := true } }
     s.airLinked = true ∧ s.marksAgree = true ∧ s.holdAgrees = true) := by decide +kernel

/-- The store's invariant at reset. -/
theorem test_witness_StepKeepsStore : State.reset.StoreWf :=
  ⟨by decide +kernel, by decide +kernel, by decide +kernel, by decide +kernel, by decide +kernel, by decide +kernel⟩

/-- The store's invariant in a recording: slot 0 holds page 9 and is named by the one record. -/
theorem test_witness_StepKeepsStore_recording : recordingState.StoreWf :=
  ⟨by decide +kernel, by decide +kernel, by decide +kernel, by decide +kernel, by decide +kernel, by decide +kernel⟩

end Sys2Proof.Tests
end

/-!
PROOF. The arrival of a PROGRAMME frame (R3, R6): its payload read back from the bytes that carry it, one equation for
each row of the arrival table, and the whole table for the command.
-/

namespace Sys2Proof.Machine

/-! ### Sample blocks read back (R207) -/

/-- Among runs of `k` bytes laid end to end, the one from byte `k * i` on is the run of item `i`. -/
theorem take_drop_flatMap {α β : Type} {k : Nat} (g : α → List β) (hg : ∀ a, (g a).length = k) (l : List α) (i : Nat)
    (hi : i < l.length) : ((l.flatMap g).drop (k * i)).take k = g l[i] := by
  induction l generalizing i with
  | nil => simp at hi
  | cons a l ih =>
    rw [List.flatMap_cons]
    cases i with
    | zero => simp [← hg a]
    | succ i =>
      have hk : k * (i + 1) = (g a).length + k * i := by rw [hg]; ring
      rw [hk, List.drop_length_add_append, ih i (by simpa using hi), List.getElem_cons_succ]

/-- A sample is read from its own 3 bytes alone. -/
theorem sampleAt_eq_take (bytes : List Byte) (i : Nat) : sampleAt bytes i = sampleAt ((bytes.drop i).take 3) 0 := by
  simp [sampleAt, byteAt, List.getD_eq_getElem?_getD]

/-- A block whose samples lie in range, read back from the 144 bytes that carry it. -/
theorem blockAt_of_blockBytes {bytes : List Byte} {i : Nat} {f : Frame} (hf : Frame.inRange f)
    (h : (bytes.drop i).take 144 = blockBytes f) : blockAt bytes i = f := by
  refine Vector.ext fun k hk => ?_
  have hchunk : ((blockBytes f).drop (3 * k)).take 3 = sampleBytes f[k] := by
    rw [blockBytes, take_drop_flatMap sampleBytes sampleBytes_length f.toList k (by simpa using hk), Vector.getElem_toList]
  calc (blockAt bytes i)[k] = sampleAt (blockBytes f) (3 * k) := by simp [blockAt, h]
    _ = sampleAt (sampleBytes f[k]) 0 := by rw [sampleAt_eq_take, hchunk]
    _ = f[k] := sampleAt_sampleBytes _ (hf ⟨k, hk⟩)

/-! ### The layout of a PROGRAMME payload (R209) -/

/-- The channel count of a width in force fits its byte. -/
theorem width_lt_256 {width : Nat} (hw : width ∈ [2, 4, 8]) : width < 256 := by
  have hcases : width = 2 ∨ width = 4 ∨ width = 8 := by simpa using hw
  omega

section Layout

variable (f : ProgrammeFrame)

theorem ProgrammeFrame.body_length : f.body.length = 7 + 144 * f.channels.length := by
  simp [ProgrammeFrame.body, List.length_flatMap]; ring

theorem channelCount_cons (body : List Byte) : channelCount (0x01 :: body) = (byteAt body 3).toNat := rfl

theorem channelCount_body (h : f.channels.length < 256) : channelCount (0x01 :: f.body) = f.channels.length := by
  have hbyte : byteAt (0x01 :: f.body) 4 = BitVec.ofNat 8 f.channels.length := rfl
  rw [channelCount, hbyte, BitVec.toNat_ofNat, Nat.mod_eq_of_lt h]

theorem sequence_body : BitVec.ofNat 16 (beAt (0x01 :: f.body) 2 2) = f.seq := by
  have hread : beAt (0x01 :: f.body) 2 2 = beAt (beBytes 2 f.seq.toNat) 0 2 := rfl
  rw [hread, beAt_beBytes 2 _ f.seq.isLt, BitVec.ofNat_toNat, BitVec.setWidth_eq]

theorem breakFlag_body : (byteAt (0x01 :: f.body) 1).getLsbD 0 = f.breakFlag := by
  have hbyte : byteAt (0x01 :: f.body) 1 = if f.breakFlag then 1 else 0 := rfl
  rw [hbyte]
  cases f.breakFlag <;> rfl

/-- The samples of channel `c` stand after the 8 bytes of the header and the channels before it. -/
theorem channel_body (c : Nat) (hc : c < f.channels.length) :
    ((0x01 :: f.body : List Byte).drop (8 + 144 * c)).take 144 = blockBytes f.channels[c] := by
  have hdrop : (0x01 :: f.body : List Byte).drop (8 + 144 * c) = (f.channels.flatMap blockBytes).drop (144 * c) := by
    rw [← List.drop_drop]; rfl
  rw [hdrop, take_drop_flatMap blockBytes blockBytes_length]

/-- A frame read back from the payload that carries it. -/
theorem readProgramme_body (h : f.channels.length < 256) (hf : ∀ c ∈ f.channels, Frame.inRange c) :
    readProgramme (0x01 :: f.body) = f := by
  have hchannels : ((List.range f.channels.length).map fun c => blockAt (0x01 :: f.body) (8 + 144 * c)) = f.channels := by
    refine List.ext_getElem (by simp) fun c _ hc => ?_
    rw [List.getElem_map, List.getElem_range]
    exact blockAt_of_blockBytes (hf _ (List.getElem_mem hc)) (channel_body f c hc)
  rw [readProgramme, sequence_body, channelCount_body f h, hchannels, breakFlag_body]

end Layout

/-! ### The form of a PROGRAMME payload (R3) -/

theorem programmeWhole_iff (width : Nat) (payload : List Byte) :
    programmeWhole width payload = true ↔
      channelCount payload ∈ [2, 4, 8] ∧ channelCount payload = width ∧
        payload.length = 8 + 144 * channelCount payload := by
  simp [programmeWhole, and_assoc, or_assoc]

/-- The payload of a frame is well-formed under the width that is its number of channels. -/
theorem programmeWhole_body {f : ProgrammeFrame} {width : Nat} (hn : f.channels.length = width)
    (hw : width ∈ [2, 4, 8]) : programmeWhole width (0x01 :: f.body) = true := by
  have hcount : channelCount (0x01 :: f.body) = width :=
    (channelCount_body f (hn ▸ width_lt_256 hw)).trans hn
  have hlength : (0x01 :: f.body : List Byte).length = 8 + 144 * width := by
    rw [List.length_cons, f.body_length, hn]; omega
  exact (programmeWhole_iff _ _).mpr ⟨by rwa [hcount], hcount, by rw [hcount, hlength]⟩

/-- A payload of another length or channel count than the width asks for is malformed. -/
theorem programmeWhole_eq_false {width : Nat} {body : List Byte}
    (h : body.length ≠ 7 + 144 * width ∨ (byteAt body 3).toNat ≠ width) : programmeWhole width (0x01 :: body) = false := by
  rw [Bool.eq_false_iff, ne_eq, programmeWhole_iff, channelCount_cons, List.length_cons]
  rintro ⟨-, hcount, hlength⟩
  rw [hcount] at hlength
  exact h.elim (fun hl => hl (by omega)) fun hc => hc hcount

/-! ### The rows of the arrival table (R6) -/

section Rows

variable {i : StudioInput} {f : ProgrammeFrame} {e : BitVec 16}

theorem StudioInput.arrive_first (h : i.expected = none) :
    i.arrive f = { i with expected := some f.seq, queue := [f] } := by simp [arrive, h]

theorem StudioInput.arrive_duplicate (he : i.expected = some e) (hd : (f.seq - e).toNat ≤ 3)
    (hq : ∃ g ∈ i.queue, g.seq = f.seq) :
    i.arrive f = { i with counters := { i.counters with duplicate := bump i.counters.duplicate 1 } } := by
  have hheld : (i.queue.any fun g => g.seq = f.seq) = true := by simpa using hq
  simp only [arrive, he, hd, hheld, if_true]

theorem StudioInput.arrive_inWindow (he : i.expected = some e) (hd : (f.seq - e).toNat ≤ 3)
    (hq : ∀ g ∈ i.queue, g.seq ≠ f.seq) : i.arrive f = { i with queue := placeFrame e f i.queue } := by
  have hheld : (i.queue.any fun g => g.seq = f.seq) = false := by simpa using hq
  simp only [arrive, he, hd, hheld, if_true, Bool.false_eq_true, if_false]

theorem StudioInput.arrive_resync (he : i.expected = some e) (hd : 4 ≤ (f.seq - e).toNat)
    (hr : (f.seq - e).toNat ≤ 32768 ∨ i.lost = true) : i.arrive f = i.resync f := by
  have hwindow : ¬(f.seq - e).toNat ≤ 3 := by omega
  simp only [arrive, he, hwindow, if_false, Bool.or_eq_true, decide_eq_true_eq, hr, if_true]

theorem StudioInput.arrive_late (he : i.expected = some e) (hd : 32768 < (f.seq - e).toNat) (hl : i.lost = false) :
    i.arrive f = { i with counters := { i.counters with late := bump i.counters.late 1 } } := by
  have hwindow : ¬(f.seq - e).toNat ≤ 3 := by omega
  have hresync : ¬(f.seq - e).toNat ≤ 32768 := by omega
  simp only [arrive, he, hwindow, hresync, hl, if_false, decide_false, Bool.or_self, Bool.false_eq_true]

end Rows

/-- R5: a frame is placed after every leading frame that is no farther from E than itself, and right before the first
one that is farther. -/
theorem placeFrame_split (e : BitVec 16) (f : ProgrammeFrame) (q : List ProgrammeFrame) :
    ∃ before after, q = before ++ after ∧ placeFrame e f q = before ++ f :: after ∧
      (∀ g ∈ before, (g.seq - e).toNat ≤ (f.seq - e).toNat) ∧
      ∀ g ∈ after.head?, (f.seq - e).toNat < (g.seq - e).toNat := by
  induction q with
  | nil => exact ⟨[], [], by simp [placeFrame]⟩
  | cons g rest ih =>
    by_cases hg : (f.seq - e).toNat < (g.seq - e).toNat
    · exact ⟨[], g :: rest, rfl, if_pos hg, by simp, by simpa using hg⟩
    · obtain ⟨before, after, hsplit, hplace, hbefore, hafter⟩ := ih
      refine ⟨g :: before, after, by rw [hsplit]; rfl, ?_, ?_, hafter⟩
      · rw [placeFrame, if_neg hg, hplace, List.cons_append]
      · exact List.forall_mem_cons.mpr ⟨Nat.le_of_not_lt hg, hbefore⟩

/-! ### The command -/

/-- PROGRAMME changes the studio input alone, by the arrival or by counting the frame as malformed (R3). -/
theorem exec_programme (body : List Byte) (s : State) :
    exec (.programme body) s = .next { s with
      studio := if programmeWhole s.studio.width (0x01 :: body) then s.studio.arrive (readProgramme (0x01 :: body))
        else s.studio.countMalformed 1
      sent := Sent.nothing } := rfl

/-- A well-formed frame, sent as its payload, arrives. -/
theorem exec_programme_body {s : State} {f : ProgrammeFrame} (hn : f.channels.length = s.studio.width)
    (hw : s.studio.width ∈ [2, 4, 8]) (hf : ∀ c ∈ f.channels, Frame.inRange c) :
    exec (.programme f.body) s = .next { s with studio := s.studio.arrive f, sent := Sent.nothing } := by
  rw [exec_programme, programmeWhole_body hn hw, if_pos rfl, readProgramme_body f (hn ▸ width_lt_256 hw) hf]

/-- Settles O36: the payload reads back as the frame (`readProgramme_body`), and each row of the table is the equation
of `StudioInput.arrive` for that row. -/
theorem programmeArrivalRows : Obligations.ProgrammeArrivalRows := by
  refine ⟨fun s f hn hw hf => ?_, fun s body h => ?_⟩
  · dsimp only
    rw [exec_programme_body hn hw hf]
    refine ⟨fun he => by rw [StudioInput.arrive_first he]; rfl,
      fun e he => ⟨fun hd hq => ?duplicate, fun hd hq => ?inWindow, fun hd hr => ?resync, fun hd hl => ?late⟩⟩
    case duplicate => rw [StudioInput.arrive_duplicate he hd hq]; rfl
    case inWindow =>
      obtain ⟨before, after, hsplit, hplace, hbefore, hafter⟩ := placeFrame_split e f s.studio.queue
      refine ⟨before, after, hsplit, hbefore, hafter, ?_⟩
      rw [StudioInput.arrive_inWindow he hd hq, hplace]
      rfl
    case resync => rw [StudioInput.arrive_resync he hd hr]; rfl
    case late => rw [StudioInput.arrive_late he hd hl]; rfl
  · rw [exec_programme, programmeWhole_eq_false h]
    rfl

end Sys2Proof.Machine

/-!
PROOF. A ramp under one target (R23, R24): the equations of the target and step stages, the range of a step that is
truncated toward zero, and the ramp's record in each mix frame.
-/

namespace Sys2Proof.Machine

/-! ### The target and step stages (R23, R24) -/

theorem Ramp.retarget_of_eq {r : Ramp} {m : Nat} (h : m = r.target) (length : Nat) : r.retarget m length = r :=
  if_pos h

theorem Ramp.retarget_of_ne {r : Ramp} {m : Nat} (h : m ≠ r.target) (length : Nat) :
    r.retarget m length = ⟨r.current, m, Int.tdiv (m - r.current : Int) length, length⟩ := if_neg h

theorem Ramp.advance_of_one_lt {r : Ramp} (h : 1 < r.left) :
    r.advance = { r with current := (r.current + r.step).toNat, left := r.left - 1 } := if_pos h

theorem Ramp.advance_of_left_eq_one {r : Ramp} (h : r.left = 1) :
    r.advance = { r with current := r.target, left := 0 } := by simp [advance, h]

theorem Ramp.advance_of_left_eq_zero {r : Ramp} (h : r.left = 0) : r.advance = r := by simp [advance, h]

/-! ### The step of a ramp, truncated toward zero (R23) -/

/-- No more than n steps of d over n stay between 0 and d, since truncation makes no step too long. -/
theorem tdiv_mul_mem_range (d : Int) {n j : Nat} (hj : j ≤ n) :
    min 0 d ≤ Int.tdiv d n * j ∧ Int.tdiv d n * j ≤ max 0 d := by
  obtain ⟨k, hk⟩ := d.eq_nat_or_neg
  have hle : ((k / n : Nat) : Int) * j ≤ k :=
    mod_cast (Nat.mul_le_mul_left (k / n) hj).trans (Nat.div_mul_le_self k n)
  have hnonneg : 0 ≤ ((k / n : Nat) : Int) * j := by positivity
  rcases hk with rfl | rfl
  · rw [← Int.ofNat_tdiv]
    omega
  · rw [Int.neg_tdiv, ← Int.ofNat_tdiv, Int.neg_mul]
    omega

/-! ### A ramp in progress -/

/-- The record after j steps of a ramp from `r` to `m` over n frames, before its last step. -/
def Ramp.partway (r : Ramp) (m n j : Nat) : Ramp :=
  ⟨(r.current + Int.tdiv (m - r.current : Int) n * j).toNat, m, Int.tdiv (m - r.current : Int) n, n - j⟩

/-- The record of a ramp from `r` to `m` over n frames, once it has landed; the step stays in the record. -/
def Ramp.landed (r : Ramp) (m n : Nat) : Ramp := ⟨m, m, Int.tdiv (m - r.current : Int) n, 0⟩

section Progress

variable (r : Ramp) {m n j : Nat}

/-- Up to the n-th step the sum of start and steps is no negative number, so the record holds it exactly. -/
theorem Ramp.partway_current (hj : j ≤ n) :
    ((r.partway m n j).current : Int) = r.current + Int.tdiv (m - r.current : Int) n * j := by
  have hrange := tdiv_mul_mem_range (m - r.current : Int) hj
  exact Int.toNat_of_nonneg (by omega)

theorem Ramp.partway_between (hj : j ≤ n) :
    min r.current m ≤ (r.partway m n j).current ∧ (r.partway m n j).current ≤ max r.current m := by
  have hcurrent := r.partway_current (m := m) hj
  have hrange := tdiv_mul_mem_range (m - r.current : Int) hj
  omega

theorem Ramp.retarget_eq_partway (h : m ≠ r.target) : r.retarget m n = r.partway m n 0 := by
  simp [retarget_of_ne h, partway]

theorem Ramp.advance_partway (hj : j + 1 < n) : (r.partway m n j).advance = r.partway m n (j + 1) := by
  have hleft : 1 < (r.partway m n j).left := by simp only [partway]; omega
  rw [advance_of_one_lt hleft, r.partway_current (by omega)]
  simp only [partway, Ramp.mk.injEq, true_and]
  exact ⟨by push_cast; ring_nf, by omega⟩

theorem Ramp.advance_partway_last (hj : n = j + 1) : (r.partway m n j).advance = r.landed m n :=
  advance_of_left_eq_one (show n - j = 1 by omega)

theorem Ramp.advance_landed : (r.landed m n).advance = r.landed m n := advance_of_left_eq_zero rfl

end Progress

/-! ### The course of a ramp over mix frames with one target -/

/-- The record after j mix frames that give the target `m`, with the ramp length of each frame. -/
def Ramp.course (r : Ramp) (m : Nat) (lengths : Nat → Nat) (j : Nat) : Ramp :=
  (List.range j).foldl (fun x k => (x.retarget m (lengths k)).advance) r

section Course

variable {r : Ramp} {m j : Nat} {lengths : Nat → Nat}

theorem Ramp.course_succ :
    r.course m lengths (j + 1) = ((r.course m lengths j).retarget m (lengths j)).advance := by
  simp [course, List.range_succ]

/-- Once the ramp has the target `m`, a further frame is a step alone, whatever its length. -/
theorem Ramp.course_succ_of_target (h : (r.course m lengths j).target = m) :
    r.course m lengths (j + 1) = (r.course m lengths j).advance := by
  rw [course_succ, retarget_of_eq h.symm]

/-- The first frame starts the ramp; each frame up to the n-th is a step from where the frame before it stood. -/
theorem Ramp.course_succ_eq_advance_partway (h : m ≠ r.target) (hj : j < lengths 0) :
    r.course m lengths (j + 1) = (r.partway m (lengths 0) j).advance := by
  induction j with
  | zero => rw [course_succ, ← r.retarget_eq_partway h]; rfl
  | succ j ih =>
    have hbefore := (ih (by omega)).trans (r.advance_partway hj)
    rw [course_succ_of_target (by rw [hbefore]; rfl), hbefore]

theorem Ramp.course_eq_partway (h : m ≠ r.target) (hpos : 1 ≤ j) (hj : j < lengths 0) :
    r.course m lengths j = r.partway m (lengths 0) j := by
  obtain ⟨i, rfl⟩ := Nat.exists_eq_add_of_le' hpos
  rw [course_succ_eq_advance_partway h (by omega), r.advance_partway hj]

theorem Ramp.course_eq_landed (h : m ≠ r.target) (hn : 1 ≤ lengths 0) (hj : lengths 0 ≤ j) :
    r.course m lengths j = r.landed m (lengths 0) := by
  induction j, hj using Nat.le_induction with
  | base =>
    obtain ⟨i, hi⟩ := Nat.exists_eq_add_of_le' hn
    rw [← r.advance_partway_last hi, ← course_succ_eq_advance_partway h (by omega), ← hi]
  | succ j _ ih => rw [course_succ_of_target (by rw [ih]; rfl), ih, r.advance_landed]

end Course

/-- Settles O39: the frames before the n-th hold the ramp partway (`Ramp.course_eq_partway`), and those from the n-th on
hold it landed (`Ramp.course_eq_landed`). -/
theorem rampReachesTarget : Obligations.RampReachesTarget := by
  refine ⟨fun _ => Ramp.retarget_of_eq rfl, fun r m lengths h hn => ⟨fun j hpos hj => ?partway, fun j hj => ?landed⟩⟩
  case partway =>
    change ((r.course m lengths j).current : Int) = _ ∧ (r.course m lengths j).left = _ ∧
      (r.course m lengths j).target = m ∧ _ ≤ (r.course m lengths j).current ∧ (r.course m lengths j).current ≤ _
    rw [Ramp.course_eq_partway h hpos hj]
    exact ⟨r.partway_current hj.le, rfl, rfl, r.partway_between hj.le⟩
  case landed =>
    change (r.course m lengths j).current = m ∧ (r.course m lengths j).left = 0 ∧ (r.course m lengths j).target = m
    rw [Ramp.course_eq_landed h hn hj]
    exact ⟨rfl, rfl, rfl⟩

end Sys2Proof.Machine

/-!
PROOF. DUMP (R53, R54): the delay line that it leaves, the latches that it may set, and its reply.
-/

namespace Sys2Proof.Machine

/-! ### The delay line -/

/-- The number of frames that a dump removes (R53). -/
def DelayLine.dumpCount (d : DelayLine) : Nat := min d.dumpLength d.held

/-- The delay line once a dump has removed its frames and counted itself, before the derivation (R53). -/
def DelayLine.dumped (d : DelayLine) : DelayLine :=
  { d with held := d.held - d.dumpCount, counters := { d.counters with dump := bump d.counters.dump 1 } }

/-- The data words of the DUMP reply (R54). -/
def DelayLine.dumpWords (d : DelayLine) (bypass : Bool) : List Word :=
  [Word.nat d.dumpCount, Word.nat (d.held - d.dumpCount), Word.nat (d.dumped.derived bypass).code]

theorem DelayLine.dumped_heldFrames (d : DelayLine) : d.dumped.heldFrames = d.heldFrames.take (d.held - d.dumpCount) :=
  d.heldFrames_take _ (Nat.sub_le ..)

theorem DelayLine.held_sub_dumped_held (d : DelayLine) : d.held - d.dumped.held = d.dumpCount :=
  Nat.sub_sub_self (Nat.min_le_right ..)

theorem DelayLine.dumpWords_length_le (d : DelayLine) (bypass : Bool) : (d.dumpWords bypass).length ≤ 240 := by
  simp [dumpWords]

/-! ### Latches that a condition guards -/

/-- A latch that is set keeps its detail, and one that is not takes the new one. -/
theorem latch_get_or (kind : NoticeKind) (detail : List Word) (s : State) (k : Fin 25) :
    (latch kind detail s).notices.latches.get k =
      (s.notices.latches.get k).or (if k = kind.index then some detail else none) := by
  rw [latch_get]
  split
  · rw [Option.or_some]
  · rw [Option.or_none]

/-- The latches after the derivation, DELAY_AT_TARGET (kind 10) being latched where R45 says so. -/
theorem deriveDelay_get_or (s : State) (k : Fin 25) :
    (deriveDelay s).notices.latches.get k =
      (s.notices.latches.get k).or
        (if k = 10 ∧ reachesTarget s.delay.state (s.delay.derived s.air.bypass) then some [Word.nat s.delay.target]
          else none) := by
  rw [deriveDelay_get]
  split
  · rw [Option.or_some]
  · rw [Option.or_none]

/-! ### The work of a dump -/

theorem dumpWork_eq (s : State) :
    dumpWork s =
      if s.delay.held < s.delay.dumpLength then
        latch .dumpShort [Word.nat s.delay.dumpCount] (deriveDelay (s.modDelay DelayLine.dumped))
      else deriveDelay (s.modDelay DelayLine.dumped) := rfl

@[simp] theorem dumpWork_delay (s : State) : (dumpWork s).delay = s.delay.dumped.derive s.air.bypass := by
  rw [dumpWork_eq]; split <;> simp

/-- A dump changes the delay line, the notices and what was sent, and nothing else. -/
theorem dumpWork_frame (s : State) :
    dumpWork s =
      { s with
        delay := s.delay.dumped.derive s.air.bypass, notices := (dumpWork s).notices, sent := (dumpWork s).sent } := by
  rw [dumpWork_eq]; split
  · rw [latch_frame, deriveDelay_frame]; rfl
  · rw [deriveDelay_frame]; rfl

/-- The latches after a dump: DELAY_AT_TARGET (kind 10) is latched where R45 says so, DUMP_SHORT (kind 8) where the line
held too few frames (R54). -/
theorem dumpWork_get (s : State) (k : Fin 25) :
    (dumpWork s).notices.latches.get k =
      ((s.notices.latches.get k).or
        (if k = 10 ∧ reachesTarget s.delay.state (s.delay.dumped.derived s.air.bypass) then
          some [Word.nat s.delay.target] else none)).or
        (if k = 8 ∧ s.delay.held < s.delay.dumpLength then some [Word.nat s.delay.dumpCount] else none) := by
  have hderive := deriveDelay_get_or (s.modDelay DelayLine.dumped) k
  rw [dumpWork_eq]; split
  case isTrue hshort => rw [latch_get_or, hderive]; simp only [hshort, and_true]; rfl
  case isFalse hshort => rw [hderive]; simp only [hshort, and_false, if_false, Option.or_none]; rfl

theorem dumpWork_get_dumpShort (s : State) :
    (dumpWork s).notices.latches.get 8 =
      (s.notices.latches.get 8).or
        (if s.delay.held < s.delay.dumpLength then some [Word.nat s.delay.dumpCount] else none) := by
  simp [dumpWork_get]

theorem dumpWork_get_delayAtTarget (s : State) :
    (dumpWork s).notices.latches.get 10 =
      (s.notices.latches.get 10).or
        (if reachesTarget s.delay.state (s.delay.dumped.derived s.air.bypass) then some [Word.nat s.delay.target]
          else none) := by
  simp [dumpWork_get]

theorem dumpWork_get_other (s : State) {k : Fin 25} (h8 : k ≠ 8) (h10 : k ≠ 10) :
    (dumpWork s).notices.latches.get k = s.notices.latches.get k := by
  simp [dumpWork_get, h8, h10]

/-! ### The command -/

@[simp] theorem reply_delay (o : QueuedOrder) (a : Answer) : (reply o a).delay = a.state.delay := by
  rw [reply, sendReply_eq]; rfl

@[simp] theorem reply_notices (o : QueuedOrder) (a : Answer) : (reply o a).notices = a.state.notices := by
  rw [reply, sendReply_eq]; rfl

/-- The REPLY frame is the last that an order sends on the studio port. -/
theorem reply_getLast? (o : QueuedOrder) (a : Answer) (h : a.words.length ≤ 240) :
    (reply o a).sent.studio.getLast? = some (replyTo o a.result a.words) := by
  rw [reply_single o a h]; exact List.getLast?_concat

/-- The answer to DUMP (R54). -/
theorem answerDump_eq (s : State) : answerDump [] s = ⟨dumpWork s, .done, s.delay.dumpWords s.air.bypass⟩ := by
  simp only [answerDump, noArgs, dumpWork_delay, DelayLine.derive_held, DelayLine.held_sub_dumped_held]
  rfl

/-- DUMP at the head of the queue is answered DONE once its work is done (R54, R196). -/
theorem exec_dump {s : State} {o : QueuedOrder} {rest : List QueuedOrder} (h : s.Heads o rest 0x28 []) :
    exec .dump s = .next (reply o ⟨dumpWork (s.taking rest), .done, s.delay.dumpWords s.air.bypass⟩) := by
  have hperform : exec .dump s = perform (takeCode 0x28 answerDump) s := rfl
  rw [hperform, perform_takeCode h, answerDump_eq]
  rfl

/-- Settles O12: DUMP answers with `dumpWork` (`exec_dump`), whose delay line is the dumped one derived anew, whose
latches the `dumpWork_get` lemmas give, and which leaves every other block alone (`dumpWork_frame`). -/
theorem dumpRemovesNewest : Obligations.DumpRemovesNewest := by
  intro s o rest h removed d1 new
  have hlength := s.delay.dumpWords_length_le s.air.bypass
  refine ⟨_, exec_dump h, ?frame, ?delay, ?frames, reply_getLast? o _ hlength, ?dumpShort, ?atTarget, ?others⟩
  case frame => rw [reply_single o _ hlength, dumpWork_frame]; rfl
  case delay => rw [reply_delay]; exact dumpWork_delay _
  case frames =>
    rw [reply_delay, dumpWork_delay, DelayLine.derive_heldFrames]
    exact s.delay.dumped_heldFrames
  case dumpShort => rw [reply_notices]; exact dumpWork_get_dumpShort _
  case atTarget => rw [reply_notices]; exact dumpWork_get_delayAtTarget _
  case others => intro k h8 h10; rw [reply_notices]; exact dumpWork_get_other _ h8 h10

end Sys2Proof.Machine

/-!
PROOF. What one step does: every command is the work of its row on the state with nothing sent, and a property that the
work of every row keeps is kept by every step.
-/

namespace Sys2Proof.Machine

/-! ### The work of a row -/

/-- The work of a row for an occurrence: done where the occurrence is due (log entry 3). -/
def whenDue (due : State → Bool) (f : State → State) (s : State) : State := if due s then f s else s

/-- What a command does to the state in which nothing has been sent. -/
def work : Instr → State → State
  | .powerOnReset => powerOn
  | .framePeriod => periodWork
  | .programme body => programmeArrives body
  | .order src frame => orderArrives src frame
  | .unknownOrder => takeUnknown
  | .fill body => fillArrives body
  | .fillCheck src body => fillCheckArrives src body
  | .lineBusCycle slots => lineWork slots
  | .ringLimitReached k slots => whenDue (limitDue LineUnit.ringOver k slots) (lineWork slots)
  | .holdLimitReached k slots => whenDue (limitDue LineUnit.holdOver k slots) (lineWork slots)
  | .mixFrame => mixWork
  | .exchange => exchangeWork
  | .airFrame => airWork
  | .leadInEnd => whenDue (fun s => leadInOver (airMiddle s)) airWork
  | .attentionEnd => whenDue (fun s => attentionOver (airMiddle s)) airWork
  | .closingEnd => whenDue (fun s => closingOver (airMiddle s)) airWork
  | .completion => whenDue (fun s => leadOutOver (airMiddle s)) airWork
  | .breakDeadlineReached => whenDue deadlineReached airWork
  | .send => sendWork
  | .burstEnd => whenDue (fun s => burstEndDue (sendMessages (sendBegin s)).link) sendWork
  | .wakeTimerTimeout => whenDue (fun s => wakeDue (adoptedLink s)) sendWork
  | .probe => whenDue (fun s =>
      !enteredCutBetween s (sendMessages (sendBegin s)) && probeDue (sendMessages (sendBegin s)).link) sendWork
  | .gapTimer => whenDue (fun s => gapDue (adoptedLink s)) sendWork
  | .messageResend => whenDue resendDue sendWork
  | .messageDrop => whenDue (fun s => ((sendBegin s).link.tickMessage.dropping).isSome) sendWork
  | .requestTimer => whenDue (fun s => requestDue (tickGap (adoptLink s)).link) sendWork
  | .quietTimer => whenDue (fun s => quietDue (tickGap (adoptLink s)).link) sendWork
  | .keepalive => whenDue (fun s => keepaliveDue (adoptedLink s)) sendWork
  | .asleepWatch => whenDue (fun s => watchDue (adoptedLink s)) sendWork
  | .returnFrame frame => returnArrives frame
  | .header rest => headerArrives rest
  | .audioBegin rest => audioBeginArrives rest
  | .audioEnd rest => audioEndArrives rest
  | .alertRecordDiscard record => whenDue (fun _ => recordBad record) countIntakeError
  | .incompleteRecord bytes => whenDue (fun _ => recordBegun bytes) countIntakeError
  | .alertFrame audio => alertWork audio
  | .beginWaitReached audio => whenDue (fun s => beginWaitOver (alertBegin s).intake.recording) (alertWork audio)
  | .recordingLimit audio => whenDue limitFrameDue (alertWork audio)
  | .minuteEvent audio => whenDue minuteDue (alertWork audio)
  | .repeatTimer => whenDue repeatDue periodWork
  | .tPoint => takeCode 0x10 answerTPoint
  | .tWrite => takeCode 0x11 answerTWrite
  | .tRead => takeCode 0x12 answerTRead
  | .status => takeCode 0x20 answerStatus
  | .mask => takeCode 0x21 answerMask
  | .counters => takeCode 0x22 answerCounters
  | .restart => takeOrder (· == 0x23) answerRestart restartAll
  | .timeSet => takeCode 0x26 answerTimeSet
  | .bypass => takeCode 0x27 answerBypass
  | .dump => takeCode 0x28 answerDump
  | .lineAnswer => takeCode 0x40 answerLineAnswer
  | .lineHold => takeCode 0x41 answerLineHold
  | .lineReady => takeCode 0x42 answerLineReady
  | .lineTake => takeCode 0x43 answerLineTake
  | .lineDrop => takeCode 0x44 answerLineDrop
  | .lineTag => takeCode 0x45 answerLineTag
  | .clipOpen => takeCode 0x50 answerClipOpen
  | .clipAbort => takeCode 0x51 answerClipAbort
  | .clipErase => takeCode 0x52 answerClipErase
  | .playerCue => takeCode 0x58 answerPlayerCue
  | .playerStart => takeCode 0x59 answerPlayerStart
  | .playerStop => takeCode 0x5A answerPlayerStop
  | .alertList => takeCode 0x60 answerAlertList
  | .alertRelease => takeCode 0x61 answerAlertRelease
  | .alertCancel => takeCode 0x62 answerAlertCancel
  | .alertTest => takeCode 0x63 answerAlertTest
  | .breakOrder => takeCode 0x64 answerBreak
  | .linkSleep => takeCode 0x68 answerLinkSleep
  | .linkWake => takeCode 0x69 answerLinkWake
  | .linkStatus => takeCode 0x6A answerLinkStatus

/-- The state in which nothing has been sent. -/
def State.cleared (s : State) : State := { s with sent := ⟨[], [], []⟩ }

@[simp] theorem State.cleared_frameCount (s : State) : s.cleared.frameCount = s.frameCount := rfl
@[simp] theorem State.cleared_tables (s : State) : s.cleared.tables = s.tables := rfl
@[simp] theorem State.cleared_studio (s : State) : s.cleared.studio = s.studio := rfl
@[simp] theorem State.cleared_mix (s : State) : s.cleared.mix = s.mix := rfl
@[simp] theorem State.cleared_delay (s : State) : s.cleared.delay = s.delay := rfl
@[simp] theorem State.cleared_line (s : State) : s.cleared.line = s.line := rfl
@[simp] theorem State.cleared_clips (s : State) : s.cleared.clips = s.clips := rfl
@[simp] theorem State.cleared_players (s : State) : s.cleared.players = s.players := rfl
@[simp] theorem State.cleared_intake (s : State) : s.cleared.intake = s.intake := rfl
@[simp] theorem State.cleared_air (s : State) : s.cleared.air = s.air := rfl
@[simp] theorem State.cleared_link (s : State) : s.cleared.link = s.link := rfl
@[simp] theorem State.cleared_orders (s : State) : s.cleared.orders = s.orders := rfl
@[simp] theorem State.cleared_notices (s : State) : s.cleared.notices = s.notices := rfl
@[simp] theorem State.cleared_sent (s : State) : s.cleared.sent = ⟨[], [], []⟩ := rfl
@[simp] theorem State.cleared_pending (s : State) : s.cleared.pending = s.pending := rfl
@[simp] theorem State.cleared_setting (s : State) (e : Fin 26) : s.cleared.setting e = s.setting e := rfl
@[simp] theorem State.cleared_slotSetting (s : State) (e : Fin 26) : s.cleared.slotSetting e = s.slotSetting e := rfl

/-- Every command completes, with the work of its row. -/
theorem exec_eq (c : Instr) (s : State) : exec c s = .next (work c s.cleared) := by cases c <;> rfl

/-- A step leaves the state as it is, or does the work of the command at the front of the queue. -/
theorem step_cases {s t : State} (h : step s = .next t) :
    (s.pending = [] ∧ t = s) ∨
      ∃ c rest, s.pending = c :: rest ∧ t = work c { s with pending := rest, sent := ⟨[], [], []⟩ } := by
  unfold step at h
  split at h
  · rename_i hp
    exact .inl ⟨hp, by cases h; rfl⟩
  · rename_i c rest hp
    rw [exec_eq] at h
    exact .inr ⟨c, rest, hp, by cases h; rfl⟩

/-! ### Properties kept -/

/-- An operation keeps a property. -/
def Keeps (P : State → Prop) (f : State → State) : Prop := ∀ s, P s → P (f s)

theorem Keeps.whenDue {P : State → Prop} {f : State → State} (h : Keeps P f) (due : State → Bool) :
    Keeps P (whenDue due f) := by
  intro s hs
  unfold Machine.whenDue
  split
  · exact h s hs
  · exact hs

/-- A property kept by the meaning of every order but T-WRITE, and by what the taking of an order does besides: sending
frames, and the order unit's dequeue and count. -/
structure KeptByOrders (P : State → Prop) : Prop where
  sent : ∀ s o, P s → P { s with sent := o }
  dequeue : ∀ s o rest, s.orders.queue = o :: rest → P s → P (dequeue rest s)
  refused : ∀ s n, P s → P (s.modOrders fun u => { u with refused := n })
  restart : Keeps P restartAll
  tPoint : ∀ args s, P s → P (answerTPoint args s).state
  tRead : ∀ args s, P s → P (answerTRead args s).state
  status : Keeps P clearLatches
  mask : ∀ args s, P s → P (answerMask args s).state
  counters : Keeps P clearCounters
  timeSet : ∀ args s, P s → P (answerTimeSet args s).state
  bypass : ∀ on, Keeps P (setBypass on)
  dump : Keeps P dumpWork
  lineAnswer : ∀ k s, P s → P (answerLine k s).state
  lineHold : ∀ k s, P s → P (holdLine k s).state
  lineReady : ∀ k s, P s → P (readyLine k s).state
  lineTake : ∀ k s, P s → P (takeLine k s).state
  lineTakeHead : ∀ s, P s → P (takeHead s).state
  lineDrop : ∀ k s, P s → P (dropLine k s).state
  lineTag : ∀ k v s, P s → P (tagLine k v s).state
  clipOpen : ∀ args s, P s → P (answerClipOpen args s).state
  clipAbort : ∀ args s, P s → P (answerClipAbort args s).state
  clipErase : ∀ args s, P s → P (answerClipErase args s).state
  cue : ∀ p n s, P s → P (cueSlot p n s).state
  startCued : ∀ p s, P s → P (startCued p s).state
  startSlot : ∀ p n s, P s → P (startSlot p n s).state
  idle : ∀ p, Keeps P (idlePlayer p)
  release : ∀ i, Keeps P (recordLeaves i)
  cancel : ∀ i, Keeps P (cancelRecord i)
  test : ∀ h, Keeps P fun s => (intakeHeader h s).1
  breakOrder : Keeps P breakEvent
  sleep : ∀ s, sleepAllowed s = true → P s → P (startSleep s)
  wake : ∀ args s, P s → P (answerLinkWake args s).state
  linkStatus : ∀ args s, P s → P (answerLinkStatus args s).state

/-- A property kept by the work of every row. -/
structure KeptByRows (P : State → Prop) : Prop extends KeptByOrders P where
  powerOn : Keeps P powerOn
  period : Keeps P periodWork
  programme : ∀ body, Keeps P (programmeArrives body)
  order : ∀ src frame, Keeps P (orderArrives src frame)
  fill : ∀ body, Keeps P (fillArrives body)
  fillCheck : ∀ src body, Keeps P (fillCheckArrives src body)
  lines : ∀ slots, Keeps P (lineWork slots)
  mix : Keeps P mixWork
  exchange : Keeps P exchangeWork
  air : Keeps P airWork
  send : Keeps P sendWork
  returns : ∀ frame, Keeps P (returnArrives frame)
  header : ∀ rest, Keeps P (headerArrives rest)
  audioBegin : ∀ rest, Keeps P (audioBeginArrives rest)
  audioEnd : ∀ rest, Keeps P (audioEndArrives rest)
  intakeError : Keeps P countIntakeError
  alert : ∀ audio, Keeps P (alertWork audio)
  tWrite : ∀ args s, P s → P (answerTWrite args s).state

section
variable {P : State → Prop} (h : KeptByOrders P)
include h

theorem KeptByOrders.reply {o : QueuedOrder} {a : Answer} (ha : P a.state) : P (reply o a) := by
  rw [Machine.reply, sendReply_eq]
  exact h.sent _ _ (h.refused _ _ ha)

/-- The taking of an order keeps what its handler and what follows its reply keep. -/
theorem KeptByOrders.takeOrder {handler : List Word → State → Answer} {after : State → State}
    (hh : ∀ args s, P s → P (handler args s).state) (ha : Keeps P after) (code : Byte → Bool) :
    Keeps P (takeOrder code handler after) := by
  intro s hs
  unfold Machine.takeOrder
  split
  · exact hs
  · rename_i o rest hq
    have hd := h.dequeue s o rest hq hs
    have hj : P (judgeForm handler o (Machine.dequeue rest s)).state := by
      unfold judgeForm
      split
      · exact hh _ _ hd
      · exact hd
    split
    · dsimp only
      split
      · exact ha _ (h.reply hj)
      · exact h.reply hj
    · exact hs

theorem KeptByOrders.takeCode {handler : List Word → State → Answer}
    (hh : ∀ args s, P s → P (handler args s).state) (code : Byte) : Keeps P (takeCode code handler) :=
  h.takeOrder hh (fun _ hs => hs) _

theorem KeptByOrders.takeUnknown : Keeps P takeUnknown := by
  intro s hs
  unfold Machine.takeUnknown
  split
  · exact hs
  · rename_i o rest hq
    split
    · exact h.reply (h.dequeue s o rest hq hs)
    · exact hs

omit h in
/-- An order without argument words keeps what its meaning keeps. -/
theorem noArgs_keeps {f : State → Answer} (hf : ∀ s, P s → P (f s).state) (args : List Word) (s : State) (hs : P s) :
    P (noArgs f args s).state := by
  unfold noArgs
  split
  · exact hf s hs
  · exact hs

omit h in
/-- A line order keeps what its meaning on a line keeps. -/
theorem onLine_keeps {f : Fin 6 → State → Answer} (hf : ∀ k s, P s → P (f k s).state) (args : List Word) (s : State)
    (hs : P s) : P (onLine f args s).state := by
  unfold onLine
  split
  · split
    · exact hf _ s hs
    · exact hs
  · exact hs

theorem KeptByOrders.answerLineTake (args : List Word) (s : State) (hs : P s) : P (answerLineTake args s).state := by
  unfold Machine.answerLineTake
  split
  · exact h.lineTakeHead s hs
  · exact onLine_keeps h.lineTake _ s hs

theorem KeptByOrders.answerLineTag (args : List Word) (s : State) (hs : P s) : P (answerLineTag args s).state := by
  unfold Machine.answerLineTag
  split
  · split
    · exact h.lineTag _ _ s hs
    · exact hs
  · exact hs

omit h in
theorem playerRefused_keeps (args : List Word) (s : State) (hs : P s) : P (playerRefused args s).state := by
  rw [playerRefused_answer]; exact hs

theorem KeptByOrders.answerPlayerCue (args : List Word) (s : State) (hs : P s) : P (answerPlayerCue args s).state := by
  unfold Machine.answerPlayerCue
  split
  · split
    · exact h.cue _ _ s hs
    · exact playerRefused_keeps _ s hs
  · exact playerRefused_keeps _ s hs

theorem KeptByOrders.answerPlayerStart (args : List Word) (s : State) (hs : P s) : P (answerPlayerStart args s).state := by
  unfold Machine.answerPlayerStart
  split
  · split
    · exact h.startCued _ s hs
    · exact playerRefused_keeps _ s hs
  · split
    · exact h.startSlot _ _ s hs
    · exact playerRefused_keeps _ s hs
  · exact playerRefused_keeps _ s hs

theorem KeptByOrders.answerPlayerStop (args : List Word) (s : State) (hs : P s) : P (answerPlayerStop args s).state := by
  unfold Machine.answerPlayerStop
  split
  · split
    · split
      · exact hs
      · exact h.idle _ s hs
      · exact h.idle _ s hs
    · exact playerRefused_keeps _ s hs
  · exact playerRefused_keeps _ s hs

theorem KeptByOrders.answerStatus (args : List Word) (s : State) (hs : P s) : P (answerStatus args s).state := by
  unfold Machine.answerStatus
  split
  · exact h.status s hs
  · exact hs

theorem KeptByOrders.answerCounters (args : List Word) (s : State) (hs : P s) : P (answerCounters args s).state := by
  unfold Machine.answerCounters
  split
  · exact h.counters s hs
  · exact hs

theorem KeptByOrders.answerBypass (args : List Word) (s : State) (hs : P s) : P (answerBypass args s).state := by
  unfold Machine.answerBypass
  split
  · split
    · exact h.bypass _ s hs
    · exact hs
  · exact hs

omit h in
theorem answerAlertList_state (args : List Word) (s : State) : (answerAlertList args s).state = s := by
  unfold answerAlertList
  split
  · split
    · rfl
    · split <;> rfl
  · rfl

theorem KeptByOrders.answerAlertRelease (args : List Word) (s : State) (hs : P s) :
    P (answerAlertRelease args s).state := by
  unfold Machine.answerAlertRelease
  split
  · split
    · exact hs
    · split
      · split
        · exact hs
        · exact h.release _ s hs
      · exact hs
  · exact hs

theorem KeptByOrders.answerAlertCancel (args : List Word) (s : State) (hs : P s) : P (answerAlertCancel args s).state := by
  unfold Machine.answerAlertCancel
  split
  · split
    · exact hs
    · split
      · exact h.cancel _ s hs
      · exact hs
  · exact hs

theorem KeptByOrders.answerAlertTest (args : List Word) (s : State) (hs : P s) : P (answerAlertTest args s).state := by
  unfold Machine.answerAlertTest
  split
  · split
    · exact h.test _ s hs
    · exact hs
  · exact hs

/-- The work of every order keeps the property, that of T-WRITE where its meaning does. -/
theorem KeptByOrders.work {c : Instr} (hc : c ∈ orderRows.map Prod.fst)
    (hw : c = .tWrite → ∀ args s, P s → P (answerTWrite args s).state) : Keeps P (work c) := by
  cases c
  case tPoint => exact h.takeCode h.tPoint _
  case tWrite => exact h.takeCode (hw rfl) _
  case tRead => exact h.takeCode h.tRead _
  case status => exact h.takeCode h.answerStatus _
  case mask => exact h.takeCode h.mask _
  case counters => exact h.takeCode h.answerCounters _
  case restart =>
    refine h.takeOrder (handler := answerRestart) (fun args s hs => ?_) h.restart (· == 0x23)
    exact noArgs_keeps (fun _ hs => hs) args s hs
  case timeSet => exact h.takeCode h.timeSet _
  case bypass => exact h.takeCode h.answerBypass _
  case dump =>
    refine h.takeCode (noArgs_keeps fun s hs => ?_) _
    exact h.dump s hs
  case lineAnswer => exact h.takeCode (onLine_keeps h.lineAnswer) _
  case lineHold => exact h.takeCode (onLine_keeps h.lineHold) _
  case lineReady => exact h.takeCode (onLine_keeps h.lineReady) _
  case lineTake => exact h.takeCode h.answerLineTake _
  case lineDrop => exact h.takeCode (onLine_keeps h.lineDrop) _
  case lineTag => exact h.takeCode h.answerLineTag _
  case clipOpen => exact h.takeCode h.clipOpen _
  case clipAbort => exact h.takeCode h.clipAbort _
  case clipErase => exact h.takeCode h.clipErase _
  case playerCue => exact h.takeCode h.answerPlayerCue _
  case playerStart => exact h.takeCode h.answerPlayerStart _
  case playerStop => exact h.takeCode h.answerPlayerStop _
  case alertList => exact h.takeCode (fun args s hs => (answerAlertList_state args s).symm ▸ hs) _
  case alertRelease => exact h.takeCode h.answerAlertRelease _
  case alertCancel => exact h.takeCode h.answerAlertCancel _
  case alertTest => exact h.takeCode h.answerAlertTest _
  case breakOrder =>
    refine h.takeCode (noArgs_keeps fun s hs => ?_) _
    exact h.breakOrder s hs
  case linkSleep =>
    refine h.takeCode (noArgs_keeps fun s hs => ?_) _
    split
    · rename_i ha; exact h.sleep s ha hs
    · exact hs
  case linkWake => exact h.takeCode h.wake _
  case linkStatus => exact h.takeCode h.linkStatus _
  all_goals simp [orderRows] at hc

end

section
variable {P : State → Prop} (h : KeptByRows P)
include h

/-- The work of every command keeps the property. -/
theorem KeptByRows.work (c : Instr) : Keeps P (work c) := by
  cases c
  case powerOnReset => exact h.powerOn
  case framePeriod => exact h.period
  case repeatTimer => exact h.period.whenDue _
  case programme body => exact h.programme body
  case order src frame => exact h.order src frame
  case unknownOrder => exact h.takeUnknown
  case fill body => exact h.fill body
  case fillCheck src body => exact h.fillCheck src body
  case lineBusCycle slots => exact h.lines slots
  case ringLimitReached k slots => exact (h.lines slots).whenDue _
  case holdLimitReached k slots => exact (h.lines slots).whenDue _
  case mixFrame => exact h.mix
  case exchange => exact h.exchange
  case airFrame => exact h.air
  case leadInEnd | attentionEnd | closingEnd | completion | breakDeadlineReached => exact h.air.whenDue _
  case send => exact h.send
  case burstEnd | wakeTimerTimeout | probe | gapTimer | messageResend | messageDrop | requestTimer | quietTimer |
    keepalive | asleepWatch => exact h.send.whenDue _
  case returnFrame frame => exact h.returns frame
  case header rest => exact h.header rest
  case audioBegin rest => exact h.audioBegin rest
  case audioEnd rest => exact h.audioEnd rest
  case alertRecordDiscard | incompleteRecord => exact h.intakeError.whenDue _
  case alertFrame audio => exact h.alert audio
  case beginWaitReached audio | recordingLimit audio | minuteEvent audio => exact (h.alert audio).whenDue _
  all_goals exact h.toKeptByOrders.work (by simp [orderRows]) fun _ => h.tWrite

/-- Every step keeps the property, which says nothing of the commands that wait. -/
theorem KeptByRows.step (hp : ∀ s rest, P s → P { s with pending := rest }) {s t : State} (hs : P s)
    (hstep : step s = .next t) : P t := by
  obtain ⟨-, rfl⟩ | ⟨c, rest, -, rfl⟩ := step_cases hstep
  · exact hs
  · exact h.work c _ (h.sent _ ⟨[], [], []⟩ (hp s rest hs))

end

end Sys2Proof.Machine

/-!
PROOF. The clip store and its agreement with alert intake, in a form that proofs use: pages and holds are counted, and each
shared operation of the store is shown to keep the counts (R89, R91, R92, R97, R105 to R107).
-/

namespace Sys2Proof.Machine

/-! ### Sums that differ at one place -/

/-- Two functions that agree but at one place have sums that differ by their values there. -/
theorem sum_add_eq_of_agree_off {n : Nat} {f g : Fin n → Nat} (k : Fin n) (h : ∀ j, j ≠ k → f j = g j) :
    (∑ j, f j) + g k = (∑ j, g j) + f k := by
  have hf := Finset.add_sum_erase Finset.univ f (Finset.mem_univ k)
  have hg := Finset.add_sum_erase Finset.univ g (Finset.mem_univ k)
  have hrest : ∑ j ∈ Finset.univ.erase k, f j = ∑ j ∈ Finset.univ.erase k, g j :=
    Finset.sum_congr rfl fun j hj => h j (Finset.ne_of_mem_erase hj)
  omega

/-! ### The store, counted -/

/-- The page of the burst in flight, if any. -/
def ClipStore.burst (c : ClipStore) : List Nat :=
  match c.fill with
  | .opened b => [b.page]
  | _ => []

/-- The pages, holds and slots of the clip store, counted page by page and reader by reader. -/
structure ClipStore.Sound (c : ClipStore) : Prop where
  pages : ∀ p, c.free.count p + (∑ n, (c.slots.get n).chain.count p) + c.burst.count p =
    (List.range Config.clipPages).count p
  holds : ∀ n, (c.slots.get n).useCount = ∑ r, if c.holds.get r = some n then 1 else 0
  empty : ∀ n, (c.slots.get n).state = .empty → (c.slots.get n).chain = []
  held : ∀ n r, c.holds.get r = some n → (c.slots.get n).state.holdable = true
  fills : ∀ b, c.fill = .opened b → (c.slots.get b.slot).state = .filling

theorem vector_toList_eq_map {α : Type} {n : Nat} (v : Vector α n) : v.toList = (List.finRange n).map v.get := by
  refine List.ext_getElem (by simp) fun i h₁ h₂ => ?_
  simp [Vector.get_eq_getElem]

theorem countP_eq_sum_map {α : Type} (p : α → Bool) (l : List α) :
    l.countP p = (l.map fun x => if p x = true then 1 else 0).sum := by
  induction l with
  | nil => rfl
  | cons x l ih => simp [List.countP_cons, ih, Nat.add_comm]

theorem ClipStore.count_usedPages (c : ClipStore) (p : Nat) :
    c.usedPages.count p = (∑ n, (c.slots.get n).chain.count p) + c.burst.count p := by
  have hburst : c.usedPages = c.slots.toList.flatMap Slot.chain ++ c.burst := rfl
  rw [hburst, List.count_append, vector_toList_eq_map, List.count_flatMap, List.map_map, Fin.sum_univ_def]
  rfl

theorem ClipStore.pagesWf_iff (c : ClipStore) :
    c.pagesWf = true ↔ ∀ p, c.free.count p + (∑ n, (c.slots.get n).chain.count p) + c.burst.count p =
      (List.range Config.clipPages).count p := by
  simp only [ClipStore.pagesWf, decide_eq_true_eq, List.perm_iff_count, List.count_append, ClipStore.count_usedPages,
    Nat.add_assoc]

theorem ClipStore.holders_eq_sum (c : ClipStore) (n : Fin 32) :
    c.holders n = ∑ r, if c.holds.get r = some n then 1 else 0 := by
  rw [ClipStore.holders, vector_toList_eq_map, List.countP_map, countP_eq_sum_map, Fin.sum_univ_def]
  simp

theorem ClipStore.holders_eq_zero_iff (c : ClipStore) (n : Fin 32) :
    c.holders n = 0 ↔ ∀ r, c.holds.get r ≠ some n := by
  simp [ClipStore.holders_eq_sum]

theorem ClipStore.holdsWf_iff (c : ClipStore) :
    c.holdsWf = true ↔ ∀ n, (c.slots.get n).useCount = ∑ r, if c.holds.get r = some n then 1 else 0 := by
  simp [ClipStore.holdsWf, ClipStore.holders_eq_sum]

theorem ClipStore.slotsWf_iff (c : ClipStore) :
    c.slotsWf = true ↔ (∀ n, (c.slots.get n).state = .empty → (c.slots.get n).chain = []) ∧
      (∀ n r, c.holds.get r = some n → (c.slots.get n).state.holdable = true) ∧
      ∀ b, c.fill = .opened b → (c.slots.get b.slot).state = .filling := by
  have hfill : (match c.fill with
      | .opened b => decide ((c.slots.get b.slot).state = .filling)
      | _ => true) = true ↔ ∀ b, c.fill = .opened b → (c.slots.get b.slot).state = .filling := by
    cases c.fill <;> simp
  have hheld (n : Fin 32) : ((c.slots.get n).state.holdable || decide (c.holders n = 0)) = true ↔
      ∀ r, c.holds.get r = some n → (c.slots.get n).state.holdable = true := by
    rw [Bool.or_eq_true, decide_eq_true_eq, c.holders_eq_zero_iff]
    by_cases hs : (c.slots.get n).state.holdable = true <;> simp [hs]
  rw [ClipStore.slotsWf, Bool.and_eq_true, List.all_eq_true]
  refine Iff.trans (and_congr Iff.rfl hfill) ?_
  simp only [Bool.and_eq_true, hheld, ← and_assoc]
  refine and_congr_left fun _ => ?_
  simp only [Bool.or_eq_true, decide_eq_true_eq, List.isEmpty_iff, List.mem_finRange, true_implies]
  constructor
  · exact fun h => ⟨fun n hn => (h n).1.resolve_left (fun hne => hne hn), fun n => (h n).2⟩
  · exact fun h n => ⟨or_iff_not_imp_left.mpr fun hn => h.1 n (not_not.mp hn), h.2 n⟩

theorem ClipStore.sound_iff (c : ClipStore) :
    c.Sound ↔ c.pagesWf = true ∧ c.holdsWf = true ∧ c.slotsWf = true := by
  rw [c.pagesWf_iff, c.holdsWf_iff, c.slotsWf_iff]
  exact ⟨fun h => ⟨h.pages, h.holds, h.empty, h.held, h.fills⟩, fun ⟨hp, hh, he, hl, hf⟩ => ⟨hp, hh, he, hl, hf⟩⟩

/-- Nothing of the counts depends on the other items of the store. -/
theorem ClipStore.Sound.congr {c d : ClipStore} (h : c.Sound) (hfree : d.free = c.free) (hslots : d.slots = c.slots)
    (hholds : d.holds = c.holds) (hfill : d.fill = c.fill) : d.Sound := by
  obtain ⟨hp, hh, he, hl, hf⟩ := h
  have hb : d.burst = c.burst := by simp only [ClipStore.burst, hfill]
  constructor
  · simpa only [hfree, hslots, hb] using hp
  · simpa only [hslots, hholds] using hh
  · simpa only [hslots] using he
  · simpa only [hslots, hholds] using hl
  · simpa only [hslots, hfill] using hf

/-! ### Holds -/

/-- A reader that gives up its hold keeps the counts. -/
theorem ClipStore.Sound.release {c : ClipStore} (h : c.Sound) (r : Reader) : (c.release r).Sound := by
  have hget := c.release_get r
  have hchain (n : Fin 32) : ((c.release r).slots.get n).chain = (c.slots.get n).chain := by
    rw [hget]; split <;> rfl
  have hstate (n : Fin 32) : ((c.release r).slots.get n).state = (c.slots.get n).state := by
    rw [hget]; split <;> rfl
  have hfree : (c.release r).free = c.free := by rw [c.release_frame]
  have hfill : (c.release r).fill = c.fill := by rw [c.release_frame]
  have hburst : (c.release r).burst = c.burst := by simp only [ClipStore.burst, hfill]
  refine ⟨fun p => ?_, fun n => ?_, fun n hn => ?_, fun n q hq => ?_, fun b hb => ?_⟩
  · simpa only [hfree, hchain, hburst] using h.pages p
  · have hsum := sum_add_eq_of_agree_off (f := fun q => if (c.release r).holds.get q = some n then 1 else 0)
      (g := fun q => if c.holds.get q = some n then 1 else 0) r
      fun q hq => by rw [c.release_holds, if_neg hq]
    have huse := h.holds n
    simp only [c.release_holds, if_true, reduceCtorEq, if_false] at hsum ⊢
    rw [hget]
    split at hsum <;> rename_i hr
    · simp only [hr, if_true]; omega
    · simp only [hr, if_false]; omega
  · rw [hchain]; exact h.empty n (by rwa [hstate] at hn)
  · rw [c.release_holds] at hq
    rw [hstate]
    split at hq
    · cases hq
    · exact h.held n q hq
  · rw [hstate]; exact h.fills b (hfill ▸ hb)

/-- A reader that takes a hold on a slot that can be held keeps the counts. -/
theorem ClipStore.Sound.hold {c : ClipStore} (h : c.Sound) (r : Reader) {n : Fin 32}
    (hn : (c.slots.get n).state.holdable = true) : (c.hold r n).Sound := by
  have hget := c.hold_get r n
  have hchain (m : Fin 32) : ((c.hold r n).slots.get m).chain = (c.slots.get m).chain := by
    rw [hget]; split_ifs <;> rfl
  have hstate (m : Fin 32) : ((c.hold r n).slots.get m).state = (c.slots.get m).state := by
    rw [hget]; split_ifs <;> rfl
  have hfree : (c.hold r n).free = c.free := by rw [c.hold_frame]
  have hfill : (c.hold r n).fill = c.fill := by rw [c.hold_frame]
  have hburst : (c.hold r n).burst = c.burst := by simp only [ClipStore.burst, hfill]
  refine ⟨fun p => ?_, fun m => ?_, fun m hm => ?_, fun m q hq => ?_, fun b hb => ?_⟩
  · simpa only [hfree, hchain, hburst] using h.pages p
  · have hsum := sum_add_eq_of_agree_off (f := fun q => if (c.hold r n).holds.get q = some m then 1 else 0)
      (g := fun q => if c.holds.get q = some m then 1 else 0) r
      fun q hq => by rw [c.hold_holds, if_neg hq]
    have huse := h.holds m
    simp only [c.hold_holds, if_true, Option.some.injEq] at hsum ⊢
    rw [hget]
    by_cases hr : c.holds.get r = some n
    · by_cases hm : n = m
      · subst hm; simp only [hr, if_true] at hsum ⊢; omega
      · simp only [hr, hm, Option.some.injEq, if_true, if_false] at hsum ⊢; omega
    · by_cases hm : n = m
      · subst hm; simp only [hr, if_true, if_false] at hsum ⊢; omega
      · have hm' : ¬ m = n := fun e => hm e.symm
        simp only [hr, hm, hm', if_false] at hsum ⊢
        split at hsum <;> rename_i hrm <;> simp only [hrm, if_true, if_false] <;> omega
  · rw [hchain]; exact h.empty m (by rwa [hstate] at hm)
  · rw [c.hold_holds] at hq
    rw [hstate]
    split at hq
    · cases hq; exact hn
    · exact h.held m q hq
  · rw [hstate]; exact h.fills b (hfill ▸ hb)

theorem ClipStore.holdable_of_playable {c : ClipStore} {n : Fin 32} (h : c.playable n = true) :
    (c.slots.get n).state.holdable = true := by
  simp only [ClipStore.playable, Bool.and_eq_true, decide_eq_true_eq] at h
  rw [h.1]; rfl

/-! ### One slot changed -/

/-- A slot changed, its pages passing between its chain, the free-page list and a burst: the counts are kept. -/
theorem ClipStore.Sound.modSlot {c : ClipStore} (h : c.Sound) (n : Fin 32) (f : Slot → Slot) (d : ClipStore)
    (hd : d.slots = (c.modSlot n f).slots) (hholds : d.holds = c.holds)
    (huse : (f (c.slots.get n)).useCount = (c.slots.get n).useCount)
    (hempty : (f (c.slots.get n)).state = .empty → (f (c.slots.get n)).chain = [])
    (hheld : (c.slots.get n).state.holdable = true → (f (c.slots.get n)).state.holdable = true ∨ (c.slots.get n).useCount = 0)
    (hfill : ∀ b, d.fill = .opened b → (d.slots.get b.slot).state = .filling)
    (hpages : ∀ p, d.free.count p + (f (c.slots.get n)).chain.count p + d.burst.count p =
      c.free.count p + (c.slots.get n).chain.count p + c.burst.count p) : d.Sound := by
  have hget (m : Fin 32) : d.slots.get m = if m = n then f (c.slots.get m) else c.slots.get m := by
    rw [hd, ClipStore.modSlot_get]
  have hself : d.slots.get n = f (c.slots.get n) := by rw [hget, if_pos rfl]
  refine ⟨fun p => ?_, fun m => ?_, fun m hm => ?_, fun m r hr => ?_, hfill⟩
  · have hsum := sum_add_eq_of_agree_off (f := fun m => (d.slots.get m).chain.count p)
      (g := fun m => (c.slots.get m).chain.count p) n fun m hm => by rw [hget, if_neg hm]
    rw [hself] at hsum
    have := h.pages p
    have := hpages p
    omega
  · rw [hholds, ← h.holds m, hget]
    split
    · rename_i e; rw [e, huse]
    · rfl
  · rw [hget] at hm ⊢
    split at hm
    · rename_i e; rw [if_pos e]; subst e; exact hempty hm
    · rename_i e; rw [if_neg e]; exact h.empty m hm
  · rw [hholds] at hr
    have hold := h.held m r hr
    rw [hget]
    split
    · rename_i e
      subst e
      refine (hheld hold).resolve_right fun h0 => ?_
      rw [h.holds m, Finset.sum_eq_zero_iff] at h0
      simpa [hr] using h0 r (Finset.mem_univ r)
    · exact hold

theorem ClipStore.Sound.useCount_eq_zero {c : ClipStore} (h : c.Sound) {n : Fin 32}
    (hn : (c.slots.get n).state.holdable = false) : (c.slots.get n).useCount = 0 := by
  rw [h.holds n, Finset.sum_eq_zero_iff]
  intro r _
  rw [if_neg fun hr => by simp [h.held n r hr] at hn]

/-- A slot that no reader holds is emptied: its chain returns to the list. -/
theorem ClipStore.Sound.emptySlot {c : ClipStore} (h : c.Sound) {n : Fin 32} (hn : (c.slots.get n).useCount = 0)
    (hfill : ∀ b, c.fill = .opened b → b.slot ≠ n) : (c.emptySlot n).Sound := by
  refine h.modSlot n (fun t => { t with state := .empty, length := 0, chain := [], useCount := 0 }) _ rfl rfl hn.symm
    (fun _ => rfl) (fun _ => .inr hn) (fun b hb => ?_) fun p => ?_
  · have : ((c.emptySlot n).slots.get b.slot) = c.slots.get b.slot := by
      rw [ClipStore.emptySlot, ClipStore.modSlot_get, if_neg (hfill b hb)]; rfl
    rw [this]; exact h.fills b hb
  · have : (c.emptySlot n).burst = c.burst := rfl
    rw [this, c.emptySlot_eq]
    simp [List.count_append]

/-- Every hold on a slot is dropped, and the slot emptied. -/
theorem ClipStore.Sound.dropHolds {c : ClipStore} (h : c.Sound) (n : Fin 32) :
    ((c.dropHolds n).modSlot n fun t => { t with useCount := 0 }).Sound := by
  have hholds (r : Reader) : (c.dropHolds n).holds.get r = if c.holds.get r = some n then none else c.holds.get r := by
    simp [ClipStore.dropHolds, Vector.get_eq_getElem]
  have hget (m : Fin 32) : ((c.dropHolds n).modSlot n fun t => { t with useCount := 0 }).slots.get m =
      if m = n then { c.slots.get m with useCount := 0 } else c.slots.get m := ClipStore.modSlot_get ..
  have hchain (m : Fin 32) : (((c.dropHolds n).modSlot n fun t => { t with useCount := 0 }).slots.get m).chain =
      (c.slots.get m).chain := by rw [hget]; split <;> rfl
  have hstate (m : Fin 32) : (((c.dropHolds n).modSlot n fun t => { t with useCount := 0 }).slots.get m).state =
      (c.slots.get m).state := by rw [hget]; split <;> rfl
  refine ⟨fun p => ?_, fun m => ?_, fun m hm => ?_, fun m r hr => ?_, fun b hb => ?_⟩
  · have := h.pages p
    simp only [hchain]
    exact this
  · rw [hget, ClipStore.modSlot_holds]
    simp only [hholds]
    split
    · rename_i e
      subst e
      refine (Finset.sum_eq_zero fun r _ => ?_).symm
      by_cases hr : c.holds.get r = some m <;> simp [hr]
    · rename_i e
      rw [h.holds m]
      refine Finset.sum_congr rfl fun r _ => ?_
      by_cases hr : c.holds.get r = some n
      · have : ¬ n = m := fun hn => e hn.symm
        simp [hr, this]
      · simp [hr]
  · rw [hchain]; exact h.empty m (by rwa [hstate] at hm)
  · rw [ClipStore.modSlot_holds, hholds] at hr
    rw [hstate]
    split at hr
    · cases hr
    · exact h.held m r hr
  · rw [hstate]; exact h.fills b hb

/-- The erase of an alert slot keeps the counts (R107). -/
theorem ClipStore.Sound.eraseAlert {c : ClipStore} (h : c.Sound) (n : Fin 32) : (c.eraseAlert n).Sound := by
  by_cases ha : (c.slots.get n).state.alert = true
  · have hfill : ∀ b, c.fill = .opened b → b.slot ≠ n := by
      rintro b hb rfl
      rw [h.fills b hb] at ha
      simp [SlotState.alert] at ha
    have hfree : (((c.dropHolds n).modSlot n fun t => { t with useCount := 0 }).slots.get n).useCount = 0 := by simp
    have hsame : (((c.dropHolds n).modSlot n fun t => { t with useCount := 0 }).emptySlot n).slots =
        ((c.dropHolds n).emptySlot n).slots := by
      refine Vector.ext fun i hi => ?_
      change _ = ((c.dropHolds n).emptySlot n).slots.get ⟨i, hi⟩
      change (((c.dropHolds n).modSlot n fun t => { t with useCount := 0 }).emptySlot n).slots.get ⟨i, hi⟩ = _
      simp only [ClipStore.emptySlot, ClipStore.modSlot_get, ClipStore.returnPages]
      split <;> rfl
    have hchain : (((c.dropHolds n).modSlot n fun t => { t with useCount := 0 }).slots.get n).chain =
        ((c.dropHolds n).slots.get n).chain := by simp
    rw [c.eraseAlert_eq n ha]
    refine ((h.dropHolds n).emptySlot hfree hfill).congr ?_ hsame.symm rfl rfl
    simp [ClipStore.emptySlot_eq]
  · rw [c.eraseAlert_other n (by simpa using ha)]
    exact h

/-- A fill record that opens no burst takes the place of the old one, whose page returns to the list. -/
theorem ClipStore.Sound.replaceFill {c : ClipStore} (h : c.Sound) {next : FillRecord} (hn : ∀ b, next ≠ .opened b) :
    (c.replaceFill next).Sound := by
  rw [c.replaceFill_eq]
  refine ⟨fun p => ?_, h.holds, h.empty, h.held, fun b hb => absurd hb (hn b)⟩
  have hb : ({ c with free := c.free ++ c.burst, fill := next } : ClipStore).burst = [] := by
    cases next with
    | opened b => exact absurd rfl (hn b)
    | _ => rfl
  have := h.pages p
  change (c.free ++ c.burst).count p + _ + ({ c with free := c.free ++ c.burst, fill := next } : ClipStore).burst.count p = _
  rw [hb]
  rw [List.count_append]
  simp only [List.count_nil]
  omega

/-! ### The store and alert intake -/

/-- The agreement of the clip store and alert intake, from their parts. -/
theorem State.storeWf_iff (s : State) :
    s.StoreWf ↔ s.clips.Sound ∧ s.intake.queueWf = true ∧ s.alertSlotsWf = true ∧ s.recordingWf = true :=
  ⟨fun h => ⟨s.clips.sound_iff.mpr ⟨h.pages, h.holds, h.slots⟩, h.queue, h.alerts, h.recording⟩,
    fun ⟨hc, hq, ha, hr⟩ => ⟨(s.clips.sound_iff.mp hc).1, (s.clips.sound_iff.mp hc).2.1, (s.clips.sound_iff.mp hc).2.2,
      hq, ha, hr⟩⟩

theorem State.StoreWf.clips {s : State} (h : s.StoreWf) : s.clips.Sound := (s.storeWf_iff.mp h).1

/-- The agreement depends on the clip store and alert intake alone. -/
theorem State.StoreWf.congr {s t : State} (h : s.StoreWf) (hc : t.clips = s.clips) (hi : t.intake = s.intake) :
    t.StoreWf := by
  obtain ⟨hp, hh, hs, hq, ha, hr⟩ := h
  refine ⟨hc ▸ hp, hc ▸ hh, hc ▸ hs, hi ▸ hq, ?_, ?_⟩
  · simpa only [State.alertSlotsWf, hc, hi] using ha
  · simpa only [State.recordingWf, hc, hi] using hr

/-- A change of the clip store that keeps the counts and every slot's state keeps the agreement. -/
theorem State.StoreWf.modClips {s : State} (h : s.StoreWf) (f : ClipStore → ClipStore) (hc : (f s.clips).Sound)
    (hs : ∀ n, ((f s.clips).slots.get n).state = (s.clips.slots.get n).state) : (s.modClips f).StoreWf := by
  refine (State.storeWf_iff _).mpr ⟨hc, h.queue, ?_, ?_⟩
  · simpa only [State.alertSlotsWf, State.modClips_clips, State.modClips_intake, hs] using h.alerts
  · have hr := h.recording
    unfold State.recordingWf at hr ⊢
    simp only [State.modClips_clips, State.modClips_intake, hs]
    exact hr

theorem State.alertSlotsWf_iff (s : State) :
    s.alertSlotsWf = true ↔ ∀ n, s.intake.naming n = if (s.clips.slots.get n).state.alert then 1 else 0 := by
  simp [State.alertSlotsWf]

/-- A slot that a record names is an alert slot. -/
theorem State.StoreWf.named {s : State} (h : s.StoreWf) {r : AlertRecord} {n : Fin 32} (hr : r ∈ s.intake.queue)
    (hn : r.slot = some n) : (s.clips.slots.get n).state.alert = true := by
  have := s.alertSlotsWf_iff.mp h.alerts n
  by_contra ha
  rw [if_neg ha, AlertIntake.naming, List.countP_eq_zero] at this
  exact this r hr (by simpa using hn)

theorem SlotState.holdable_of_alert {x : SlotState} (h : x.alert = true) : x.holdable = true := by
  revert h; cases x <;> simp [SlotState.alert, SlotState.holdable]

theorem AlertIntake.find_mem {a : AlertIntake} {i : Identity} {r : AlertRecord} (h : a.find i = some r) :
    r ∈ a.queue ∧ r.identity = i :=
  ⟨List.mem_of_find?_eq_some h, by simpa using List.find?_some h⟩

theorem AlertIntake.queueWf_iff (a : AlertIntake) :
    a.queueWf = true ↔ storedWords a.queue ≤ Config.storeWords ∧ (∀ r ∈ a.queue, 1 ≤ r.words.length) ∧
      (a.queue.map AlertRecord.identity).Nodup := by
  simp [AlertIntake.queueWf, and_assoc]

end Sys2Proof.Machine

/-!
PROOF. What the operations of the link unit and the air stage keep: one relation between the state before and the state
after, which says what is left alone and which of the agreements of `Safety.lean` go over, and one lemma for each shared
operation (R151, R152, R172 to R174, R177, R187 to R193).
-/

namespace Sys2Proof.Machine

/-! ### The agreements as propositions -/

/-- The link modes in which an airing can be under way (R193). -/
def LinkMode.awake : LinkMode → Bool
  | .run | .waking | .cut => true
  | .sleepPending | .asleep => false

theorem LinkMode.awake_iff (m : LinkMode) : m.awake = true ↔ m ≠ .sleepPending ∧ m ≠ .asleep := by
  cases m <;> simp [LinkMode.awake]

/-- The agreement of the air stage with the link and with the on-air marks (R160, R193). -/
structure State.AiringWf (s : State) : Prop where
  awake : s.air.state.onAir = true → s.link.mode.awake = true
  marked : ∀ r ∈ s.intake.queue, r.onAir = true →
    s.air.present = true ∧ s.air.airing = some r.identity ∧ (s.air.state.onAir = true ∨ s.air.state = .waitLink)

theorem State.airingWf_iff (s : State) : s.AiringWf ↔ s.airLinked = true ∧ s.marksAgree = true := by
  have hawake : s.airLinked = true ↔ (s.air.state.onAir = true → s.link.mode.awake = true) := by
    rw [LinkMode.awake_iff]
    simp only [State.airLinked, Bool.or_eq_true, Bool.not_eq_true', Bool.and_eq_true, decide_eq_true_eq]
    cases s.air.state.onAir <;> simp
  have hmarks : s.marksAgree = true ↔ ∀ r ∈ s.intake.queue, r.onAir = true →
      s.air.present = true ∧ s.air.airing = some r.identity ∧ (s.air.state.onAir = true ∨ s.air.state = .waitLink) := by
    simp only [State.marksAgree, List.all_eq_true, Bool.or_eq_true, Bool.not_eq_true', Bool.and_eq_true,
      decide_eq_true_eq, and_assoc]
    exact forall₂_congr fun r _ => by cases r.onAir <;> simp
  rw [hawake, hmarks]
  exact ⟨fun h => ⟨h.awake, h.marked⟩, fun ⟨ha, hm⟩ => ⟨ha, hm⟩⟩

/-- In IDLE and WAIT_BREAK no record bears the on-air mark. -/
theorem State.AiringWf.unmarked {s : State} (h : s.AiringWf) (hs : s.air.state.onAir = false)
    (hw : s.air.state ≠ .waitLink) {r : AlertRecord} (hr : r ∈ s.intake.queue) : r.onAir = false := by
  by_contra hon
  obtain ⟨-, -, hst⟩ := h.marked r hr (by simpa using hon)
  rw [hs] at hst
  simp [hw] at hst

theorem LinkUnit.wf_iff (l : LinkUnit) :
    l.wf = true ↔ l.sfc ≤ 255 ∧ l.rfc ≤ 255 ∧ l.level.isSome = l.mode.audio ∧ l.queue.length ≤ 8 := by
  simp only [LinkUnit.wf, Bool.and_eq_true, decide_eq_true_eq, and_assoc]
  exact Iff.rfl

/-- What the store's agreement reads of a record. -/
def AlertRecord.key (r : AlertRecord) : Identity × Option (Fin 32) × Nat := (r.identity, r.slot, r.words.length)

/-- Two recording records between which the store's agreement does not tell. -/
def Recording.Like (p q : Recording) : Prop :=
  p.slot = q.slot ∧ p.identity = q.identity ∧ p.position = q.position ∧ (p.state = .none ↔ q.state = .none)

theorem Recording.Like.refl (p : Recording) : p.Like p := ⟨rfl, rfl, rfl, Iff.rfl⟩

theorem find_bind_slot (a : AlertIntake) (i : Identity) :
    (a.find i).bind AlertRecord.slot = ((a.queue.map AlertRecord.key).find? fun k => k.1 = i).bind fun k => k.2.1 := by
  rw [AlertIntake.find, List.find?_map]
  cases h : a.queue.find? fun r => r.identity = i with
  | none =>
    have : List.find? ((fun k : Identity × Option (Fin 32) × Nat => decide (k.1 = i)) ∘ AlertRecord.key) a.queue = none := h
    rw [this]; rfl
  | some r =>
    have : List.find? ((fun k : Identity × Option (Fin 32) × Nat => decide (k.1 = i)) ∘ AlertRecord.key) a.queue =
      some r := h
    rw [this]; rfl

theorem storedWords_eq (q : List AlertRecord) : storedWords q = ((q.map AlertRecord.key).map fun k => k.2.2).sum := by
  rw [storedWords, List.map_map]; rfl

theorem naming_eq (a : AlertIntake) (n : Fin 32) :
    a.naming n = (a.queue.map AlertRecord.key).countP fun k => k.2.1 = some n := by
  rw [List.countP_map]; rfl

theorem identities_eq (q : List AlertRecord) :
    q.map AlertRecord.identity = (q.map AlertRecord.key).map Prod.fst := by
  rw [List.map_map]; rfl

/-- The records' words may change so far as identity, slot and length stand; the store's agreement goes over. -/
theorem State.StoreWf.of_keys {s t : State} (h : s.StoreWf) (hc : t.clips = s.clips)
    (hq : t.intake.queue.map AlertRecord.key = s.intake.queue.map AlertRecord.key)
    (hr : t.intake.recording.Like s.intake.recording) : t.StoreWf := by
  obtain ⟨hslot, hid, hpos, hstate⟩ := hr
  refine ⟨hc ▸ h.pages, hc ▸ h.holds, hc ▸ h.slots, ?_, ?_, ?_⟩
  · have hqueue := s.intake.queueWf_iff.mp h.queue
    refine t.intake.queueWf_iff.mpr ⟨?_, ?_, ?_⟩
    · rw [storedWords_eq, hq, ← storedWords_eq]; exact hqueue.1
    · have hall : ∀ q : List AlertRecord, (∀ r ∈ q, 1 ≤ r.words.length) ↔ ∀ k ∈ q.map AlertRecord.key, 1 ≤ k.2.2 := by
        intro q; simp [AlertRecord.key]
      rw [hall, hq, ← hall]; exact hqueue.2.1
    · rw [identities_eq, hq, ← identities_eq]; exact hqueue.2.2
  · refine t.alertSlotsWf_iff.mpr fun n => ?_
    rw [naming_eq, hq, ← naming_eq, hc]
    exact s.alertSlotsWf_iff.mp h.alerts n
  · have hfind (i : Identity) : (t.intake.find i).bind AlertRecord.slot = (s.intake.find i).bind AlertRecord.slot := by
      rw [find_bind_slot, hq, ← find_bind_slot]
    have hrec := h.recording
    unfold State.recordingWf at hrec ⊢
    simp only [hslot, hid, hpos, hc, hfind, ne_eq, hstate] at hrec ⊢
    exact hrec

/-! ### The relation -/

/-- The alert and link side of the part goes from `s` to `t`: no other block changes, nor what the delay line reads of the
air stage, and the agreements of the link unit, the clip store and the air stage go over. -/
structure State.Reaches (s t : State) : Prop where
  frame : t = { s with
    clips := t.clips, intake := t.intake, air := t.air, link := t.link, notices := t.notices, sent := t.sent }
  bypass : t.air.bypass = s.air.bypass
  reads : t.air.state.readsLink = s.air.state.readsLink
  link : s.link.wf = true → t.link.wf = true
  store : s.StoreWf → t.StoreWf
  airing : s.AiringWf → t.AiringWf
  memory : Memory.wf StereoFrame.silence s.clips.region = true → Memory.wf StereoFrame.silence t.clips.region = true

/-- As `State.Reaches`, the clip region of the DRAM standing too. -/
structure State.Leads (s t : State) : Prop extends s.Reaches t where
  region : t.clips.region = s.clips.region

theorem State.Reaches.refl (s : State) : s.Reaches s := ⟨rfl, rfl, rfl, id, id, id, id⟩

theorem State.Leads.refl (s : State) : s.Leads s := ⟨.refl s, rfl⟩

theorem State.Reaches.trans {s t u : State} (h : s.Reaches t) (k : t.Reaches u) : s.Reaches u where
  frame := by
    conv_lhs => rw [k.frame, h.frame]
  bypass := k.bypass.trans h.bypass
  reads := k.reads.trans h.reads
  link := k.link ∘ h.link
  store := k.store ∘ h.store
  airing := k.airing ∘ h.airing
  memory := k.memory ∘ h.memory

theorem State.Leads.trans {s t u : State} (h : s.Leads t) (k : t.Leads u) : s.Leads u :=
  ⟨h.toReaches.trans k.toReaches, k.region.trans h.region⟩

/-- Frames sent and notices latched leave the agreements alone. -/
theorem State.Leads.of_notices {s t : State}
    (h : t = { s with notices := t.notices, sent := t.sent }) : s.Leads t := by
  have hc : t.clips = s.clips := by rw [h]
  have hi : t.intake = s.intake := by rw [h]
  have ha : t.air = s.air := by rw [h]
  have hl : t.link = s.link := by rw [h]
  refine ⟨⟨by rw [hc, hi, ha, hl]; exact h, by rw [ha], by rw [ha], hl ▸ id, fun hs => hs.congr hc hi, fun hs => ?_,
    hc ▸ id⟩, by rw [hc]⟩
  exact ⟨by rw [ha, hl]; exact hs.awake, by rw [hi, ha]; exact hs.marked⟩

theorem State.Leads.latch (kind : NoticeKind) (detail : List Word) (s : State) : s.Leads (latch kind detail s) :=
  .of_notices (latch_frame kind detail s)

theorem State.Leads.modSent (s : State) (f : Sent → Sent) : s.Leads (s.modSent f) := .of_notices rfl

/-- A change of the link unit. A mode that sleeps is entered from one that sleeps, or outside an airing. -/
theorem State.Leads.modLink {s : State} (f : LinkUnit → LinkUnit) (hwf : s.link.wf = true → (f s.link).wf = true)
    (hmode : (f s.link).mode.awake = true ∨ s.link.mode.awake = false ∨ s.air.state.onAir = false) :
    s.Leads (s.modLink f) := by
  refine ⟨⟨rfl, rfl, rfl, hwf, fun h => h.congr rfl rfl, fun h => ⟨fun hon => ?_, h.marked⟩, id⟩, rfl⟩
  have hawake := h.awake hon
  rcases hmode with hm | hm | hm
  · exact hm
  · rw [hm] at hawake; cases hawake
  · rw [show s.air.state.onAir = true from hon] at hm; cases hm

/-- A change of the link unit that leaves mode, level, counts and message queue alone. -/
theorem State.Leads.modLink_other {s : State} (f : LinkUnit → LinkUnit) (hmode : (f s.link).mode = s.link.mode)
    (hlevel : (f s.link).level = s.link.level) (hsfc : (f s.link).sfc = s.link.sfc) (hrfc : (f s.link).rfc = s.link.rfc)
    (hqueue : (f s.link).queue.length ≤ s.link.queue.length) : s.Leads (s.modLink f) := by
  refine .modLink f (fun h => ?_) ?_
  · obtain ⟨hs, hr, hl, hq⟩ := (LinkUnit.wf_iff _).mp h
    rw [LinkUnit.wf_iff, hmode, hlevel, hsfc, hrfc]
    exact ⟨hs, hr, hl, hqueue.trans hq⟩
  · rw [hmode]
    cases s.link.mode.awake
    · exact .inr (.inl rfl)
    · exact .inl rfl

/-- A change of the air stage that leaves its state, the record on air and the bypass flag alone. -/
theorem State.Leads.modAir_other {s : State} (f : AirStage → AirStage) (hstate : (f s.air).state = s.air.state)
    (hpresent : (f s.air).present = s.air.present) (hairing : (f s.air).airing = s.air.airing)
    (hbypass : (f s.air).bypass = s.air.bypass) : s.Leads (s.modAir f) := by
  refine ⟨⟨rfl, hbypass, ?_, id, fun h => h.congr rfl rfl, fun h => ⟨?_, ?_⟩, id⟩, rfl⟩
  · simp only [State.modAir_air, hstate]
  · simp only [State.modAir_air, State.modAir_link, hstate]; exact h.awake
  · simp only [State.modAir_air, State.modAir_intake, hstate, hpresent, hairing]; exact h.marked

/-- A change of the air stage's state, from and to one in which the hold stands alike. -/
theorem State.Leads.modAir_state {s : State} (f : AirStage → AirStage)
    (hreads : (f s.air).state.readsLink = s.air.state.readsLink) (hbypass : (f s.air).bypass = s.air.bypass)
    (hawake : s.AiringWf → (f s.air).state.onAir = true → s.link.mode.awake = true)
    (hmarked : s.AiringWf → ∀ r ∈ s.intake.queue, r.onAir = true →
      (f s.air).present = true ∧ (f s.air).airing = some r.identity ∧
        ((f s.air).state.onAir = true ∨ (f s.air).state = .waitLink)) : s.Leads (s.modAir f) :=
  ⟨⟨rfl, hbypass, hreads, id, fun h => h.congr rfl rfl, fun h => ⟨hawake h, hmarked h⟩, id⟩, rfl⟩

/-- A change of the clip store within its agreements. -/
theorem State.Leads.modClips {s : State} (f : ClipStore → ClipStore) (hregion : (f s.clips).region = s.clips.region)
    (hstore : s.StoreWf → (s.modClips f).StoreWf) : s.Leads (s.modClips f) :=
  ⟨⟨rfl, rfl, rfl, id, hstore, fun h => ⟨h.awake, h.marked⟩, by simp only [State.modClips_clips, hregion]; exact id⟩, hregion⟩

/-- A change of alert intake that leaves the on-air marks alone. -/
theorem State.Leads.modIntake {s : State} (f : AlertIntake → AlertIntake) (hstore : s.StoreWf → (s.modIntake f).StoreWf)
    (hmarks : ∀ r ∈ (f s.intake).queue, r.onAir = true → ∃ q ∈ s.intake.queue, q.onAir = true ∧ q.identity = r.identity) :
    s.Leads (s.modIntake f) := by
  refine ⟨⟨rfl, rfl, rfl, id, hstore, fun h => ⟨h.awake, fun r hr hon => ?_⟩, id⟩, rfl⟩
  obtain ⟨q, hq, hqon, hid⟩ := hmarks r hr hon
  rw [← hid]
  exact h.marked q hq hqon

/-- A change of alert intake outside queue and recording. -/
theorem State.Leads.modIntake_other {s : State} (f : AlertIntake → AlertIntake) (hq : (f s.intake).queue = s.intake.queue)
    (hr : (f s.intake).recording.Like s.intake.recording) : s.Leads (s.modIntake f) :=
  .modIntake f (fun h => h.of_keys rfl (by rw [State.modIntake_intake, hq]) hr)
    fun r hr hon => ⟨r, hq ▸ hr, hon, rfl⟩

/-- A change of each record that keeps its identity, slot, length and mark. -/
theorem State.Leads.modQueue {s : State} (f : AlertIntake → AlertIntake) (g : AlertRecord → AlertRecord)
    (hq : (f s.intake).queue = s.intake.queue.map g) (hkey : ∀ r, (g r).key = r.key) (hon : ∀ r, (g r).onAir = r.onAir)
    (hr : (f s.intake).recording.Like s.intake.recording) : s.Leads (s.modIntake f) := by
  refine .modIntake f (fun h => h.of_keys rfl ?_ hr) fun r hr hr' => ?_
  · rw [State.modIntake_intake, hq, List.map_map]
    exact List.map_congr_left fun r _ => hkey r
  · rw [hq] at hr
    obtain ⟨q, hmem, rfl⟩ := List.mem_map.mp hr
    exact ⟨q, hmem, (hon q).symm.trans hr', (congrArg Prod.fst (hkey q)).symm⟩

/-! ### Faults, messages and the level (R172, R173, R177, R180) -/

theorem State.Leads.takeFault (kind : FaultKind) (reference : Nat) (s : State) : s.Leads (takeFault kind reference s) :=
  .modLink_other _ rfl rfl rfl rfl le_rfl

theorem State.Leads.queueMessage (kind : MessageKind) (body : List Byte) (s : State) :
    s.Leads (queueMessage kind body s).1 := by
  unfold Machine.queueMessage
  split
  · exact ((State.Leads.modLink_other (s := s) _ rfl rfl rfl rfl le_rfl).trans (.takeFault ..)).trans (.latch ..)
  · rename_i hroom
    dsimp only
    refine .modLink _ (fun h => ?_) ?_
    · obtain ⟨hs, hr, hl, hq⟩ := (LinkUnit.wf_iff _).mp h
      refine (LinkUnit.wf_iff _).mpr ⟨hs, hr, hl, ?_⟩
      simp only [Config.messageQueueSize] at hroom
      simp only [List.length_append, List.length_singleton]
      omega
    · show s.link.mode.awake = true ∨ s.link.mode.awake = false ∨ _
      cases s.link.mode.awake <;> simp

theorem State.Leads.workLevel (s : State) : s.Leads (workLevel s) := by
  unfold Machine.workLevel
  dsimp only
  split
  · rename_i hdue
    refine State.Leads.trans (.modLink _ (fun h => ?_) ?_) (.latch ..)
    · obtain ⟨hs, hr, hl, hq⟩ := (LinkUnit.wf_iff _).mp h
      refine (LinkUnit.wf_iff _).mpr ⟨hs, hr, ?_, hq⟩
      simp only [Bool.and_eq_true] at hdue
      exact hdue.1.symm
    · show s.link.mode.awake = true ∨ s.link.mode.awake = false ∨ _
      cases s.link.mode.awake <;> simp
  · exact .refl s

/-! ### The ways into RUN, CUT, ASLEEP and WAKING (R173, R174, R187 to R191) -/

theorem State.Leads.enterRun (s : State) : s.Leads (enterRun s) := by
  refine State.Leads.trans (t := s.modLink _) (.modLink _ (fun h => ?_) (.inl rfl)) (.modAir_other _ rfl rfl rfl rfl)
  obtain ⟨hs, hr, -, hq⟩ := (LinkUnit.wf_iff _).mp h
  exact (LinkUnit.wf_iff _).mpr ⟨hs, hr, rfl, hq⟩

theorem State.Leads.queueCancel (e : Ending) (s : State) : s.Leads (queueCancel e s).1 := by
  cases e
  · exact .refl s
  · exact .queueMessage ..

theorem LinkUnit.markLate_eq (l : LinkUnit) (cancel : Option Byte) :
    l.markLate cancel = { l with lateNumber := (l.markLate cancel).lateNumber } := by
  unfold LinkUnit.markLate
  split
  · split <;> rfl
  · rfl

theorem State.Leads.endNegotiation (e : Ending) (cause : Nat) (s : State) : s.Leads (endNegotiation e cause s) := by
  have hrun : s.Leads (if s.link.mode = .sleepPending then Machine.enterRun s else s) := by
    split
    · exact .enterRun s
    · exact .refl s
  refine hrun.trans (State.Leads.trans (.modLink_other LinkUnit.leavePhase rfl rfl rfl rfl (List.length_filter_le ..)) ?_)
  refine (State.Leads.queueCancel e _).trans (State.Leads.trans (.modLink_other _ ?_ ?_ ?_ ?_ ?_) (.latch ..))
  all_goals rw [LinkUnit.markLate_eq]

/-- The entry to CUT, whatever the counts have come to. -/
theorem State.Leads.enterCut (cause : Nat) (s : State) (f : LinkUnit → LinkUnit)
    (hq : (f s.link).queue = s.link.queue) : s.Leads (enterCut cause (s.modLink f)) := by
  have hcut : s.Leads ((s.modLink f).modLink fun l =>
      { l with
        mode := .cut
        level := none
        sfc := 127
        rfc := 0
        gapTimer := 0
        cutDuration := 0
        cutProbeFailures := 0
        probeTimer := 0
        counters := { l.counters with cut := bump l.counters.cut 1 } }) := by
    refine State.Leads.modLink (fun l => _) (fun h => ?_) (.inl rfl)
    obtain ⟨-, -, -, hlen⟩ := (LinkUnit.wf_iff _).mp h
    exact (LinkUnit.wf_iff _).mpr ⟨by simp, by simp, rfl, by show (f s.link).queue.length ≤ 8; rw [hq]; exact hlen⟩
  unfold Machine.enterCut
  dsimp only
  split
  · exact hcut.trans ((State.Leads.latch ..).trans (.endNegotiation ..))
  · exact hcut.trans (.latch ..)

theorem State.Leads.raiseSfc (n : Nat) (kind : FaultKind) (reference : Nat) (s : State) :
    s.Leads (raiseSfc n kind reference s) := by
  unfold Machine.raiseSfc
  split
  · exact State.Leads.enterCut 0 s _ rfl
  · rename_i hlow
    refine State.Leads.trans (.modLink _ (fun h => ?_) ?_) ((State.Leads.takeFault ..).trans (.workLevel _))
    · obtain ⟨-, hr, hl, hq⟩ := (LinkUnit.wf_iff _).mp h
      exact (LinkUnit.wf_iff _).mpr ⟨by show s.link.sfc + n ≤ 255; omega, hr, hl, hq⟩
    · show s.link.mode.awake = true ∨ s.link.mode.awake = false ∨ _
      cases s.link.mode.awake <;> simp

theorem State.Leads.raiseRfc (kind : FaultKind) (s : State) : s.Leads (raiseRfc kind s) := by
  unfold Machine.raiseRfc
  dsimp only
  split
  · exact State.Leads.enterCut 1 s (fun l => _) rfl
  · rename_i hlow
    refine State.Leads.trans (.modLink _ (fun h => ?_) ?_) ((State.Leads.takeFault ..).trans (.workLevel _))
    · obtain ⟨hs, -, hl, hq⟩ := (LinkUnit.wf_iff _).mp h
      have : ¬ 255 ≤ s.link.rfc + 1 := hlow
      exact (LinkUnit.wf_iff _).mpr ⟨hs, by show s.link.rfc + 1 ≤ 255; omega, hl, hq⟩
    · show s.link.mode.awake = true ∨ s.link.mode.awake = false ∨ _
      cases s.link.mode.awake <;> simp

/-- Counts that fall leave the link unit's form alone. -/
theorem State.Leads.lowerCounts {s : State} (f : LinkUnit → LinkUnit) (hmode : (f s.link).mode = s.link.mode)
    (hlevel : (f s.link).level = s.link.level) (hsfc : (f s.link).sfc ≤ s.link.sfc) (hrfc : (f s.link).rfc ≤ s.link.rfc)
    (hqueue : (f s.link).queue = s.link.queue) : s.Leads (s.modLink f) := by
  refine .modLink f (fun h => ?_) ?_
  · obtain ⟨hs, hr, hl, hq⟩ := (LinkUnit.wf_iff _).mp h
    rw [LinkUnit.wf_iff, hmode, hlevel, hqueue]
    exact ⟨hsfc.trans hs, hrfc.trans hr, hl, hq⟩
  · rw [hmode]
    cases s.link.mode.awake <;> simp

theorem State.Leads.lowerSfc (s : State) : s.Leads (lowerSfc s) :=
  (State.Leads.lowerCounts _ rfl rfl (Nat.sub_le ..) le_rfl rfl).trans (.workLevel _)

theorem State.Leads.lowerRfc (s : State) : s.Leads (lowerRfc s) :=
  (State.Leads.lowerCounts _ rfl rfl le_rfl (Nat.sub_le ..) rfl).trans (.workLevel _)

/-- A sleep is started in RUN and outside an airing. -/
theorem State.Leads.startSleep {s : State} (h : sleepAllowed s = true) : s.Leads (startSleep s) := by
  simp only [sleepAllowed, Bool.and_eq_true, decide_eq_true_eq] at h
  obtain ⟨⟨hrun, hidle⟩, -⟩ := h
  unfold Machine.startSleep
  dsimp only
  refine State.Leads.trans (.modLink _ (fun hwf => ?_) (.inr (.inr ?_)))
    ((State.Leads.queueMessage ..).trans (.modLink_other _ rfl rfl rfl rfl le_rfl))
  · obtain ⟨hs, hr, hl, hq⟩ := (LinkUnit.wf_iff _).mp hwf
    rw [hrun] at hl
    exact (LinkUnit.wf_iff _).mpr ⟨hs, hr, hl, hq⟩
  · rw [hidle]; rfl

/-- The link falls asleep out of a negotiation. -/
theorem State.Leads.enterAsleep {s : State} (h : s.link.mode = .sleepPending) : s.Leads (enterAsleep s) := by
  refine State.Leads.trans (.modLink _ (fun hwf => ?_) (.inr (.inl ?_))) (.latch ..)
  · obtain ⟨hs, hr, -, hq⟩ := (LinkUnit.wf_iff _).mp hwf
    exact (LinkUnit.wf_iff _).mpr ⟨hs, hr, rfl, hq⟩
  · rw [h]; rfl

/-- A wake is started from ASLEEP. -/
theorem State.Leads.startWake {s : State} (h : s.link.mode = .asleep) : s.Leads (startWake s) := by
  refine .modLink _ (fun hwf => ?_) (.inl rfl)
  obtain ⟨hs, hr, hl, hq⟩ := (LinkUnit.wf_iff _).mp hwf
  rw [h] at hl
  exact (LinkUnit.wf_iff _).mpr ⟨hs, hr, hl, hq⟩

theorem State.Leads.wakeOrAbort (cause : Nat) (s : State) : s.Leads (wakeOrAbort cause s) := by
  unfold Machine.wakeOrAbort
  split
  · rename_i h; exact .startWake h
  · exact .endNegotiation ..
  all_goals exact .refl s

/-! ### The commit and the selection (R149 to R152) -/

/-- A reader takes a hold on a slot that can be held. -/
theorem State.Leads.hold {s : State} (r : Reader) (n : Fin 32)
    (h : s.StoreWf → (s.clips.slots.get n).state.holdable = true) : s.Leads (s.modClips fun c => c.hold r n) := by
  refine .modClips _ (by rw [ClipStore.hold_frame]) fun hs => hs.modClips _ (hs.clips.hold r (h hs)) fun m => ?_
  rw [ClipStore.hold_get]
  split_ifs <;> rfl

/-- A reader gives up its hold. -/
theorem State.Leads.release (s : State) (r : Reader) : s.Leads (s.modClips fun c => c.release r) := by
  refine .modClips _ (by rw [ClipStore.release_frame]) fun hs => hs.modClips _ (hs.clips.release r) fun m => ?_
  rw [ClipStore.release_get]
  split <;> rfl

theorem State.Leads.chooseAttention (s : State) : s.Leads (chooseAttention s) := by
  unfold Machine.chooseAttention
  dsimp only
  split
  · exact .modAir_other _ rfl rfl rfl rfl
  · split
    · rename_i n _ h
      simp only [Bool.and_eq_true] at h
      exact (State.Leads.hold airReader n fun _ => ClipStore.holdable_of_playable h.1).trans
        (.modAir_other _ rfl rfl rfl rfl)
    · exact .modAir_other _ rfl rfl rfl rfl

/-- What follows the change of state at the entry to LEAD_IN: the attention source and the note. -/
def leadInRest (s : State) : State :=
  match (chooseAttention s).air.airing.bind (chooseAttention s).intake.find with
  | some r => (queueMessage .alertNote (alertNoteBody r) (chooseAttention s)).1
  | none => chooseAttention s

theorem enterLeadIn_eq (s : State) :
    enterLeadIn s = leadInRest (s.modAir fun a => { a with state := .leadIn, step := 0, position := 0 }) := rfl

theorem State.Leads.leadInRest (s : State) : s.Leads (leadInRest s) := by
  unfold Machine.leadInRest
  split
  · exact (State.Leads.chooseAttention s).trans (.queueMessage ..)
  · exact .chooseAttention s

/-- LEAD_IN is entered from WAIT_LINK with the link awake. -/
theorem State.Leads.enterLeadIn {s : State} (hstate : s.air.state = .waitLink) (hawake : s.link.mode.awake = true) :
    s.Leads (enterLeadIn s) := by
  rw [enterLeadIn_eq]
  refine State.Leads.trans (.modAir_state _ ?_ rfl (fun _ _ => hawake) fun h r hr hon => ?_) (.leadInRest _)
  · rw [hstate]; rfl
  · obtain ⟨hp, ha, -⟩ := h.marked r hr hon
    exact ⟨hp, ha, .inl rfl⟩

theorem key_onAir (r : AlertRecord) (b : Bool) : ({ r with onAir := b } : AlertRecord).key = r.key := rfl

/-- The keys of the queue after a change of one record that keeps its key. -/
theorem AlertIntake.modRecord_keys (a : AlertIntake) (i : Identity) (f : AlertRecord → AlertRecord)
    (h : ∀ r, (f r).key = r.key) : (a.modRecord i f).queue.map AlertRecord.key = a.queue.map AlertRecord.key := by
  simp only [AlertIntake.modRecord, List.map_map]
  refine List.map_congr_left fun r _ => ?_
  by_cases hr : r.identity = i <;> simp [hr, h]

/-- The marking of the record committed, with the air stage in the state it goes to. -/
theorem State.Leads.marks {s : State} (hstate : s.air.state = .idle ∨ s.air.state = .waitBreak) (i : Identity)
    (f : AirStage → AirStage) (hp : (f s.air).present = true) (ha : (f s.air).airing = some i)
    (hb : (f s.air).bypass = s.air.bypass) (hr : (f s.air).state.readsLink = false)
    (hs : (f s.air).state.onAir = true ∨ (f s.air).state = .waitLink)
    (hawake : (f s.air).state.onAir = true → s.link.mode.awake = true) :
    s.Leads ((s.modIntake fun q => q.modRecord i fun r => { r with onAir := true }).modAir f) := by
  refine ⟨⟨rfl, hb, ?_, id, fun h => ?_, fun h => ⟨hawake, fun r hr hon => ?_⟩, id⟩, rfl⟩
  · show (f s.air).state.readsLink = s.air.state.readsLink
    rw [hr]
    rcases hstate with e | e <;> rw [e] <;> rfl
  · exact h.of_keys rfl (s.intake.modRecord_keys i _ fun r => key_onAir r true) (.refl _)
  · obtain ⟨q, hq, rfl⟩ := List.mem_map.mp hr
    dsimp only at hon ⊢
    by_cases hid : q.identity = i
    · rw [if_pos hid]
      exact ⟨hp, hid ▸ ha, hs⟩
    · rw [if_neg hid] at hon
      have := h.unmarked (by rcases hstate with e | e <;> rw [e] <;> rfl) (by rcases hstate with e | e <;> rw [e] <;> simp) hq
      rw [this] at hon; cases hon

theorem State.Leads.commit {s : State} (hstate : s.air.state = .idle ∨ s.air.state = .waitBreak) (i : Identity) :
    s.Leads (commit i s) := by
  unfold Machine.commit
  dsimp only
  split
  iterate 2
    refine State.Leads.trans ?_ (.wakeOrAbort ..)
    exact State.Leads.marks hstate i (fun a =>
      { a with state := .waitLink, airing := some i, present := true, impaired := false, underruns := 0, messageFrames := 0 })
      rfl rfl rfl rfl (.inr rfl) fun h => by cases h
  all_goals
    rename_i hmode
    rw [enterLeadIn_eq]
    refine State.Leads.trans ?_ (.leadInRest _)
    refine State.Leads.marks hstate i (fun a =>
      { a with
        state := .leadIn, airing := some i, present := true, step := 0, position := 0, impaired := false, underruns := 0
        messageFrames := 0 }) rfl rfl rfl rfl (.inl rfl) fun _ => ?_
    rw [show s.link.mode = _ from hmode]; rfl

/-- In IDLE and WAIT_BREAK the air stage may go to either, with any airing identity. -/
theorem State.Leads.modAir_waiting {s : State} (hstate : s.air.state = .idle ∨ s.air.state = .waitBreak)
    (f : AirStage → AirStage) (hf : (f s.air).state = .idle ∨ (f s.air).state = .waitBreak)
    (hb : (f s.air).bypass = s.air.bypass) : s.Leads (s.modAir f) := by
  refine .modAir_state f ?_ hb (fun _ hon => ?_) fun h r hr hon => ?_
  · rcases hf with e | e <;> rcases hstate with e' | e' <;> rw [e, e'] <;> rfl
  · rcases hf with e | e <;> rw [e] at hon <;> cases hon
  · have := h.unmarked (by rcases hstate with e | e <;> rw [e] <;> rfl) (by rcases hstate with e | e <;> rw [e] <;> simp) hr
    rw [this] at hon; cases hon

theorem State.Leads.select (s : State) : s.Leads (select s) := by
  by_cases h : s.air.state ∈ [AirState.idle, .waitBreak]
  · have hstate : s.air.state = .idle ∨ s.air.state = .waitBreak := by simpa using h
    cases hc : chosenRecord s with
    | none => rw [select_none h hc]; exact .modAir_waiting hstate _ (.inl rfl) rfl
    | some r =>
      cases hd : recordDue s r
      · rw [select_waits h hc hd]; exact .modAir_waiting hstate _ (.inr rfl) rfl
      · rw [select_due h hc hd]
        refine State.Leads.trans (.modAir_other _ rfl rfl rfl rfl) (.commit ?_ _)
        exact hstate
  · rw [select_busy s h]; exact .refl s

theorem State.Leads.breakEvent (s : State) : s.Leads (breakEvent s) := by
  unfold Machine.breakEvent
  split
  · rename_i h _; exact .commit (.inr h) _
  · exact .refl s

end Sys2Proof.Machine

/-!
PROOF. What the operations of alert intake keep: records leaving the queue, recordings, the queue store, and the seven
steps of a header (R104 to R107, R120, R122 to R136).
-/

namespace Sys2Proof.Machine

/-! ### The recording as a proposition -/

/-- The recording record names slot `n`, in RECORDING, and the record of identity `i`, which names it too. -/
structure State.Records (s : State) (n : Fin 32) (i : Identity) : Prop where
  slot : s.intake.recording.slot = some n
  identity : s.intake.recording.identity = some i
  taken : (s.clips.slots.get n).state = .recording
  named : (s.intake.find i).bind AlertRecord.slot = some n
  active : s.intake.recording.state ≠ .none

/-- No recording is under way. -/
def Recording.Idle (r : Recording) : Prop := r.slot = none ∧ r.identity = none ∧ r.state = .none

theorem State.recordingWf_iff (s : State) :
    s.recordingWf = true ↔ (∃ n i, s.Records n i ∧ s.intake.recording.position < Config.recordingLimit) ∨
      s.intake.recording.Idle := by
  unfold State.recordingWf Recording.Idle
  dsimp only
  split
  · rename_i n i hn hi
    simp only [Bool.and_eq_true, decide_eq_true_eq, hn, reduceCtorEq, false_and, or_false]
    constructor
    · rintro ⟨⟨⟨ht, hs⟩, hp⟩, ha⟩
      exact ⟨n, i, ⟨hn, hi, ht, hs, ha⟩, hp⟩
    · rintro ⟨m, j, h, hp⟩
      cases hn.symm.trans h.slot
      cases hi.symm.trans h.identity
      exact ⟨⟨⟨h.taken, h.named⟩, hp⟩, h.active⟩
  · rename_i hn hi
    simp only [decide_eq_true_eq, hn, hi, true_and]
    constructor
    · exact .inr
    · rintro (⟨n, i, h, -⟩ | h)
      · cases hn.symm.trans h.slot
      · exact h
  · rename_i hmixed hnone
    simp only [Bool.false_eq_true, false_iff, not_or, not_exists, not_and]
    exact ⟨fun n i h _ => hmixed n i h.slot h.identity, fun hn hi => absurd hi (hnone hn)⟩

/-- The store's agreement but for the position of the recording, which passes its limit as a recording ends. -/
structure State.StoreOpen (s : State) : Prop where
  clips : s.clips.Sound
  queue : s.intake.queueWf = true
  alerts : s.alertSlotsWf = true
  recording : (∃ n i, s.Records n i) ∨ s.intake.recording.Idle

theorem State.StoreWf.isOpen {s : State} (h : s.StoreWf) : s.StoreOpen := by
  refine ⟨h.clips, h.queue, h.alerts, ?_⟩
  rcases s.recordingWf_iff.mp h.recording with ⟨n, i, hr, -⟩ | hr
  · exact .inl ⟨n, i, hr⟩
  · exact .inr hr

theorem State.StoreOpen.wf {s : State} (h : s.StoreOpen)
    (hp : ∀ n, s.intake.recording.slot = some n → s.intake.recording.position < Config.recordingLimit) : s.StoreWf := by
  refine s.storeWf_iff.mpr ⟨h.clips, h.queue, h.alerts, s.recordingWf_iff.mpr ?_⟩
  rcases h.recording with ⟨n, i, hr⟩ | hr
  · exact .inl ⟨n, i, hr, hp n hr.slot⟩
  · exact .inr hr

/-- A change of the clip store within its counts, the states of alert slots standing. -/
theorem State.StoreWf.modClips' {s : State} (h : s.StoreWf) (f : ClipStore → ClipStore) (hc : (f s.clips).Sound)
    (hs : ∀ n, ((f s.clips).slots.get n).state = (s.clips.slots.get n).state ∨
      (((f s.clips).slots.get n).state.alert = false ∧ (s.clips.slots.get n).state.alert = false)) :
    (s.modClips f).StoreWf := by
  refine (State.storeWf_iff _).mpr ⟨hc, h.queue, ?_, ?_⟩
  · refine (s.modClips f).alertSlotsWf_iff.mpr fun n => ?_
    have := s.alertSlotsWf_iff.mp h.alerts n
    rw [State.modClips_intake, State.modClips_clips, this]
    rcases hs n with e | ⟨e, e'⟩
    · rw [e]
    · rw [e, e']
  · refine (s.modClips f).recordingWf_iff.mpr ?_
    rcases s.recordingWf_iff.mp h.recording with ⟨n, i, hr, hp⟩ | hr
    · refine .inl ⟨n, i, ⟨hr.slot, hr.identity, ?_, hr.named, hr.active⟩, hp⟩
      rcases hs n with e | ⟨-, e⟩
      · rw [State.modClips_clips, e]; exact hr.taken
      · rw [hr.taken] at e; cases e
    · exact .inr hr

/-! ### The queue with one identity taken out -/

/-- With every identity once in the queue, the record found is the only one of its identity. -/
theorem filter_identity_eq {q : List AlertRecord} {i : Identity} {r : AlertRecord}
    (h : (q.map AlertRecord.identity).Nodup) (hr : q.find? (fun r => r.identity = i) = some r) :
    q.filter (fun r => r.identity = i) = [r] := by
  induction q with
  | nil => cases hr
  | cons x q ih =>
    obtain ⟨hx, hq⟩ := List.nodup_cons.mp (by simpa using h : (x.identity :: q.map AlertRecord.identity).Nodup)
    by_cases hi : x.identity = i
    · simp only [List.find?_cons, hi, decide_true, Option.some.injEq] at hr
      subst hr
      have : q.filter (fun r => r.identity = i) = [] := by
        refine List.filter_eq_nil_iff.mpr fun y hy hyi => hx ?_
        rw [hi, ← of_decide_eq_true hyi]
        exact List.mem_map_of_mem hy
      simp [hi, this]
    · simp only [List.find?_cons, hi, decide_false] at hr
      simp [hi, ih hq hr]

/-- A count over the queue, the record of one identity apart. -/
theorem countP_split {q : List AlertRecord} {i : Identity} (p : AlertRecord → Bool) :
    q.countP p = (q.filter fun r => r.identity = i).countP p + (q.filter fun r => r.identity ≠ i).countP p := by
  induction q with
  | nil => rfl
  | cons x q ih =>
    by_cases hi : x.identity = i <;> simp only [List.countP_cons, List.filter_cons, hi, ih, ne_eq, not_true, not_false_iff,
      decide_true, decide_false, if_true, if_false, Bool.false_eq_true] <;> omega

/-- The words that a record removed leaves. -/
theorem storedWords_filter_le (q : List AlertRecord) (p : AlertRecord → Bool) : storedWords (q.filter p) ≤ storedWords q :=
  List.Sublist.sum_le_sum ((List.filter_sublist (p := p)).map _) fun _ _ => Nat.zero_le _

theorem queueWf_filter {a : AlertIntake} (h : a.queueWf = true) (p : AlertRecord → Bool) (b : AlertIntake)
    (hb : b.queue = a.queue.filter p) : b.queueWf = true := by
  obtain ⟨hw, hl, hn⟩ := a.queueWf_iff.mp h
  refine b.queueWf_iff.mpr ⟨?_, ?_, ?_⟩
  · rw [hb]; exact (storedWords_filter_le ..).trans hw
  · rw [hb]; exact fun r hr => hl r (List.mem_of_mem_filter hr)
  · rw [hb]; exact hn.sublist ((List.filter_sublist).map _)

/-- A record of another identity is found in the queue without the one taken out. -/
theorem find_filter_ne (q : List AlertRecord) {i j : Identity} (h : j ≠ i) :
    (q.filter fun r => r.identity ≠ i).find? (fun r => r.identity = j) = q.find? fun r => r.identity = j := by
  rw [List.find?_filter]
  congr 1
  funext r
  by_cases hr : r.identity = j
  · simp [hr, h]
  · simp [hr]

/-! ### A record leaves the queue (R107, R135, R136) -/

theorem ClipStore.emptySlot_get (c : ClipStore) (n m : Fin 32) :
    (c.emptySlot n).slots.get m =
      if m = n then { c.slots.get m with state := .empty, length := 0, chain := [], useCount := 0 } else c.slots.get m := by
  rw [ClipStore.emptySlot, ClipStore.modSlot_get]; rfl

/-- The erase of an alert slot empties that slot and leaves the others. -/
theorem ClipStore.eraseAlert_state (c : ClipStore) (n m : Fin 32) :
    ((c.eraseAlert n).slots.get m).state =
      if m = n ∧ (c.slots.get n).state.alert = true then .empty else (c.slots.get m).state := by
  by_cases ha : (c.slots.get n).state.alert = true
  · rw [c.eraseAlert_eq n ha]
    show (((c.dropHolds n).emptySlot n).slots.get m).state = _
    rw [ClipStore.emptySlot_get]
    by_cases hm : m = n
    · simp [hm, ha]
    · simp only [hm, false_and, if_false]; rfl
  · rw [c.eraseAlert_other n (by simpa using ha)]
    simp [ha]

theorem ClipStore.eraseAlert_region (c : ClipStore) (n : Fin 32) : (c.eraseAlert n).region = c.region := by
  by_cases ha : (c.slots.get n).state.alert = true
  · rw [c.eraseAlert_eq n ha]; rfl
  · rw [c.eraseAlert_other n (by simpa using ha)]

/-- The naming of a slot falls by the record that leaves. -/
theorem State.StoreWf.removeRecord_naming {s : State} (h : s.StoreWf) (i : Identity) (m : Fin 32) :
    (removeRecord i s).intake.naming m + (if (s.intake.find i).bind AlertRecord.slot = some m then 1 else 0) =
      s.intake.naming m := by
  obtain ⟨-, -, hnodup⟩ := s.intake.queueWf_iff.mp h.queue
  have hsplit := countP_split (q := s.intake.queue) (i := i) fun r => r.slot = some m
  rw [AlertIntake.naming, AlertIntake.naming, removeRecord_intake, hsplit, Nat.add_comm]
  congr 1
  cases hf : s.intake.find i with
  | none =>
    have : s.intake.queue.filter (fun r => r.identity = i) = [] :=
      List.filter_eq_nil_iff.mpr fun r hr => by simpa using List.find?_eq_none.mp hf r hr
    simp [this]
  | some r =>
    rw [filter_identity_eq hnodup hf]
    by_cases hs : r.slot = some m <;> simp [hs]

/-- The slots named after a record has left are the alert slots. -/
theorem State.StoreWf.removeRecord_alerts {s : State} (h : s.StoreWf) (i : Identity) :
    (removeRecord i s).alertSlotsWf = true := by
  refine (State.alertSlotsWf_iff _).mpr fun m => ?_
  have hold := s.alertSlotsWf_iff.mp h.alerts m
  have hnew := h.removeRecord_naming i m
  rw [removeRecord_clips]
  cases hf : (s.intake.find i).bind AlertRecord.slot with
  | none => simp only [hf, reduceCtorEq, if_false] at hnew ⊢; omega
  | some n =>
    simp only [hf, Option.some.injEq] at hnew ⊢
    rw [ClipStore.eraseAlert_state]
    by_cases hm : n = m
    · subst hm
      simp only [if_true, true_and] at hnew ⊢
      by_cases ha : (s.clips.slots.get n).state.alert = true
      · rw [if_pos ha] at hold ⊢
        simp only [SlotState.alert, Bool.false_eq_true, if_false]
        omega
      · rw [if_neg ha] at hold
        omega
    · have hm' : ¬ m = n := fun e => hm e.symm
      simp only [hm, hm', false_and, if_false] at hnew ⊢
      omega

/-- The recording of another record goes on as a record leaves: its slot is not the one erased. -/
theorem State.StoreWf.removeRecord_records {s : State} (h : s.StoreWf) {i j : Identity} {n : Fin 32}
    (hr : s.Records n j) (hj : j ≠ i) : (removeRecord i s).Records n j := by
  have hqueue := removeRecord_intake i s
  have hkeep : (Machine.removeRecord i s).intake.recording = s.intake.recording := by
    rw [hqueue, hr.identity]; simp [hj]
  have hfind : (Machine.removeRecord i s).intake.find j = s.intake.find j := by
    rw [AlertIntake.find, hqueue]; exact find_filter_ne _ hj
  have hother : (s.intake.find i).bind AlertRecord.slot ≠ some n := by
    intro hf
    have hafter := h.removeRecord_naming i n
    have hold := s.alertSlotsWf_iff.mp h.alerts n
    rw [hr.taken] at hold
    rw [if_pos hf, hold, SlotState.alert, if_pos rfl] at hafter
    have hzero : (Machine.removeRecord i s).intake.naming n = 0 := by omega
    have hnamed := hr.named
    rw [← hfind] at hnamed
    obtain ⟨r, hfr, hslot⟩ := Option.bind_eq_some_iff.mp hnamed
    rw [AlertIntake.naming, List.countP_eq_zero] at hzero
    exact hzero r (AlertIntake.find_mem hfr).1 (by simpa using hslot)
  refine ⟨by rw [hkeep]; exact hr.slot, by rw [hkeep]; exact hr.identity, ?_, by rw [hfind]; exact hr.named,
    by rw [hkeep]; exact hr.active⟩
  rw [removeRecord_clips]
  cases hf : (s.intake.find i).bind AlertRecord.slot with
  | none => exact hr.taken
  | some m =>
    have hne : n ≠ m := fun e => hother (e ▸ hf)
    dsimp only
    rw [ClipStore.eraseAlert_state, if_neg (fun hc => hne hc.1)]
    exact hr.taken

/-- A record that leaves takes its slot with it, and the recording for it. -/
theorem State.StoreWf.removeRecord {s : State} (h : s.StoreWf) (i : Identity) : (removeRecord i s).StoreWf := by
  have hqueue := removeRecord_intake i s
  refine State.StoreOpen.wf ⟨?_, ?_, h.removeRecord_alerts i, ?_⟩ ?_
  · rw [removeRecord_clips]
    split
    · exact h.clips.eraseAlert _
    · exact h.clips
  · exact queueWf_filter h.queue (fun r => r.identity ≠ i) _ (by rw [hqueue])
  · rcases h.isOpen.recording with ⟨n, j, hr⟩ | hr
    · by_cases hj : j = i
      · right
        rw [hqueue, hr.identity, hj]
        simp [Recording.Idle, Recording.idle]
      · exact .inl ⟨n, j, h.removeRecord_records hr hj⟩
    · right
      rw [hqueue]
      dsimp only
      split
      · exact ⟨rfl, rfl, rfl⟩
      · exact hr
  · intro n hn
    rw [hqueue] at hn ⊢
    dsimp only at hn ⊢
    split at hn
    · cases hn
    · rename_i hne
      rw [if_neg hne]
      rcases s.recordingWf_iff.mp h.recording with ⟨m, j, -, hp⟩ | hr
      · exact hp
      · cases hr.1.symm.trans hn

theorem State.Leads.removeRecord (i : Identity) (s : State) : s.Leads (removeRecord i s) := by
  have hframe := removeRecord_frame i s
  have hair : (Machine.removeRecord i s).air = { s.air with waitSet := s.air.waitSet.filter fun j => j ≠ i } := by
    rw [hframe]
  have hlink : (Machine.removeRecord i s).link = s.link := by rw [hframe]
  have hregion : (Machine.removeRecord i s).clips.region = s.clips.region := by
    rw [removeRecord_clips]
    split
    · exact ClipStore.eraseAlert_region ..
    · rfl
  refine ⟨⟨?_, by rw [hair], by rw [hair], by rw [hlink]; exact id, fun h => h.removeRecord i, fun h => ⟨?_, ?_⟩,
    by rw [hregion]; exact id⟩, hregion⟩
  · conv_lhs => rw [hframe]
    rw [hair, hlink]
    rw [hframe]
  · rw [hair, hlink]; exact h.awake
  · rw [hair, removeRecord_intake]
    exact fun r hr => h.marked r (List.mem_of_mem_filter hr)

theorem State.Leads.recordLeaves (i : Identity) (s : State) : s.Leads (recordLeaves i s) :=
  (State.Leads.removeRecord i s).trans (.select _)

/-! ### The minute event (R120, R136) -/

theorem AlertRecord.key_modWord (r : AlertRecord) (k : Nat) (f : StoreWord → StoreWord) (h2 : 2 ≤ k) (h6 : k ≠ 6) :
    (r.modWord k f).key = r.key := by
  have hslot : (r.modWord k f).slot = r.slot := by
    have hk : ¬ k - 1 = 5 := by omega
    simp [AlertRecord.slot, AlertRecord.word, AlertRecord.modWord, List.getD_eq_getElem?_getD, hk]
  simp [AlertRecord.key, r.modWord_identity k f h2, hslot]

theorem AlertRecord.key_setFlag (r : AlertRecord) (bit : Nat) : (r.setFlag bit).key = r.key :=
  r.key_modWord 5 _ (by omega) (by omega)

theorem AlertRecord.key_countDown (r : AlertRecord) : r.countDown.key = r.key :=
  r.key_modWord 4 (fun _ => BitVec.ofNat 32 (r.remaining - 1)) (by omega) (by omega)

theorem AlertRecord.key_holdAge (r : AlertRecord) (now : BitVec 32) : (r.holdAge now).key = r.key := rfl

theorem State.Leads.countIntake (f : IntakeCounters → IntakeCounters) (s : State) : s.Leads (countIntake f s) :=
  .modIntake_other _ rfl (.refl _)

theorem State.Leads.expireRecord (i : Identity) (s : State) : s.Leads (expireRecord i s) :=
  (State.Leads.countIntake _ s).trans (.removeRecord ..)

/-- Operations that lead on, one after another. -/
theorem State.Leads.foldl {α : Type} {f : State → α → State} (h : ∀ (s : State) (a : α), s.Leads (f s a)) (l : List α) (s : State) :
    s.Leads (l.foldl f s) := by
  induction l generalizing s with
  | nil => exact .refl s
  | cons a l ih => exact (h s a).trans (ih _)

theorem State.Leads.minuteWork (s : State) : s.Leads (minuteWork s) := by
  have hpass : s.Leads (s.modIntake AlertIntake.passMinute) :=
    .modQueue _ AlertRecord.countDown rfl AlertRecord.key_countDown (fun _ => rfl) (.refl _)
  have hleave := hpass.trans (.foldl (fun u i => State.Leads.expireRecord i u)
    (((s.modIntake AlertIntake.passMinute).intake.queue.filter AlertRecord.expired).map AlertRecord.identity) _)
  unfold Machine.minuteWork
  dsimp only
  split
  · exact hleave
  · exact hleave.trans (.select _)

theorem State.Leads.alertBegin (s : State) : s.Leads (alertBegin s) := by
  have hadopt : s.Leads (adoptIntake s) := .modIntake_other _ rfl (.refl _)
  refine hadopt.trans ?_
  show (adoptIntake s).Leads (tickMinute (adoptIntake s))
  unfold tickMinute
  split
  · exact (State.Leads.modIntake_other _ rfl (.refl _)).trans (.minuteWork _)
  · exact .modIntake_other _ rfl (.refl _)

/-! ### The recording (R105, R132 to R135) -/

/-- The end of a recording closes the store's agreement: the slot becomes ALERT_HELD, and nothing is recorded. -/
theorem State.StoreOpen.endRecording {s : State} (h : s.StoreOpen) {n : Fin 32} {i : Identity} (hr : s.Records n i) :
    ((s.modClips fun c => c.endRecording n).modIntake fun a => { a with recording := Recording.idle }).StoreWf := by
  have hget (m : Fin 32) : ((s.clips.endRecording n).slots.get m).state =
      if m = n then .alertHeld else (s.clips.slots.get m).state := by
    show ((s.clips.modSlot n fun t => { t with state := .alertHeld }).slots.get m).state = _
    rw [ClipStore.modSlot_get]
    split <;> rfl
  refine (State.storeWf_iff _).mpr ⟨?_, h.queue, ?_, ?_⟩
  · refine h.clips.modSlot n (fun t => { t with state := .alertHeld }) _ rfl rfl rfl nofun (fun _ => .inl rfl)
      (fun b hb => ?_) fun p => rfl
    have hfill := h.clips.fills b hb
    rw [show ((s.modClips fun c => c.endRecording n).modIntake _).clips = s.clips.endRecording n from rfl, hget]
    rw [if_neg fun e => by rw [e, hr.taken] at hfill; cases hfill]
    exact hfill
  · refine (State.alertSlotsWf_iff _).mpr fun m => ?_
    refine (s.alertSlotsWf_iff.mp h.alerts m).trans ?_
    rw [show ((s.modClips fun c => c.endRecording n).modIntake _).clips = s.clips.endRecording n from rfl, hget]
    by_cases hm : m = n
    · rw [hm, hr.taken, if_pos rfl]; rfl
    · rw [if_neg hm]
  · exact (State.recordingWf_iff _).mpr (.inr ⟨rfl, rfl, rfl⟩)

/-- What the end of a recording does besides to the record and the notices. -/
def endCause (i : Identity) (length : Nat) (cause : Option EndCause) (s : State) : State :=
  match cause with
  | none => s
  | some c =>
    latch .alertAudioShort [i.word, Word.nat length, Word.nat c.code]
      (s.modIntake fun a =>
        { a.modRecord i fun r => r.setFlag flagAudioShort with
          counters := { a.counters with audioShort := bump a.counters.audioShort 1 } })

theorem endRecording_eq {s : State} {n : Fin 32} {i : Identity} (hn : s.intake.recording.slot = some n)
    (hi : s.intake.recording.identity = some i) (cause : Option EndCause) :
    endRecording cause s = endCause i s.intake.recording.position cause
      ((s.modClips fun c => c.endRecording n).modIntake fun a => { a with recording := Recording.idle }) := by
  unfold endRecording
  rw [hn, hi]
  rfl

theorem endRecording_idle {s : State} (h : s.intake.recording.slot = none ∨ s.intake.recording.identity = none)
    (cause : Option EndCause) : endRecording cause s = s := by
  unfold endRecording
  split
  · rename_i hn hi
    rw [hn, hi] at h
    simp at h
  · rfl

theorem modRecord_map (a : AlertIntake) (i : Identity) (f : AlertRecord → AlertRecord) :
    (a.modRecord i f).queue = a.queue.map fun r => if r.identity = i then f r else r := rfl

/-- A change of the record of one identity that keeps its key and mark. -/
theorem State.Leads.modRecord {s : State} (i : Identity) (f : AlertRecord → AlertRecord) (g : AlertIntake → AlertIntake)
    (hq : (g s.intake).queue = (s.intake.modRecord i f).queue) (hkey : ∀ r, (f r).key = r.key)
    (hon : ∀ r, (f r).onAir = r.onAir) (hr : (g s.intake).recording.Like s.intake.recording) : s.Leads (s.modIntake g) :=
  .modQueue g (fun r => if r.identity = i then f r else r) hq (fun r => by split <;> simp [hkey])
    (fun r => by split <;> simp [hon]) hr

theorem State.Leads.endCause (i : Identity) (length : Nat) (cause : Option EndCause) (s : State) :
    s.Leads (endCause i length cause s) := by
  unfold Machine.endCause
  split
  · exact .refl s
  · exact (State.Leads.modRecord i _ _ rfl (fun r => r.key_setFlag _) (fun _ => rfl) (.refl _)).trans (.latch ..)

/-- A recording under way is ended. -/
theorem State.Leads.closeRecording {s : State} {n : Fin 32} {i : Identity} (hn : s.intake.recording.slot = some n)
    (hi : s.intake.recording.identity = some i) :
    s.Leads ((s.modClips fun c => c.endRecording n).modIntake fun a => { a with recording := Recording.idle }) := by
  refine ⟨⟨rfl, rfl, rfl, id, fun h => ?_, fun h => ⟨h.awake, h.marked⟩, id⟩, rfl⟩
  refine h.isOpen.endRecording (i := i) ?_
  rcases h.isOpen.recording with ⟨m, j, hr⟩ | hr
  · cases hn.symm.trans hr.slot
    cases hi.symm.trans hr.identity
    exact hr
  · cases hn.symm.trans hr.1

/-- The recording at a position. -/
def State.atPosition (s : State) (p : Nat) : State :=
  s.modIntake fun a => { a with recording := { a.recording with position := p } }

/-- The position of a recording advances below its limit. -/
theorem State.Leads.position {s : State} (p : Nat)
    (hp : ∀ n, s.intake.recording.slot = some n → p < Config.recordingLimit) : s.Leads (s.atPosition p) := by
  refine .modIntake _ (fun h => ?_) fun r hr hon => ⟨r, hr, hon, rfl⟩
  refine (State.storeWf_iff _).mpr ⟨h.clips, h.queue, h.alerts, (State.recordingWf_iff _).mpr ?_⟩
  rcases s.recordingWf_iff.mp h.recording with ⟨n, i, hr, -⟩ | hr
  · exact .inl ⟨n, i, ⟨hr.slot, hr.identity, hr.taken, hr.named, hr.active⟩, hp n hr.slot⟩
  · exact .inr hr

/-- The recording ends at a position, within its limit or at it. -/
theorem State.Leads.endRecordingAt (cause : Option EndCause) (p : Nat) (s : State) :
    s.Leads (endRecording cause (s.atPosition p)) := by
  cases hn : s.intake.recording.slot with
  | none =>
    rw [endRecording_idle (s := s.atPosition p) (.inl hn)]
    exact .position p fun n h => by rw [hn] at h; cases h
  | some n =>
    cases hi : s.intake.recording.identity with
    | none =>
      rw [endRecording_idle (s := s.atPosition p) (.inr hi)]
      refine .modIntake _ (fun h => ?_) fun r hr hon => ⟨r, hr, hon, rfl⟩
      rcases h.isOpen.recording with ⟨m, j, hr⟩ | hr
      · cases hi.symm.trans hr.identity
      · cases hn.symm.trans hr.1
    | some i =>
      rw [endRecording_eq (s := s.atPosition p) hn hi]
      exact (State.Leads.closeRecording hn hi).trans (.endCause ..)

theorem State.Leads.endRecording (cause : Option EndCause) (s : State) : s.Leads (endRecording cause s) :=
  State.Leads.endRecordingAt cause s.intake.recording.position s

theorem State.Leads.endIfRecording (cause : EndCause) (s : State) : s.Leads (endIfRecording cause s) := by
  unfold Machine.endIfRecording
  split
  · exact .refl s
  all_goals exact .endRecording ..

end Sys2Proof.Machine

/-!
PROOF. What the steps of a header, the audio records and the frame of alert intake keep: the claim of a slot, the pages
of a recording, and the agreement of records and slots (R104 to R106, R122 to R134).
-/

namespace Sys2Proof.Machine

/-! ### Eviction and the claim of a slot (R103, R104, R106) -/

/-- A victim is READY and held by no reader. -/
theorem ClipStore.victim_ready {c : ClipStore} {now : BitVec 32} {n : Fin 32} (h : c.victim now = some n) :
    (c.slots.get n).state = .ready ∧ (c.slots.get n).useCount = 0 := by
  have hv := c.victim_cases now
  rw [h] at hv
  have hc := hv.1
  simp only [ClipStore.candidate, ClipStore.playable, Bool.and_eq_true, decide_eq_true_eq] at hc
  exact ⟨hc.1.1.1, hc.1.2⟩

/-- A READY slot held by no reader is emptied. -/
theorem State.StoreWf.emptyReady {s : State} (h : s.StoreWf) {n : Fin 32} (hn : (s.clips.slots.get n).state = .ready)
    (hu : (s.clips.slots.get n).useCount = 0) (f : ClipStore → ClipStore)
    (hfree : (f s.clips).free = (s.clips.emptySlot n).free) (hslots : (f s.clips).slots = (s.clips.emptySlot n).slots)
    (hholds : (f s.clips).holds = s.clips.holds) (hfill : (f s.clips).fill = s.clips.fill) : (s.modClips f).StoreWf := by
  refine h.modClips' f ((h.clips.emptySlot hu fun b hb e => ?_).congr hfree hslots hholds hfill) fun m => ?_
  · have := h.clips.fills b hb
    rw [e, hn] at this; cases this
  · rw [hslots, ClipStore.emptySlot_get]
    split
    · rename_i e
      rw [e, hn]
      exact .inr ⟨rfl, rfl⟩
    · exact .inl rfl

/-- An eviction empties a READY slot; alert intake stands. -/
theorem evict_leads {s t : State} {n : Fin 32} (h : evict s = some (n, t)) :
    s.Leads t ∧ t.intake = s.intake ∧ (s.clips.slots.get n).state = .ready ∧
      ∀ m, t.clips.slots.get m = (s.clips.emptySlot n).slots.get m := by
  unfold evict at h
  split at h
  · cases h
  · rename_i m hv
    obtain ⟨hr, hu⟩ := ClipStore.victim_ready hv
    simp only [Option.some.injEq, Prod.mk.injEq] at h
    obtain ⟨rfl, rfl⟩ := h
    refine ⟨State.Leads.trans (.modClips _ rfl fun hs => hs.emptyReady hr hu _ rfl rfl rfl rfl) (.latch ..),
      by rw [latch_intake]; rfl, hr, fun k => ?_⟩
    rw [latch_clips]
    rfl

theorem ClipStore.replaceFill_slots (c : ClipStore) (next : FillRecord) : (c.replaceFill next).slots = c.slots := by
  rw [ClipStore.replaceFill_eq]

theorem ClipStore.replaceFill_region (c : ClipStore) (next : FillRecord) : (c.replaceFill next).region = c.region := by
  rw [ClipStore.replaceFill_eq]

/-- The store with a burst in flight cut (R103). -/
def ClipStore.cutBurst (c : ClipStore) : ClipStore :=
  match c.fill with
  | .opened b => c.replaceFill (.cut b.slot b.pageIndex)
  | _ => c

theorem ClipStore.giveSlot_eq (c : ClipStore) (n : Fin 32) :
    c.giveSlot n =
      { c.cutBurst.modSlot n fun _ => ⟨.recording, .alert, Config.recordingLimit, 0, [], 0, none⟩ with
        channelHeld := true } := rfl

theorem ClipStore.cutBurst_slots (c : ClipStore) : c.cutBurst.slots = c.slots := by
  unfold ClipStore.cutBurst; split
  · exact c.replaceFill_slots _
  · rfl

theorem ClipStore.cutBurst_region (c : ClipStore) : c.cutBurst.region = c.region := by
  unfold ClipStore.cutBurst; split
  · exact c.replaceFill_region _
  · rfl

theorem ClipStore.cutBurst_fill (c : ClipStore) (b : OpenBurst) : c.cutBurst.fill ≠ .opened b := by
  unfold ClipStore.cutBurst; split
  · rw [ClipStore.replaceFill_eq]; simp
  · rename_i h; exact h b

theorem ClipStore.Sound.cutBurst {c : ClipStore} (h : c.Sound) : c.cutBurst.Sound := by
  unfold ClipStore.cutBurst; split
  · exact h.replaceFill nofun
  · exact h

theorem ClipStore.giveSlot_get (c : ClipStore) (n m : Fin 32) :
    (c.giveSlot n).slots.get m =
      if m = n then ⟨.recording, .alert, Config.recordingLimit, 0, [], 0, none⟩ else c.slots.get m := by
  rw [ClipStore.giveSlot_eq]
  show ((c.cutBurst.modSlot n fun _ => ⟨.recording, .alert, Config.recordingLimit, 0, [], 0, none⟩).slots.get m) = _
  rw [ClipStore.modSlot_get, ClipStore.cutBurst_slots]

/-- An EMPTY slot is given to alert recording. -/
theorem ClipStore.Sound.giveSlot {c : ClipStore} (h : c.Sound) {n : Fin 32} (hn : (c.slots.get n).state = .empty) :
    (c.giveSlot n).Sound := by
  have huse : (c.slots.get n).useCount = 0 := h.useCount_eq_zero (by rw [hn]; rfl)
  have hslots := c.cutBurst_slots
  refine h.cutBurst.modSlot n (fun _ => ⟨.recording, .alert, Config.recordingLimit, 0, [], 0, none⟩) _ rfl rfl ?_
    nofun (fun _ => .inl rfl) (fun b hb => absurd hb (c.cutBurst_fill b)) fun p => ?_
  · rw [hslots]; exact huse.symm
  · rw [hslots, h.empty n hn]; rfl

/-- The claim of a slot: an EMPTY one, of the state as it is or with a cart evicted. -/
theorem claimSlot_some {s t : State} {n : Fin 32} (h : claimSlot s = some (n, t)) :
    ∃ u, s.Leads u ∧ u.intake = s.intake ∧ (u.clips.slots.get n).state = .empty ∧ t = u.modClips fun c => c.giveSlot n := by
  unfold claimSlot at h
  split at h
  · rename_i m hm
    simp only [Option.some.injEq, Prod.mk.injEq] at h
    obtain ⟨rfl, rfl⟩ := h
    exact ⟨s, .refl s, rfl, by simpa using List.find?_some hm, rfl⟩
  · split at h
    · cases h
    · rename_i m u he
      simp only [Option.some.injEq, Prod.mk.injEq] at h
      obtain ⟨rfl, rfl⟩ := h
      obtain ⟨hl, hi, -, hget⟩ := evict_leads he
      exact ⟨u, hl, hi, by rw [hget, ClipStore.emptySlot_get, if_pos rfl], rfl⟩

/-! ### A record changed, counted (R129) -/

theorem audioWord_slot (n : Fin 32) (p : Nat) (hp : p < 2 ^ 24) :
    ((audioWord n.val p).extractLsb' 24 8).toNat = n.val := by
  have hn := n.isLt
  have hlt : n.val * 2 ^ 24 + p < 2 ^ 32 := by
    have : (n.val + 1) * 2 ^ 24 ≤ 32 * 2 ^ 24 := Nat.mul_le_mul_right _ hn
    omega
  rw [audioWord, BitVec.extractLsb'_toNat, BitVec.toNat_ofNat, Nat.mod_eq_of_lt hlt, Nat.shiftRight_eq_div_pow,
    Nat.mul_comm, Nat.mul_add_div (by decide), Nat.div_eq_of_lt hp, Nat.add_zero, Nat.mod_eq_of_lt (by omega)]

/-- Word 6 written with a slot: the record names it. -/
theorem AlertRecord.slot_audioWord (r : AlertRecord) (h : 6 ≤ r.words.length) (n : Fin 32) (p : Nat) (hp : p < 2 ^ 24) :
    (r.modWord 6 fun _ => audioWord n.val p).slot = some n := by
  have hlen : ¬ r.words.length < 6 := by omega
  have hget : (r.modWord 6 fun _ => audioWord n.val p).word 6 = audioWord n.val p := by
    simp [AlertRecord.word, AlertRecord.modWord, List.getD_eq_getElem?_getD, show 5 < r.words.length by omega]
  rw [AlertRecord.slot, AlertRecord.modWord_length, if_neg hlen, hget, audioWord_slot n p hp]
  simp [finOf]

/-- A count over the queue with one record changed. -/
theorem countP_modRecord {a : AlertIntake} {i : Identity} {r : AlertRecord} (f : AlertRecord → AlertRecord)
    (p : AlertRecord → Bool) (h : (a.queue.map AlertRecord.identity).Nodup) (hr : a.find i = some r) :
    (a.modRecord i f).queue.countP p + (if p r then 1 else 0) = a.queue.countP p + (if p (f r) then 1 else 0) := by
  have hmap : (a.modRecord i f).queue.countP p =
      ((a.queue.filter fun r => r.identity = i).map f).countP p + (a.queue.filter fun r => r.identity ≠ i).countP p := by
    rw [modRecord_map]
    induction a.queue with
    | nil => rfl
    | cons x q ih =>
      by_cases hi : x.identity = i <;> simp only [List.map_cons, List.countP_cons, List.filter_cons, hi, ih, ne_eq, not_true,
        not_false_iff, decide_true, decide_false, if_true, if_false, Bool.false_eq_true] <;> omega
  rw [hmap, countP_split (q := a.queue) (i := i) p, filter_identity_eq h hr]
  simp only [List.map_cons, List.map_nil, List.countP_cons, List.countP_nil]
  omega

/-- The record found after one has been changed. -/
theorem AlertIntake.find_modRecord (a : AlertIntake) (i j : Identity) (f : AlertRecord → AlertRecord)
    (h : ∀ r, (f r).identity = r.identity) :
    (a.modRecord i f).find j = (a.find j).map fun r => if r.identity = i then f r else r := by
  rw [AlertIntake.find, modRecord_map, List.find?_map, AlertIntake.find]
  congr 1
  congr 1
  funext r
  by_cases hr : r.identity = i <;> simp [hr, h]

/-- A change of one record that keeps identity and length keeps the form of the queue. -/
theorem queueWf_modRecord {a : AlertIntake} (h : a.queueWf = true) (i : Identity) (f : AlertRecord → AlertRecord)
    (hid : ∀ r, (f r).identity = r.identity) (hlen : ∀ r, (f r).words.length = r.words.length) (b : AlertIntake)
    (hb : b.queue = (a.modRecord i f).queue) : b.queueWf = true := by
  obtain ⟨hw, hl, hn⟩ := a.queueWf_iff.mp h
  have hlens : b.queue.map (fun r => r.words.length) = a.queue.map fun r => r.words.length := by
    rw [hb, modRecord_map, List.map_map]
    refine List.map_congr_left fun r _ => ?_
    by_cases hr : r.identity = i <;> simp [hr, hlen]
  refine b.queueWf_iff.mpr ⟨by rw [storedWords, hlens]; exact hw, fun r hr => ?_, ?_⟩
  · have hall : ∀ k ∈ b.queue.map fun r => r.words.length, 1 ≤ k := by
      rw [hlens]
      intro k hk
      obtain ⟨q, hq, rfl⟩ := List.mem_map.mp hk
      exact hl q hq
    exact hall _ (List.mem_map_of_mem hr)
  · have := a.modRecord_identities i f hid
    rw [AlertIntake.identities, AlertIntake.identities] at this
    rw [hb, this]; exact hn

/-! ### The recording prepared (R104, R132) -/

/-- The recording of an identity in slot `n` begins to wait. -/
def AlertIntake.await (a : AlertIntake) (i : Identity) (n : Fin 32) : AlertIntake :=
  { a.modRecord i fun r => r.modWord 6 fun _ => audioWord n.val 0 with recording := ⟨.waiting, some i, some n, 0, 0, false⟩ }

/-- A record without a slot is given an EMPTY one. -/
theorem State.StoreWf.await {s : State} (h : s.StoreWf) {i : Identity} {r : AlertRecord} {n : Fin 32}
    (hr : s.intake.find i = some r) (hslot : r.slot = none) (hlen : 6 ≤ r.words.length)
    (hn : (s.clips.slots.get n).state = .empty) :
    ((s.modClips fun c => c.giveSlot n).modIntake fun a => a.await i n).StoreWf := by
  obtain ⟨-, -, hnodup⟩ := s.intake.queueWf_iff.mp h.queue
  have hid (q : AlertRecord) : (q.modWord 6 fun _ => audioWord n.val 0).identity = q.identity :=
    q.modWord_identity 6 _ (by omega)
  have hnamed := r.slot_audioWord hlen n 0 (by omega)
  refine (State.storeWf_iff _).mpr ⟨h.clips.giveSlot hn, ?_, ?_, ?_⟩
  · exact queueWf_modRecord h.queue i _ hid (fun q => q.modWord_length 6 _) _ rfl
  · refine (State.alertSlotsWf_iff _).mpr fun m => ?_
    have hcount := countP_modRecord (a := s.intake) (fun q => q.modWord 6 fun _ => audioWord n.val 0)
      (fun q => q.slot = some m) hnodup hr
    have hold := s.alertSlotsWf_iff.mp h.alerts m
    rw [AlertIntake.naming] at hold
    simp only [hslot, hnamed, reduceCtorEq, decide_false, Option.some.injEq, hold, Bool.false_eq_true, if_false] at hcount
    show (s.intake.modRecord i _).queue.countP _ = if ((s.clips.giveSlot n).slots.get m).state.alert then 1 else 0
    rw [ClipStore.giveSlot_get]
    by_cases hm : m = n
    · subst hm
      simp only [hn, SlotState.alert, decide_true, if_true, Bool.false_eq_true, if_false] at hcount ⊢
      exact hcount
    · have hm' : ¬ n = m := fun e => hm e.symm
      simp only [hm, hm', decide_false, Bool.false_eq_true, if_false] at hcount ⊢
      exact hcount
  · refine (State.recordingWf_iff _).mpr (.inl ⟨n, i, ⟨rfl, rfl, ?_, ?_, nofun⟩, Nat.zero_lt_succ _⟩)
    · show ((s.clips.giveSlot n).slots.get n).state = _
      rw [ClipStore.giveSlot_get, if_pos rfl]
    · show ((s.intake.modRecord i _).find i).bind AlertRecord.slot = some n
      rw [AlertIntake.find_modRecord _ _ _ _ hid, hr]
      simp [(AlertIntake.find_mem hr).2, hnamed]

/-- The record of an identity, if any, names no slot. -/
def State.Unslotted (s : State) (i : Identity) : Prop := ∀ r ∈ s.intake.queue, r.identity = i → r.slot = none

theorem State.Leads.flagSilent (i : Identity) (s : State) : s.Leads (flagSilent i s) := by
  refine .modRecord i (fun r => { r.setFlag flagNoAudio with noAudio := true }) _ rfl (fun r => ?_) (fun _ => rfl) (.refl _)
  exact r.key_setFlag flagNoAudio

/-- The end of a recording leaves the keys of the queue. -/
theorem endRecording_keys (cause : Option EndCause) (s : State) :
    (endRecording cause s).intake.queue.map AlertRecord.key = s.intake.queue.map AlertRecord.key := by
  unfold endRecording
  split
  · dsimp only
    split
    · rfl
    · rw [latch_intake]
      exact AlertIntake.modRecord_keys _ _ _ fun r => r.key_setFlag _
  · rfl

theorem endIfRecording_keys (cause : EndCause) (s : State) :
    (endIfRecording cause s).intake.queue.map AlertRecord.key = s.intake.queue.map AlertRecord.key := by
  unfold endIfRecording
  split
  · rfl
  all_goals exact endRecording_keys ..

/-- A record of a key stands in every queue with the same keys. -/
theorem find_of_keys {a b : AlertIntake} (h : b.queue.map AlertRecord.key = a.queue.map AlertRecord.key) {i : Identity}
    {r : AlertRecord} (hr : a.find i = some r) : ∃ q, b.find i = some q ∧ q.key = r.key := by
  have hfind (x : AlertIntake) : (x.find i).map AlertRecord.key = (x.queue.map AlertRecord.key).find? fun k => k.1 = i := by
    rw [List.find?_map]; rfl
  have := hfind b
  rw [h, ← hfind a, hr] at this
  obtain ⟨q, hq, hk⟩ := Option.map_eq_some_iff.mp this
  exact ⟨q, hq, hk⟩

theorem ClipStore.giveSlot_region (c : ClipStore) (n : Fin 32) : (c.giveSlot n).region = c.region :=
  c.cutBurst_region

theorem State.Leads.await {s : State} {i : Identity} {r : AlertRecord} {n : Fin 32} (hr : s.intake.find i = some r)
    (hslot : r.slot = none) (hlen : 6 ≤ r.words.length) (hn : (s.clips.slots.get n).state = .empty) :
    s.Leads ((s.modClips fun c => c.giveSlot n).modIntake fun a => a.await i n) := by
  refine ⟨⟨rfl, rfl, rfl, id, fun hs => hs.await hr hslot hlen hn, fun ha => ⟨ha.awake, fun x hx hon => ?_⟩, ?_⟩,
    s.clips.giveSlot_region n⟩
  · obtain ⟨q, hq, rfl⟩ := List.mem_map.mp hx
    have hkeep : (if q.identity = i then q.modWord 6 fun _ => audioWord n.val 0 else q).identity = q.identity := by
      split
      · exact q.modWord_identity 6 _ (by omega)
      · rfl
    have hmark : q.onAir = true := by
      dsimp only at hon
      split at hon <;> exact hon
    dsimp only at hkeep ⊢
    rw [hkeep]
    exact ha.marked q hq hmark
  · show _ → Memory.wf StereoFrame.silence (s.clips.giveSlot n).region = true
    rw [ClipStore.giveSlot_region]
    exact id

theorem State.Leads.prepareRecording {s : State} (h : Header) (hu : s.Unslotted h.identity) :
    s.Leads (prepareRecording h s) := by
  unfold Machine.prepareRecording
  dsimp only
  split
  · rename_i hdue
    have hend := State.Leads.endIfRecording .superseded s
    split
    · rename_i n t ht
      obtain ⟨u, hl, hi, hn, rfl⟩ := claimSlot_some ht
      simp only [Bool.and_eq_true, Option.any_eq_true, decide_eq_true_eq] at hdue
      obtain ⟨-, r, hr, hlen⟩ := hdue
      obtain ⟨q, hq, hkey⟩ := find_of_keys (endIfRecording_keys .superseded s) hr
      obtain ⟨hmem, hid⟩ := AlertIntake.find_mem hr
      simp only [AlertRecord.key, Prod.mk.injEq] at hkey
      obtain ⟨-, hqslot, hqlen⟩ := hkey
      rw [← hi] at hq
      exact (hend.trans hl).trans (.await hq (hqslot.trans (hu r hmem hid)) (hqlen ▸ hlen) hn)
    · exact hend.trans (.flagSilent ..)
  · exact .flagSilent ..

/-! ### The queue store (R129, R130) -/

theorem Identity.ofBits_append (i : Identity) : Identity.ofBits (i.issuer ++ i.serial) = i := by
  exact congrArg₂ Identity.mk BitVec.extractLsb'_append_eq_left BitVec.extractLsb'_append_eq_right

section
variable (h : Header) (d : Decision) (remaining free : Nat) (timeUnknown : Bool) (stamp : BitVec 32)

theorem wholeWords_length (torn : Bool) : (wholeWords h d remaining torn timeUnknown).length = h.size := by
  simp [wholeWords, Header.size]
  omega

theorem newRecord_length : (newRecord h d remaining free timeUnknown stamp).words.length = min free h.size := by
  simp [newRecord, wholeWords_length]

theorem newRecord_identity (hf : 0 < free) : (newRecord h d remaining free timeUnknown stamp).identity = h.identity := by
  obtain ⟨n, rfl⟩ := Nat.exists_eq_succ_of_ne_zero hf.ne'
  exact Identity.ofBits_append h.identity

theorem newRecord_slot : (newRecord h d remaining free timeUnknown stamp).slot = none := by
  rw [AlertRecord.slot]
  split
  · rfl
  · rename_i hlen
    rw [newRecord_length] at hlen
    have hword : (newRecord h d remaining free timeUnknown stamp).word 6 = audioWord 255 0 := by
      obtain ⟨n, rfl⟩ : ∃ n, free = n + 6 := ⟨free - 6, by omega⟩
      rfl
    rw [hword]
    rfl

end

/-- A record of a new identity joins the tail of the queue, within the free words and without a slot. -/
theorem State.StoreWf.append {s : State} (hs : s.StoreWf) (r : AlertRecord) (hlen : 1 ≤ r.words.length)
    (hfree : r.words.length ≤ s.intake.freeWords) (hslot : r.slot = none)
    (hnew : ∀ q ∈ s.intake.queue, q.identity ≠ r.identity) :
    (s.modIntake fun a => { a with queue := a.queue ++ [r] }).StoreWf := by
  obtain ⟨hw, hl, hn⟩ := s.intake.queueWf_iff.mp hs.queue
  refine (State.storeWf_iff _).mpr ⟨hs.clips, ?_, ?_, ?_⟩
  · refine (AlertIntake.queueWf_iff _).mpr ⟨?_, fun q hq => ?_, ?_⟩
    · simp only [AlertIntake.freeWords] at hfree
      simp only [State.modIntake_intake, storedWords, List.map_append, List.sum_append, List.map_cons, List.map_nil,
        List.sum_cons, List.sum_nil] at hw hfree ⊢
      omega
    · rcases List.mem_append.mp hq with hq | hq
      · exact hl q hq
      · rw [List.mem_singleton.mp hq]; exact hlen
    · simp only [State.modIntake_intake, List.map_append, List.map_cons, List.map_nil]
      refine List.nodup_append.mpr ⟨hn, List.nodup_singleton _, fun i hi j hj => ?_⟩
      obtain ⟨q, hq, rfl⟩ := List.mem_map.mp hi
      rw [List.mem_singleton.mp hj]
      exact hnew q hq
  · refine (State.alertSlotsWf_iff _).mpr fun m => ?_
    refine Eq.trans ?_ (s.alertSlotsWf_iff.mp hs.alerts m)
    simp [AlertIntake.naming, hslot]
  · refine (State.recordingWf_iff _).mpr ?_
    rcases s.recordingWf_iff.mp hs.recording with ⟨n, i, hr, hp⟩ | hr
    · refine .inl ⟨n, i, ⟨hr.slot, hr.identity, hr.taken, ?_, hr.active⟩, hp⟩
      obtain ⟨q, hq, hqs⟩ := Option.bind_eq_some_iff.mp hr.named
      have : (s.intake.queue ++ [r]).find? (fun x => x.identity = i) = some q := by
        rw [List.find?_append]
        rw [AlertIntake.find] at hq
        rw [hq]; rfl
      show ((s.intake.queue ++ [r]).find? fun x => x.identity = i).bind AlertRecord.slot = some n
      rw [this]; exact hqs
    · exact .inr hr

/-- The identity is in no record of the queue. -/
theorem AlertIntake.knows_false {a : AlertIntake} {i : Identity} (h : a.knows i = false) :
    ∀ q ∈ a.queue, q.identity ≠ i := by
  simp only [AlertIntake.knows, Bool.or_eq_false_iff, List.any_eq_false, decide_eq_true_eq] at h
  exact h.2

/-- The queue after the store of a header: the new record at its tail, where a word is free. -/
theorem storeHeader_queue (h : Header) (d : Decision) (remaining : Nat) (s : State) :
    (storeHeader h d remaining s).1.intake.queue =
      s.intake.queue ++ if s.intake.freeWords = 0 then [] else
        [newRecord h d remaining s.intake.freeWords s.intake.minuteOfWeek.isNone s.frameCount] := by
  unfold storeHeader
  dsimp only
  split
  · split <;> simp
  · split
    all_goals try rw [latch_intake]
    all_goals simp only [countIntake, State.modIntake_intake]
    all_goals split <;> simp

theorem State.Leads.storeHeader {s : State} (h : Header) (d : Decision) (remaining : Nat)
    (hnew : ∀ q ∈ s.intake.queue, q.identity ≠ h.identity) : s.Leads (storeHeader h d remaining s).1 := by
  have hstore : s.Leads (if s.intake.freeWords = 0 then s else s.modIntake fun a =>
      { a with queue := a.queue ++
          [newRecord h d remaining s.intake.freeWords s.intake.minuteOfWeek.isNone s.frameCount] }) := by
    split
    · exact .refl s
    · rename_i hfree
      have hsize : 1 ≤ h.size := by simp [Header.size]; omega
      refine .modIntake _ (fun hs => hs.append _ ?_ ?_ (newRecord_slot ..) ?_) fun r hr hon => ?_
      · rw [newRecord_length]; omega
      · rw [newRecord_length]; omega
      · rw [newRecord_identity _ _ _ _ _ _ (by omega)]; exact hnew
      · rcases List.mem_append.mp hr with hr | hr
        · exact ⟨r, hr, hon, rfl⟩
        · rw [List.mem_singleton.mp hr] at hon; cases hon
  unfold Machine.storeHeader
  dsimp only
  split
  · exact hstore
  · have hlost := hstore.trans (.countIntake (fun k => { k with lost := bump k.lost 1 }) _)
    split
    · exact hlost
    · exact hlost.trans (.latch ..)

/-! ### The seven steps (R122 to R131) -/

theorem State.Leads.passAcceptance (d : Decision) (r : AlertRecord) (s : State) : s.Leads (passAcceptance d r s) := by
  unfold Machine.passAcceptance
  split
  · exact .refl s
  · exact .wakeOrAbort ..

theorem State.Leads.accept (h : Header) (d : Decision) (s : State) : s.Leads (accept h d s) := by
  unfold Machine.accept
  split
  · exact .refl s
  · dsimp only
    refine State.Leads.trans (State.Leads.trans ?_ (.passAcceptance ..)) (.select _)
    exact (State.Leads.countIntake ..).trans (.latch ..)

theorem State.Leads.storeAndAccept {s : State} (h : Header) (d : Decision) (remaining : Nat)
    (hnew : ∀ q ∈ s.intake.queue, q.identity ≠ h.identity) : s.Leads (storeAndAccept h d remaining s).1 := by
  have hstore := State.Leads.storeHeader h d remaining hnew
  have hslot : (Machine.storeHeader h d remaining s).1.Unslotted h.identity := by
    intro r hr hid
    rw [storeHeader_queue] at hr
    rcases List.mem_append.mp hr with hr | hr
    · exact absurd hid (hnew r hr)
    · split at hr
      · cases hr
      · rw [List.mem_singleton.mp hr]; exact newRecord_slot ..
  unfold Machine.storeAndAccept
  dsimp only
  split
  · exact (hstore.trans (.prepareRecording h hslot)).trans (.accept ..)
  · exact hstore

theorem State.Leads.intakeHeader (h : Header) (s : State) : s.Leads (intakeHeader h s).1 := by
  unfold Machine.intakeHeader
  dsimp only
  split
  · exact State.Leads.countIntake (fun k => { k with stale := bump k.stale 1 }) s
  · split
    · exact State.Leads.countIntake (fun k => { k with duplicate := bump k.duplicate 1 }) s
    · rename_i hknown
      have hremember : s.Leads (s.modIntake fun a => a.remember h.identity (h.duration - s.intake.elapsed h)) :=
        .modIntake_other _ rfl (.refl _)
      split
      · exact hremember.trans (.countIntake (fun k => { k with filterDiscard := bump k.filterDiscard 1 }) _)
      · refine hremember.trans (.storeAndAccept _ _ _ ?_)
        exact AlertIntake.knows_false (a := s.intake) (by simpa using hknown)

theorem State.Leads.headerArrives (rest : List Byte) (s : State) : s.Leads (headerArrives rest s) := by
  unfold Machine.headerArrives
  dsimp only
  split
  · exact .intakeHeader ..
  · exact .countIntake ..

/-! ### The audio records (R133) -/

theorem State.Leads.audioBeginArrives (rest : List Byte) (s : State) : s.Leads (audioBeginArrives rest s) := by
  unfold Machine.audioBeginArrives
  split
  · unfold beginAudio
    split
    · rename_i hw
      split
      · exact .modIntake_other _ rfl ⟨rfl, rfl, rfl, by simp [hw]⟩
      · exact .countIntake ..
    all_goals exact .countIntake ..
  · exact .countIntake ..

theorem State.Leads.audioEndArrives (rest : List Byte) (s : State) : s.Leads (audioEndArrives rest s) := by
  unfold Machine.audioEndArrives
  split
  · unfold endAudio
    split
    · split
      · exact .endRecording ..
      · exact .endRecording ..
      · exact .countIntake ..
    · exact .countIntake ..
  · exact .countIntake ..

/-! ### The frame of a recording (R105, R134) -/

/-- A page joins the chain of the recording slot. -/
theorem ClipStore.Sound.takePage {c d : ClipStore} (h : c.Sound) {n : Fin 32} (hn : (c.slots.get n).state = .recording)
    (hd : c.takePage n = some d) :
    d.Sound ∧ d.region = c.region ∧ ∀ m, (d.slots.get m).state = (c.slots.get m).state := by
  unfold ClipStore.takePage at hd
  split at hd
  · cases hd
  · rename_i page rest hfree
    cases hd
    have hget (m : Fin 32) : (({ c with free := rest }.modSlot n fun t => { t with chain := t.chain ++ [page] }).slots.get
        m).state = (c.slots.get m).state := by
      rw [ClipStore.modSlot_get]; split <;> rfl
    refine ⟨h.modSlot n (fun t => { t with chain := t.chain ++ [page] }) _ rfl rfl rfl (fun e => ?_) (fun e => .inl e)
      (fun b hb => ?_) fun p => ?_, rfl, hget⟩
    · rw [show (c.slots.get n).state = _ from e] at hn; cases hn
    · rw [hget]; exact h.fills b hb
    · show rest.count p + ((c.slots.get n).chain ++ [page]).count p + c.burst.count p = _
      rw [hfree, List.count_append, List.count_cons, List.count_cons, List.count_nil]
      omega

/-- A change of the clip store after others, within the agreements that stood at the start. -/
theorem State.Leads.thenClips {s u : State} (h : s.Leads u) (f : ClipStore → ClipStore)
    (hregion : (f u.clips).region = u.clips.region) (hstore : s.StoreWf → (u.modClips f).StoreWf) :
    s.Leads (u.modClips f) := by
  refine ⟨⟨?_, h.bypass, h.reads, h.link, hstore, fun ha => ?_, ?_⟩, hregion.trans h.region⟩
  · conv_lhs => rw [h.frame]
    rfl
  · exact ⟨(h.airing ha).awake, (h.airing ha).marked⟩
  · simp only [State.modClips_clips, hregion]
    exact h.memory

/-- The slot of a recording has a page, from the list or by an eviction. -/
theorem State.Leads.recordingPage {s t : State} {n : Fin 32}
    (hn : s.StoreWf → (s.clips.slots.get n).state = .recording) (h : recordingPage n s = some t) :
    s.Leads t ∧ t.intake = s.intake := by
  have hpage {u : State} {d : ClipStore} (hl : s.Leads u) (hu : s.StoreWf → (u.clips.slots.get n).state = .recording)
      (hd : u.clips.takePage n = some d) : s.Leads (u.modClips fun _ => d) := by
    refine hl.thenClips _ ?_ fun hs => ?_
    · unfold ClipStore.takePage at hd
      split at hd
      · cases hd
      · cases hd; rfl
    · obtain ⟨hsound, -, hst⟩ := (hl.store hs).clips.takePage (hu hs) hd
      exact (hl.store hs).modClips _ hsound hst
  unfold Machine.recordingPage at h
  split at h
  · rename_i d hd
    cases h
    exact ⟨hpage (.refl s) hn hd, rfl⟩
  · split at h
    · cases h
    · rename_i m u he
      obtain ⟨hl, hi, hready, hget⟩ := evict_leads he
      obtain ⟨d, hd, rfl⟩ := Option.map_eq_some_iff.mp h
      refine ⟨hpage hl (fun hs => ?_) hd, hi⟩
      rw [hget, ClipStore.emptySlot_get, if_neg, hn hs]
      rintro rfl
      rw [hn hs] at hready; cases hready

/-- A frame written to the slot of a recording, and the words of its record. -/
def State.wroteFrame (s : State) (n : Fin 32) (i : Identity) (p : Nat) (f : StereoFrame) : State :=
  (s.modClips fun c => c.writeRecording n p f).modIntake fun a =>
    a.modRecord i fun r => r.modWord 6 fun _ => audioWord n.val (p + 1)

theorem ClipStore.writeRecording_get (c : ClipStore) (n m : Fin 32) (p : Nat) (f : StereoFrame) :
    (c.writeRecording n p f).slots.get m = if m = n then { c.slots.get m with length := p + 1 } else c.slots.get m := by
  rw [ClipStore.writeRecording, ClipStore.modSlot_get]; rfl

theorem ClipStore.Sound.writeRecording {c : ClipStore} (h : c.Sound) {n : Fin 32}
    (hn : (c.slots.get n).state = .recording) (p : Nat) (f : StereoFrame) : (c.writeRecording n p f).Sound := by
  refine h.modSlot n (fun t => { t with length := p + 1 }) _ rfl rfl rfl (fun e => ?_) (fun e => .inl e)
    (fun b hb => ?_) fun q => rfl
  · rw [show (c.slots.get n).state = _ from e] at hn; cases hn
  · rw [ClipStore.writeRecording_get]
    have := h.fills b hb
    split <;> exact this

/-- The recording that its record names is under way. -/
theorem State.StoreWf.records {s : State} (h : s.StoreWf) {n : Fin 32} {i : Identity}
    (hn : s.intake.recording.slot = some n) (hi : s.intake.recording.identity = some i) :
    s.Records n i ∧ s.intake.recording.position < Config.recordingLimit := by
  rcases s.recordingWf_iff.mp h.recording with ⟨m, j, hr, hp⟩ | hr
  · cases hn.symm.trans hr.slot
    cases hi.symm.trans hr.identity
    exact ⟨hr, hp⟩
  · cases hn.symm.trans hr.1

theorem State.Reaches.wroteFrame {s : State} {n : Fin 32} {i : Identity} (f : StereoFrame)
    (hn : s.intake.recording.slot = some n) (hi : s.intake.recording.identity = some i) :
    s.Reaches (s.wroteFrame n i s.intake.recording.position f) := by
  generalize hpos : s.intake.recording.position = p
  have hid (q : AlertRecord) : (q.modWord 6 fun _ => audioWord n.val (p + 1)).identity = q.identity :=
    q.modWord_identity 6 _ (by omega)
  refine ⟨rfl, rfl, rfl, id, fun hs => ?_, fun ha => ⟨ha.awake, fun x hx hon => ?_⟩, fun hm => ?_⟩
  · obtain ⟨hrec, hp⟩ := hs.records hn hi
    rw [hpos] at hp
    have hp' : p + 1 < 2 ^ 24 := by
      simp only [Config.recordingLimit] at hp; omega
    have hget (m : Fin 32) : ((s.clips.writeRecording n p f).slots.get m).state = (s.clips.slots.get m).state := by
      rw [ClipStore.writeRecording_get]; split <;> rfl
    have hclips := hs.modClips (fun c => c.writeRecording n p f) (hs.clips.writeRecording hrec.taken p f) hget
    refine hclips.of_keys rfl ?_ (.refl _)
    refine (List.map_map ..).trans (List.map_congr_left fun q hq => ?_)
    simp only [Function.comp_apply]
    split
    · rename_i hqi
      obtain ⟨-, -, hnodup⟩ := s.intake.queueWf_iff.mp hs.queue
      obtain ⟨r, hfind, hslot⟩ := Option.bind_eq_some_iff.mp hrec.named
      have hqr : q = r := by
        have hmem : q ∈ s.intake.queue.filter fun x => x.identity = i := List.mem_filter.mpr ⟨hq, by simpa using hqi⟩
        rw [filter_identity_eq hnodup hfind] at hmem
        exact List.mem_singleton.mp hmem
      have hlen : 6 ≤ q.words.length := by
        rw [hqr]
        by_contra hlt
        rw [AlertRecord.slot, if_pos (by omega)] at hslot
        cases hslot
      simp only [AlertRecord.key, hid, q.slot_audioWord hlen n (p + 1) hp', AlertRecord.modWord_length]
      rw [hqr, hslot]
    · rfl
  · obtain ⟨q, hq, rfl⟩ := List.mem_map.mp hx
    have hkeep : (if q.identity = i then q.modWord 6 fun _ => audioWord n.val (p + 1) else q).identity = q.identity := by
      split
      · exact hid q
      · rfl
    have hmark : q.onAir = true := by
      dsimp only at hon
      split at hon <;> exact hon
    dsimp only at hkeep ⊢
    rw [hkeep]
    exact ha.marked q hq hmark
  · exact Memory.write_wf _ _ _ _ hm

theorem writeFrame_eq {audio : AudioInput} {n : Fin 32} {i : Identity} {s t : State}
    (h : (if s.intake.recording.position % Config.pageBlocks = 0 then recordingPage n s else some s) = some t) :
    writeFrame audio n i s =
      if Config.recordingLimit ≤ s.intake.recording.position + 1 then
        endRecording (some .limit) ((t.wroteFrame n i s.intake.recording.position (audioFrame audio)).atPosition
          (s.intake.recording.position + 1))
      else (t.wroteFrame n i s.intake.recording.position (audioFrame audio)).atPosition
        (s.intake.recording.position + 1) := by
  unfold writeFrame
  dsimp only
  rw [h]
  rfl

theorem State.Reaches.writeFrame {s : State} (audio : AudioInput) {n : Fin 32} {i : Identity}
    (hn : s.intake.recording.slot = some n) (hi : s.intake.recording.identity = some i) :
    s.Reaches (writeFrame audio n i s) := by
  cases hpaged : if s.intake.recording.position % Config.pageBlocks = 0 then Machine.recordingPage n s else some s with
  | none =>
    unfold Machine.writeFrame
    dsimp only
    rw [hpaged]
    exact (State.Leads.endRecording ..).toReaches
  | some t =>
    have hpage : s.Leads t ∧ t.intake = s.intake := by
      split at hpaged
      · exact State.Leads.recordingPage (fun hs => (hs.records hn hi).1.taken) hpaged
      · cases hpaged
        exact ⟨.refl s, rfl⟩
    obtain ⟨hl, hintake⟩ := hpage
    have hwrote : s.Reaches (t.wroteFrame n i s.intake.recording.position (audioFrame audio)) := by
      rw [← hintake]
      exact hl.toReaches.trans (.wroteFrame _ (hintake ▸ hn) (hintake ▸ hi))
    rw [writeFrame_eq hpaged]
    split
    · exact hwrote.trans (State.Leads.endRecordingAt ..).toReaches
    · rename_i hlim
      refine hwrote.trans (State.Leads.position _ fun _ _ => ?_).toReaches
      omega

theorem State.Reaches.alertWork (audio : AudioInput) (s : State) : s.Reaches (alertWork audio s) := by
  refine (State.Leads.alertBegin s).toReaches.trans ?_
  show (alertBegin s).Reaches (recordingWork audio (alertBegin s))
  generalize alertBegin s = u
  unfold recordingWork
  dsimp only
  split
  · exact .refl u
  · have hwait : u.Leads (u.modIntake fun a =>
        { a with recording := { a.recording with beginWait := a.recording.beginWait + 1 } }) :=
      .modIntake_other _ rfl ⟨rfl, rfl, rfl, Iff.rfl⟩
    split
    · exact (hwait.trans (.endRecording ..)).toReaches
    · exact hwait.toReaches
  · split
    · exact (State.Leads.modIntake_other _ rfl ⟨rfl, rfl, rfl, Iff.rfl⟩).toReaches
    · split
      · rename_i hn hi
        exact .writeFrame audio hn hi
      · exact .refl u

end Sys2Proof.Machine

/-!
PROOF. What the link unit's send and return and the air stage's frame keep (R145 to R160, R165 to R193).
-/

namespace Sys2Proof.Machine

/-! ### The send (R165, R170, R175, R178, R188, R190, R192) -/

theorem State.Leads.sendStudio (dest : Option MacAddress) (payload : List Byte) (s : State) :
    s.Leads (sendStudio dest payload s) := .modSent ..

theorem State.Leads.sendLink (payload : List Byte) (s : State) : s.Leads (sendLink payload s) := .modSent ..

theorem State.Leads.adoptLink (s : State) : s.Leads (adoptLink s) :=
  (State.Leads.modLink_other _ rfl rfl rfl rfl le_rfl).trans (.workLevel _)

theorem State.Leads.tickGap (s : State) : s.Leads (tickGap s) := by
  unfold Machine.tickGap
  split
  · exact (State.Leads.modLink_other _ rfl rfl rfl rfl le_rfl).trans (.raiseRfc ..)
  · split
    · exact .modLink_other _ rfl rfl rfl rfl le_rfl
    · exact .refl s

theorem State.Leads.tickCut (s : State) : s.Leads (tickCut s) := by
  unfold Machine.tickCut
  split
  · exact .modLink_other _ rfl rfl rfl rfl le_rfl
  · exact .refl s

/-- The negotiation timer that runs in a phase. -/
def LinkUnit.tickPhase (l : LinkUnit) : LinkUnit :=
  match l.phase with
  | .requesting => { l with requestTimer := min (l.requestTimer + 1) Config.requestTimerMax }
  | .quiet => { l with quietTimer := l.quietTimer + 1 }
  | .none => l

theorem LinkUnit.tickPhase_eq (l : LinkUnit) :
    l.tickPhase = { l with requestTimer := l.tickPhase.requestTimer, quietTimer := l.tickPhase.quietTimer } := by
  unfold LinkUnit.tickPhase
  split <;> rfl

theorem tickNegotiation_eq (s : State) :
    tickNegotiation s =
      if requestDue s.link then select (endNegotiation .refused 0 (s.modLink LinkUnit.tickPhase))
      else if quietDue s.link then enterAsleep (s.modLink LinkUnit.tickPhase)
      else s.modLink LinkUnit.tickPhase := rfl

theorem State.Leads.tickPhase (s : State) : s.Leads (s.modLink LinkUnit.tickPhase) := by
  refine .modLink_other _ ?_ ?_ ?_ ?_ ?_
  all_goals rw [LinkUnit.tickPhase_eq]

theorem State.Leads.tickNegotiation (s : State) : s.Leads (tickNegotiation s) := by
  rw [tickNegotiation_eq]
  split
  · exact ((State.Leads.tickPhase s).trans (.endNegotiation ..)).trans (.select _)
  · split
    · rename_i hquiet
      refine (State.Leads.tickPhase s).trans (.enterAsleep ?_)
      rw [State.modLink_link, LinkUnit.tickPhase_eq]
      simp only [quietDue, Bool.and_eq_true, decide_eq_true_eq] at hquiet
      exact hquiet.1.1
    · exact .tickPhase s

theorem State.Leads.failWake (s : State) : s.Leads (failWake s) := by
  unfold Machine.failWake
  dsimp only
  refine State.Leads.trans (State.Leads.trans ?_ (.latch ..)) (.enterCut 2 _ id rfl)
  exact (State.Leads.modLink_other _ rfl rfl rfl rfl le_rfl).trans (.takeFault ..)

theorem State.Leads.tickWake (s : State) : s.Leads (tickWake s) := by
  unfold Machine.tickWake
  split
  · split
    · exact .modLink_other _ rfl rfl rfl rfl le_rfl
    · exact (State.Leads.modLink_other _ rfl rfl rfl rfl le_rfl).trans (.failWake _)
  · split
    · exact .modLink_other _ rfl rfl rfl rfl le_rfl
    · exact .refl s

theorem State.Leads.sendTimers (s : State) : s.Leads (sendTimers s) := by
  unfold Machine.sendTimers
  split
  · exact (State.Leads.tickCut s).trans (.tickGap _)
  · exact (State.Leads.tickCut s).trans (.tickGap _)
  · dsimp only
    split
    · exact (State.Leads.tickGap s).trans (.tickNegotiation _)
    · exact .tickGap s
  · exact .modLink_other _ rfl rfl rfl rfl le_rfl
  · exact .tickWake s

theorem State.Leads.sendBegin (s : State) : s.Leads (sendBegin s) :=
  ((State.Leads.sendStudio ..).trans (.adoptLink _)).trans (.sendTimers _)

theorem LinkUnit.tickMessage_eq (l : LinkUnit) : l.tickMessage = { l with inFlight := l.tickMessage.inFlight } := by
  unfold LinkUnit.tickMessage
  split
  · split <;> rfl
  · rfl

theorem LinkUnit.intoFlight_eq (l : LinkUnit) :
    l.intoFlight = { l with inFlight := l.intoFlight.inFlight, queue := l.intoFlight.queue } := by
  unfold LinkUnit.intoFlight
  split <;> rfl

theorem LinkUnit.intoFlight_queue_le (l : LinkUnit) : l.intoFlight.queue.length ≤ l.queue.length := by
  unfold LinkUnit.intoFlight
  split
  · exact List.length_erase_le
  · exact le_rfl

theorem LinkUnit.countRide_eq (l : LinkUnit) : l.countRide = { l with inFlight := l.countRide.inFlight } := by
  unfold LinkUnit.countRide
  split <;> rfl

theorem State.Leads.dropMessage (f : InFlight) (s : State) : s.Leads (dropMessage f s) := by
  unfold Machine.dropMessage
  dsimp only
  have hdrop := (State.Leads.modLink_other (s := s) (fun l =>
    { l with
      inFlight := none
      lateNumber := if f.message.isRequest l.lateNumber then none else l.lateNumber
      counters := { l.counters with messageLost := bump l.counters.messageLost 1 } }) rfl rfl rfl rfl le_rfl).trans
    (.latch .linkMessageLost [Word.nat f.message.kind.code, Word.nat f.message.number.toNat, Word.nat 1] _)
  split
  · exact hdrop.trans (.raiseSfc ..)
  · exact hdrop.trans (.takeFault ..)

theorem State.Leads.sendMessages (s : State) : s.Leads (sendMessages s) := by
  have htick : s.Leads (s.modLink LinkUnit.tickMessage) := by
    refine .modLink_other _ ?_ ?_ ?_ ?_ ?_
    all_goals rw [LinkUnit.tickMessage_eq]
  have hflight (u : State) : u.Leads (u.modLink LinkUnit.intoFlight) := by
    refine .modLink_other _ ?_ ?_ ?_ ?_ u.link.intoFlight_queue_le
    all_goals rw [LinkUnit.intoFlight_eq]
  unfold Machine.sendMessages
  dsimp only
  refine State.Leads.trans ?_ (hflight _)
  split
  · exact htick.trans (.dropMessage ..)
  · exact htick

theorem State.Leads.sendFrame (frame : LinkFrame) (s : State) : s.Leads (sendFrame frame s) := by
  unfold Machine.sendFrame
  dsimp only
  have hsent : s.Leads (Machine.sendLink (linkFrameBytes frame false s.air.onAirFlag (s.link.silenceFlag frame) s.link.nextSeq
      s.link.riding) s) := .sendLink ..
  have hcopy (u : State) : u.Leads (u.modLink fun l => { l.countRide with nextSeq := l.nextSeq + 1, lastSeq := l.nextSeq }) := by
    refine .modLink_other _ ?_ ?_ ?_ ?_ ?_
    all_goals rw [LinkUnit.countRide_eq]
  refine State.Leads.trans ?_ (hcopy _)
  split
  · exact hsent.trans (.sendLink ..)
  · exact hsent

theorem State.Leads.sendProbe (s : State) : s.Leads (sendProbe s) := by
  unfold Machine.sendProbe
  dsimp only
  refine State.Leads.trans (t := if probeDue s.link then _ else s) ?_ (.modLink_other _ rfl rfl rfl rfl le_rfl)
  split
  · exact (State.Leads.modLink_other _ rfl rfl rfl rfl le_rfl).trans (.sendFrame ..)
  · exact .refl s

theorem State.Leads.sendWake (s : State) : s.Leads (sendWake s) := by
  unfold Machine.sendWake
  split
  · exact .refl s
  · dsimp only
    refine (State.Leads.sendFrame ..).trans (.modLink_other _ ?_ ?_ ?_ ?_ ?_)
    iterate 4 (split <;> rfl)
    split <;> exact le_rfl

theorem State.Leads.sendFrames (cut keepalive : Bool) (s : State) : s.Leads (sendFrames cut keepalive s) := by
  unfold Machine.sendFrames
  split
  · exact .refl s
  · split
    · exact .sendFrame ..
    · exact .sendFrame ..
    · exact .sendProbe s
    · split
      · exact .sendFrame ..
      · exact .refl s
    · exact .sendWake s

theorem State.Leads.sendWork (s : State) : s.Leads (sendWork s) := by
  unfold Machine.sendWork
  dsimp only
  refine State.Leads.trans ?_ (.modLink_other _ rfl rfl rfl rfl le_rfl)
  exact ((State.Leads.sendBegin s).trans (.sendMessages _)).trans (.sendFrames ..)

/-! ### The return (R168, R169, R171, R176, R179, R188, R190, R192) -/

theorem State.Leads.countCorrupt (s : State) : s.Leads (countCorrupt s) := by
  unfold Machine.countCorrupt
  dsimp only
  have hcount : s.Leads (s.modLink fun l => { l with counters := { l.counters with corrupt := bump s.link.counters.corrupt 1 } }) :=
    .modLink_other _ rfl rfl rfl rfl le_rfl
  split
  · exact (hcount.trans (.modLink_other _ rfl rfl rfl rfl le_rfl)).trans (.latch ..)
  · exact hcount

theorem State.Leads.corruptReturn (s : State) : s.Leads (corruptReturn s) := by
  unfold Machine.corruptReturn
  dsimp only
  split
  · exact (State.Leads.countCorrupt s).trans (.raiseRfc ..)
  · exact .countCorrupt s

theorem State.Leads.judgeOne (h : BitVec 16) (map : BitVec 32) (q : BitVec 16) (s : State) : s.Leads (judgeOne h map q s) := by
  unfold Machine.judgeOne
  dsimp only
  split
  · exact .modLink_other _ rfl rfl rfl rfl le_rfl
  · split
    · exact .lowerSfc s
    · exact (State.Leads.modLink_other _ rfl rfl rfl rfl le_rfl).trans (.raiseSfc ..)

theorem State.Leads.judgeRun (h : BitVec 16) (map : BitVec 32) (n : Nat) (q : BitVec 16) (s : State) :
    s.Leads (judgeRun h map n q s).1 := by
  induction n generalizing q s with
  | zero => exact .refl s
  | succ n ih =>
    unfold Machine.judgeRun
    dsimp only
    split
    · exact (State.Leads.judgeOne ..).trans (ih ..)
    · exact .judgeOne ..

theorem State.Leads.judge (r : Return) (s : State) : s.Leads (judge r s) := by
  unfold Machine.judge
  dsimp only
  split
  · split
    · exact (State.Leads.judgeRun ..).trans (.modLink_other _ rfl rfl rfl rfl le_rfl)
    · exact .judgeRun ..
  · exact .refl s

theorem State.Leads.restoreLink (s : State) : s.Leads (restoreLink s) := by
  unfold Machine.restoreLink
  dsimp only
  refine State.Leads.trans (State.Leads.trans (State.Leads.trans ?_ (.enterRun _)) (.latch ..)) (.select _)
  exact .lowerCounts _ rfl rfl (Nat.zero_le _) (Nat.zero_le _) rfl

theorem State.Leads.probeVerdict (r : Return) (s : State) : s.Leads (probeVerdict r s) := by
  have hlock : s.Leads (s.modLink fun l => l.seeLock r.lock) := .modLink_other _ rfl rfl rfl rfl le_rfl
  unfold Machine.probeVerdict
  dsimp only
  split
  · split
    · exact (hlock.trans (.lowerSfc _)).trans (.restoreLink _)
    · exact hlock.trans (.lowerSfc _)
  · exact hlock.trans (.modLink_other _ rfl rfl rfl rfl le_rfl)

theorem LinkUnit.completeMessage_eq (l : LinkUnit) (ack : Option Byte) :
    l.completeMessage ack =
      { l with inFlight := (l.completeMessage ack).inFlight, requestAcked := (l.completeMessage ack).requestAcked } := by
  unfold LinkUnit.completeMessage
  split
  · split <;> rfl
  · rfl

theorem State.Leads.takeAck (ack : Option Byte) (s : State) : s.Leads (takeAck ack s) := by
  have hack : s.Leads (s.modLink fun l => l.completeMessage ack) := by
    refine .modLink_other _ ?_ ?_ ?_ ?_ ?_
    all_goals rw [LinkUnit.completeMessage_eq]
  unfold Machine.takeAck
  dsimp only
  split
  · split
    · exact (hack.trans (.modLink_other _ rfl rfl rfl rfl le_rfl)).trans (.queueMessage ..)
    · exact hack
  · exact hack

theorem State.Leads.negotiate (far : FarState) {s : State} (h : s.link.mode = .sleepPending) : s.Leads (negotiate far s) := by
  have hready : s.Leads (if s.link.requestAcked && s.link.phase = .requesting then
      let s1 := s.modLink fun l => { l with phase := .quiet, quietTimer := 0 }
      if s1.link.quietInterval = 0 then Machine.enterAsleep s1 else s1
    else s) := by
    split
    · have hquiet : s.Leads (s.modLink fun l => { l with phase := .quiet, quietTimer := 0 }) :=
        .modLink_other _ rfl rfl rfl rfl le_rfl
      dsimp only
      split
      · exact hquiet.trans (.enterAsleep h)
      · exact hquiet
    · exact .refl s
  unfold Machine.negotiate
  split
  · exact hready
  · exact hready
  · exact (State.Leads.endNegotiation ..).trans (.select _)
  · exact (State.Leads.endNegotiation ..).trans (.select _)
  · exact .refl s

theorem State.Leads.wakeSuccess (s : State) : s.Leads (wakeSuccess s) := by
  refine State.Leads.trans (State.Leads.trans ?_ (.enterRun _)) (.select _)
  exact .lowerCounts _ rfl rfl (Nat.zero_le _) (Nat.zero_le _) rfl

theorem State.Leads.returnSleep (far : FarState) (s : State) : s.Leads (returnSleep far s) := by
  unfold Machine.returnSleep
  split
  · rename_i h; exact .negotiate far h
  · rename_i h
    have hwatch : s.Leads (s.modLink fun l => { l with asleepWatch := 0 }) := .modLink_other _ rfl rfl rfl rfl le_rfl
    dsimp only
    split
    · exact hwatch.trans (.startWake h)
    · exact hwatch
  · split
    · exact .wakeSuccess s
    · exact .refl s
  · exact .refl s
  · exact .refl s

theorem State.Leads.returnHealth (r : Return) (s : State) : s.Leads (returnHealth r s) := by
  have hfall : s.Leads (Machine.lowerRfc (s.modLink fun l => { l with gapTimer := 0 })) :=
    (State.Leads.modLink_other _ rfl rfl rfl rfl le_rfl).trans (.lowerRfc _)
  unfold Machine.returnHealth
  split
  · exact hfall.trans (.judge ..)
  · exact hfall.trans (.judge ..)
  · exact hfall.trans (.probeVerdict ..)
  · exact .refl s
  · exact .refl s

theorem State.Leads.goodReturn (r : Return) (s : State) : s.Leads (goodReturn r s) := by
  have htaken : s.Leads (recordReturn r (Machine.takeAck r.ack (Machine.returnHealth r s))) :=
    ((State.Leads.returnHealth r s).trans (.takeAck ..)).trans (.modLink_other _ rfl rfl rfl rfl le_rfl)
  unfold Machine.goodReturn
  dsimp only
  split
  · exact htaken
  · exact htaken
  all_goals exact htaken.trans (.returnSleep ..)

theorem State.Leads.returnArrives (frame : List Byte) (s : State) : s.Leads (returnArrives frame s) := by
  unfold Machine.returnArrives
  dsimp only
  split
  · exact .countCorrupt s
  · split
    · exact .corruptReturn s
    · exact .goodReturn ..

end Sys2Proof.Machine

/-!
PROOF. What the air stage's frame, a cancel and the delay line's own operations keep: the delay state that follows from
hold, bypass, count and target, with the hold set exactly in ATTENTION, MESSAGE and CLOSING (R42 to R60, R145 to R160).
-/

namespace Sys2Proof.Machine

/-! ### The delay line's agreement -/

/-- The held count, read position and target of the delay line in range. -/
structure State.DelayBounds (s : State) : Prop where
  held : s.delay.held ≤ 65536
  readPos : s.delay.readPos < 65536
  target : s.delay.target ≤ 60000
  setting : s.setting Setting.delayTarget ≤ 60000

/-- The delay line in range, its state the derived one, and the hold flag that of the air state. -/
structure State.DelayOk (s : State) : Prop extends s.DelayBounds where
  state : s.delay.state = s.delay.derived s.air.bypass
  hold : s.delay.hold = s.air.state.readsLink

theorem State.delayOk_iff (s : State) : s.DelayOk ↔ s.delayWf = true ∧ s.holdAgrees = true := by
  simp only [State.delayWf, State.holdAgrees, Bool.and_eq_true, decide_eq_true_eq, and_assoc]
  exact ⟨fun h => ⟨h.held, h.readPos, h.target, h.setting, h.state, h.hold⟩,
    fun ⟨hh, hr, ht, hs, hd, hl⟩ => ⟨⟨hh, hr, ht, hs⟩, hd, hl⟩⟩

/-- The agreement depends on the delay line, the committed target, the bypass flag and the hold of the air state alone. -/
theorem State.DelayOk.congr {s t : State} (h : s.DelayOk) (hd : t.delay = s.delay) (ht : t.tables = s.tables)
    (hb : t.air.bypass = s.air.bypass) (hr : t.air.state.readsLink = s.air.state.readsLink) : t.DelayOk := by
  obtain ⟨⟨hh, hp, hg, hs⟩, hst, hl⟩ := h
  exact ⟨⟨hd ▸ hh, hd ▸ hp, hd ▸ hg, by rw [State.setting, ht]; exact hs⟩, by rw [hd, hb]; exact hst,
    by rw [hd, hr]; exact hl⟩

/-- A derived state depends on the state before in nothing. -/
theorem DelayLine.derived_derive (d : DelayLine) (b c : Bool) : (d.derive b).derived c = d.derived c := rfl

/-- The derivation brings the state to what follows from the rest. -/
theorem State.DelayBounds.derive {s : State} (h : s.DelayBounds) (hl : s.delay.hold = s.air.state.readsLink) :
    (deriveDelay s).DelayOk := by
  have hair : (deriveDelay s).air = s.air := by rw [deriveDelay_frame]
  have htab : (deriveDelay s).tables = s.tables := by rw [deriveDelay_frame]
  obtain ⟨hh, hp, hg, hs⟩ := h
  refine ⟨⟨?_, ?_, ?_, ?_⟩, ?_, ?_⟩
  · rw [deriveDelay_delay]; exact hh
  · rw [deriveDelay_delay]; exact hp
  · rw [deriveDelay_delay]; exact hg
  · rw [State.setting, htab]; exact hs
  · rw [deriveDelay_delay, hair, DelayLine.derived_derive]; rfl
  · rw [deriveDelay_delay, hair]; exact hl

theorem DelayLine.block_lt (d : DelayLine) (i : Nat) : d.block i < 65536 := Nat.mod_lt _ (by decide)

/-! ### The relation with the delay line -/

/-- The alert and link side and the delay line go from `s` to `t`: no other block changes, neither region of the DRAM is
written, and the agreements go over. -/
structure State.Airs (s t : State) : Prop where
  frame : t = { s with
    delay := t.delay, clips := t.clips, intake := t.intake, air := t.air, link := t.link, notices := t.notices
    sent := t.sent }
  region : t.clips.region = s.clips.region
  delayRegion : t.delay.region = s.delay.region
  link : s.link.wf = true → t.link.wf = true
  store : s.StoreWf → t.StoreWf
  airing : s.AiringWf → t.AiringWf
  delay : s.DelayOk → t.DelayOk

theorem State.Leads.airs {s t : State} (h : s.Leads t) : s.Airs t := by
  have hd : t.delay = s.delay := by rw [h.frame]
  have ht : t.tables = s.tables := by rw [h.frame]
  refine ⟨?_, h.region, by rw [hd], h.link, h.store, h.airing, fun hs => hs.congr hd ht h.bypass h.reads⟩
  rw [hd]
  exact h.frame

theorem State.Airs.trans {s t u : State} (h : s.Airs t) (k : t.Airs u) : s.Airs u where
  frame := by
    conv_lhs => rw [k.frame, h.frame]
  region := k.region.trans h.region
  delayRegion := k.delayRegion.trans h.delayRegion
  link := k.link ∘ h.link
  store := k.store ∘ h.store
  airing := k.airing ∘ h.airing
  delay := k.delay ∘ h.delay

theorem holdRequest_frame (s : State) :
    holdRequest s =
      { s with delay := (holdRequest s).delay, notices := (holdRequest s).notices, sent := (holdRequest s).sent } := by
  unfold holdRequest
  split
  · rfl
  · rw [deriveDelay_frame]; rfl

theorem releaseRequest_frame (s : State) :
    releaseRequest s =
      { s with
        delay := (releaseRequest s).delay, notices := (releaseRequest s).notices, sent := (releaseRequest s).sent } := by
  unfold releaseRequest
  split
  · rw [deriveDelay_frame]; rfl
  · rfl

/-- A change of the air stage and the delay line, with the notices it latches. -/
theorem State.Airs.modAir_delay {s u : State} (f : AirStage → AirStage)
    (hu : u = { s with delay := u.delay, air := f s.air, notices := u.notices, sent := u.sent })
    (hregion : u.delay.region = s.delay.region) (hairing : s.AiringWf → (s.modAir f).AiringWf)
    (hdelay : s.DelayOk → u.DelayOk) : s.Airs u := by
  have hclips : u.clips = s.clips := by rw [hu]
  have hintake : u.intake = s.intake := by rw [hu]
  have hlink : u.link = s.link := by rw [hu]
  have hair : u.air = f s.air := by rw [hu]
  refine ⟨?_, by rw [hclips], hregion, by rw [hlink]; exact id, fun h => h.congr hclips hintake, fun h => ?_, hdelay⟩
  · rw [hclips, hintake, hlink, hair]
    exact hu
  · obtain ⟨ha, hm⟩ := hairing h
    refine ⟨?_, ?_⟩
    · rw [hair, hlink]; exact ha
    · rw [hair, hintake]; exact hm

/-- The end of LEAD_IN: ATTENTION, the delay line held (R55, R152). -/
theorem State.Airs.attention {s : State} (h : s.air.state.onAir = true) :
    s.Airs (holdRequest (s.modAir fun a => { a with state := .attention })) := by
  refine .modAir_delay (fun a => { a with state := .attention }) ?_ ?_ (fun ha => ⟨fun _ => ha.awake h, fun r hr hon => ?_⟩)
    fun hd => ?_
  · have hframe := holdRequest_frame (s.modAir fun a => { a with state := .attention })
    conv_lhs => rw [hframe]
    rfl
  · unfold holdRequest
    split
    · rfl
    · rw [deriveDelay_delay]; rfl
  · obtain ⟨hp, ha, -⟩ := ha.marked r hr hon
    exact ⟨hp, ha, .inl rfl⟩
  · unfold holdRequest
    split
    · rename_i hold
      exact ⟨⟨hd.held, hd.readPos, hd.target, hd.setting⟩, hd.state, hold⟩
    · obtain ⟨hh, hp, hg, hs⟩ := hd.toDelayBounds
      exact State.DelayBounds.derive ⟨hh, hp, hg, hs⟩ rfl

/-- The entry to LEAD_OUT releases the delay line (R55 to R57, R156). -/
theorem State.Airs.leadOut {s : State} (h : s.air.state.onAir = true) (step : Nat) : s.Airs (enterLeadOut step s) := by
  refine .modAir_delay (fun a => { a with state := .leadOut, step := step }) ?_ ?_
    (fun ha => ⟨fun _ => ha.awake h, fun r hr hon => ?_⟩) fun hd => ?_
  · have hframe := releaseRequest_frame (s.modAir fun a => { a with state := .leadOut, step := step })
    unfold enterLeadOut
    conv_lhs => rw [hframe]
    rfl
  · unfold enterLeadOut releaseRequest
    split
    · rw [deriveDelay_delay]; rfl
    · rfl
  · obtain ⟨hp, ha, -⟩ := ha.marked r hr hon
    exact ⟨hp, ha, .inl rfl⟩
  · unfold enterLeadOut releaseRequest
    split
    · obtain ⟨hh, -, hg, hs⟩ := hd.toDelayBounds
      refine State.DelayBounds.derive ⟨?_, DelayLine.block_lt .., hg, hs⟩ rfl
      exact (Nat.sub_le ..).trans hh
    · rename_i hold
      exact ⟨⟨hd.held, hd.readPos, hd.target, hd.setting⟩, hd.state, by simpa [AirState.readsLink] using hold⟩

/-! ### The air frame (R145, R149, R151 to R158) -/

theorem State.Leads.adoptAir (s : State) : s.Leads (adoptAir s) := .modAir_other _ rfl rfl rfl rfl

theorem State.Leads.checkLink (s : State) : s.Leads (checkLink s) := by
  unfold Machine.checkLink
  split
  · rename_i h
    simp only [Bool.and_eq_true, Bool.or_eq_true, decide_eq_true_eq] at h
    refine .enterLeadIn h.1 ?_
    rcases h.2 with e | e <;> rw [e] <;> rfl
  · exact .refl s

/-- CLOSING is entered from a state in which the delay line is held. -/
theorem State.Leads.enterClosing {s : State} (h : s.air.state.readsLink = true) : s.Leads (enterClosing s) := by
  have hon : s.air.state.onAir = true := by
    revert h
    cases s.air.state <;> simp [AirState.readsLink, AirState.onAir]
  refine .modAir_state _ h.symm rfl (fun ha _ => ha.awake hon) fun ha r hr hmark => ?_
  obtain ⟨hp, ha, -⟩ := ha.marked r hr hmark
  exact ⟨hp, ha, .inl rfl⟩

theorem State.Leads.checkMessage (s : State) : s.Leads (checkMessage s) := by
  unfold Machine.checkMessage
  split
  · rename_i h
    simp only [messageEnded, Bool.and_eq_true, decide_eq_true_eq] at h
    exact (State.Leads.release s airReader).trans (.enterClosing (by rw [State.modClips_air, h.1]; rfl))
  · exact .refl s

theorem State.Leads.airStart (s : State) : s.Leads (airStart s) :=
  (((State.Leads.adoptAir s).trans (.select _)).trans (.checkLink _)).trans (.checkMessage _)

theorem State.Leads.markImpaired (s : State) : s.Leads (markImpaired s) := by
  unfold Machine.markImpaired
  split
  · have himpaired : s.Leads (s.modAir fun a => { a with impaired := true }) := .modAir_other _ rfl rfl rfl rfl
    dsimp only
    split
    · exact himpaired.trans (.modRecord _ _ _ rfl (fun r => r.key_setFlag _) (fun _ => rfl) (.refl _))
    · exact himpaired
  · exact .refl s

theorem State.Leads.messageFrame (s : State) : s.Leads (messageFrame s).1 := by
  unfold Machine.messageFrame
  split
  · exact .refl s
  · split
    · exact State.Leads.modAir_other (fun a => { a with position := a.position + 1, messageFrames := a.messageFrames + 1 })
        rfl rfl rfl rfl
    · exact State.Leads.modAir_other (fun a =>
        { a with
          underruns := bump a.underruns 1
          counters := { a.counters with underrun := bump a.counters.underrun 1 } }) rfl rfl rfl rfl
    · exact .refl s

theorem State.Leads.airForm (s : State) : s.Leads (airForm s).1 := by
  unfold Machine.airForm
  dsimp only
  split
  iterate 3 exact .refl s
  · exact State.Leads.modAir_other (fun a => { a with step := s.air.step + 1, position := a.position + 1 }) rfl rfl rfl rfl
  · exact State.Leads.modAir_other (fun a => { a with position := a.position + 1 }) rfl rfl rfl rfl
  · exact .messageFrame s
  · exact State.Leads.modAir_other (fun a => { a with position := a.position + 1 }) rfl rfl rfl rfl
  · exact State.Leads.modAir_other (fun a => { a with step := s.air.step + 1 }) rfl rfl rfl rfl

theorem State.Leads.airMiddle (s : State) : s.Leads (airMiddle s) := by
  unfold Machine.airMiddle
  dsimp only
  refine State.Leads.trans ?_ (.modAir_other _ rfl rfl rfl rfl)
  exact ((State.Leads.airStart s).trans (.markImpaired _)).trans (.airForm _)

/-! ### Completion (R158) -/

theorem State.Leads.scheduleReAir (i : Identity) (s : State) : s.Leads (scheduleReAir i s) :=
  (State.Leads.modRecord i _ _ rfl (fun r => r.key_setFlag _) (fun _ => rfl) (.refl _)).trans
    (.modAir_other _ rfl rfl rfl rfl)

/-- The mark of one identity is taken off. -/
theorem State.Leads.unmark (i : Identity) (s : State) :
    s.Leads (s.modIntake fun q => q.modRecord i fun r => { r with onAir := false }) := by
  refine .modIntake _ (fun h => h.of_keys rfl (s.intake.modRecord_keys i _ fun r => key_onAir r false) (.refl _))
    fun r hr hon => ?_
  obtain ⟨q, hq, rfl⟩ := List.mem_map.mp hr
  by_cases hi : q.identity = i
  · simp [hi] at hon
  · simp only [hi, if_false] at hon ⊢
    exact ⟨q, hq, hon, rfl⟩

theorem State.Leads.settleRecord (s : State) : s.Leads (settleRecord s) := by
  unfold Machine.settleRecord
  split
  · dsimp only
    split
    · exact (State.Leads.unmark _ s).trans (.scheduleReAir ..)
    · exact (State.Leads.unmark _ s).trans (.removeRecord ..)
  · exact .refl s

theorem settleRecord_air (s : State) :
    (settleRecord s).air.present = s.air.present ∧ (settleRecord s).air.airing = s.air.airing ∧
      (settleRecord s).air.state = s.air.state := by
  unfold settleRecord
  split
  · dsimp only
    split
    · exact ⟨rfl, rfl, rfl⟩
    · rw [removeRecord_frame]; exact ⟨rfl, rfl, rfl⟩
  · exact ⟨rfl, rfl, rfl⟩

/-- Once the record on air is settled it bears no mark. -/
theorem settleRecord_unmarked {s : State} {i : Identity} (hp : s.air.present = true) (ha : s.air.airing = some i) :
    ∀ r ∈ (settleRecord s).intake.queue, r.identity = i → r.onAir = false := by
  unfold settleRecord
  rw [hp, ha]
  dsimp only
  have hoff : ∀ r ∈ (s.intake.modRecord i fun r => { r with onAir := false }).queue, r.identity = i → r.onAir = false := by
    intro r hr hri
    obtain ⟨q, -, rfl⟩ := List.mem_map.mp hr
    by_cases hq : q.identity = i
    · simp [hq]
    · simp only [hq, if_false] at hri
  split
  · intro r hr hri
    obtain ⟨q, hq, rfl⟩ := List.mem_map.mp hr
    by_cases hqi : q.identity = i
    · simp only [hqi, if_true]
      exact hoff q hq hqi
    · simp only [hqi, if_false] at hri
  · rw [removeRecord_intake]
    intro r hr hri
    exact absurd hri (by simpa using (List.mem_filter.mp hr).2)

theorem State.Leads.completeAiring {s : State} (h : s.air.state = .leadOut) : s.Leads (completeAiring s) := by
  unfold Machine.completeAiring
  dsimp only
  have hcount : s.Leads ((Machine.latch .alertAired (airedDetail s) s).modAir fun a =>
      { a with counters := { a.counters with airings := bump a.counters.airings 1 } }) :=
    (State.Leads.latch ..).trans (.modAir_other _ rfl rfl rfl rfl)
  have hstate : ((Machine.latch .alertAired (airedDetail s) s).modAir fun a =>
      { a with counters := { a.counters with airings := bump a.counters.airings 1 } }).air.state = .leadOut := by
    rw [State.modAir_air, latch_air]; exact h
  generalize ((Machine.latch .alertAired (airedDetail s) s).modAir fun a =>
      { a with counters := { a.counters with airings := bump a.counters.airings 1 } }) = u at hcount hstate
  obtain ⟨hp, ha, hs⟩ := settleRecord_air u
  refine (hcount.trans (.settleRecord u)).trans (State.Leads.trans ?_ (.select _))
  refine .modAir_state _ ?_ rfl (fun _ hon => by cases hon) fun hw r hr hon => ?_
  · rw [hs, hstate]; rfl
  · obtain ⟨hrp, hra, -⟩ := hw.marked r hr hon
    rw [hp] at hrp
    rw [ha] at hra
    rw [settleRecord_unmarked hrp hra r hr rfl] at hon
    cases hon

/-! ### The end of an air frame -/

theorem State.Leads.enterMessage {s : State} (h : s.air.state = .attention) : s.Leads (enterMessage s) := by
  unfold Machine.enterMessage
  split
  · exact .enterClosing (by rw [h]; rfl)
  · rename_i n hn
    have hslot : s.StoreWf → (s.clips.slots.get n).state.holdable = true := by
      intro hs
      obtain ⟨r, hr, hrs⟩ := Option.bind_eq_some_iff.mp hn
      unfold recordOnAir at hr
      split at hr
      · obtain ⟨i, -, hfind⟩ := Option.bind_eq_some_iff.mp hr
        exact SlotState.holdable_of_alert (hs.named (AlertIntake.find_mem hfind).1 hrs)
      · cases hr
    refine (State.Leads.hold airReader n hslot).trans (.modAir_state _ ?_ rfl (fun ha _ => ?_) fun ha r hr hon => ?_)
    · rw [State.modClips_air, h]; rfl
    · exact ha.awake (by rw [State.modClips_air, h]; rfl)
    · obtain ⟨hp, ha, -⟩ := ha.marked r hr hon
      exact ⟨hp, ha, .inl rfl⟩

theorem State.Airs.airEnd (s : State) : s.Airs (airEnd s) := by
  unfold Machine.airEnd
  split
  · rename_i h
    simp only [leadInOver, Bool.and_eq_true, decide_eq_true_eq] at h
    exact .attention (by rw [h.1]; rfl)
  · split
    · rename_i h
      simp only [attentionOver, Bool.and_eq_true, decide_eq_true_eq] at h
      exact ((State.Leads.release s airReader).trans (.enterMessage h.1)).airs
    · split
      · rename_i h
        simp only [closingOver, Bool.and_eq_true, decide_eq_true_eq] at h
        exact .leadOut (by rw [h.1]; rfl) 0
      · split
        · rename_i h
          simp only [leadOutOver, Bool.and_eq_true, decide_eq_true_eq] at h
          exact (State.Leads.completeAiring h.1).airs
        · exact (State.Leads.refl s).airs

theorem State.Airs.airWork (s : State) : s.Airs (airWork s) := (State.Leads.airMiddle s).airs.trans (.airEnd _)

/-! ### ALERT-CANCEL (R159) -/

/-- The record on air, gone from the queue, is no longer present. -/
theorem State.Leads.absent {s : State} {i : Identity} (ha : s.air.airing = some i)
    (hgone : ∀ r ∈ s.intake.queue, r.identity ≠ i) : s.Leads (s.modAir fun a => { a with present := false }) := by
  refine .modAir_state _ rfl rfl (fun hw => hw.awake) fun hw r hr hon => ?_
  obtain ⟨-, hra, -⟩ := hw.marked r hr hon
  rw [ha] at hra
  cases hra
  exact absurd rfl (hgone r hr)

/-- With no record present the air stage may go to IDLE from a state in which the delay line is not held. -/
theorem State.Leads.toIdle {s : State} (hp : s.air.present = false) (hr : s.air.state.readsLink = false) :
    s.Leads (s.modAir fun a => { a with state := .idle, airing := none }) := by
  refine .modAir_state _ hr.symm rfl (fun _ hon => by cases hon) fun hw r hmem hon => ?_
  have := (hw.marked r hmem hon).1
  rw [hp] at this
  cases this

theorem State.Airs.cancelOnAir {s : State} {i : Identity} (ha : s.air.airing = some i)
    (hgone : ∀ r ∈ s.intake.queue, r.identity ≠ i) : s.Airs (cancelOnAir s) := by
  have habsent := State.Leads.absent ha hgone
  have hrelease := habsent.trans (.release _ airReader)
  unfold Machine.cancelOnAir
  dsimp only
  split
  · rename_i h
    refine (habsent.trans (.toIdle rfl ?_)).airs
    rw [h]; rfl
  · rename_i h
    split
    · refine (hrelease.trans (.toIdle rfl ?_)).airs
      rw [State.modClips_air, h]; rfl
    · exact hrelease.airs.trans (.leadOut (by rw [State.modClips_air, h]; rfl) _)
  · rename_i h
    exact (hrelease.trans (.enterClosing (by rw [State.modClips_air, h]; rfl))).airs
  · rename_i h
    exact (hrelease.trans (.enterClosing (by rw [State.modClips_air, h]; rfl))).airs
  all_goals exact habsent.airs

theorem State.Airs.cancelRecord (i : Identity) (s : State) : s.Airs (cancelRecord i s) := by
  have hremove : s.Leads ((removeRecord i s).modAir fun a =>
      { a with counters := { a.counters with cancels := bump a.counters.cancels 1 } }) :=
    (State.Leads.removeRecord i s).trans (.modAir_other _ rfl rfl rfl rfl)
  unfold Machine.cancelRecord
  dsimp only
  refine State.Airs.trans ?_ (State.Leads.select _).airs
  split
  · rename_i h
    simp only [Bool.and_eq_true, decide_eq_true_eq] at h
    refine hremove.airs.trans (.cancelOnAir (i := i) ?_ fun r hr => ?_)
    · rw [State.modAir_air, removeRecord_frame]; exact h.2
    · rw [State.modAir_intake, removeRecord_intake] at hr
      simpa using (List.mem_filter.mp hr).2
  · exact hremove.airs

end Sys2Proof.Machine

/-!
PROOF. The agreement of the line unit's shared items with its line records, by membership and by count, and what keeps it
(R67, R69, R70 to R83).
-/

namespace Sys2Proof.Machine

/-! ### The agreement, line by line -/

/-- The ready queue holds the READY lines, each once; the screening line is the line in SCREENING; the on-air count is the
number of lines ON_AIR. -/
structure LineUnit.Agrees (l : LineUnit) : Prop where
  nodup : l.ready.Nodup
  ready : ∀ k, k ∈ l.ready ↔ (l.line k).state = .ready
  screening : ∀ k, l.screening = some k ↔ (l.line k).state = .screening
  onAir : l.onAir = ∑ k, if (l.line k).state = .onAir then 1 else 0

theorem LineUnit.mem_linesIn (l : LineUnit) (x : LineState) (k : Fin 6) : k ∈ l.linesIn x ↔ (l.line k).state = x := by
  simp [LineUnit.linesIn]

theorem LineUnit.linesIn_nodup (l : LineUnit) (x : LineState) : (l.linesIn x).Nodup := (List.nodup_finRange 6).filter _

theorem LineUnit.linesIn_length (l : LineUnit) (x : LineState) :
    (l.linesIn x).length = ∑ k, if (l.line k).state = x then 1 else 0 := by
  rw [LineUnit.linesIn, ← List.countP_eq_length_filter, countP_eq_sum_map, Fin.sum_univ_def]
  simp

theorem LineUnit.linesIn_eq_toList (l : LineUnit) (x : LineState) (o : Option (Fin 6)) :
    l.linesIn x = o.toList ↔ ∀ k, o = some k ↔ (l.line k).state = x := by
  constructor
  · intro h k
    rw [← l.mem_linesIn x k, h]
    simp
  · intro h
    cases o with
    | none => exact List.eq_nil_iff_forall_not_mem.mpr fun k hk => by simpa using (h k).mpr ((l.mem_linesIn x k).mp hk)
    | some j =>
      refine List.perm_singleton.mp ((List.perm_ext_iff_of_nodup (l.linesIn_nodup x) (List.nodup_singleton j)).mpr fun k => ?_)
      rw [l.mem_linesIn, ← h k]
      simp [eq_comm]

theorem LineUnit.agrees_iff (l : LineUnit) : l.agrees = true ↔ l.Agrees := by
  simp only [LineUnit.agrees, Bool.and_eq_true, decide_eq_true_eq, LineUnit.linesIn_eq_toList, LineUnit.linesIn_length]
  constructor
  · rintro ⟨⟨hr, hs⟩, ho⟩
    refine ⟨hr.nodup_iff.mpr (l.linesIn_nodup _), fun k => ?_, hs, ho⟩
    rw [hr.mem_iff, l.mem_linesIn]
  · intro h
    refine ⟨⟨(List.perm_ext_iff_of_nodup h.nodup (l.linesIn_nodup _)).mpr fun k => ?_, h.screening⟩, h.onAir⟩
    rw [h.ready, l.mem_linesIn]

/-! ### What keeps it -/

/-- Nothing of the agreement depends on the other items. -/
theorem LineUnit.Agrees.congr {l m : LineUnit} (h : l.Agrees) (hstate : ∀ k, (m.line k).state = (l.line k).state)
    (hready : m.ready = l.ready) (hscreening : m.screening = l.screening) (honAir : m.onAir = l.onAir) : m.Agrees := by
  refine ⟨hready ▸ h.nodup, fun k => ?_, fun k => ?_, ?_⟩
  · rw [hready, hstate]; exact h.ready k
  · rw [hscreening, hstate]; exact h.screening k
  · simp only [honAir, hstate]; exact h.onAir

theorem LineUnit.change_ready (l : LineUnit) (k : Fin 6) (new : LineState) :
    (l.change k new).ready =
      (if (l.line k).state = .ready then l.ready.filter (· ≠ k) else l.ready) ++ if new = .ready then [k] else [] := rfl

theorem LineUnit.change_screening (l : LineUnit) (k : Fin 6) (new : LineState) :
    (l.change k new).screening =
      if new = .screening then some k else if (l.line k).state = .screening then none else l.screening := rfl

theorem LineUnit.change_onAir (l : LineUnit) (k : Fin 6) (new : LineState) :
    (l.change k new).onAir = l.onAir - (if (l.line k).state = .onAir then 1 else 0) + if new = .onAir then 1 else 0 := rfl

theorem LineUnit.change_state (l : LineUnit) (k j : Fin 6) (new : LineState) :
    ((l.change k new).line j).state = if j = k then new else (l.line j).state := by
  split
  · rename_i h; rw [h, LineUnit.change_self]
  · rename_i h; rw [LineUnit.change_other _ _ _ _ h]

/-- A line leaves the ready queue where it stands in it. -/
theorem LineUnit.Agrees.change_ready {l : LineUnit} (h : l.Agrees) (k : Fin 6) (new : LineState) :
    (l.change k new).ready = (l.ready.filter (· ≠ k)) ++ if new = .ready then [k] else [] := by
  rw [LineUnit.change_ready]
  split
  · rfl
  · rename_i hne
    congr 1
    refine (List.filter_eq_self.mpr fun j hj => ?_).symm
    simp only [decide_eq_true_eq]
    rintro rfl
    exact hne ((h.ready j).mp hj)

/-- The on-air count after a change of state is the number of lines ON_AIR. -/
theorem LineUnit.Agrees.change_onAir {l : LineUnit} (h : l.Agrees) (k : Fin 6) (new : LineState) :
    (l.change k new).onAir = ∑ j, if ((l.change k new).line j).state = .onAir then 1 else 0 := by
  have hsum := sum_add_eq_of_agree_off (f := fun j => if ((l.change k new).line j).state = .onAir then 1 else 0)
    (g := fun j => if (l.line j).state = .onAir then 1 else 0) k fun j hj => by rw [LineUnit.change_state, if_neg hj]
  have hle : (if (l.line k).state = .onAir then 1 else 0) ≤ ∑ j, if (l.line j).state = .onAir then 1 else 0 :=
    Finset.single_le_sum (f := fun j => if (l.line j).state = .onAir then 1 else 0) (fun _ _ => Nat.zero_le _)
      (Finset.mem_univ k)
  have honAir := h.onAir
  rw [LineUnit.change_onAir]
  simp only [LineUnit.change_state, if_true] at hsum ⊢
  omega

/-- A change of state keeps the agreement, SCREENING being entered with no other line in it (R69). -/
theorem LineUnit.Agrees.change {l : LineUnit} (h : l.Agrees) (k : Fin 6) (new : LineState)
    (hs : new = .screening → l.screening = none ∨ l.screening = some k) : (l.change k new).Agrees := by
  refine ⟨?_, fun j => ?_, fun j => ?_, h.change_onAir k new⟩
  · rw [h.change_ready]
    refine List.nodup_append.mpr ⟨h.nodup.filter _, by split <;> simp, fun a ha b hb => ?_⟩
    split at hb
    · rw [List.mem_singleton.mp hb]
      simpa using (List.mem_filter.mp ha).2
    · cases hb
  · rw [h.change_ready, LineUnit.change_state]
    by_cases hj : j = k
    · by_cases hn : new = .ready <;> simp [hj, hn]
    · by_cases hn : new = .ready <;> simp [hj, hn, h.ready j]
  · rw [LineUnit.change_screening, LineUnit.change_state]
    by_cases hn : new = .screening
    · by_cases hj : j = k
      · simp [hn, hj]
      · have hother : (l.line j).state ≠ .screening := fun hst => by
          have := (h.screening j).mpr hst
          rcases hs hn with e | e <;> rw [e] at this
          · cases this
          · exact hj (by simpa using this.symm)
        have hj' : ¬ k = j := fun e => hj e.symm
        simp [hn, hj, hj', hother]
    · by_cases hold : (l.line k).state = .screening
      · have hsome := (h.screening k).mpr hold
        by_cases hj : j = k
        · simp [hn, hold, hj]
        · have hother : (l.line j).state ≠ .screening := fun hst => by
            have := (h.screening j).mpr hst
            rw [hsome] at this
            exact hj (by simpa using this.symm)
          simp [hn, hold, hj, hother]
      · by_cases hj : j = k
        · subst hj
          simp [hn, hold, h.screening j]
        · simp [hn, hold, hj, h.screening j]

/-! ### Changes of one record, events and limits -/

theorem LineUnit.modLine_line (l : LineUnit) (k j : Fin 6) (f : Line → Line) :
    (l.modLine k f).line j = if j = k then f (l.line j) else l.line j := by
  simp only [LineUnit.modLine, LineUnit.line, get_set]
  by_cases h : j = k
  · simp [h]
  · have : ¬ k.val = j.val := fun e => h (Fin.ext e.symm)
    simp [h, this]

/-- A step of a line's frame goes from `s` to `t`: the line unit, the notices and what was sent change and no other
block, and the agreement goes over. -/
structure State.Rings (s t : State) : Prop where
  frame : t = { s with line := t.line, notices := t.notices, sent := t.sent }
  lines : s.line.Agrees → t.line.Agrees

theorem State.Rings.refl (s : State) : s.Rings s := ⟨rfl, id⟩

theorem State.Rings.trans {s t u : State} (h : s.Rings t) (k : t.Rings u) : s.Rings u where
  frame := by
    conv_lhs => rw [k.frame, h.frame]
  lines := k.lines ∘ h.lines

theorem State.Rings.modLine {s : State} (f : LineUnit → LineUnit) (h : s.line.Agrees → (f s.line).Agrees) :
    s.Rings (s.modLine f) := ⟨rfl, h⟩

theorem State.Rings.latch (kind : NoticeKind) (detail : List Word) (s : State) : s.Rings (latch kind detail s) := by
  refine ⟨?_, by rw [latch_line]; exact id⟩
  rw [latch_line]
  exact latch_frame ..

theorem State.Rings.countLine (f : LineCounters → LineCounters) (s : State) : s.Rings (countLine f s) :=
  .modLine _ fun h => h.congr (fun _ => rfl) rfl rfl rfl

theorem State.Rings.change {s : State} (k : Fin 6) (new : LineState) (h : new ≠ .screening) :
    s.Rings (changeLine k new s) := .modLine _ fun ha => ha.change k new fun e => absurd e h

/-- A change of a line's record that leaves its state alone. -/
theorem LineUnit.Agrees.modLine {l m : LineUnit} (h : l.Agrees) (k : Fin 6) (f : Line → Line)
    (hf : (f (l.line k)).state = (l.line k).state) (hlines : m.lines = (l.modLine k f).lines) (hready : m.ready = l.ready)
    (hscreening : m.screening = l.screening) (honAir : m.onAir = l.onAir) : m.Agrees := by
  refine h.congr (fun j => ?_) hready hscreening honAir
  have hline : m.line j = (l.modLine k f).line j := by rw [LineUnit.line, hlines]; rfl
  rw [hline, LineUnit.modLine_line]
  split
  · rename_i e; rw [e, hf]
  · rfl

theorem State.Rings.faultLine (k : Fin 6) (cause : Nat) (s : State) : s.Rings (faultLine k cause s) :=
  ((State.Rings.change k .fault nofun).trans (.countLine ..)).trans (.latch ..)

theorem State.Rings.lineEvent (k : Fin 6) (e : LineEvent) (s : State) : s.Rings (lineEvent k e s) := by
  unfold Machine.lineEvent
  split
  · exact (State.Rings.change k .ringing nofun).trans (.latch ..)
  iterate 2 exact .countLine ..
  iterate 3 exact .refl s
  iterate 2 exact (State.Rings.change k .idle nofun).trans (.countLine ..)
  iterate 4 exact ((State.Rings.change k .idle nofun).trans (.countLine ..)).trans (.latch ..)
  iterate 12 exact .refl s
  · exact .change k .idle nofun
  iterate 4 exact .refl s
  all_goals exact .faultLine ..

theorem State.Rings.slotPart (k : Fin 6) (slot : List Byte) (s : State) : s.Rings (slotPart k slot s) := by
  unfold Machine.slotPart
  split
  · have htake : s.Rings (s.modLine fun l => { l.modLine k fun r => { r with missingRun := 0 } with
        callers := l.callers.set k (some (blockAt slot 1)) }) :=
      .modLine _ fun h => h.modLine k (fun r => { r with missingRun := 0 }) rfl rfl rfl rfl rfl
    unfold takeSlot
    dsimp only
    split
    · exact htake.trans (.lineEvent ..)
    · exact htake.trans (.countLine ..)
  · have hmiss : s.Rings (Machine.countLine (fun c => { c with missingFrame := bump c.missingFrame 1 })
        (s.modLine fun l => { l.modLine k fun r => { r with missingRun := bump r.missingRun 1 } with
          callers := l.callers.set k none })) :=
      (State.Rings.modLine _ fun h =>
        h.modLine k (fun r => { r with missingRun := bump r.missingRun 1 }) rfl rfl rfl rfl rfl).trans (.countLine ..)
    unfold missSlot
    dsimp only
    split
    · exact hmiss.trans (.faultLine ..)
    · exact hmiss

theorem State.Rings.tickLine (k : Fin 6) (s : State) : s.Rings (tickLine k s) :=
  .modLine _ fun h => h.modLine k (fun r => { r with timeInState := tick32 r.timeInState }) rfl rfl rfl rfl rfl

theorem State.Rings.checkLimits (k : Fin 6) (s : State) : s.Rings (checkLimits k s) := by
  have htimeout (u : State) : u.Rings (timeoutLine k u) := (State.Rings.change k .idle nofun).trans (.latch ..)
  unfold Machine.checkLimits
  split
  · exact (State.Rings.countLine ..).trans (htimeout _)
  · split
    · exact (State.Rings.countLine ..).trans (htimeout _)
    · exact .refl s

theorem State.Rings.lineFrame (slots : IncomingSlots) (k : Fin 6) (s : State) : s.Rings (lineFrame slots k s) := by
  have hbefore : s.Rings (lineBeforeLimits k (slots.get k) s).1 := by
    unfold lineBeforeLimits
    dsimp only
    split
    · exact (State.Rings.slotPart ..).trans (.tickLine ..)
    · exact .slotPart ..
  unfold Machine.lineFrame
  dsimp only
  split
  · exact hbefore.trans (.checkLimits ..)
  · exact hbefore

theorem State.Rings.lineWork (slots : IncomingSlots) (s : State) : s.Rings (lineWork slots s) := by
  have hadopt : s.Rings (adoptLines s) := .modLine _ fun h => h.congr (fun _ => rfl) rfl rfl rfl
  have hfold (l : List (Fin 6)) (u : State) : u.Rings (l.foldl (fun s k => Machine.lineFrame slots k s) u) := by
    induction l generalizing u with
    | nil => exact .refl u
    | cons k l ih => exact (State.Rings.lineFrame slots k u).trans (ih _)
  exact (hadopt.trans (hfold _ _)).trans ⟨rfl, id⟩

/-! ### The line orders (R77 to R83) -/

theorem State.Rings.answerLine (k : Fin 6) (s : State) : s.Rings (answerLine k s).state := by
  have hmove : s.Rings (changeLine k .screening (match s.line.screening with
      | some j => changeLine j .hold s
      | none => s)) := by
    cases hs : s.line.screening with
    | none => exact .modLine _ fun h => h.change k .screening fun _ => .inl hs
    | some j =>
      refine ⟨rfl, fun h => (h.change j .hold nofun).change k .screening fun _ => .inl ?_⟩
      rw [LineUnit.change_screening, if_neg nofun, if_pos ((h.screening j).mp hs)]
  unfold Machine.answerLine
  split
  iterate 3 exact hmove
  all_goals exact .refl s

theorem State.Rings.holdLine (k : Fin 6) (s : State) : s.Rings (holdLine k s).state := by
  unfold Machine.holdLine
  split
  iterate 2 exact .change k .hold nofun
  all_goals exact .refl s

theorem State.Rings.readyLine (k : Fin 6) (s : State) : s.Rings (readyLine k s).state := by
  unfold Machine.readyLine
  split
  iterate 2 exact .change k .ready nofun
  all_goals exact .refl s

theorem State.Rings.takeLine (k : Fin 6) (s : State) : s.Rings (takeLine k s).state := by
  have htake : s.Rings (if s.line.capacity ≤ s.line.onAir then lineRefused .refusedFull k s
      else lineDone k (changeLine k .onAir s)).state := by
    split
    · exact .refl s
    · exact .change k .onAir nofun
  unfold Machine.takeLine
  split
  iterate 3 exact htake
  all_goals exact .refl s

theorem State.Rings.takeHead (s : State) : s.Rings (takeHead s).state := by
  unfold Machine.takeHead
  split
  · exact .refl s
  · split
    · exact .refl s
    · exact .change _ .onAir nofun

theorem State.Rings.dropLine (k : Fin 6) (s : State) : s.Rings (dropLine k s).state := by
  unfold Machine.dropLine
  split
  · exact (State.Rings.change k .idle nofun).trans (.countLine (fun c => { c with dropped := bump c.dropped 1 }) _)
  · exact .refl s

theorem State.Rings.tagLine (k : Fin 6) (v : Nat) (s : State) : s.Rings (tagLine k v s).state := by
  show s.Rings (s.modLine fun l => l.modLine k fun r => { r with tag := BitVec.ofNat 16 (min v 65535) })
  exact .modLine _ fun h => h.modLine k (fun r => { r with tag := BitVec.ofNat 16 (min v 65535) }) rfl rfl rfl rfl rfl

end Sys2Proof.Machine

/-!
PROOF. Two relations between the state before and after an operation, wide enough for every row: `State.Follows`, by which
every agreement of `Safety.lean` goes over, and `State.Serves`, which adds what an order leaves alone (section 10.1).
-/

namespace Sys2Proof.Machine

/-! ### The relations -/

/-- The part goes from `s` to `t`: the commands that wait stand, and each agreement goes over. -/
structure State.Follows (s t : State) : Prop where
  pending : t.pending = s.pending
  memory : s.memoryWf = true → t.memoryWf = true
  jitter : s.studio.queueWf = true → t.studio.queueWf = true
  orders : s.orders.wf = true → t.orders.wf = true
  lines : s.line.Agrees → t.line.Agrees
  link : s.link.wf = true → t.link.wf = true
  store : s.StoreWf → t.StoreWf
  airing : s.AiringWf → t.AiringWf
  delay : s.DelayOk → t.DelayOk

/-- As `State.Follows`; the DRAM, the frame count and the tables stand too. -/
structure State.Serves (s t : State) : Prop extends s.Follows t where
  region : t.clips.region = s.clips.region
  delayRegion : t.delay.region = s.delay.region
  frameCount : t.frameCount = s.frameCount
  tables : t.tables = s.tables

/-- As `State.Serves`; the delay line and the order unit stand too. -/
structure State.Mixes (s t : State) : Prop extends s.Serves t where
  delayLine : t.delay = s.delay
  orderUnit : t.orders = s.orders

theorem State.Follows.refl (s : State) : s.Follows s := ⟨rfl, id, id, id, id, id, id, id, id⟩

theorem State.Follows.trans {s t u : State} (h : s.Follows t) (k : t.Follows u) : s.Follows u where
  pending := k.pending.trans h.pending
  memory := k.memory ∘ h.memory
  jitter := k.jitter ∘ h.jitter
  orders := k.orders ∘ h.orders
  lines := k.lines ∘ h.lines
  link := k.link ∘ h.link
  store := k.store ∘ h.store
  airing := k.airing ∘ h.airing
  delay := k.delay ∘ h.delay

theorem State.Serves.refl (s : State) : s.Serves s := ⟨.refl s, rfl, rfl, rfl, rfl⟩

theorem State.Serves.trans {s t u : State} (h : s.Serves t) (k : t.Serves u) : s.Serves u where
  toFollows := h.toFollows.trans k.toFollows
  region := k.region.trans h.region
  delayRegion := k.delayRegion.trans h.delayRegion
  frameCount := k.frameCount.trans h.frameCount
  tables := k.tables.trans h.tables

theorem State.Mixes.refl (s : State) : s.Mixes s := ⟨.refl s, rfl, rfl⟩

theorem State.Mixes.trans {s t u : State} (h : s.Mixes t) (k : t.Mixes u) : s.Mixes u :=
  ⟨h.toServes.trans k.toServes, k.delayLine.trans h.delayLine, k.orderUnit.trans h.orderUnit⟩

theorem State.memoryWf_iff (s : State) :
    s.memoryWf = true ↔
      Memory.wf PgmFrame.silence s.delay.region = true ∧ Memory.wf StereoFrame.silence s.clips.region = true := by
  rw [State.memoryWf, Bool.and_eq_true]

/-! ### From the relations of the blocks -/

/-- The agreement of the air stage depends on its own state, the link mode and the alert queue alone. -/
theorem State.AiringWf.congr {s t : State} (h : s.AiringWf) (ha : t.air = s.air) (hl : t.link = s.link)
    (hi : t.intake = s.intake) : t.AiringWf :=
  ⟨by rw [ha, hl]; exact h.awake, by rw [ha, hi]; exact h.marked⟩

theorem State.Reaches.follows {s t : State} (h : s.Reaches t) : s.Follows t where
  pending := by rw [h.frame]
  memory := by
    have hd : t.delay = s.delay := by rw [h.frame]
    rw [State.memoryWf_iff, State.memoryWf_iff, hd]
    exact fun ⟨hm, hc⟩ => ⟨hm, h.memory hc⟩
  jitter := by rw [h.frame]; exact id
  orders := by rw [h.frame]; exact id
  lines := by rw [h.frame]; exact id
  link := h.link
  store := h.store
  airing := h.airing
  delay hs := hs.congr (by rw [h.frame]) (by rw [h.frame]) h.bypass h.reads

theorem State.Leads.mixes {s t : State} (h : s.Leads t) : s.Mixes t :=
  ⟨⟨h.toReaches.follows, h.region, by rw [h.frame], by rw [h.frame], by rw [h.frame]⟩, by rw [h.frame], by rw [h.frame]⟩

theorem State.Leads.serves {s t : State} (h : s.Leads t) : s.Serves t := h.mixes.toServes

theorem State.Airs.serves {s t : State} (h : s.Airs t) : s.Serves t where
  pending := by rw [h.frame]
  memory := by rw [State.memoryWf_iff, State.memoryWf_iff, h.region, h.delayRegion]; exact id
  jitter := by rw [h.frame]; exact id
  orders := by rw [h.frame]; exact id
  lines := by rw [h.frame]; exact id
  link := h.link
  store := h.store
  airing := h.airing
  delay := h.delay
  region := h.region
  delayRegion := h.delayRegion
  frameCount := by rw [h.frame]
  tables := by rw [h.frame]

/-- A change of studio input, mix engine, line unit, players, notices and frames sent. -/
theorem State.Mixes.of_frame {s t : State}
    (h : t = { s with
      studio := t.studio, mix := t.mix, line := t.line, players := t.players, notices := t.notices, sent := t.sent })
    (hj : s.studio.queueWf = true → t.studio.queueWf = true) (hl : s.line.Agrees → t.line.Agrees) : s.Mixes t where
  pending := by rw [h]
  memory := by rw [State.memoryWf_iff, State.memoryWf_iff, h]; exact id
  jitter := hj
  orders := by rw [h]; exact id
  lines := hl
  link := by rw [h]; exact id
  store hs := hs.congr (by rw [h]) (by rw [h])
  airing hs := hs.congr (by rw [h]) (by rw [h]) (by rw [h])
  delay hs := hs.congr (by rw [h]) (by rw [h]) (by rw [h]) (by rw [h])
  region := by rw [h]
  delayRegion := by rw [h]
  frameCount := by rw [h]
  tables := by rw [h]
  delayLine := by rw [h]
  orderUnit := by rw [h]

theorem State.Rings.mixes {s t : State} (h : s.Rings t) : s.Mixes t :=
  .of_frame (by conv_lhs => rw [h.frame]
                rw [h.frame]) (by rw [h.frame]; exact id) h.lines

theorem State.Mixes.modStudio {s : State} (f : StudioInput → StudioInput)
    (h : s.studio.queueWf = true → (f s.studio).queueWf = true) : s.Mixes (s.modStudio f) := .of_frame rfl h id

theorem State.Mixes.modMix (s : State) (f : MixEngine → MixEngine) : s.Mixes (s.modMix f) := .of_frame rfl id id

theorem State.Mixes.modPlayers (s : State) (f : Vector Player 3 → Vector Player 3) : s.Mixes (s.modPlayers f) :=
  .of_frame rfl id id

theorem State.Mixes.latch (kind : NoticeKind) (detail : List Word) (s : State) : s.Mixes (latch kind detail s) :=
  (State.Leads.latch kind detail s).mixes

/-- A change of the order unit within its size. -/
theorem State.Serves.modOrders {s : State} (f : OrderUnit → OrderUnit) (h : s.orders.wf = true → (f s.orders).wf = true) :
    s.Serves (s.modOrders f) where
  pending := rfl
  memory := id
  jitter := id
  orders := h
  lines := id
  link := id
  store hs := hs.congr rfl rfl
  airing hs := hs.congr rfl rfl rfl
  delay hs := hs.congr rfl rfl rfl rfl
  region := rfl
  delayRegion := rfl
  frameCount := rfl
  tables := rfl

/-- A change of the delay line within its agreement; its region stands in canonical form. -/
theorem State.Follows.modDelay {s t : State}
    (h : t = { s with delay := t.delay, notices := t.notices, sent := t.sent })
    (hm : Memory.wf PgmFrame.silence s.delay.region = true → Memory.wf PgmFrame.silence t.delay.region = true)
    (hd : s.DelayOk → t.DelayOk) : s.Follows t where
  pending := by rw [h]
  memory := by
    have hc : t.clips = s.clips := by rw [h]
    rw [State.memoryWf_iff, State.memoryWf_iff, hc]
    exact fun ⟨hr, hc⟩ => ⟨hm hr, hc⟩
  jitter := by rw [h]; exact id
  orders := by rw [h]; exact id
  lines := by rw [h]; exact id
  link := by rw [h]; exact id
  store hs := hs.congr (by rw [h]) (by rw [h])
  airing hs := hs.congr (by rw [h]) (by rw [h]) (by rw [h])
  delay := hd

end Sys2Proof.Machine

/-!
PROOF. What the mix frame keeps: the order and window of the jitter queue, and the agreements through the players, the
sums and the hand-off (R3 to R12, R16 to R40, R108 to R114).
-/

namespace Sys2Proof.Machine

/-! ### The jitter queue (R5, R6) -/

/-- The distance of a frame from the expected sequence. -/
def ProgrammeFrame.ahead (e : BitVec 16) (f : ProgrammeFrame) : Nat := (f.seq - e).toNat

/-- The frames of a jitter queue: within the window from `e`, in strictly rising distance. -/
structure JitterWf (e : BitVec 16) (q : List ProgrammeFrame) : Prop where
  window : ∀ f ∈ q, f.ahead e ≤ 3
  rising : q.Pairwise fun f g => f.ahead e < g.ahead e

/-- The window holds at most four frames of distinct distances. -/
theorem JitterWf.length_le {e : BitVec 16} {q : List ProgrammeFrame} (h : JitterWf e q) : q.length ≤ 4 := by
  have hnodup : (q.map (ProgrammeFrame.ahead e)).Nodup :=
    List.pairwise_map.mpr (h.rising.imp fun hlt => Nat.ne_of_lt hlt)
  have hsub : q.map (ProgrammeFrame.ahead e) ⊆ List.range 4 := by
    intro d hd
    obtain ⟨f, hf, rfl⟩ := List.mem_map.mp hd
    exact List.mem_range.mpr (Nat.lt_succ_of_le (h.window f hf))
  simpa using (List.subperm_of_subset hnodup hsub).length_le

theorem StudioInput.queueWf_some {i : StudioInput} {e : BitVec 16} (h : i.expected = some e) :
    i.queueWf = true ↔ JitterWf e i.queue := by
  simp only [StudioInput.queueWf, h, Bool.and_eq_true, decide_eq_true_eq, List.all_eq_true]
  exact ⟨fun ⟨⟨_, hw⟩, hr⟩ => ⟨hw, hr⟩, fun hj => ⟨⟨hj.length_le, hj.window⟩, hj.rising⟩⟩

theorem StudioInput.queueWf_none {i : StudioInput} (h : i.expected = none) : i.queueWf = true ↔ i.queue = [] := by
  simp only [StudioInput.queueWf, h, List.isEmpty_iff]

/-- An empty jitter queue is in form. -/
theorem StudioInput.queueWf_of_empty {i : StudioInput} (h : i.queue = []) : i.queueWf = true := by
  cases he : i.expected with
  | none => exact (queueWf_none he).mpr h
  | some e => exact (queueWf_some he).mpr ⟨by simp [h], by simp [h]⟩

/-- The form depends on the expected sequence and the queue alone. -/
theorem StudioInput.queueWf_congr {i j : StudioInput} (he : j.expected = i.expected) (hq : j.queue = i.queue) :
    j.queueWf = i.queueWf := by
  simp only [StudioInput.queueWf, he, hq]

theorem mem_placeFrame {e : BitVec 16} {f g : ProgrammeFrame} {q : List ProgrammeFrame} :
    g ∈ placeFrame e f q ↔ g = f ∨ g ∈ q := by
  obtain ⟨before, after, rfl, hplace, -, -⟩ := placeFrame_split e f q
  rw [hplace]
  simp [or_left_comm]

/-- A frame of a new distance is placed in order. -/
theorem JitterWf.place {e : BitVec 16} {q : List ProgrammeFrame} (h : JitterWf e q) {f : ProgrammeFrame}
    (hf : f.ahead e ≤ 3) (hnew : ∀ g ∈ q, g.ahead e ≠ f.ahead e) : JitterWf e (placeFrame e f q) := by
  refine ⟨fun g hg => ?_, ?_⟩
  · rcases mem_placeFrame.mp hg with rfl | hg
    · exact hf
    · exact h.window g hg
  · obtain ⟨before, after, rfl, hplace, hbefore, hafter⟩ := placeFrame_split e f q
    obtain ⟨hb, ha, hcross⟩ := List.pairwise_append.mp h.rising
    have hlt (g : ProgrammeFrame) (hg : g ∈ after) : f.ahead e < g.ahead e := by
      cases after with
      | nil => cases hg
      | cons x rest =>
        have hx : f.ahead e < x.ahead e := hafter x (by simp)
        rcases List.mem_cons.mp hg with rfl | hg
        · exact hx
        · exact hx.trans ((List.pairwise_cons.mp ha).1 g hg)
    rw [hplace]
    refine List.pairwise_append.mpr ⟨hb, List.pairwise_cons.mpr ⟨hlt, ha⟩, fun a hma b hmb => ?_⟩
    rcases List.mem_cons.mp hmb with rfl | hmb
    · exact lt_of_le_of_ne (hbefore a hma) (hnew a (List.mem_append_left _ hma))
    · exact hcross a hma b hmb

theorem ProgrammeFrame.ahead_inj {e : BitVec 16} {f g : ProgrammeFrame} (h : f.ahead e = g.ahead e) : f.seq = g.seq := by
  have := BitVec.eq_of_toNat_eq h
  simpa using this

theorem ProgrammeFrame.ahead_self (e : BitVec 16) (f : ProgrammeFrame) (h : f.seq = e) : f.ahead e = 0 := by
  simp [ProgrammeFrame.ahead, h]

/-- As the expected sequence goes on, every other frame comes one nearer. -/
theorem ProgrammeFrame.ahead_succ {e : BitVec 16} {f : ProgrammeFrame} (h : f.seq ≠ e) :
    f.ahead (e + 1) + 1 = f.ahead e := by
  unfold ProgrammeFrame.ahead
  bv_omega

/-- A queue without a frame of the expected sequence is in form for the next one. -/
theorem JitterWf.next {e : BitVec 16} {q : List ProgrammeFrame} (h : JitterWf e q) (hq : ∀ f ∈ q, f.seq ≠ e) :
    JitterWf (e + 1) q := by
  refine ⟨fun f hf => ?_, h.rising.imp_of_mem fun {f g} hf hg hlt => ?_⟩
  · have := h.window f hf
    have := ProgrammeFrame.ahead_succ (hq f hf)
    omega
  · have := ProgrammeFrame.ahead_succ (hq f hf)
    have := ProgrammeFrame.ahead_succ (hq g hg)
    omega

theorem JitterWf.sublist {e : BitVec 16} {p q : List ProgrammeFrame} (h : JitterWf e q) (hp : p.Sublist q) :
    JitterWf e p := ⟨fun f hf => h.window f (hp.subset hf), h.rising.sublist hp⟩

/-- The frame of the expected sequence is the only one of its sequence. -/
theorem JitterWf.erase_next {e : BitVec 16} {q : List ProgrammeFrame} (h : JitterWf e q) {f : ProgrammeFrame}
    (hf : f ∈ q) (he : f.seq = e) : JitterWf (e + 1) (q.erase f) := by
  refine (h.sublist List.erase_sublist).next fun g hg hge => ?_
  obtain ⟨before, after, rfl⟩ := List.append_of_mem hf
  have hzero : ∀ x : ProgrammeFrame, x.seq = e → x.ahead e = 0 := fun x hx => x.ahead_self e hx
  obtain ⟨-, ha, hcross⟩ := List.pairwise_append.mp h.rising
  have hnot : f ∉ before := fun hmem => by
    have := hcross f hmem f List.mem_cons_self
    omega
  rw [List.erase_append_right _ hnot, List.erase_cons_head] at hg
  rcases List.mem_append.mp hg with hmem | hmem
  · have := hcross g hmem f List.mem_cons_self
    have := hzero f he
    omega
  · have := (List.pairwise_cons.mp ha).1 g hmem
    have := hzero g hge
    omega

theorem StudioInput.arrive_wf {i : StudioInput} (f : ProgrammeFrame) (h : i.queueWf = true) :
    (i.arrive f).queueWf = true := by
  have hsingle (j : StudioInput) (he : j.expected = some f.seq) (hq : j.queue = [f]) : j.queueWf = true := by
    refine (queueWf_some he).mpr ⟨?_, ?_⟩
    · rw [hq]; simpa using (f.ahead_self _ rfl).le.trans (by omega)
    · rw [hq]; simp
  unfold StudioInput.arrive
  split
  · exact hsingle _ rfl rfl
  · rename_i e he
    dsimp only
    split
    · rename_i hwindow
      split
      · exact (queueWf_congr (i := i) rfl rfl).trans h
      · rename_i hnew
        refine (queueWf_some (i := { i with queue := placeFrame e f i.queue }) he).mpr
          (((queueWf_some he).mp h).place hwindow fun g hg heq => hnew ?_)
        exact List.any_eq_true.mpr ⟨g, hg, by simpa using ProgrammeFrame.ahead_inj heq⟩
    · split
      · exact hsingle _ rfl rfl
      · exact (queueWf_congr (i := i) rfl rfl).trans h

/-- The expected sequence goes on past a missing frame. -/
theorem StudioInput.missed_wf {i j : StudioInput} (h : i.queueWf = true) (hnext : i.next = none)
    (he : j.expected = i.expected.map (· + 1)) (hq : j.queue = i.queue) : j.queueWf = true := by
  cases hi : i.expected with
  | none =>
    rw [hi] at he
    rw [queueWf_none he, hq]
    exact (queueWf_none hi).mp h
  | some e =>
    rw [hi] at he
    rw [queueWf_some he, hq]
    refine ((queueWf_some hi).mp h).next fun f hf hseq => ?_
    simp only [StudioInput.next, hi] at hnext
    simpa [hseq] using List.find?_eq_none.mp hnext f hf

/-- The expected sequence goes on past the frame used, which leaves the queue. -/
theorem StudioInput.used_wf {i j : StudioInput} {f : ProgrammeFrame} (h : i.queueWf = true) (hnext : i.next = some f)
    (he : j.expected = i.expected.map (· + 1)) (hq : j.queue = i.queue.erase f) : j.queueWf = true := by
  cases hi : i.expected with
  | none => simp [StudioInput.next, hi] at hnext
  | some e =>
    rw [hi] at he
    rw [queueWf_some he, hq]
    simp only [StudioInput.next, hi] at hnext
    exact ((queueWf_some hi).mp h).erase_next (List.mem_of_find?_eq_some hnext) (by simpa using List.find?_some hnext)

/-! ### The players (R109 to R114, R187) -/

theorem State.Mixes.modPlayer (p : Fin 3) (f : Player → Player) (s : State) : s.Mixes (modPlayer p f s) :=
  .modPlayers s _

theorem State.Mixes.stampSlot (n : Fin 32) (s : State) : s.Mixes (stampSlot n s) := by
  refine (State.Leads.modClips _ rfl fun h => h.modClips _ ?_ fun m => ?_).mixes
  · exact h.clips.modSlot n (fun t => { t with stamp := some s.frameCount }) _ rfl rfl rfl (h.clips.empty n) (fun hh => .inl hh)
      (fun b hb => by
        have := h.clips.fills b hb
        rw [ClipStore.modSlot_get]
        split <;> exact this) fun p => rfl
  · rw [ClipStore.modSlot_get]; split <;> rfl

theorem cueable_iff {p : Fin 3} {n : Fin 32} {s : State} :
    cueable p n s = true ↔ s.clips.playable n = true ∧ s.clips.canHold (playerReader p) n = true := by
  rw [cueable, Bool.and_eq_true]

theorem State.Mixes.holdSlot {p : Fin 3} {n : Fin 32} (state : PlayerState) {s : State} (h : cueable p n s = true) :
    s.Mixes (holdSlot p n state s) :=
  (State.Leads.hold (playerReader p) n fun _ => ClipStore.holdable_of_playable (cueable_iff.mp h).1).mixes.trans
    (.modPlayer ..)

theorem State.Mixes.idlePlayer (p : Fin 3) (s : State) : s.Mixes (idlePlayer p s) :=
  (State.Leads.release s (playerReader p)).mixes.trans (.modPlayer ..)

theorem State.Mixes.runSlot {p : Fin 3} {n : Fin 32} {s : State} (h : cueable p n s = true) : s.Mixes (runSlot p n s) :=
  (State.Mixes.holdSlot .running h).trans (.stampSlot ..)

theorem State.Mixes.startFill (slot : Option (Fin 32)) (s : State) : s.Mixes (startFill slot s).1 := by
  rcases startFill_cases slot s with ⟨n, -, -, hcue, h⟩ | h
  · rw [h]; exact .runSlot hcue
  · rw [h]; exact .refl s

theorem State.Leads.signOff (s : State) : s.Leads (signOff s) := by
  unfold Machine.signOff
  split
  · exact .refl s
  · split
    · split
      · rename_i h; exact .startSleep h
      · exact .latch ..
    · exact .refl s
    · exact .refl s
    · exact .latch ..
    · exact .latch ..

/-- A change of the store's counters and conf leaves its agreements alone. -/
theorem State.Leads.modClips_other {s : State} (f : ClipStore → ClipStore) (hr : (f s.clips).region = s.clips.region)
    (hfree : (f s.clips).free = s.clips.free) (hslots : (f s.clips).slots = s.clips.slots)
    (hholds : (f s.clips).holds = s.clips.holds) (hfill : (f s.clips).fill = s.clips.fill) : s.Leads (s.modClips f) :=
  .modClips f hr fun h => h.modClips f (h.clips.congr hfree hslots hholds hfill) fun n => by rw [hslots]

theorem State.Leads.endClip (p : Fin 3) (n : Fin 32) (action : EndAction) (chained : Option (Option (Fin 32)))
    (s : State) : s.Leads (endClip p n action chained s) :=
  State.Leads.trans (.modClips_other _ rfl rfl rfl rfl rfl) (.latch ..)

theorem State.Mixes.endAction (p : Fin 3) (n : Fin 32) (s : State) : s.Mixes (endAction p n s) := by
  unfold Machine.endAction
  dsimp only
  split
  · exact (State.Mixes.idlePlayer p s).trans (State.Leads.endClip ..).mixes
  · exact .modPlayer ..
  · split
    · rename_i h
      exact (State.Mixes.runSlot h).trans (State.Leads.endClip ..).mixes
    · exact (State.Mixes.idlePlayer p s).trans (State.Leads.endClip ..).mixes
  · exact (State.Mixes.idlePlayer p s).trans ((State.Leads.signOff _).trans (.endClip ..)).mixes

theorem State.Mixes.clipEnd (p : Fin 3) (n : Fin 32) (s : State) : s.Mixes (clipEnd p n s) := by
  unfold Machine.clipEnd
  split
  · exact .modPlayer ..
  · exact .endAction ..

theorem State.Mixes.playerFrame (p : Fin 3) (s : State) : s.Mixes (playerFrame p s).1 := by
  unfold Machine.playerFrame
  dsimp only
  split
  · split
    · dsimp only
      split
      · exact (State.Mixes.modPlayer p _ s).trans (.clipEnd ..)
      · exact .modPlayer ..
    · exact .refl s
    · exact .refl s
  · exact .refl s

theorem State.Mixes.playerSources (s : State) : s.Mixes (playerSources s).1 :=
  have hadopt : s.Mixes (adoptClips s) := (State.Leads.modClips_other _ rfl rfl rfl rfl rfl).mixes
  ((hadopt.trans (.playerFrame playerA _)).trans (.playerFrame playerB _)).trans (.playerFrame fillPlayer _)

/-! ### The studio input (R4, R7 to R12) -/

theorem State.Mixes.modStudio_other {s : State} (f : StudioInput → StudioInput)
    (he : (f s.studio).expected = s.studio.expected) (hq : (f s.studio).queue = s.studio.queue) :
    s.Mixes (s.modStudio f) := .modStudio f fun h => by rw [StudioInput.queueWf_congr he hq]; exact h

theorem State.Mixes.programmeArrives (body : List Byte) (s : State) : s.Mixes (programmeArrives body s) := by
  unfold Machine.programmeArrives
  refine .modStudio _ fun h => ?_
  split
  · exact StudioInput.arrive_wf _ h
  · exact h

theorem State.Mixes.adoptStudio (s : State) : s.Mixes (adoptStudio s) := by
  unfold Machine.adoptStudio
  refine .modStudio _ fun h => ?_
  dsimp only
  split
  · exact h
  · exact StudioInput.queueWf_of_empty rfl

theorem State.Mixes.askFill (s : State) : s.Mixes (askFill s).1 := .startFill ..

theorem State.Mixes.loseStudio (s : State) : s.Mixes (loseStudio s) := by
  unfold Machine.loseStudio
  dsimp only
  refine State.Mixes.trans ?_ (.latch ..)
  exact (State.Mixes.modStudio_other _ rfl rfl).trans (.askFill _)

theorem State.Mixes.afterMissing (s : State) : s.Mixes (afterMissing s) := by
  unfold Machine.afterMissing
  split
  · exact .askFill s
  · split
    · exact .loseStudio s
    · exact .refl s

theorem State.Mixes.missFrame {s : State} (h : s.studio.next = none) : s.Mixes (missFrame s) :=
  State.Mixes.trans (.modStudio _ fun hw => StudioInput.missed_wf hw h rfl rfl) (.afterMissing _)

theorem State.Mixes.useFrame {s : State} {f : ProgrammeFrame} (h : s.studio.next = some f) : s.Mixes (useFrame f s) := by
  have huse : s.Mixes (s.modStudio fun i =>
      { i with expected := i.expected.map (· + 1), queue := i.queue.erase f, missingRun := 0 }) :=
    .modStudio _ fun hw => StudioInput.used_wf hw h rfl rfl
  have hback : s.Mixes (if s.studio.lost = true then studioBack s.studio.missingRun (s.modStudio fun i =>
      { i with expected := i.expected.map (· + 1), queue := i.queue.erase f, missingRun := 0 })
      else s.modStudio fun i =>
        { i with expected := i.expected.map (· + 1), queue := i.queue.erase f, missingRun := 0 }) := by
    split
    · exact huse.trans ((State.Mixes.modStudio_other _ rfl rfl).trans (.latch ..))
    · exact huse
  unfold Machine.useFrame
  dsimp only
  split
  · exact hback.trans (State.Leads.breakEvent _).mixes
  · exact hback

theorem State.Mixes.studioRequest (s : State) : s.Mixes (studioRequest s).1 := by
  unfold Machine.studioRequest
  dsimp only
  split
  · rename_i h; exact (State.Mixes.adoptStudio s).trans (.useFrame h)
  · rename_i h; exact (State.Mixes.adoptStudio s).trans (.missFrame h)

/-! ### The mix frame (R16, R30, R38, R189, R191) -/

theorem State.Mixes.countClamps (left right cue : Nat) (s : State) : s.Mixes (countClamps left right cue s) := by
  have half (bus : Nat) (b : Bool) (u : State) : u.Mixes (if b = true then latchHalf bus u else u) := by
    split
    · exact .latch ..
    · exact .refl u
  have clip (u : State) (h : s.Mixes u) :
      s.Mixes (if left + right = 0 then u else Machine.latch .pgmClip [Word.nat (left + right)] u) := by
    split
    · exact h
    · exact h.trans (.latch ..)
  exact clip _ (((State.Mixes.modMix s _).trans (half 0 _ _)).trans (half 1 _ _))

theorem State.Leads.activity (quiet : Bool) (s : State) : s.Leads (activity quiet s) := by
  unfold Machine.activity
  split
  · exact .refl s
  · split
    · split
      · exact (State.Leads.wakeOrAbort 2 s).trans (.select _)
      · exact .refl s
    · split
      · exact .wakeOrAbort 2 s
      · exact .refl s
    all_goals exact .refl s

theorem State.Mixes.fillStop (fillSilent : Bool) (s : State) : s.Mixes (fillStop fillSilent s) := by
  unfold Machine.fillStop
  split
  · exact (State.Mixes.idlePlayer fillPlayer s).trans (.modStudio_other _ rfl rfl)
  · exact .refl s

theorem State.Mixes.handOff (pgm : PgmFrame) (cue : Frame) (feeds : Vector (Vector (Int × Bool) 48) 6) (x : Vector Frame 20)
    (s : State) : s.Mixes (handOff pgm cue feeds x s) := by
  have hline (u : State) : u.Mixes (u.modLine fun l => { l with feeds := feeds.map fun f => f.map Prod.fst }) :=
    .of_frame rfl id fun h => h.congr (fun _ => rfl) rfl rfl rfl
  exact (((State.Mixes.modMix s _).trans (hline _)).trans (State.Leads.activity pgm.quiet _).mixes).trans (.fillStop ..)

theorem State.Mixes.mixWork (s : State) : s.Mixes (mixWork s) := by
  have hinputs (u : State) : u.Mixes (mixInputs u).1 := (State.Mixes.studioRequest u).trans (.playerSources _)
  have houtputs (g : Gates) (x : Vector Frame 20) (u : State) : u.Mixes (mixOutputs g x u) :=
    (State.Mixes.countClamps ..).trans (.handOff ..)
  have hramps : s.Mixes ((adoptMix s).modMix fun m => m.stepRamps (readGates (adoptMix s))) :=
    State.Mixes.trans (t := adoptMix s) (by unfold Machine.adoptMix; exact .modMix ..) (.modMix _ _)
  unfold Machine.mixWork
  exact (hramps.trans (hinputs _)).trans (houtputs _ _ _)

end Sys2Proof.Machine

/-!
PROOF. What the rows of the clip store and the cart orders keep (R95 to R103, R118).
-/

namespace Sys2Proof.Machine

/-! ### Bursts (R96 to R100) -/

/-- Pages pass between the free-page list and the burst in flight: the counts are kept. -/
theorem ClipStore.Sound.refill {c d : ClipStore} (h : c.Sound) (hslots : d.slots = c.slots) (hholds : d.holds = c.holds)
    (hpages : ∀ p, d.free.count p + d.burst.count p = c.free.count p + c.burst.count p)
    (hfills : ∀ b, d.fill = .opened b → (c.slots.get b.slot).state = .filling) : d.Sound := by
  obtain ⟨hp, hh, he, hl, -⟩ := h
  refine ⟨fun p => ?_, ?_, ?_, ?_, ?_⟩
  · have := hp p
    have := hpages p
    rw [hslots]
    omega
  · simpa only [hslots, hholds] using hh
  · simpa only [hslots] using he
  · simpa only [hslots, hholds] using hl
  · simpa only [hslots] using hfills

/-- A change of the clip store that keeps every slot, within the counts. -/
theorem State.StoreWf.refill {s : State} (h : s.StoreWf) (f : ClipStore → ClipStore)
    (hc : (f s.clips).Sound) (hslots : (f s.clips).slots = s.clips.slots) : (s.modClips f).StoreWf :=
  h.modClips f hc fun n => by rw [hslots]

/-- What a FILL frame does to the store: the slots, holds and counts of pages go over, and so does the form of the
region. -/
structure ClipStore.Fills (c d : ClipStore) : Prop where
  slots : d.slots = c.slots
  sound : c.Sound → d.Sound
  memory : Memory.wf StereoFrame.silence c.region = true → Memory.wf StereoFrame.silence d.region = true

theorem ClipStore.Fills.refl (c : ClipStore) : c.Fills c := ⟨rfl, id, id⟩

theorem ClipStore.Fills.trans {c d e : ClipStore} (h : c.Fills d) (k : d.Fills e) : c.Fills e :=
  ⟨k.slots.trans h.slots, k.sound ∘ h.sound, k.memory ∘ h.memory⟩

theorem ClipStore.Fills.replaceFill (c : ClipStore) {next : FillRecord} (hn : ∀ b, next ≠ .opened b) :
    c.Fills (c.replaceFill next) :=
  ⟨c.replaceFill_slots next, fun h => h.replaceFill hn, by rw [ClipStore.replaceFill_region]; exact id⟩

/-- Counters, and a fill record that opens no burst in place of another such. -/
theorem ClipStore.Fills.note {c d : ClipStore} (hfree : d.free = c.free) (hslots : d.slots = c.slots)
    (hholds : d.holds = c.holds) (hregion : d.region = c.region) (hc : c.burst = []) (hd : ∀ b, d.fill ≠ .opened b) :
    c.Fills d := by
  have hburst : d.burst = [] := by
    unfold ClipStore.burst
    split
    · rename_i b hb; exact absurd hb (hd b)
    · rfl
  exact ⟨hslots, fun h => h.refill hslots hholds (fun p => by rw [hfree, hc, hburst]) fun b hb => absurd hb (hd b),
    by rw [hregion]; exact id⟩

theorem writeBlock_memory {m : List (Nat × StereoFrame)} (block : Nat) (f : StereoFrame)
    (h : Memory.wf StereoFrame.silence m = true) :
    Memory.wf StereoFrame.silence (Memory.write StereoFrame.silence m block f) = true := Memory.write_wf _ _ _ _ h

/-- A burst opened or going on, its page from the free-page list or the burst before. -/
theorem ClipStore.Fills.opens {c : ClipStore} (region : List (Nat × StereoFrame)) (free : List Nat) (b : OpenBurst)
    (hm : Memory.wf StereoFrame.silence c.region = true → Memory.wf StereoFrame.silence region = true)
    (hpages : ∀ p, free.count p + [b.page].count p = c.free.count p + c.burst.count p)
    (hslot : c.Sound → (c.slots.get b.slot).state = .filling) :
    c.Fills { c with region := region, free := free, fill := .opened b } :=
  ⟨rfl, fun h => h.refill rfl rfl hpages fun x hx => by cases hx; exact hslot h, hm⟩

theorem ClipStore.Fills.countStray (c : ClipStore) : c.Fills (Machine.countStray c) :=
  ⟨rfl, fun h => h.congr rfl rfl rfl rfl, id⟩

/-- A burst in flight is abandoned and counted (R97). -/
def ClipStore.abandonBurst (c : ClipStore) : ClipStore :=
  { c.replaceFill .nothing with
    counters := { (c.replaceFill .nothing).counters with
      abandoned := bump (c.replaceFill .nothing).counters.abandoned (match c.fill with
        | .opened _ => 1
        | _ => 0) } }

/-- A burst is opened or refused, with no burst in flight (R97). -/
def ClipStore.openBurst (n : Fin 32) (pageIndex : Nat) (payload : List Byte) (c : ClipStore) : ClipStore :=
  if (c.slots.get n).state ≠ .filling || pageIndex ≠ (c.slots.get n).length / Config.pageBlocks then
    { c with fill := .refused n pageIndex .refused }
  else if c.freeCount ≤ c.reserve then { c with fill := .refused n pageIndex .full }
  else
    match c.free with
    | [] => { c with fill := .refused n pageIndex .full }
    | page :: rest =>
      { ({ c with free := rest } : ClipStore).writeBlock (page * Config.pageBlocks)
          ⟨blockAt payload 8, blockAt payload 152⟩ with
        fill := .opened ⟨n, pageIndex, page, 1, expectedCount (c.slots.get n).declared pageIndex,
          crc16More crc16Start (payload.drop 8), false⟩ }

theorem beginBurst_eq (n : Fin 32) (pageIndex : Nat) (payload : List Byte) (c : ClipStore) :
    beginBurst n pageIndex payload c = c.abandonBurst.openBurst n pageIndex payload := rfl

theorem ClipStore.abandonBurst_burst (c : ClipStore) : c.abandonBurst.burst = [] := by
  unfold ClipStore.abandonBurst
  rw [ClipStore.replaceFill_eq]
  rfl

theorem ClipStore.Fills.abandonBurst (c : ClipStore) : c.Fills c.abandonBurst :=
  (ClipStore.Fills.replaceFill c (next := .nothing) nofun).trans ⟨rfl, fun h => h.congr rfl rfl rfl rfl, id⟩

theorem ClipStore.Fills.openBurst (n : Fin 32) (pageIndex : Nat) (payload : List Byte) {c : ClipStore}
    (hb : c.burst = []) : c.Fills (c.openBurst n pageIndex payload) := by
  have hrefused (r : BurstResult) : c.Fills { c with fill := .refused n pageIndex r } := .note rfl rfl rfl rfl hb nofun
  unfold ClipStore.openBurst
  split
  · exact hrefused _
  · rename_i hslot
    split
    · exact hrefused _
    · split
      · exact hrefused _
      · rename_i page rest hfree
        have hfilling : (c.slots.get n).state = .filling := by
          by_contra hne
          simp [hne] at hslot
        have hm := writeBlock_memory (m := c.region) (page * Config.pageBlocks) ⟨blockAt payload 8, blockAt payload 152⟩
        have hpages (p : Nat) : rest.count p + [page].count p = c.free.count p + c.burst.count p := by
          rw [hb, hfree]
          simp only [List.count_cons, List.count_nil]
          omega
        dsimp only [ClipStore.writeBlock]
        exact .opens _ rest ⟨n, pageIndex, page, 1, expectedCount (c.slots.get n).declared pageIndex,
          crc16More crc16Start (payload.drop 8), false⟩ hm hpages fun _ => hfilling

theorem ClipStore.Fills.beginBurst (n : Fin 32) (pageIndex : Nat) (payload : List Byte) (c : ClipStore) :
    c.Fills (beginBurst n pageIndex payload c) :=
  (ClipStore.Fills.abandonBurst c).trans (.openBurst n pageIndex payload c.abandonBurst_burst)

theorem ClipStore.Fills.continueBurst (n : Fin 32) (pageIndex index : Nat) (payload : List Byte) (c : ClipStore) :
    c.Fills (continueBurst n pageIndex index payload c) := by
  unfold Machine.continueBurst
  split
  · rename_i b hfill
    have hburst : c.burst = [b.page] := by simp only [ClipStore.burst, hfill]
    split
    · exact .refl c
    · split
      · have hm := writeBlock_memory (m := c.region) (b.page * Config.pageBlocks + index)
          ⟨blockAt payload 8, blockAt payload 152⟩
        dsimp only [ClipStore.writeBlock]
        exact .opens _ c.free { b with nextFrame := index + 1, crc := crc16More b.crc (payload.drop 8) } hm
          (fun p => by rw [hburst]) fun h => h.fills b hfill
      · exact .opens c.region c.free { b with spoiled := true } id (fun p => by rw [hburst]) fun h => h.fills b hfill
  · exact .refl c
  · exact .refl c
  · exact ⟨rfl, fun h => h.congr rfl rfl rfl rfl, id⟩

theorem ClipStore.Fills.takeFill (payload : List Byte) (c : ClipStore) : c.Fills (takeFill payload c) := by
  unfold Machine.takeFill
  dsimp only
  split
  · split
    · split
      · exact .replaceFill c nofun
      · exact .refl c
    · exact .refl c
  · split
    · exact .countStray c
    · split
      · exact .beginBurst ..
      · exact .continueBurst ..

/-- A change of the clip store within its agreements. -/
theorem State.Follows.modClips {s : State} (f : ClipStore → ClipStore)
    (hm : Memory.wf StereoFrame.silence s.clips.region = true → Memory.wf StereoFrame.silence (f s.clips).region = true)
    (hs : s.StoreWf → (s.modClips f).StoreWf) : s.Follows (s.modClips f) where
  pending := rfl
  memory := by
    rw [State.memoryWf_iff, State.memoryWf_iff]
    exact fun ⟨hd, hc⟩ => ⟨hd, hm hc⟩
  jitter := id
  orders := id
  lines := id
  link := id
  store := hs
  airing hw := hw.congr rfl rfl rfl
  delay hd := hd.congr rfl rfl rfl rfl

theorem State.Follows.fillArrives (body : List Byte) (s : State) : s.Follows (fillArrives body s) := by
  have hfills : s.clips.Fills (if (0x03 :: body).length = 296 then takeFill (0x03 :: body) s.clips else countStray s.clips) := by
    split
    · exact .takeFill ..
    · exact .countStray _
  unfold Machine.fillArrives
  exact .modClips _ hfills.memory fun h => h.refill (fun c => if (0x03 :: body).length = 296 then takeFill (0x03 :: body) c
    else countStray c) (hfills.sound h.clips) hfills.slots

/-! ### FILL-CHECK (R99, R100) -/

/-- The store with a good burst's page joined to the chain of its slot. -/
def ClipStore.joinBurst (b : OpenBurst) (c : ClipStore) : ClipStore :=
  { c.modSlot b.slot fun t => { t with chain := t.chain ++ [b.page], length := t.length + b.expected } with
    fill := .nothing }

theorem ClipStore.joinBurst_get (b : OpenBurst) (c : ClipStore) (m : Fin 32) :
    (c.joinBurst b).slots.get m =
      if m = b.slot then
        { c.slots.get m with chain := (c.slots.get m).chain ++ [b.page], length := (c.slots.get m).length + b.expected }
      else c.slots.get m :=
  c.modSlot_get b.slot m fun t => { t with chain := t.chain ++ [b.page], length := t.length + b.expected }

theorem ClipStore.Sound.joinBurst {c : ClipStore} (h : c.Sound) {b : OpenBurst} (hb : c.fill = .opened b) :
    (c.joinBurst b).Sound := by
  refine h.modSlot b.slot (fun t => { t with chain := t.chain ++ [b.page], length := t.length + b.expected }) _ rfl rfl rfl
    (fun he => ?_) .inl nofun fun p => ?_
  · have hfilling := h.fills b hb
    rw [show (c.slots.get b.slot).state = .empty from he] at hfilling
    cases hfilling
  · simp only [ClipStore.joinBurst, ClipStore.burst, hb, ClipStore.modSlot_free, List.count_append, List.count_nil]
    omega

/-- A slot becomes READY. -/
def Slot.readied (t : Slot) : Slot := { t with state := .ready, stamp := none }

theorem acceptBurst_eq (b : OpenBurst) (s : State) :
    acceptBurst b s =
      if ((s.clips.joinBurst b).slots.get b.slot).length = ((s.clips.joinBurst b).slots.get b.slot).declared then
        latch .slotReady [Word.nat b.slot.val, Word.nat ((s.clips.joinBurst b).slots.get b.slot).length]
          (s.modClips fun c => (c.joinBurst b).modSlot b.slot Slot.readied)
      else s.modClips (ClipStore.joinBurst b) := rfl

/-- A good burst's page joins the chain of its slot, which may become READY. -/
theorem State.Leads.acceptBurst {s : State} {b : OpenBurst} (hb : s.clips.fill = .opened b) : s.Leads (acceptBurst b s) := by
  rw [acceptBurst_eq]
  split
  · refine State.Leads.trans (.modClips _ rfl fun h => h.modClips' _ ?_ fun m => ?_) (.latch ..)
    · exact (h.clips.joinBurst hb).modSlot b.slot Slot.readied _ rfl rfl rfl nofun (fun _ => .inl rfl) nofun fun p => rfl
    · rw [ClipStore.modSlot_get, ClipStore.joinBurst_get]
      split
      · rename_i hm
        rw [hm, h.clips.fills b hb]
        exact .inr ⟨rfl, rfl⟩
      · exact .inl rfl
  · refine .modClips _ rfl fun h => h.modClips _ (h.clips.joinBurst hb) fun m => ?_
    rw [ClipStore.joinBurst_get]
    split <;> rfl

/-- A check that finds no open burst of its own leaves the burst in flight alone. -/
theorem checkUnmatched_fill (n : Option (Fin 32)) (pageIndex : Nat) (c : ClipStore) :
    (checkUnmatched n pageIndex c).2 = c.fill ∨
      (checkUnmatched n pageIndex c).2 = .nothing ∧ ∀ b, c.fill ≠ .opened b := by
  unfold checkUnmatched
  cases c.fill with
  | opened b => split_ifs <;> simp_all
  | nothing => split_ifs <;> simp_all
  | refused m p r =>
    dsimp only
    split_ifs <;> simp
  | cut m p =>
    dsimp only
    split_ifs <;> simp

theorem State.Leads.replyCheck (src : MacAddress) (tag : BitVec 16) (slot pageIndex : Nat) (r : BurstResult) (s : State) :
    s.Leads (replyCheck src tag slot pageIndex r s) := by
  unfold Machine.replyCheck
  rw [sendReply_eq]
  exact .of_notices rfl

theorem State.Leads.unmatched {s : State} (n : Option (Fin 32)) (pageIndex : Nat) (f : ClipCounters → ClipCounters) :
    s.Leads (s.modClips fun c =>
      { c with fill := (checkUnmatched n pageIndex s.clips).2, counters := f c.counters }) := by
  rcases checkUnmatched_fill n pageIndex s.clips with h | ⟨h, hnone⟩
  · exact .modClips_other _ rfl rfl rfl rfl h
  · have hb : s.clips.burst = [] := by
      unfold ClipStore.burst
      split
      · rename_i b hb; exact absurd hb (hnone b)
      · rfl
    have hfills : s.clips.Fills
        { s.clips with fill := (checkUnmatched n pageIndex s.clips).2, counters := f s.clips.counters } :=
      .note rfl rfl rfl rfl hb fun b hopen => by rw [h] at hopen; cases hopen
    exact .modClips _ rfl fun hs => hs.refill _ (hfills.sound hs.clips) rfl

theorem State.Leads.fillCheckArrives (src : MacAddress) (body : List Byte) (s : State) :
    s.Leads (fillCheckArrives src body s) := by
  unfold Machine.fillCheckArrives
  dsimp only
  split
  · unfold takeCheck
    dsimp only
    split
    · rename_i b hb
      split
      · split
        · exact (State.Leads.acceptBurst hb).trans (.replyCheck ..)
        · refine State.Leads.trans (.modClips _ ?_ fun hs => hs.refill _ ?_ ?_) (.replyCheck ..)
          · exact s.clips.replaceFill_region _
          · exact (hs.clips.replaceFill (next := .nothing) nofun).congr rfl rfl rfl rfl
          · exact s.clips.replaceFill_slots _
      · exact (State.Leads.unmatched ..).trans (.replyCheck ..)
    · exact (State.Leads.unmatched ..).trans (.replyCheck ..)
  · exact .modClips_other _ rfl rfl rfl rfl rfl

/-! ### The cart orders (R95, R101, R102) -/

theorem State.Leads.clipOpen {s : State} {n : Fin 32} (hn : (s.clips.slots.get n).state = .empty) (d : Nat) :
    s.Leads (s.modClips fun c => c.modSlot n fun _ => ⟨.filling, .cart, d, 0, [], 0, none⟩) := by
  refine .modClips _ rfl fun h => h.modClips' _ ?_ fun m => ?_
  · have hchain := h.clips.empty n hn
    have huse := h.clips.useCount_eq_zero (n := n) (by rw [hn]; rfl)
    refine h.clips.modSlot n (fun _ => ⟨.filling, .cart, d, 0, [], 0, none⟩) _ rfl rfl huse.symm nofun (fun _ => .inr huse)
      (fun b hb => ?_) fun p => ?_
    · rw [ClipStore.modSlot_get]
      split
      · rfl
      · exact h.clips.fills b hb
    · rw [hchain]; rfl
  · rw [ClipStore.modSlot_get]
    split
    · rename_i hm
      rw [hm, hn]
      exact .inr ⟨rfl, rfl⟩
    · exact .inl rfl

theorem State.Leads.answerClipOpen (args : List Word) (s : State) : s.Leads (answerClipOpen args s).state := by
  unfold Machine.answerClipOpen
  split
  · split
    · split
      · rename_i h; exact .clipOpen h _
      · exact .refl s
    · exact .refl s
  · exact .refl s

/-- The store with the burst of slot `n` in flight, if any, abandoned (R101). -/
def ClipStore.dropBurst (n : Fin 32) (c : ClipStore) : ClipStore :=
  match c.fill with
  | .opened b => if b.slot = n then c.replaceFill .nothing else c
  | _ => c

theorem ClipStore.dropBurst_slots (n : Fin 32) (c : ClipStore) : (c.dropBurst n).slots = c.slots := by
  unfold ClipStore.dropBurst
  split
  · split
    · exact c.replaceFill_slots _
    · rfl
  · rfl

theorem ClipStore.dropBurst_region (n : Fin 32) (c : ClipStore) : (c.dropBurst n).region = c.region := by
  unfold ClipStore.dropBurst
  split
  · split
    · exact c.replaceFill_region _
    · rfl
  · rfl

theorem ClipStore.dropBurst_fill (n : Fin 32) (c : ClipStore) (b : OpenBurst) (h : (c.dropBurst n).fill = .opened b) :
    b.slot ≠ n := by
  unfold ClipStore.dropBurst at h
  split at h
  · rename_i x hx
    split at h
    · rw [ClipStore.replaceFill_eq] at h; cases h
    · rename_i hne
      rw [hx] at h
      cases h
      exact hne
  · rename_i hno
    exact absurd h (hno b)

theorem ClipStore.Sound.dropBurst {c : ClipStore} (h : c.Sound) (n : Fin 32) : (c.dropBurst n).Sound := by
  unfold ClipStore.dropBurst
  split
  · split
    · exact h.replaceFill nofun
    · exact h
  · exact h

/-- A FILLING slot is emptied, the page of its burst in flight first returning to the list. -/
theorem State.Leads.clipAbort {s : State} {n : Fin 32} (hn : (s.clips.slots.get n).state = .filling) :
    s.Leads (s.modClips fun _ => (s.clips.dropBurst n).emptySlot n) := by
  refine .modClips _ (s.clips.dropBurst_region n) fun h => h.modClips' _ ?_ fun m => ?_
  · refine (h.clips.dropBurst n).emptySlot ?_ (s.clips.dropBurst_fill n)
    rw [ClipStore.dropBurst_slots]
    exact h.clips.useCount_eq_zero (by rw [hn]; rfl)
  · rw [ClipStore.emptySlot_get, ClipStore.dropBurst_slots]
    split
    · rename_i hm
      rw [hm, hn]
      exact .inr ⟨rfl, rfl⟩
    · exact .inl rfl

theorem State.Leads.answerClipAbort (args : List Word) (s : State) : s.Leads (answerClipAbort args s).state := by
  unfold Machine.answerClipAbort
  split
  · split
    · split
      · rename_i h; exact .clipAbort h
      · exact .refl s
    · exact .refl s
  · exact .refl s

theorem State.Leads.answerClipErase (args : List Word) (s : State) : s.Leads (answerClipErase args s).state := by
  unfold Machine.answerClipErase
  split
  · split
    · dsimp only
      split
      · rename_i h
        simp only [Bool.and_eq_true, decide_eq_true_eq] at h
        exact .modClips _ rfl fun hs => hs.emptyReady h.1 h.2 (fun c => s.clips.emptySlot _) rfl rfl rfl rfl
      · exact .refl s
    · exact .refl s
  · exact .refl s

end Sys2Proof.Machine

/-!
PROOF. The commit of a table entry, table by table (R18, R19, R68, R93, R127, R199, R201).
-/

namespace Sys2Proof.Machine

theorem finOf_val {n : Nat} (k : Fin n) : finOf n k.val = some k := by
  rw [finOf, dif_pos k.isLt]

theorem finOf_eq_some {n m : Nat} {k : Fin n} : finOf n m = some k ↔ m = k.val := by
  constructor
  · intro h
    unfold finOf at h
    split at h
    · cases h; rfl
    · cases h
  · rintro rfl; exact finOf_val k

theorem finOf_eq_none {n m : Nat} : finOf n m = none ↔ n ≤ m := by
  unfold finOf
  split
  · simpa using ‹m < n›
  · simpa using ‹¬ m < n›

/-- The entry `e` of a table of `T` is committed with the words `ws`, which gives `U`, clamped or not. -/
inductive Tables.Commits (T : Tables) : TableId → Nat → List Word → Tables → Bool → Prop
  | gain (k : Fin 256) (w : Word) : T.Commits .gain k.val [w] (commitGain T k w).1 (commitGain T k w).2
  | route (k : Fin 60) (code ramp : Word) :
    T.Commits .route k.val [code, ramp] (commitRoute T k code ramp).1 (commitRoute T k code ramp).2
  | slotConf (k : Fin 32) {gain action chain lock : Word} {a : Nat} {target : Fin 32} {locked : Bool}
    (ha : placeField 4 action = some a) (ht : finOf 32 chain.toNat = some target) (hl : flagField lock = some locked) :
    T.Commits .slotConf k.val [gain, action, chain, lock]
      { T with slotConf := T.slotConf.set k ⟨(codeField gain).1, EndAction.ofCode a, target, locked⟩ } (codeField gain).2
  | filter (k : Fin 16) {enable form verdict priority mode value mask area1 area2 : Word} {f : FilterEntry × Bool}
    (hf : readFilter enable form verdict priority mode value mask area1 area2 = some f) :
    T.Commits .filter k.val [enable, form, verdict, priority, mode, value, mask, area1, area2]
      { T with filter := T.filter.set k f.1 } f.2
  | lineConf (k : Fin 6) (trim hold : Word) :
    T.Commits .lineConf k.val [trim, hold] (commitLineConf T k trim hold).1 (commitLineConf T k trim hold).2
  | settings (k : Fin 26) {w : Word} {v : Nat × Bool} (hv : (settingRules.get k).check w.toNat = some v) :
    T.Commits .settings k.val [w] { T with settings := T.settings.set k v.1 } v.2
  | noticeConf (k : Fin 25) {enable repeats : Word} {e r : Bool} (he : flagField enable = some e)
    (hr : flagField repeats = some r) :
    T.Commits .noticeConf k.val [enable, repeats] { T with noticeConf := T.noticeConf.set k ⟨e, r⟩ } false

theorem Tables.Commits.commit {T U : Tables} {t : TableId} {e : Nat} {ws : List Word} {c : Bool}
    (h : T.Commits t e ws U c) : T.commit t e ws = some (U, c) := by
  cases h with
  | gain k w => simp [Tables.commit, finOf_val]
  | route k code ramp => simp [Tables.commit, finOf_val]
  | slotConf k ha ht hl => simp [Tables.commit, finOf_val, commitSlotConf, ha, ht, hl]
  | filter k hf => simp [Tables.commit, finOf_val, hf]
  | lineConf k trim hold => simp [Tables.commit, finOf_val]
  | settings k hv => simp [Tables.commit, finOf_val, commitSetting, hv]
  | noticeConf k he hr => simp [Tables.commit, finOf_val, commitNoticeConf, he, hr]

theorem Tables.Commits.of_commit {T U : Tables} {t : TableId} {e : Nat} {ws : List Word} {c : Bool}
    (h : T.commit t e ws = some (U, c)) : T.Commits t e ws U c := by
  unfold Tables.commit at h
  split at h
  · obtain ⟨k, hk, heq⟩ := Option.map_eq_some_iff.mp h
    cases finOf_eq_some.mp hk
    obtain ⟨rfl, rfl⟩ := Prod.ext_iff.mp heq
    exact .gain k _
  · obtain ⟨k, hk, heq⟩ := Option.map_eq_some_iff.mp h
    cases finOf_eq_some.mp hk
    obtain ⟨rfl, rfl⟩ := Prod.ext_iff.mp heq
    exact .route k _ _
  · obtain ⟨k, hk, heq⟩ := Option.bind_eq_some_iff.mp h
    cases finOf_eq_some.mp hk
    simp only [commitSlotConf, Option.pure_def, Option.bind_eq_bind, Option.bind_eq_some_iff, Option.some.injEq,
      Prod.mk.injEq] at heq
    obtain ⟨a, ha, target, ht, locked, hl, rfl, rfl⟩ := heq
    exact .slotConf k ha ht hl
  · obtain ⟨k, hk, heq⟩ := Option.bind_eq_some_iff.mp h
    cases finOf_eq_some.mp hk
    obtain ⟨f, hf, heq⟩ := Option.map_eq_some_iff.mp heq
    cases heq
    exact .filter k hf
  · obtain ⟨k, hk, heq⟩ := Option.map_eq_some_iff.mp h
    cases finOf_eq_some.mp hk
    obtain ⟨rfl, rfl⟩ := Prod.ext_iff.mp heq
    exact .lineConf k _ _
  · obtain ⟨k, hk, heq⟩ := Option.bind_eq_some_iff.mp h
    cases finOf_eq_some.mp hk
    obtain ⟨v, hv, heq⟩ := Option.map_eq_some_iff.mp heq
    cases heq
    exact .settings k hv
  · obtain ⟨k, hk, heq⟩ := Option.bind_eq_some_iff.mp h
    cases finOf_eq_some.mp hk
    simp only [commitNoticeConf, Option.pure_def, Option.bind_eq_bind, Option.bind_eq_some_iff, Option.some.injEq,
      Prod.mk.injEq] at heq
    obtain ⟨a, ha, b, hb, rfl, rfl⟩ := heq
    exact .noticeConf k ha hb
  · cases h

theorem clampTo_range (lo hi x : Nat) (h : lo ≤ hi) : lo ≤ (clampTo lo hi x).1 ∧ (clampTo lo hi x).1 ≤ hi := by
  simp only [clampTo]; omega

/-- A GAIN commit changes the GAIN table alone. -/
theorem commitGain_eq (T : Tables) (k : Fin 256) (w : Word) :
    commitGain T k w =
      ({ T with gain := T.gain.set k (if k = 0 then 0 else (clampTo 0 65535 w.toNat).1) },
        if k = 0 then true else (clampTo 0 65535 w.toNat).2) := by
  unfold commitGain
  split <;> rfl

/-- A commit leaves the committed target within its range. -/
theorem Tables.Commits.target {T U : Tables} {t : TableId} {e : Nat} {ws : List Word} {c : Bool}
    (h : T.Commits t e ws U c) (ht : T.settings.get Setting.delayTarget ≤ 60000) :
    U.settings.get Setting.delayTarget ≤ 60000 := by
  cases h with
  | gain k w => rw [commitGain_eq]; exact ht
  | settings k hv =>
    rw [get_set]
    split
    · rename_i hk
      obtain rfl : k = 6 := Fin.ext hk
      cases hv
      exact (clampTo_range 0 60000 _ (by omega)).2
    · exact ht
  | _ => exact ht

end Sys2Proof.Machine

/-!
PROOF. What the delay line's own operations, the tables, the reports and the resets keep (R42 to R60, R118, R198 to R208).
-/

namespace Sys2Proof.Machine

/-! ### The exchange (R43 to R52) -/

/-- What the read and store parts of an exchange leave alone of the delay line, and the ranges that go over. -/
structure DelayLine.Moves (d e : DelayLine) : Prop where
  hold : e.hold = d.hold
  target : e.target = d.target
  memory : Memory.wf PgmFrame.silence d.region = true → Memory.wf PgmFrame.silence e.region = true
  readPos : d.readPos < 65536 → e.readPos < 65536

theorem DelayLine.Moves.refl (d : DelayLine) : d.Moves d := ⟨rfl, rfl, id, id⟩

theorem DelayLine.Moves.trans {d e f : DelayLine} (h : d.Moves e) (k : e.Moves f) : d.Moves f :=
  ⟨k.hold.trans h.hold, k.target.trans h.target, k.memory ∘ h.memory, k.readPos ∘ h.readPos⟩

theorem DelayLine.Moves.store (d : DelayLine) (f : PgmFrame) : d.Moves (d.store f) :=
  ⟨rfl, rfl, fun h => Memory.write_wf _ _ _ _ h, id⟩

theorem DelayLine.Moves.give (d : DelayLine) (f : PgmFrame) : d.Moves (d.give f) := ⟨rfl, rfl, id, id⟩

theorem DelayLine.Moves.dropOldest (d : DelayLine) (n : Nat) : d.Moves (d.dropOldest n) :=
  ⟨rfl, rfl, id, fun _ => d.block_lt n⟩

@[simp] theorem DelayLine.store_held (d : DelayLine) (f : PgmFrame) : (d.store f).held = d.held + 1 := rfl
@[simp] theorem DelayLine.dropOldest_held (d : DelayLine) (n : Nat) : (d.dropOldest n).held = d.held - n := rfl

theorem DelayLine.Moves.plain (d : DelayLine) (f : PgmFrame) : d.Moves (d.plain f) := by
  unfold DelayLine.plain
  split
  · exact .give ..
  · exact ((DelayLine.Moves.dropOldest d 1).trans (.store ..)).trans (.give ..)

theorem DelayLine.plain_held (d : DelayLine) (f : PgmFrame) : (d.plain f).held = d.held := by
  unfold DelayLine.plain
  split
  · rfl
  · simp only [give_held, store_held, dropOldest_held]; omega

theorem DelayLine.Moves.spaced (d : DelayLine) (n : Nat) : d.Moves { d with spacing := n } := ⟨rfl, rfl, id, id⟩

theorem DelayLine.Moves.counted (d : DelayLine) (n : Nat) (k : DelayCounters) :
    d.Moves { d with spacing := n, counters := k } := ⟨rfl, rfl, id, id⟩

theorem DelayLine.Moves.build (d : DelayLine) (f : PgmFrame) : d.Moves (d.build f) := by
  unfold DelayLine.build
  split
  · exact ((DelayLine.Moves.store d f).trans (.give _ d.lastGiven)).trans (.counted ..)
  · exact (DelayLine.Moves.spaced d _).trans (.plain ..)

theorem DelayLine.build_held_le (d : DelayLine) (f : PgmFrame) : (d.build f).held ≤ d.held + 1 := by
  unfold DelayLine.build
  split
  · exact le_rfl
  · rw [plain_held]; exact Nat.le_succ _

theorem DelayLine.Moves.shrink (d : DelayLine) (f : PgmFrame) : d.Moves (d.shrink f) := by
  unfold DelayLine.shrink
  split
  · refine DelayLine.Moves.trans (e := if d.held = 1 then (d.dropOldest 1).give f
      else ((d.dropOldest 2).store f).give (d.heldFrame 1)) ?_ (.counted ..)
    split
    · exact (DelayLine.Moves.dropOldest d 1).trans (.give ..)
    · exact ((DelayLine.Moves.dropOldest d 2).trans (.store ..)).trans (.give ..)
  · exact (DelayLine.Moves.spaced d _).trans (.plain ..)

theorem DelayLine.shrink_held_le (d : DelayLine) (f : PgmFrame) : (d.shrink f).held ≤ d.held := by
  unfold DelayLine.shrink
  split
  · rename_i h
    simp only [Bool.and_eq_true, decide_eq_true_eq] at h
    dsimp only
    split
    · simp only [give_held, dropOldest_held]; omega
    · simp only [give_held, store_held, dropOldest_held]; omega
  · rw [plain_held]

theorem DelayLine.Moves.overflow (d : DelayLine) (f : PgmFrame) : d.Moves (d.overflow f) :=
  ((DelayLine.Moves.dropOldest d 1).trans (.store ..)).trans ⟨rfl, rfl, id, id⟩

/-- The exchange in HELD: the arriving frame is kept, in place of the oldest where the region is full. -/
theorem exchangeHeld_delay (f : PgmFrame) (s : State) :
    s.delay.Moves (exchangeHeld f s).delay ∧ (s.delay.held ≤ 65536 → (exchangeHeld f s).delay.held ≤ 65536) := by
  have hbegin (n : Nat) : s.delay.Moves { s.delay with holdExchanges := n, offered := none } := ⟨rfl, rfl, id, id⟩
  unfold exchangeHeld
  dsimp only
  split
  · exact ⟨hbegin _, id⟩
  · split
    · rename_i h
      exact ⟨(hbegin _).trans (.store ..), fun _ => h⟩
    · have hover : s.delay.Moves (({ s.delay with holdExchanges := tick32 s.delay.holdExchanges, offered := none } :
          DelayLine).overflow f) := (hbegin _).trans (.overflow ..)
      have hheld : s.delay.held ≤ 65536 → (({ s.delay with holdExchanges := tick32 s.delay.holdExchanges, offered := none } :
          DelayLine).overflow f).held ≤ 65536 := by
        intro h
        show s.delay.held - 1 + 1 ≤ 65536
        omega
      split
      · exact ⟨hover, hheld⟩
      · rw [latch_delay]
        exact ⟨hover.trans ⟨rfl, rfl, id, id⟩, hheld⟩

/-- Only the delay line, the notices and what was sent change. -/
def State.Delays (s t : State) : Prop := t = { s with delay := t.delay, notices := t.notices, sent := t.sent }

theorem State.Delays.trans {s t u : State} (h : s.Delays t) (k : t.Delays u) : s.Delays u := by
  unfold State.Delays at h k ⊢
  conv_lhs => rw [k, h]

theorem State.Delays.modDelay (s : State) (f : DelayLine → DelayLine) : s.Delays (s.modDelay f) := rfl

theorem State.Delays.derive (s : State) : s.Delays (deriveDelay s) := by
  unfold State.Delays
  rw [deriveDelay_delay]
  exact deriveDelay_frame s

theorem State.Delays.latch (kind : NoticeKind) (detail : List Word) (s : State) : s.Delays (latch kind detail s) := by
  unfold State.Delays
  rw [latch_delay]
  exact latch_frame ..

theorem State.Delays.tables {s t : State} (h : s.Delays t) : t.tables = s.tables := by rw [h]

theorem State.Delays.air {s t : State} (h : s.Delays t) : t.air = s.air := by rw [h]

theorem State.Delays.exchangeHeld (f : PgmFrame) (s : State) : s.Delays (exchangeHeld f s) := by
  unfold Machine.exchangeHeld
  dsimp only
  split
  · exact .modDelay s _
  · split
    · exact (State.Delays.modDelay s _).trans (.modDelay _ _)
    · split
      · exact (State.Delays.modDelay s _).trans (.modDelay _ _)
      · exact (((State.Delays.modDelay s _).trans (.modDelay _ _)).trans (.modDelay _ _)).trans (.latch ..)

theorem State.Delays.exchangeRead (f : PgmFrame) (s : State) : s.Delays (exchangeRead f s) := by
  unfold Machine.exchangeRead
  split
  iterate 4 exact .modDelay s _
  exact .exchangeHeld f s

theorem State.Delays.adoptDelay (s : State) : s.Delays (adoptDelay s) := by
  unfold Machine.adoptDelay
  dsimp only
  split
  · exact .modDelay s _
  · exact ((State.Delays.modDelay s _).trans (.modDelay _ _)).trans (.derive _)

theorem State.Delays.exchangeWork (s : State) : s.Delays (exchangeWork s) :=
  ((State.Delays.adoptDelay s).trans (.exchangeRead ..)).trans (.derive _)

/-- In BUILDING fewer frames are held than the target, so that one more has room. -/
theorem DelayLine.held_lt_of_building {d : DelayLine} {bypass : Bool} (h : d.derived bypass = .building) :
    d.held < d.target := by
  revert h
  unfold DelayLine.derived
  split_ifs <;> simp_all

theorem exchangeRead_delay (f : PgmFrame) {s : State} (h : s.DelayOk) :
    s.delay.Moves (exchangeRead f s).delay ∧ (exchangeRead f s).delay.held ≤ 65536 := by
  unfold exchangeRead
  split
  · exact ⟨.give .., h.held⟩
  · rename_i hstate
    have hlt := DelayLine.held_lt_of_building (h.state.symm.trans hstate)
    have := h.target
    exact ⟨.build .., (s.delay.build_held_le f).trans (by omega)⟩
  · exact ⟨.plain .., (s.delay.plain_held f).le.trans h.held⟩
  · exact ⟨.shrink .., (s.delay.shrink_held_le f).trans h.held⟩
  · exact ⟨(exchangeHeld_delay f s).1, (exchangeHeld_delay f s).2 h.held⟩

theorem exchangeRead_memory (f : PgmFrame) (s : State) (h : Memory.wf PgmFrame.silence s.delay.region = true) :
    Memory.wf PgmFrame.silence (exchangeRead f s).delay.region = true := by
  unfold exchangeRead
  split
  · exact (DelayLine.Moves.give ..).memory h
  · exact (DelayLine.Moves.build ..).memory h
  · exact (DelayLine.Moves.plain ..).memory h
  · exact (DelayLine.Moves.shrink ..).memory h
  · exact (exchangeHeld_delay f s).1.memory h

theorem State.Follows.adoptDelay (s : State) : s.Follows (adoptDelay s) := by
  refine .modDelay (State.Delays.adoptDelay s) ?_ ?_
  all_goals
    unfold Machine.adoptDelay
    dsimp only
    split
  · exact id
  · rw [deriveDelay_delay]; exact id
  · exact fun h => ⟨⟨h.held, h.readPos, h.target, h.setting⟩, h.state, h.hold⟩
  · exact fun h => State.DelayBounds.derive ⟨h.held, h.readPos, h.setting, h.setting⟩ h.hold

theorem State.Follows.exchangeRest (f : PgmFrame) (s : State) : s.Follows (deriveDelay (exchangeRead f s)) := by
  have hframe := State.Delays.exchangeRead f s
  refine .modDelay (hframe.trans (.derive _)) (fun h => ?_) fun h => ?_
  · rw [deriveDelay_delay]; exact exchangeRead_memory f s h
  · obtain ⟨hmoves, hheld⟩ := exchangeRead_delay f h
    refine State.DelayBounds.derive ⟨hheld, hmoves.readPos h.readPos, ?_, ?_⟩ ?_
    · rw [hmoves.target]; exact h.target
    · rw [State.setting, hframe.tables]; exact h.setting
    · rw [hmoves.hold, hframe.air]; exact h.hold

theorem State.Follows.exchangeWork (s : State) : s.Follows (exchangeWork s) :=
  (State.Follows.adoptDelay s).trans (.exchangeRest ..)

/-! ### Bypass and DUMP (R53, R54, R59, R60) -/

theorem State.Airs.setBypass (on : Bool) (s : State) : s.Airs (setBypass on s) := by
  unfold Machine.setBypass
  split
  · exact (State.Leads.refl s).airs
  · dsimp only
    split
    · refine .modAir_delay (fun a => { a with bypass := on }) rfl rfl (fun h => ⟨h.awake, h.marked⟩) fun h => ?_
      rename_i hon
      exact ⟨⟨(Nat.sub_le ..).trans h.held, DelayLine.block_lt .., h.target, h.setting⟩, by
        rw [show on = true from hon]; rfl, h.hold⟩
    · refine .modAir_delay (fun a => { a with bypass := on }) ?_ ?_ (fun h => ⟨h.awake, h.marked⟩) fun h => ?_
      · unfold bypassOff
        rw [deriveDelay_frame]; rfl
      · unfold bypassOff
        rw [deriveDelay_delay]; rfl
      · exact State.DelayBounds.derive ⟨h.held, h.readPos, h.target, h.setting⟩ h.hold

theorem State.Airs.dumpWork (s : State) : s.Airs (dumpWork s) := by
  have hframe := dumpWork_frame s
  refine .modAir_delay id ?_ ?_ id fun h => ?_
  · rw [dumpWork_delay]; exact hframe
  · rw [dumpWork_delay]; rfl
  · have hair : (Machine.dumpWork s).air = s.air := by rw [hframe]
    have htables : (Machine.dumpWork s).tables = s.tables := by rw [hframe]
    refine ⟨⟨?_, ?_, ?_, ?_⟩, ?_, ?_⟩
    · rw [dumpWork_delay]; exact (Nat.sub_le ..).trans h.held
    · rw [dumpWork_delay]; exact h.readPos
    · rw [dumpWork_delay]; exact h.target
    · rw [State.setting, htables]; exact h.setting
    · rw [dumpWork_delay, hair]; rfl
    · rw [dumpWork_delay, hair]; exact h.hold

/-! ### The tables (R198 to R200) -/

/-- A T-WRITE changes the tables and the order unit, and nothing else. -/
def State.Tabulates (s t : State) : Prop := t = { s with tables := t.tables, orders := t.orders }

theorem State.Tabulates.trans {s t u : State} (h : s.Tabulates t) (k : t.Tabulates u) : s.Tabulates u := by
  unfold State.Tabulates at h k ⊢
  conv_lhs => rw [k, h]

theorem State.Follows.of_tables {s t : State} (h : s.Tabulates t) (hwf : s.orders.wf = true → t.orders.wf = true)
    (ht : s.setting Setting.delayTarget ≤ 60000 → t.setting Setting.delayTarget ≤ 60000) : s.Follows t where
  pending := by rw [h]
  memory := by rw [State.memoryWf_iff, State.memoryWf_iff, h]; exact id
  jitter := by rw [h]; exact id
  orders := hwf
  lines := by rw [h]; exact id
  link := by rw [h]; exact id
  store hs := hs.congr (by rw [h]) (by rw [h])
  airing hs := hs.congr (by rw [h]) (by rw [h]) (by rw [h])
  delay hs := by
    have hd : t.delay = s.delay := by rw [h]
    have ha : t.air = s.air := by rw [h]
    exact ⟨⟨hd ▸ hs.held, hd ▸ hs.readPos, hd ▸ hs.target, ht hs.setting⟩, by rw [hd, ha]; exact hs.state,
      by rw [hd, ha]; exact hs.hold⟩

/-- What a T-WRITE in progress has done to the part. -/
structure State.Written (s t : State) : Prop where
  frame : s.Tabulates t
  queue : t.orders.queue = s.orders.queue
  target : s.setting Setting.delayTarget ≤ 60000 → t.setting Setting.delayTarget ≤ 60000

theorem State.Written.refl (s : State) : s.Written s := ⟨rfl, rfl, id⟩

theorem State.Written.trans {s t u : State} (h : s.Written t) (k : t.Written u) : s.Written u :=
  ⟨h.frame.trans k.frame, k.queue.trans h.queue, k.target ∘ h.target⟩

theorem State.Written.modOrders (s : State) (f : OrderUnit → OrderUnit) (h : (f s.orders).queue = s.orders.queue) :
    s.Written (s.modOrders f) := ⟨rfl, h, id⟩

theorem State.Written.completeEntry (staged : List Word) (r : WriteRun) : r.state.Written (completeEntry staged r).state := by
  unfold Machine.completeEntry
  dsimp only
  split
  · rename_i t clamped h
    exact ⟨rfl, rfl, (Tables.Commits.of_commit h).target⟩
  · dsimp only
    exact .modOrders _ _ rfl

theorem State.Written.writeWord (r : WriteRun) (w : Word) : r.state.Written (writeWord r w).state := by
  unfold Machine.writeWord
  split
  · exact .refl _
  · dsimp only
    split
    · exact .completeEntry _ { r with used := r.used + 1 }
    · dsimp only
      exact .modOrders _ _ rfl

theorem State.Written.foldl (ws : List Word) (r : WriteRun) : r.state.Written (ws.foldl Machine.writeWord r).state := by
  induction ws generalizing r with
  | nil => exact .refl _
  | cons w ws ih => exact (State.Written.writeWord r w).trans (ih _)

theorem State.Written.answerTWrite (args : List Word) (s : State) : s.Written (answerTWrite args s).state := by
  unfold Machine.answerTWrite
  split
  · exact .refl s
  · split
    · exact .refl s
    · exact .foldl args ⟨s, 0, 0, .done, false⟩

theorem OrderUnit.wf_congr {u v : OrderUnit} (h : v.queue.length = u.queue.length) : v.wf = u.wf := by
  simp only [OrderUnit.wf, h]

theorem State.Written.follows {s t : State} (h : s.Written t) : s.Follows t :=
  .of_tables h.frame (by rw [OrderUnit.wf_congr (congrArg List.length h.queue)]; exact id) h.target

/-- A change of the order unit outside its queue. -/
theorem State.Serves.modOrders_other {s : State} (f : OrderUnit → OrderUnit) (h : (f s.orders).queue = s.orders.queue) :
    s.Serves (s.modOrders f) :=
  .modOrders f (by rw [OrderUnit.wf_congr (congrArg List.length h)]; exact id)

theorem State.Serves.answerTPoint (args : List Word) (s : State) : s.Serves (answerTPoint args s).state := by
  unfold Machine.answerTPoint
  split
  · split
    · split
      · dsimp only [setPointer]
        exact .modOrders_other _ rfl
      · exact .refl s
    · exact .refl s
  · exact .refl s

theorem State.Serves.readWord (s : State) : s.Serves (readWord s).1 := by
  unfold Machine.readWord
  dsimp only
  split
  all_goals
    dsimp only
    exact .modOrders_other _ rfl

theorem State.Serves.readWords (n : Nat) (s : State) : s.Serves (readWords n s).1 := by
  induction n generalizing s with
  | zero => exact .refl s
  | succ n ih => exact (State.Serves.readWord s).trans (ih _)

theorem State.Serves.answerTRead (args : List Word) (s : State) : s.Serves (answerTRead args s).state := by
  unfold Machine.answerTRead
  split
  · split
    · exact .refl s
    · exact .readWords ..
  · exact .refl s

/-! ### Reports, mask and time (R21, R121, R182, R191, R203, R204) -/

theorem State.Serves.clearCounters (s : State) : s.Serves (clearCounters s) where
  pending := rfl
  memory := id
  jitter := id
  orders := id
  lines h := h.congr (fun _ => rfl) rfl rfl rfl
  link := id
  store h := (State.storeWf_iff _).mpr ⟨h.clips.congr rfl rfl rfl rfl, h.queue, h.alerts, h.recording⟩
  airing h := ⟨h.awake, h.marked⟩
  delay h := ⟨⟨h.held, h.readPos, h.target, h.setting⟩, h.state, h.hold⟩
  region := rfl
  delayRegion := rfl
  frameCount := rfl
  tables := rfl

theorem State.Serves.clearLatches (s : State) : s.Serves (clearLatches s) := (State.Leads.of_notices rfl).serves

theorem State.Serves.answerMask (args : List Word) (s : State) : s.Serves (answerMask args s).state := by
  unfold Machine.answerMask
  split
  · split
    · dsimp only
      exact (State.Mixes.modMix s _).toServes
    · exact .refl s
  · exact .refl s

theorem State.Leads.answerTimeSet (args : List Word) (s : State) : s.Leads (answerTimeSet args s).state := by
  unfold Machine.answerTimeSet
  split
  · split
    · exact State.Leads.trans (.modIntake_other _ rfl (.refl _)) (.queueMessage ..)
    · exact .refl s
  · exact .refl s

theorem State.Leads.answerLinkWake (args : List Word) (s : State) : s.Leads (answerLinkWake args s).state := by
  unfold Machine.answerLinkWake noArgs
  split
  · dsimp only
    split
    · exact (State.Leads.wakeOrAbort 4 s).trans (.select _)
    · exact .wakeOrAbort 4 s
    all_goals exact .refl s
  · exact .refl s

theorem State.Leads.answerLinkStatus (args : List Word) (s : State) : s.Leads (answerLinkStatus args s).state := by
  unfold Machine.answerLinkStatus
  split
  · dsimp only
    exact .modLink_other _ rfl rfl rfl rfl le_rfl
  · exact .refl s

/-! ### The player orders (R109 to R111) -/

theorem State.Mixes.cueSlot (p : Fin 3) (n : Fin 32) (s : State) : s.Mixes (cueSlot p n s).state := by
  unfold Machine.cueSlot
  split
  · rename_i h
    simp only [Bool.and_eq_true] at h
    exact .holdSlot .cued h.2
  · exact .refl s

theorem State.Mixes.startCued (p : Fin 3) (s : State) : s.Mixes (startCued p s).state := by
  unfold Machine.startCued
  split
  · exact (State.Mixes.modPlayer p _ s).trans (.stampSlot ..)
  · exact .refl s

theorem State.Mixes.startSlot (p : Fin 3) (n : Fin 32) (s : State) : s.Mixes (startSlot p n s).state := by
  unfold Machine.startSlot
  split
  · rename_i h
    simp only [Bool.and_eq_true] at h
    exact .runSlot h.2
  · exact .refl s

/-! ### Orders arriving, frame periods (R1, R195, R202) -/

theorem State.Leads.sendReply (dest : MacAddress) (tag : BitVec 16) (code : Byte) (result : Nat) (ws : List Word)
    (s : State) : s.Leads (sendReply dest tag code result ws s) := by
  rw [sendReply_eq]
  exact .of_notices rfl

theorem State.Serves.orderArrives (src : MacAddress) (frame : List Byte) (s : State) :
    s.Serves (orderArrives src frame s) := by
  have hcount : s.Serves (countMalformedOrder s) := .modOrders_other _ rfl
  unfold Machine.orderArrives
  split
  · dsimp only
    split
    · unfold queueOrder
      split
      · rename_i hroom
        refine .modOrders _ fun _ => ?_
        simp only [Config.orderQueueSize] at hroom
        simp only [OrderUnit.wf, Config.orderQueueSize, List.length_append, List.length_singleton, decide_eq_true_eq]
        omega
      · exact State.Serves.trans (.modOrders_other _ rfl) (State.Leads.sendReply ..).serves
    · exact hcount
  iterate 3 exact .refl s
  exact hcount

theorem State.Follows.modFrameCount (s : State) (f : BitVec 32 → BitVec 32) : s.Follows (s.modFrameCount f) :=
  ⟨rfl, id, id, id, id, id, fun h => h.congr rfl rfl, fun h => h.congr rfl rfl rfl, fun h => h.congr rfl rfl rfl rfl⟩

theorem State.Leads.noticePeriod (s : State) : s.Leads (noticePeriod s) := by
  unfold Machine.noticePeriod
  dsimp only
  split
  · exact .of_notices rfl
  · split
    · exact .of_notices rfl
    · split
      · exact .of_notices rfl
      · exact .of_notices rfl

theorem State.Follows.periodWork (s : State) : s.Follows (periodWork s) := by
  refine State.Follows.trans ?_ (State.Leads.noticePeriod _).toReaches.follows
  refine State.Follows.trans (t := (s.modFrameCount fun n => n + 1).modOrders OrderUnit.nextPeriod) ?_ ?_
  · refine (State.Follows.modFrameCount s _).trans (State.Serves.modOrders _ ?_).toFollows
    rw [OrderUnit.wf_congr (OrderUnit.nextPeriod_queue_length _)]
    exact id
  · exact (State.Leads.modQueue _ (AlertRecord.holdAge (s.frameCount + 1)) rfl (fun r => r.key_holdAge _) (fun _ => rfl)
      ⟨rfl, rfl, rfl, Iff.rfl⟩).toReaches.follows

/-! ### The resets (R205, R206) -/

theorem State.reset_airingWf : State.reset.AiringWf :=
  (State.airingWf_iff _).mpr ⟨by decide +kernel, by decide +kernel⟩

theorem State.reset_delayOk : State.reset.DelayOk :=
  (State.delayOk_iff _).mpr ⟨by decide +kernel, by decide +kernel⟩

theorem State.reset_storeWf : State.reset.StoreWf :=
  ⟨by decide +kernel, by decide +kernel, by decide +kernel, by decide +kernel, by decide +kernel, by decide +kernel⟩

theorem State.reset_linesAgree : State.reset.line.agrees = true := by decide +kernel

theorem State.reset_linkWf : State.reset.link.wf = true := by decide +kernel

theorem State.reset_jitterWf : State.reset.studio.queueWf = true := by decide +kernel

theorem State.reset_ordersWf : State.reset.orders.wf = true := by decide +kernel

theorem State.Follows.powerOn (s : State) : s.Follows (powerOn s) where
  pending := rfl
  memory _ := State.reset_memoryWf
  jitter _ := State.reset_jitterWf
  orders _ := State.reset_ordersWf
  lines _ := (LineUnit.agrees_iff _).mp State.reset_linesAgree
  link _ := State.reset_linkWf
  store _ := State.reset_storeWf.congr rfl rfl
  airing _ := State.reset_airingWf.congr rfl rfl rfl
  delay _ := State.reset_delayOk.congr rfl rfl rfl rfl

end Sys2Proof.Machine

/-!
PROOF. RESTART, block by block, and the agreements of every block after every step (R118, R206; section 10.7).
-/

namespace Sys2Proof.Machine

/-! ### RESTART on the clip store (R118) -/

/-- The states that a RESTART empties. -/
def SlotState.loading : SlotState → Bool
  | .filling | .recording | .alertHeld => true
  | .empty | .ready => false

/-- A slot once emptied. -/
def Slot.emptied (t : Slot) : Slot := { t with state := .empty, length := 0, chain := [], useCount := 0 }

/-- A slot in loading or alert use is emptied. -/
def ClipStore.clearLoading (c : ClipStore) (n : Fin 32) : ClipStore :=
  if (c.slots.get n).state.loading then c.emptySlot n else c

/-- The store of a RESTART before its slots are emptied: no burst, no holds. -/
def ClipStore.freed (c : ClipStore) : ClipStore :=
  { c.replaceFill .nothing with
    channelHeld := false
    holds := Vector.replicate 4 none
    slots := (c.replaceFill .nothing).slots.map fun t => { t with useCount := 0 } }

theorem ClipStore.clearLoading_eq (c : ClipStore) (n : Fin 32) :
    c.clearLoading n =
      { c with
        free := c.free ++ if (c.slots.get n).state.loading then (c.slots.get n).chain else []
        slots := (c.clearLoading n).slots } := by
  unfold clearLoading
  split
  · rw [emptySlot_eq]
  · simp

theorem ClipStore.clearLoading_get (c : ClipStore) (n m : Fin 32) :
    (c.clearLoading n).slots.get m =
      if m = n ∧ (c.slots.get m).state.loading then (c.slots.get m).emptied else c.slots.get m := by
  unfold clearLoading
  by_cases hm : m = n
  · subst hm
    split
    · rename_i h; rw [emptySlot_get]; simp [h, Slot.emptied]
    · rename_i h; simp [h]
  · split
    · rw [emptySlot_get]; simp [hm]
    · simp [hm]

/-- The slots emptied in turn: the chains of those that are loading return to the list. -/
theorem ClipStore.foldl_clearLoading (l : List (Fin 32)) (hl : l.Nodup) (c : ClipStore) :
    l.foldl ClipStore.clearLoading c =
        { c with
          free := c.free ++ l.flatMap fun n => if (c.slots.get n).state.loading then (c.slots.get n).chain else []
          slots := (l.foldl ClipStore.clearLoading c).slots } ∧
      ∀ m, (l.foldl ClipStore.clearLoading c).slots.get m =
        if m ∈ l ∧ (c.slots.get m).state.loading then (c.slots.get m).emptied else c.slots.get m := by
  induction l generalizing c with
  | nil => exact ⟨by simp, by simp⟩
  | cons n l ih =>
    obtain ⟨hn, hl⟩ := List.nodup_cons.mp hl
    obtain ⟨heq, hget⟩ := ih hl (c.clearLoading n)
    have hrest : (l.flatMap fun m => if ((c.clearLoading n).slots.get m).state.loading then
        ((c.clearLoading n).slots.get m).chain else []) =
        l.flatMap fun m => if (c.slots.get m).state.loading then (c.slots.get m).chain else [] := by
      refine List.flatMap_congr fun m hm => ?_
      have hne : m ≠ n := fun e => hn (e ▸ hm)
      rw [clearLoading_get]
      simp [hne]
    rw [List.foldl_cons]
    refine ⟨?_, fun m => ?_⟩
    · conv_lhs => rw [heq, hrest]
      generalize (List.foldl clearLoading (c.clearLoading n) l).slots = slots
      rw [clearLoading_eq]
      simp [List.append_assoc]
    · rw [hget, clearLoading_get]
      by_cases hm : m = n
      · subst hm
        by_cases h : (c.slots.get m).state.loading = true <;> simp [h, hn]
      · simp [hm]

theorem restartClips_eq (s : State) :
    restartClips s =
      { s with
        clips := (List.finRange 32).foldl ClipStore.clearLoading s.clips.freed
        players := Vector.replicate 3 Player.idle } := by
  have hstep : (fun (c : ClipStore) (n : Fin 32) =>
      match (c.slots.get n).state with
      | .filling | .recording | .alertHeld => c.emptySlot n
      | .empty | .ready => c) = ClipStore.clearLoading := by
    funext c n
    unfold ClipStore.clearLoading
    cases (c.slots.get n).state <;> rfl
  unfold restartClips
  generalize List.finRange 32 = l
  rw [← hstep]
  rfl

theorem ClipStore.freed_get (c : ClipStore) (n : Fin 32) : c.freed.slots.get n = { c.slots.get n with useCount := 0 } := by
  simp [freed, replaceFill_slots, Vector.get_eq_getElem]

theorem ClipStore.freed_holds (c : ClipStore) (r : Reader) : c.freed.holds.get r = none := by
  simp [freed, Vector.get_eq_getElem]

theorem ClipStore.freed_fill (c : ClipStore) : c.freed.fill = .nothing := by
  rw [freed, replaceFill_eq]

/-- With every hold gone the counts stand. -/
theorem ClipStore.Sound.freed {c : ClipStore} (h : c.Sound) : c.freed.Sound := by
  have hfree := h.replaceFill (next := .nothing) nofun
  refine ⟨fun p => ?_, fun n => ?_, fun n hn => ?_, fun n r hr => ?_, fun b hb => ?_⟩
  · have := hfree.pages p
    simp only [freed_get]
    rw [replaceFill_slots] at this
    exact this
  · rw [freed_get]
    simp [freed_holds]
  · rw [freed_get] at hn ⊢
    exact h.empty n hn
  · rw [freed_holds] at hr; cases hr
  · rw [freed_fill] at hb; cases hb

/-- Emptying the loading slots, none of them held and no burst in flight, keeps the counts. -/
theorem ClipStore.Sound.foldl_clearLoading {c : ClipStore} (h : c.Sound) (hu : ∀ n, (c.slots.get n).useCount = 0)
    (hf : c.fill = .nothing) (l : List (Fin 32)) : (l.foldl ClipStore.clearLoading c).Sound := by
  induction l generalizing c with
  | nil => exact h
  | cons n l ih =>
    refine ih ?_ (fun m => ?_) ?_
    · unfold clearLoading
      split
      · exact h.emptySlot (hu n) fun b hb => by rw [hf] at hb; cases hb
      · exact h
    · rw [clearLoading_get]
      split
      · rfl
      · exact hu m
    · rw [clearLoading_eq]; exact hf

/-- A RESTART leaves alert intake and the clip store in agreement: no record, no alert slot. -/
theorem State.StoreWf.restart {s t : State} (h : s.StoreWf)
    (hc : t.clips = (List.finRange 32).foldl ClipStore.clearLoading s.clips.freed) (hq : t.intake.queue = [])
    (hr : t.intake.recording = Recording.idle) : t.StoreWf := by
  have hget (n : Fin 32) : (t.clips.slots.get n).state.alert = false := by
    rw [hc, (ClipStore.foldl_clearLoading _ (List.nodup_finRange 32) _).2 n]
    simp only [List.mem_finRange, true_and]
    split
    · rfl
    · rename_i hl
      revert hl
      cases (s.clips.freed.slots.get n).state <;> simp [SlotState.loading, SlotState.alert]
  refine t.storeWf_iff.mpr ⟨?_, ?_, ?_, ?_⟩
  · rw [hc]
    exact h.clips.freed.foldl_clearLoading (fun n => by rw [ClipStore.freed_get]) s.clips.freed_fill _
  · rw [AlertIntake.queueWf_iff, hq]
    exact ⟨Nat.zero_le _, by simp, by simp⟩
  · rw [State.alertSlotsWf_iff]
    intro n
    rw [hget, AlertIntake.naming, hq]
    rfl
  · rw [State.recordingWf_iff, hr]
    exact .inr ⟨rfl, rfl, rfl⟩

/-- With every line IDLE and the shared items clear the line unit agrees. -/
theorem LineUnit.Agrees.of_idle {l : LineUnit} (h : ∀ k, (l.line k).state = .idle) (hr : l.ready = [])
    (hs : l.screening = none) (ho : l.onAir = 0) : l.Agrees :=
  ⟨by simp [hr], by simp [hr, h], by simp [hs, h], by simp [ho, h]⟩

theorem restartAll_clips (s : State) :
    (restartAll s).clips = (List.finRange 32).foldl ClipStore.clearLoading s.clips.freed := by
  have hclips : (restartLines (restartDelay (restartMix (restartStudio s)))).clips = s.clips := rfl
  unfold restartAll restartLink restartAir restartIntake
  rw [State.modLink_clips, State.modAir_clips, State.modIntake_clips, restartClips_eq, ← hclips]

theorem restartAll_region (s : State) : (restartAll s).clips.region = s.clips.region := by
  rw [restartAll_clips, (ClipStore.foldl_clearLoading _ (List.nodup_finRange 32) _).1]
  exact s.clips.replaceFill_region _

theorem restartAll_line (s : State) (k : Fin 6) : (restartAll s).line.line k = ⟨.idle, 0, 0, 0⟩ := by
  show (Vector.replicate 6 (⟨.idle, 0, 0, 0⟩ : Line)).get k = _
  simp [Vector.get_eq_getElem]

theorem State.Serves.restartAll (s : State) : s.Serves (restartAll s) where
  pending := rfl
  memory := by
    rw [State.memoryWf_iff, State.memoryWf_iff, restartAll_region]
    exact id
  jitter _ := StudioInput.queueWf_of_empty rfl
  orders := id
  lines _ := .of_idle (fun k => by rw [restartAll_line]) rfl rfl rfl
  link _ := (LinkUnit.wf_iff _).mpr ⟨Nat.zero_le _, Nat.zero_le _, rfl, Nat.zero_le _⟩
  store h := h.restart (restartAll_clips s) rfl rfl
  airing _ := ⟨nofun, nofun⟩
  delay h := ⟨⟨(Nat.sub_le ..).trans h.held, DelayLine.block_lt .., h.target, h.setting⟩, rfl, rfl⟩
  region := restartAll_region s
  delayRegion := rfl
  frameCount := rfl
  tables := rfl

end Sys2Proof.Machine

/-!
PROOF. What every row keeps, put together, and the statements about every step (O54 to O60, and O1, O13).
-/

namespace Sys2Proof.Machine

/-! ### Every row -/

/-- A property that goes over along `State.Serves` is kept by every order but T-WRITE. -/
theorem keptByOrders_of_serves {P : State → Prop} (h : ∀ u v : State, u.Serves v → P u → P v) : KeptByOrders P where
  sent s o hs := h s _ (State.Leads.of_notices rfl).serves hs
  dequeue s o rest hq hs := by
    refine h s _ (State.Serves.modOrders _ fun hw => ?_) hs
    simp only [OrderUnit.wf, hq, List.length_cons, decide_eq_true_eq] at hw ⊢
    omega
  refused s n hs := h s _ (.modOrders_other _ rfl) hs
  restart s hs := h s _ (.restartAll s) hs
  tPoint args s hs := h s _ (.answerTPoint args s) hs
  tRead args s hs := h s _ (.answerTRead args s) hs
  status s hs := h s _ (.clearLatches s) hs
  mask args s hs := h s _ (.answerMask args s) hs
  counters s hs := h s _ (.clearCounters s) hs
  timeSet args s hs := h s _ (State.Leads.answerTimeSet args s).serves hs
  bypass on s hs := h s _ (State.Airs.setBypass on s).serves hs
  dump s hs := h s _ (State.Airs.dumpWork s).serves hs
  lineAnswer k s hs := h s _ (State.Rings.answerLine k s).mixes.toServes hs
  lineHold k s hs := h s _ (State.Rings.holdLine k s).mixes.toServes hs
  lineReady k s hs := h s _ (State.Rings.readyLine k s).mixes.toServes hs
  lineTake k s hs := h s _ (State.Rings.takeLine k s).mixes.toServes hs
  lineTakeHead s hs := h s _ (State.Rings.takeHead s).mixes.toServes hs
  lineDrop k s hs := h s _ (State.Rings.dropLine k s).mixes.toServes hs
  lineTag k v s hs := h s _ (State.Rings.tagLine k v s).mixes.toServes hs
  clipOpen args s hs := h s _ (State.Leads.answerClipOpen args s).serves hs
  clipAbort args s hs := h s _ (State.Leads.answerClipAbort args s).serves hs
  clipErase args s hs := h s _ (State.Leads.answerClipErase args s).serves hs
  cue p n s hs := h s _ (State.Mixes.cueSlot p n s).toServes hs
  startCued p s hs := h s _ (State.Mixes.startCued p s).toServes hs
  startSlot p n s hs := h s _ (State.Mixes.startSlot p n s).toServes hs
  idle p s hs := h s _ (State.Mixes.idlePlayer p s).toServes hs
  release i s hs := h s _ (State.Leads.recordLeaves i s).serves hs
  cancel i s hs := h s _ (State.Airs.cancelRecord i s).serves hs
  test r s hs := h s _ (State.Leads.intakeHeader r s).serves hs
  breakOrder s hs := h s _ (State.Leads.breakEvent s).serves hs
  sleep s ha hs := h s _ (State.Leads.startSleep ha).serves hs
  wake args s hs := h s _ (State.Leads.answerLinkWake args s).serves hs
  linkStatus args s hs := h s _ (State.Leads.answerLinkStatus args s).serves hs

/-- A property that goes over along `State.Follows` is kept by every row. -/
theorem keptByRows_of_follows {P : State → Prop} (h : ∀ u v : State, u.Follows v → P u → P v) : KeptByRows P where
  toKeptByOrders := keptByOrders_of_serves fun u v huv => h u v huv.toFollows
  powerOn s hs := h s _ (.powerOn s) hs
  period s hs := h s _ (.periodWork s) hs
  programme body s hs := h s _ (State.Mixes.programmeArrives body s).toFollows hs
  order src frame s hs := h s _ (State.Serves.orderArrives src frame s).toFollows hs
  fill body s hs := h s _ (.fillArrives body s) hs
  fillCheck src body s hs := h s _ (State.Leads.fillCheckArrives src body s).toReaches.follows hs
  lines slots s hs := h s _ (State.Rings.lineWork slots s).mixes.toFollows hs
  mix s hs := h s _ (State.Mixes.mixWork s).toFollows hs
  exchange s hs := h s _ (.exchangeWork s) hs
  air s hs := h s _ (State.Airs.airWork s).serves.toFollows hs
  send s hs := h s _ (State.Leads.sendWork s).toReaches.follows hs
  returns frame s hs := h s _ (State.Leads.returnArrives frame s).toReaches.follows hs
  header rest s hs := h s _ (State.Leads.headerArrives rest s).toReaches.follows hs
  audioBegin rest s hs := h s _ (State.Leads.audioBeginArrives rest s).toReaches.follows hs
  audioEnd rest s hs := h s _ (State.Leads.audioEndArrives rest s).toReaches.follows hs
  intakeError s hs := h s _ (State.Leads.countIntake (fun k => { k with error := bump k.error 1 }) s).toReaches.follows hs
  alert audio s hs := h s _ (State.Reaches.alertWork audio s).follows hs
  tWrite args s hs := h s _ (State.Written.answerTWrite args s).follows hs

/-- The work of a row goes on along `State.Follows`. -/
theorem State.Follows.work (c : Instr) (s : State) : s.Follows (work c s) :=
  (keptByRows_of_follows fun _ _ huv hu => hu.trans huv).work c s (.refl s)

/-- A step goes on along `State.Follows`, so far as a property says nothing of the commands that wait. -/
theorem step_keeps {P : State → Prop} (hp : ∀ s rest, P s → P { s with pending := rest })
    (h : ∀ u v : State, u.Follows v → P u → P v) {s t : State} (hs : P s) (hstep : step s = .next t) : P t :=
  (keptByRows_of_follows h).step hp hs hstep

/-! ### The statements about every step -/

/-- Settles O56: the invariants of DRAM, jitter queue, order queue and link go over along every row. -/
theorem stepKeepsQueuesAndCounts : Obligations.StepKeepsQueuesAndCounts := by
  refine ⟨fun s t hm hj ho hstep => ?_, fun s t hl hstep => ?_⟩
  · exact step_keeps (P := fun s => s.memoryWf = true ∧ s.studio.queueWf = true ∧ s.orders.wf = true)
      (fun _ _ h => h) (fun u v huv ⟨hm, hj, ho⟩ => ⟨huv.memory hm, huv.jitter hj, huv.orders ho⟩) ⟨hm, hj, ho⟩ hstep
  · exact step_keeps (P := fun s => s.link.wf = true) (fun _ _ h => h) (fun _ _ huv => huv.link) hl hstep

/-- Settles O57: the derived delay state and the hold's agreement with the air state go over along every row. -/
theorem stepKeepsDelayState : Obligations.StepKeepsDelayState := by
  intro s t hd hh hstep
  exact t.delayOk_iff.mp (step_keeps (P := State.DelayOk) (fun _ _ h => h.congr rfl rfl rfl rfl) (fun _ _ huv => huv.delay)
    (s.delayOk_iff.mpr ⟨hd, hh⟩) hstep)

/-- Settles O58: the line unit's agreement, by membership and by count, goes over along every row. -/
theorem stepKeepsLinesAgreed : Obligations.StepKeepsLinesAgreed := by
  intro s t h hstep
  exact t.line.agrees_iff.mpr (step_keeps (P := fun s => s.line.Agrees) (fun _ _ h => h) (fun _ _ huv => huv.lines)
    (s.line.agrees_iff.mp h) hstep)

/-- Settles O59: the agreement of the clip store and alert intake goes over along every row. -/
theorem stepKeepsStore : Obligations.StepKeepsStore := fun _ _ h hstep =>
  step_keeps (P := State.StoreWf) (fun _ _ h => h.congr rfl rfl) (fun _ _ huv => huv.store) h hstep

/-- Settles O60: the link awake through an airing, and the on-air mark, go over along every row. -/
theorem stepKeepsAiring : Obligations.StepKeepsAiring := by
  intro s t ha hm hstep
  exact t.airingWf_iff.mp (step_keeps (P := State.AiringWf) (fun _ _ h => h.congr rfl rfl rfl) (fun _ _ huv => huv.airing)
    (s.airingWf_iff.mpr ⟨ha, hm⟩) hstep)

/-- Settles O55: each agreement is evaluated at the reset state. -/
theorem resetIsSafe : Obligations.ResetIsSafe :=
  ⟨{ memory := State.reset_memoryWf
     jitter := State.reset_jitterWf
     delay := (State.delayOk_iff _).mp State.reset_delayOk |>.1
     lines := State.reset_linesAgree
     store := State.reset_storeWf
     link := State.reset_linkWf
     orders := State.reset_ordersWf },
    (State.delayOk_iff _).mp State.reset_delayOk |>.2, (State.airingWf_iff _).mp State.reset_airingWf⟩

/-- Settles O1: every command is the work of its row, and no row touches the commands that wait. -/
theorem stepRunsFrontCommand : Obligations.StepRunsFrontCommand := by
  refine ⟨fun s => ⟨fun c rest h => ?_, fun h => ?_⟩, fun c s => ⟨_, exec_eq c s, (State.Follows.work c s.cleared).pending⟩⟩
  · rw [step, h]; rfl
  · rw [step, h]

/-- Settles O13: each item is evaluated at the reset state. -/
theorem powerOnResetLeaves : Obligations.PowerOnResetLeaves := by
  refine ⟨fun s => rfl, State.reset, rfl, ?_⟩
  decide +kernel

/-! ### What each command leaves alone -/

/-- An order leaves the DRAM and the frame count alone, and, T-WRITE apart, the tables. -/
theorem work_order {c : Instr} (hc : c ∈ orderRows.map Prod.fst) (s : State) :
    (work c s).clips.region = s.clips.region ∧ (work c s).delay.region = s.delay.region ∧
      (work c s).frameCount = s.frameCount ∧ (c ≠ .tWrite → (work c s).tables = s.tables) := by
  have hserves : c ≠ .tWrite → s.Serves (work c s) := fun hne =>
    (keptByOrders_of_serves (P := s.Serves) fun _ _ huv hu => hu.trans huv).work hc (fun h => absurd h hne) s (.refl s)
  by_cases hw : c = .tWrite
  · have hkept : KeptByOrders fun t => t.clips.region = s.clips.region ∧ t.delay.region = s.delay.region ∧
        t.frameCount = s.frameCount :=
      keptByOrders_of_serves fun u v huv ⟨hr, hd, hf⟩ =>
        ⟨huv.region.trans hr, huv.delayRegion.trans hd, huv.frameCount.trans hf⟩
    obtain ⟨hr, hd, hf⟩ := hkept.work hc (fun _ args u ⟨hr, hd, hf⟩ => by
      have h := (State.Written.answerTWrite args u).frame
      exact ⟨by rw [h]; exact hr, by rw [h]; exact hd, by rw [h]; exact hf⟩) s ⟨rfl, rfl, rfl⟩
    exact ⟨hr, hd, hf, fun hne => absurd hw hne⟩
  · have h := hserves hw
    exact ⟨h.region, h.delayRegion, h.frameCount, fun _ => h.tables⟩

theorem whenDue_rel {R : State → State → Prop} (hrefl : ∀ s, R s s) {f : State → State} (h : ∀ s, R s (f s))
    (due : State → Bool) (s : State) : R s (whenDue due f s) := by
  unfold whenDue
  split
  · exact h s
  · exact hrefl s

theorem work_airRows {c : Instr} (hc : c ∈ airRows) (s : State) : s.Airs (work c s) := by
  have hdue := whenDue_rel (R := State.Airs) (fun s => (State.Leads.refl s).airs) State.Airs.airWork
  simp only [airRows, List.mem_cons, List.not_mem_nil, or_false] at hc
  obtain rfl | rfl | rfl | rfl | rfl | rfl := hc
  · exact .airWork s
  all_goals
    unfold work
    exact hdue _ s

theorem work_sendRows {c : Instr} (hc : c ∈ sendRows) (s : State) : s.Leads (work c s) := by
  have hdue := whenDue_rel (R := State.Leads) State.Leads.refl State.Leads.sendWork
  simp only [sendRows, List.mem_cons, List.not_mem_nil, or_false] at hc
  obtain rfl | rfl | rfl | rfl | rfl | rfl | rfl | rfl | rfl | rfl | rfl := hc
  · exact .sendWork s
  all_goals
    unfold work
    exact hdue _ s

/-- A command's next state is the work of its row. -/
theorem exec_next {c : Instr} {s t : State} (h : exec c s = .next t) : t = work c s.cleared := by
  rw [exec_eq] at h
  exact (Host.Outcome.next.inj h).symm

/-- Settles O54: by the relation of each family of rows. -/
theorem commandsKeepOtherBlocks : Obligations.CommandsKeepOtherBlocks := by
  intro c s t h
  obtain rfl := exec_next h
  refine ⟨fun hc => ?_, fun hc => ?_, fun ⟨audio, hc⟩ => ?_, fun ⟨k, slots, hc⟩ => ?_, fun hc => ?_, fun hc => ?_, fun hc => ?_⟩
  · have h := work_airRows hc s.cleared
    exact ⟨h.frame, h.region, h.delayRegion⟩
  · have h : s.cleared.Leads (work c s.cleared) := by
      rcases hc with hc | ⟨frame, rfl⟩ | ⟨rest, rfl | rfl⟩
      · exact work_sendRows hc _
      · exact .returnArrives ..
      · exact .headerArrives ..
      · exact .audioEndArrives ..
    exact ⟨h.frame, h.region⟩
  · have hdue := whenDue_rel State.Reaches.refl (State.Reaches.alertWork audio)
    have h : s.cleared.Reaches (work c s.cleared) := by
      simp only [List.mem_cons, List.not_mem_nil, or_false] at hc
      obtain rfl | rfl | rfl | rfl := hc
      · exact .alertWork ..
      all_goals
        unfold work
        exact hdue _ _
    exact h.frame
  · have hdue := whenDue_rel State.Rings.refl (State.Rings.lineWork slots)
    have h : s.cleared.Rings (work c s.cleared) := by
      simp only [List.mem_cons, List.not_mem_nil, or_false] at hc
      obtain rfl | rfl | rfl := hc
      · exact .lineWork ..
      all_goals
        unfold work
        exact hdue _ _
    exact h.frame
  · have h : s.cleared.Delays (work c s.cleared) := by
      rw [hc]
      unfold work
      exact .exchangeWork _
    exact h
  · have h : s.cleared.Mixes (work c s.cleared) := by
      rw [hc]
      unfold work
      exact .mixWork _
    exact ⟨h.region, h.delayLine, h.tables, h.orderUnit⟩
  · exact work_order hc s.cleared

end Sys2Proof.Machine

/-!
PROOF. The order exchange: replies in parts, the arrival of an ORDER frame, and the taking of an order (R195 to R197, R205,
R207, R209; sections 10.1, 10.2, 11.2).
-/

namespace Sys2Proof.Machine

/-! ### Replies in parts (R209) -/

/-- The number of parts of a reply. -/
def partCount (ws : List Word) : Nat := max 1 ((ws.length + 239) / 240)

/-- The parts of a reply, by their number. -/
def partsOf (ws : List Word) : List (List Word) :=
  (List.range (partCount ws)).map fun i => (ws.drop (240 * i)).take 240

theorem partsOf_short {ws : List Word} (h : ws.length ≤ 240) : partsOf ws = [ws] := by
  have hone : partCount ws = 1 := by unfold partCount; omega
  simp [partsOf, hone, List.take_of_length_le h]

theorem partsOf_long {ws : List Word} (h : 240 < ws.length) : partsOf ws = ws.take 240 :: partsOf (ws.drop 240) := by
  have hcount : partCount ws = partCount (ws.drop 240) + 1 := by
    simp only [partCount, List.length_drop]; omega
  rw [partsOf, partsOf, hcount, List.range_succ_eq_map, List.map_cons, List.map_map]
  refine congrArg₂ _ rfl (List.map_congr_left fun i _ => ?_)
  rw [Function.comp_apply, List.drop_drop, Nat.mul_succ, Nat.add_comm]

theorem replyParts_eq (m : Nat) (ws : List Word) (h : ws.length ≤ m) : replyParts m ws = partsOf ws := by
  induction m generalizing ws with
  | zero => exact (partsOf_short (by omega)).symm
  | succ m ih =>
    by_cases hws : ws.length ≤ 240
    · rw [partsOf_short hws]; exact if_pos hws
    · rw [partsOf_long (by omega), ← ih (ws.drop 240) (by simp only [List.length_drop]; omega)]
      exact if_neg hws

/-- Settles O4: the parts are the runs of 240 words, by induction on the bound. -/
theorem repliesSplitAt240 : Obligations.RepliesSplitAt240 := by
  intro dest tag code result ws s n
  have hparts : (partsOf ws).length = n := by simp [partsOf, n, partCount]
  have hframes : ((partsOf ws).zipIdx.map fun p =>
      studioFrame (some dest) (replyFrame tag code result p.2 (p.2 + 1 = (partsOf ws).length) p.1)) =
      (List.range n).map fun i =>
        ⟨some dest, 0x88B5, padded (replyFrame tag code result i (i + 1 = n) ((ws.drop (240 * i)).take 240))⟩ := by
    refine List.ext_getElem (by simp [hparts]) fun i h₁ h₂ => ?_
    simp [hparts, studioFrame, Config.etherType]
    simp [partsOf]
  rw [sendReply_eq, replyParts_eq _ _ le_rfl, hframes]

/-! ### The arrival of an ORDER frame (R195, R207, R209) -/

/-- Words read back from their bytes. -/
theorem wordsAt_flatMap {bytes : List Byte} {i : Nat} {ws : List Word} (h : bytes.drop i = ws.flatMap wordBytes) :
    wordsAt bytes i ws.length = ws := by
  refine List.ext_getElem (by simp [wordsAt]) fun k h₁ h₂ => ?_
  have hchunk : (bytes.drop (i + 6 * k)).take 6 = wordBytes ws[k] := by
    rw [← List.drop_drop, h, take_drop_flatMap wordBytes wordBytes_length ws k h₂]
  have hvalue : beAt bytes (i + 6 * k) 6 = ws[k].toNat := by
    rw [beAt, hchunk]
    have := beAt_beBytes 6 ws[k].toNat ws[k].isLt
    rwa [beAt, List.drop_zero, List.take_of_length_le (by simp)] at this
  simp [wordsAt, hvalue]

/-- The two bytes of a number, read as one. -/
theorem ofNat_beAt_two (bytes : List Byte) (i : Nat) (h : i + 2 ≤ bytes.length) :
    BitVec.ofNat 16 (beAt bytes i 2) = byteAt bytes i ++ byteAt bytes (i + 1) := by
  have hdrop : (bytes.drop i).take 2 = [byteAt bytes i, byteAt bytes (i + 1)] := by
    refine List.ext_getElem (by simp; omega) fun k h₁ h₂ => ?_
    have hk : k = 0 ∨ k = 1 := by simp at h₂; omega
    rcases hk with rfl | rfl <;> simp [byteAt, List.getD_eq_getElem?_getD] <;>
      rw [List.getElem?_eq_getElem (by omega)] <;> rfl
  rw [beAt, hdrop]
  refine BitVec.eq_of_toNat_eq ?_
  rw [BitVec.toNat_append, ← Nat.shiftLeft_add_eq_or_of_lt (byteAt bytes (i + 1)).isLt, BitVec.toNat_ofNat]
  have h₀ := (byteAt bytes i).isLt
  have h₁ := (byteAt bytes (i + 1)).isLt
  simp only [List.foldl_cons, List.foldl_nil, Nat.shiftLeft_eq]
  omega

/-- An ORDER frame as section 11.2 lays it out. -/
def orderBytes (tag : BitVec 16) (code : Byte) (ws : List Word) : List Byte :=
  [0x02, BitVec.ofNat 8 ws.length] ++ beBytes 2 tag.toNat ++ [code, 0] ++ ws.flatMap wordBytes

theorem orderBytes_length (tag : BitVec 16) (code : Byte) (ws : List Word) :
    (orderBytes tag code ws).length = 6 + 6 * ws.length := by
  simp [orderBytes, List.length_flatMap, Nat.mul_comm]
  omega

theorem orderBytes_eq (tag : BitVec 16) (code : Byte) (ws : List Word) :
    orderBytes tag code ws =
      0x02 :: BitVec.ofNat 8 ws.length :: BitVec.ofNat 8 (tag.toNat / 256) :: BitVec.ofNat 8 tag.toNat :: code :: 0 ::
        ws.flatMap wordBytes := by
  simp [orderBytes, beBytes]

/-- The order that a laid-out frame carries. -/
theorem readOrder_orderBytes (src : MacAddress) (tag : BitVec 16) (code : Byte) {ws : List Word} (h : ws.length ≤ 16) :
    readOrder src (orderBytes tag code ws) = ⟨src, tag, code, some ws, true⟩ := by
  have hcount : (byteAt (orderBytes tag code ws) 1).toNat = ws.length := by
    rw [orderBytes_eq]
    simp [byteAt]
    omega
  have hcode : byteAt (orderBytes tag code ws) 4 = code := by rw [orderBytes_eq]; rfl
  have htag : BitVec.ofNat 16 (beAt (orderBytes tag code ws) 2 2) = tag := by
    have hbytes : ((orderBytes tag code ws).drop 2).take 2 = beBytes 2 tag.toNat := by rw [orderBytes_eq]; simp [beBytes]
    have hvalue := beAt_beBytes 2 tag.toNat tag.isLt
    rw [beAt, List.drop_zero, List.take_of_length_le (by simp)] at hvalue
    rw [beAt, hbytes, hvalue, BitVec.ofNat_toNat, BitVec.setWidth_eq]
  have hwords : wordsAt (orderBytes tag code ws) 6 ws.length = ws :=
    wordsAt_flatMap (by rw [orderBytes_eq]; rfl)
  simp [readOrder, hcount, hcode, htag, hwords, h, orderBytes_length]

/-- Where the trailing bytes are no padding the frame is read whole. -/
theorem unpadded_whole {layout : Nat} {frame : List Byte} (h : ¬(frame.length = 46 ∧ layout < 46)) :
    unpadded layout frame = frame :=
  if_neg fun hpad => by
    simp only [Bool.and_eq_true, decide_eq_true_eq] at hpad
    exact h hpad

/-- A laid-out frame, padded or not, is read with its own layout. -/
theorem unpadded_orderBytes (tag : BitVec 16) (code : Byte) (ws : List Word) {frame : List Byte}
    (h : frame = orderBytes tag code ws ∨ frame = padded (orderBytes tag code ws)) :
    unpadded (6 + 6 * ws.length) frame = orderBytes tag code ws := by
  have hlen := orderBytes_length tag code ws
  by_cases hshort : (orderBytes tag code ws).length < 46
  · rcases h with rfl | rfl
    · have : ¬ (orderBytes tag code ws).length = Config.minPayload := Nat.ne_of_lt hshort
      simp [unpadded, this]
    · rw [← hlen, unpadded_padded _ hshort]
  · have hframe : frame = orderBytes tag code ws := by
      rcases h with h | h
      · exact h
      · rw [h, padded_of_long _ (by omega)]
    rw [hframe, unpadded_whole (by omega)]

/-- An arriving order is queued, or with 16 orders held answered REFUSED_FULL. -/
theorem queueOrder_room {o : QueuedOrder} {s : State} (h : s.orders.queue.length < 16) :
    queueOrder o s.cleared =
      { s with orders := { s.orders with queue := s.orders.queue ++ [o] }, sent := ⟨[], [], []⟩ } := if_pos h

theorem queueOrder_full {o : QueuedOrder} {s : State} (h : 16 ≤ s.orders.queue.length) :
    queueOrder o s.cleared =
      { s with
        orders := { s.orders with queueFull := min (s.orders.queueFull + 1) 65535 }
        sent := ⟨[replyTo o .refusedFull []], [], []⟩ } := by
  have hfull : ¬ s.cleared.orders.queue.length < Config.orderQueueSize := Nat.not_lt.mpr h
  rw [queueOrder, if_neg hfull, sendReply_single _ _ _ _ _ _ (by simp)]
  rfl

theorem orderArrives_order {frame : List Byte} (h : frame.head? = some 0x02) (src : MacAddress) (s : State) :
    orderArrives src frame s =
      if 5 ≤ (unpadded (6 + 6 * (byteAt frame 1).toNat) frame).length then
        queueOrder (readOrder src (unpadded (6 + 6 * (byteAt frame 1).toNat) frame)) s
      else countMalformedOrder s := by
  rw [orderArrives, h]
  rfl

/-- A frame of a type that is neither ORDER nor one of the other arrivals, and an empty one, is malformed. -/
theorem orderArrives_other {frame : List Byte} (h : ∀ b, frame.head? = some b → b ∉ [0x01, 0x02, 0x03, 0x04])
    (src : MacAddress) (s : State) : orderArrives src frame s = countMalformedOrder s := by
  unfold orderArrives
  split
  iterate 4 rename_i hb; exact absurd (h _ hb) (by simp)
  rfl

/-- Settles O2: the frame is read with its own layout, and queued, refused or counted. -/
theorem orderFramesArrive : Obligations.OrderFramesArrive := by
  refine ⟨?_, fun s src frame => ⟨fun h => ?_, fun hhead hlen hroom hbad => ?_⟩⟩
  · intro s src tag code ws hws bytes o frame hframe
    have hhead : frame.head? = some 0x02 := by rcases hframe with rfl | rfl <;> rfl
    have hcount : (byteAt frame 1).toNat = ws.length := by
      have : byteAt frame 1 = BitVec.ofNat 8 ws.length := by rcases hframe with rfl | rfl <;> rfl
      rw [this, BitVec.toNat_ofNat]
      omega
    have hread : orderArrives src frame s.cleared = queueOrder o s.cleared := by
      have hlen : 5 ≤ (orderBytes tag code ws).length := by rw [orderBytes_length]; omega
      rw [orderArrives_order hhead, hcount, unpadded_orderBytes tag code ws hframe, readOrder_orderBytes src tag code hws,
        if_pos hlen]
    rw [exec_eq]
    refine ⟨fun hroom => ?_, fun hfull => ?_⟩
    · rw [← queueOrder_room hroom]; exact congrArg _ hread
    · rw [← queueOrder_full hfull]; exact congrArg _ hread
  · have hcount : orderArrives src frame s.cleared = countMalformedOrder s.cleared := by
      rcases h with ⟨hhead, hshort⟩ | hother
      · rw [orderArrives_order hhead, unpadded_whole (by omega), if_neg (by omega)]
      · exact orderArrives_other hother src _
    rw [exec_eq]
    exact congrArg _ hcount
  · have hread : orderArrives src frame s.cleared =
        queueOrder ⟨src, byteAt frame 2 ++ byteAt frame 3, byteAt frame 4, none, true⟩ s.cleared := by
      have hargs : ¬((byteAt frame 1).toNat ≤ 16 ∧ frame.length = 6 + 6 * (byteAt frame 1).toNat) := by omega
      rw [orderArrives_order hhead, unpadded_whole (by omega), if_pos hlen, readOrder, ofNat_beAt_two frame 2 (by omega)]
      simp [hargs]
    rw [exec_eq, ← queueOrder_room hroom]
    exact congrArg _ hread

end Sys2Proof.Machine

/-!
PROOF. The taking of an order: turns, and the refusals for form, count and line number (R196, R197, R205).
-/

namespace Sys2Proof.Machine

/-! ### Turns and refusals -/

/-- A row of the table of orders takes an order of its code, by a handler and what follows the reply. -/
def TakesCode (c : Instr) (code : Byte) (handler : List Word → State → Answer) : Prop :=
  ∃ after, ∀ s, exec c s = perform (takeOrder (· == code) handler after) s

theorem takesCode_of_takeCode {c : Instr} {code : Byte} {handler : List Word → State → Answer}
    (h : ∀ s, exec c s = perform (takeCode code handler) s) : TakesCode c code handler := ⟨id, h⟩

/-- A row whose order cannot be taken does nothing. -/
theorem TakesCode.passes {c : Instr} {code : Byte} {handler : List Word → State → Answer} (hc : TakesCode c code handler)
    {s : State} (h : s.orders.taken = true ∨ ∀ o, s.orders.queue.head? = some o → o.code ≠ code ∨ o.fresh = true) :
    exec c s = .next { s with sent := ⟨[], [], []⟩ } := by
  obtain ⟨after, hexec⟩ := hc
  rw [hexec]
  refine congrArg _ (takeOrder_passes (s := s.cleared) _ handler after ?_)
  exact h.imp_right fun h o ho => (h o ho).imp_left fun hne => by simpa using hne

/-- A row whose handler refuses its order answers with the refusal alone. -/
theorem TakesCode.refuses {c : Instr} {code : Byte} {handler : List Word → State → Answer} (hc : TakesCode c code handler)
    {s : State} {o : QueuedOrder} {rest : List QueuedOrder} (hq : s.orders.queue = o :: rest) (ht : s.orders.taken = false)
    (hf : o.fresh = false) (hcode : o.code = code) {r : Result} (hr : r ≠ .done)
    (hj : judgeForm handler o (s.taking rest) = refuse r (s.taking rest)) :
    exec c s = .next (s.answered o rest r []) := by
  obtain ⟨after, hexec⟩ := hc
  have htake : takeOrder (· == code) handler after s.cleared = reply o (refuse r (s.taking rest)) := by
    have hready : s.cleared.orders.ready o = true := by simp [OrderUnit.ready, ht, hf]
    have hdequeue : dequeue rest s.cleared = s.taking rest := rfl
    unfold takeOrder
    rw [State.cleared_orders, hq]
    simp only [hcode, beq_self_eq_true, hdequeue, hj, Bool.true_and]
    rw [← State.cleared_orders, hready, if_pos rfl]
    exact if_neg hr
  rw [hexec, ← reply_refuse]
  exact congrArg _ htake

/-- Every order row takes an order of its code. -/
theorem orderRows_take : ∀ row ∈ orderRows, ∃ handler, TakesCode row.1 row.2 handler := by
  have take (c : Instr) (code : Byte) (handler : List Word → State → Answer)
      (h : ∀ s, exec c s = perform (takeCode code handler) s) : ∃ handler, TakesCode c code handler :=
    ⟨handler, takesCode_of_takeCode h⟩
  simp only [orderRows, List.cons_append, List.nil_append, List.forall_mem_cons]
  refine ⟨take _ _ _ fun _ => rfl, take _ _ _ fun _ => rfl, take _ _ _ fun _ => rfl, take _ _ _ fun _ => rfl,
    take _ _ _ fun _ => rfl, take _ _ _ fun _ => rfl, ⟨_, _, fun _ => rfl⟩, take _ _ _ fun _ => rfl, take _ _ _ fun _ => rfl,
    take _ _ _ fun _ => rfl, take _ _ _ fun _ => rfl, take _ _ _ fun _ => rfl, take _ _ _ fun _ => rfl,
    take _ _ _ fun _ => rfl, take _ _ _ fun _ => rfl, take _ _ _ fun _ => rfl, take _ _ _ fun _ => rfl,
    take _ _ _ fun _ => rfl, take _ _ _ fun _ => rfl, take _ _ _ fun _ => rfl, take _ _ _ fun _ => rfl,
    take _ _ _ fun _ => rfl, take _ _ _ fun _ => rfl, take _ _ _ fun _ => rfl, take _ _ _ fun _ => rfl,
    take _ _ _ fun _ => rfl, take _ _ _ fun _ => rfl, take _ _ _ fun _ => rfl, take _ _ _ fun _ => rfl,
    take _ _ _ fun _ => rfl, ?_⟩
  simp

/-! ### Counts of argument words -/

/-- A handler refuses an order whose count of argument words it does not take. -/
def RefusesCount (handler : List Word → State → Answer) (takes : Nat → Bool) : Prop :=
  ∀ ws s, takes ws.length = false → handler ws s = refuse .refusedArgument s

theorem refusesCount_noArgs (f : State → Answer) : RefusesCount (noArgs f) (· == 0) := by
  intro ws s h
  cases ws with
  | nil => cases h
  | cons w ws => rfl

theorem refusesCount_onLine (f : Fin 6 → State → Answer) : RefusesCount (onLine f) (· == 1) := by
  intro ws s h
  match ws with
  | [] => rfl
  | [_] => cases h
  | _ :: _ :: _ => rfl

/-- A handler that takes one word refuses any other count. -/
theorem refusesCount_one {handler : List Word → State → Answer} (h0 : ∀ s, handler [] s = refuse .refusedArgument s)
    (h2 : ∀ v w ws s, handler (v :: w :: ws) s = refuse .refusedArgument s) : RefusesCount handler (· == 1) := by
  intro ws s h
  match ws with
  | [] => exact h0 s
  | [_] => cases h
  | v :: w :: ws => exact h2 v w ws s

/-- A handler that takes two words refuses any other count. -/
theorem refusesCount_two {handler : List Word → State → Answer} (h0 : ∀ s, handler [] s = refuse .refusedArgument s)
    (h1 : ∀ w s, handler [w] s = refuse .refusedArgument s)
    (h3 : ∀ u v w ws s, handler (u :: v :: w :: ws) s = refuse .refusedArgument s) : RefusesCount handler (· == 2) := by
  intro ws s h
  match ws with
  | [] => exact h0 s
  | [w] => exact h1 w s
  | [_, _] => cases h
  | u :: v :: w :: ws => exact h3 u v w ws s

theorem refusesCount_nothing {handler : List Word → State → Answer}
    (h : ∀ w ws s, handler (w :: ws) s = refuse .refusedArgument s) : RefusesCount handler (· == 0) := by
  intro ws s hws
  cases ws with
  | nil => cases hws
  | cons w ws => exact h w ws s

theorem refusesCount_tPoint : RefusesCount answerTPoint (· == 3) := by
  intro ws s h
  match ws with
  | [] | [_] | [_, _] => rfl
  | [_, _, _] => cases h
  | _ :: _ :: _ :: _ :: _ => rfl

theorem refusesCount_lineTake : RefusesCount answerLineTake (· ≤ 1) := by
  intro ws s h
  match ws with
  | [] | [_] => cases h
  | _ :: _ :: _ => rfl

theorem refusesCount_tWrite : RefusesCount answerTWrite (0 < ·) := by
  intro ws s h
  cases ws with
  | nil => rfl
  | cons w ws => simp at h

theorem testHeader_areas {identity fields times : Word} {areas : List Word} (h : ¬(1 ≤ areas.length ∧ areas.length ≤ 12)) :
    testHeader identity fields times areas = none := by
  refine if_neg fun hrange => h ?_
  simp only [Bool.and_eq_true, decide_eq_true_eq] at hrange
  exact ⟨hrange.1.1.2, hrange.1.2⟩

theorem refusesCount_alertTest : RefusesCount answerAlertTest fun n => 4 ≤ n && n ≤ 15 := by
  intro ws s h
  match ws with
  | [] | [_] | [_, _] => rfl
  | identity :: fields :: times :: areas =>
    have hnone : testHeader identity fields times areas = none := by
      refine testHeader_areas fun hareas => ?_
      simp only [List.length_cons, Bool.and_eq_false_iff, decide_eq_false_iff_not] at h
      omega
    rw [answerAlertTest, hnone]

/-- Every order row but those of the players takes its code by a handler that refuses the counts it does not take. -/
theorem countRows_take : ∀ row ∈ countRows, ∃ handler, TakesCode row.1 row.2.1 handler ∧ RefusesCount handler row.2.2 := by
  have take {c : Instr} {code : Byte} {takes : Nat → Bool} (handler : List Word → State → Answer)
      (hcount : RefusesCount handler takes) (h : ∀ s, exec c s = perform (takeCode code handler) s) :
      ∃ handler, TakesCode c code handler ∧ RefusesCount handler takes := ⟨handler, takesCode_of_takeCode h, hcount⟩
  have one (handler : List Word → State → Answer) (h0 : ∀ s, handler [] s = refuse .refusedArgument s)
      (h2 : ∀ v w ws s, handler (v :: w :: ws) s = refuse .refusedArgument s) : RefusesCount handler (· == 1) :=
    refusesCount_one h0 h2
  simp only [countRows, List.cons_append, List.nil_append, List.forall_mem_cons]
  refine ⟨take _ refusesCount_tPoint fun _ => rfl, take _ refusesCount_tWrite fun _ => rfl,
    take answerTRead (one _ (fun _ => rfl) fun _ _ _ _ => rfl) fun _ => rfl,
    take answerStatus (refusesCount_nothing fun _ _ _ => rfl) fun _ => rfl,
    take answerMask (one _ (fun _ => rfl) fun _ _ _ _ => rfl) fun _ => rfl,
    take answerCounters (refusesCount_nothing fun _ _ _ => rfl) fun _ => rfl,
    ⟨answerRestart, ⟨_, fun _ => rfl⟩, refusesCount_noArgs _⟩,
    take answerTimeSet (one _ (fun _ => rfl) fun _ _ _ _ => rfl) fun _ => rfl,
    take answerBypass (one _ (fun _ => rfl) fun _ _ _ _ => rfl) fun _ => rfl,
    take answerDump (refusesCount_noArgs _) fun _ => rfl,
    take answerLineAnswer (refusesCount_onLine _) fun _ => rfl, take answerLineHold (refusesCount_onLine _) fun _ => rfl,
    take answerLineReady (refusesCount_onLine _) fun _ => rfl, take _ refusesCount_lineTake fun _ => rfl,
    take answerLineDrop (refusesCount_onLine _) fun _ => rfl,
    take answerLineTag (refusesCount_two (fun _ => rfl) (fun _ _ => rfl) fun _ _ _ _ _ => rfl) fun _ => rfl,
    take answerClipOpen (refusesCount_two (fun _ => rfl) (fun _ _ => rfl) fun _ _ _ _ _ => rfl) fun _ => rfl,
    take answerClipAbort (one _ (fun _ => rfl) fun _ _ _ _ => rfl) fun _ => rfl,
    take answerClipErase (one _ (fun _ => rfl) fun _ _ _ _ => rfl) fun _ => rfl,
    take answerAlertList (one _ (fun _ => rfl) fun _ _ _ _ => rfl) fun _ => rfl,
    take answerAlertRelease (one _ (fun _ => rfl) fun _ _ _ _ => rfl) fun _ => rfl,
    take answerAlertCancel (one _ (fun _ => rfl) fun _ _ _ _ => rfl) fun _ => rfl,
    take _ refusesCount_alertTest fun _ => rfl, take answerBreak (refusesCount_noArgs _) fun _ => rfl,
    take answerLinkSleep (refusesCount_noArgs _) fun _ => rfl, take answerLinkWake (refusesCount_noArgs _) fun _ => rfl,
    take answerLinkStatus (refusesCount_nothing fun _ _ _ => rfl) fun _ => rfl, ?_⟩
  simp

/-! ### Line numbers -/

theorem onLine_refuses (f : Fin 6 → State → Answer) {w : Word} (h : 6 ≤ w.toNat) (s : State) :
    onLine f [w] s = refuse .refusedArgument s := by
  have hnone : lineArg w = none := finOf_eq_none.mpr h
  rw [onLine, hnone]

theorem lineRows_take : ∀ row ∈ lineRows, ∃ handler, TakesCode row.1 row.2 handler ∧
    ∀ (w : Word) (s : State), 6 ≤ w.toNat → handler [w] s = refuse .refusedArgument s := by
  simp only [lineRows, List.forall_mem_cons]
  exact ⟨⟨answerLineAnswer, takesCode_of_takeCode fun _ => rfl, fun _ s h => onLine_refuses _ h s⟩,
    ⟨answerLineHold, takesCode_of_takeCode fun _ => rfl, fun _ s h => onLine_refuses _ h s⟩,
    ⟨answerLineReady, takesCode_of_takeCode fun _ => rfl, fun _ s h => onLine_refuses _ h s⟩,
    ⟨answerLineTake, takesCode_of_takeCode fun _ => rfl, fun _ s h => onLine_refuses _ h s⟩,
    ⟨answerLineDrop, takesCode_of_takeCode fun _ => rfl, fun _ s h => onLine_refuses _ h s⟩, by simp⟩

/-! ### Unknown codes -/

theorem orderCodes_eq : orderCodes = orderRows.map Prod.snd := rfl

theorem takeUnknown_passes {s : State}
    (h : s.orders.taken = true ∨ ∀ o, s.orders.queue.head? = some o → o.code ∈ orderRows.map Prod.snd ∨ o.fresh = true) :
    takeUnknown s = s := by
  unfold takeUnknown
  split
  · rfl
  · rename_i o rest hq
    refine if_neg fun htake => ?_
    simp only [Bool.and_eq_true, Bool.not_eq_true', OrderUnit.ready] at htake
    obtain ⟨hcode, htaken, hfresh⟩ := htake
    rcases h with ht | h
    · rw [ht] at htaken; cases htaken
    · rcases h o (by rw [hq]; rfl) with hc | hf
      · rw [orderCodes_eq] at hcode
        simp [hc] at hcode
      · rw [hf] at hfresh; cases hfresh

/-- Settles O3: a row passes over an order it cannot take, and its handler refuses bad forms, counts and lines. -/
theorem ordersTakenInTurn : Obligations.OrdersTakenInTurn := by
  refine ⟨fun s row hrow h => ?_, fun s h => ?_, fun s o rest hq ht hf => ⟨?_, ?_, ?_, fun hcode => ?_⟩⟩
  · obtain ⟨handler, htake⟩ := orderRows_take row hrow
    exact htake.passes h
  · exact congrArg _ (takeUnknown_passes (s := s.cleared) h)
  · intro row hrow hcode hargs
    obtain ⟨handler, htake⟩ := orderRows_take row hrow
    exact htake.refuses hq ht hf hcode nofun (by rw [judgeForm, hargs])
  · intro row hrow ws hcode hargs hcount
    obtain ⟨handler, htake, hrefuse⟩ := countRows_take row hrow
    exact htake.refuses hq ht hf hcode nofun (by rw [judgeForm, hargs]; exact hrefuse ws _ hcount)
  · intro row hrow w hcode hargs hline
    obtain ⟨handler, htake, hrefuse⟩ := lineRows_take row hrow
    exact htake.refuses hq ht hf hcode nofun (by rw [judgeForm, hargs]; exact hrefuse w _ hline)
  · have hready : s.cleared.orders.ready o = true := by simp [OrderUnit.ready, ht, hf]
    have hunknown : takeUnknown s.cleared = reply o (refuse .refusedUnknown (s.taking rest)) := by
      rw [takeUnknown]
      split
      · rename_i hnil
        rw [State.cleared_orders, hq] at hnil; cases hnil
      · rename_i o' rest' hcons
        rw [State.cleared_orders, hq] at hcons
        cases hcons
        rw [hready, orderCodes_eq]
        simp only [List.contains_eq_mem, hcode, decide_false, Bool.not_false, Bool.and_self, if_true]
        rfl
    rw [← reply_refuse]
    exact congrArg _ hunknown

end Sys2Proof.Machine

/-!
PROOF. The table orders: T-POINT, T-WRITE and T-READ (R198 to R200).
-/

namespace Sys2Proof.Machine

/-! ### An order that leaves one frame -/

/-- The order at the head of the queue, its handler giving what `t` would be taken as. -/
theorem order_taking {s t : State} {o : QueuedOrder} {rest : List QueuedOrder} {code : Byte} {args ws : List Word}
    {r : Result} (h : s.Heads o rest code args) {handler : List Word → State → Answer}
    (ha : handler args (s.taking rest) = ⟨t.taking rest, r, ws⟩) (hw : ws.length ≤ 240) :
    perform (takeCode code handler) s = .next (t.answered o rest r ws) := by
  rw [perform_takeCode h, ha, reply_single _ _ hw]
  rfl

theorem Word.nat_toNat {n : Nat} (h : n < 2 ^ 48) : (Word.nat n).toNat = n := by
  rw [Word.nat, BitVec.toNat_ofNat, Nat.mod_eq_of_lt h]

theorem TablePointer.toWords_length (p : TablePointer) : p.toWords.length = 4 := rfl

/-! ### T-POINT (R198) -/

theorem tableIds_code (t : TableId) : tableIds[t.code]? = some t := by cases t <;> rfl

theorem TableId.code_lt (t : TableId) : t.code < 7 := by cases t <;> decide

theorem TableId.entries_le (t : TableId) : t.entries ≤ 256 := by cases t <;> decide

theorem modeArg_code (m : PointerMode) : modeArg (Word.nat m.code) = some m := by cases m <;> rfl

theorem modeArg_none {w : Word} (h : 1 < w.toNat) : modeArg w = none := by
  have h0 : w ≠ 0 := fun e => by simp [e] at h
  have h1 : w ≠ 1 := fun e => by simp [e] at h
  rw [modeArg, if_neg h0, if_neg h1]

/-- Settles O5: a pointer that exists is set with its staged fields discarded, any other refused. -/
theorem tPointSetsPointer : Obligations.TPointSetsPointer := by
  refine ⟨fun s o rest t e m he h => ?_, fun s o rest table entry mode h hbad => ?_⟩
  · have hentry : (Word.nat e).toNat = e := Word.nat_toNat (by have := t.entries_le; omega)
    have htable : (Word.nat t.code).toNat = t.code := Word.nat_toNat (by have := t.code_lt; omega)
    refine ⟨(setPointer t e m s).orders.holding, fun hm => by subst hm; rfl,
      order_taking (t := setPointer t e m s) h ?_ (by simp [TablePointer.toWords])⟩
    simp only [answerTPoint, htable, tableIds_code, modeArg_code, hentry, he, if_true]
    rfl
  · refine order_refused h _ ?_
    unfold answerTPoint
    dsimp only
    split
    · rename_i t m ht hm
      refine if_neg fun he => ?_
      rcases hbad with h6 | h1 | ⟨u, hu, hle⟩
      · rw [List.getElem?_eq_none (by simp [tableIds]; omega)] at ht; cases ht
      · rw [modeArg_none h1] at hm; cases hm
      · rw [ht] at hu; cases hu; omega
    · rfl

/-! ### T-WRITE (R199) -/

/-- A T-WRITE of words from a state. -/
def writeRun (ws : List Word) (s : State) : WriteRun := ws.foldl writeWord ⟨s, 0, 0, .done, false⟩

theorem answerTWrite_write {ws : List Word} {s : State} (hws : ws ≠ []) (hm : s.orders.pointer.mode = .write) :
    answerTWrite ws s =
      ⟨(writeRun ws s).state, (writeRun ws s).result,
        [Word.nat (writeRun ws s).used, Word.nat (writeRun ws s).committed] ++
          (writeRun ws s).state.orders.pointer.toWords⟩ := by
  have hlen : ¬ ws.length = 0 := by simpa using hws
  rw [answerTWrite, if_neg hlen, hm]
  rfl

/-- A T-WRITE in progress started with words used, entries committed and a result. -/
def WriteRun.after (q : WriteRun) (used committed : Nat) (result : Result) : WriteRun :=
  ⟨q.state, used + q.used, committed + q.committed, if q.result = .done then result else q.result, q.stopped⟩

theorem completeEntry_after (q : WriteRun) (u c : Nat) (r : Result) (staged : List Word) :
    completeEntry staged (q.after u c r) = (completeEntry staged q).after u c r := by
  have hstate : (q.after u c r).state = q.state := rfl
  unfold completeEntry
  dsimp only
  rw [hstate]
  split
  · rename_i t clamped _
    cases clamped <;> simp [WriteRun.after, Nat.add_assoc]
  · simp [WriteRun.after]

theorem writeWord_after (q : WriteRun) (u c : Nat) (r : Result) (w : Word) :
    writeWord (q.after u c r) w = (writeWord q w).after u c r := by
  have hstate : (q.after u c r).state = q.state := rfl
  have hstopped : (q.after u c r).stopped = q.stopped := rfl
  unfold writeWord
  rw [hstate, hstopped]
  split
  · rfl
  · dsimp only
    split
    · rw [← completeEntry_after]
      rfl
    · rfl

/-- A T-WRITE in progress goes on as one begun anew. -/
theorem foldl_writeWord_after (ws : List Word) (q : WriteRun) (u c : Nat) (r : Result) :
    ws.foldl writeWord (q.after u c r) = (ws.foldl writeWord q).after u c r := by
  induction ws generalizing q with
  | nil => rfl
  | cons w ws ih => rw [List.foldl_cons, writeWord_after, ih, List.foldl_cons]

theorem foldl_writeWord_stopped (ws : List Word) {q : WriteRun} (h : q.stopped = true) : ws.foldl writeWord q = q := by
  induction ws with
  | nil => rfl
  | cons w ws ih =>
    have hw : writeWord q w = q := by rw [writeWord, if_pos h]
    rw [List.foldl_cons, hw, ih]

/-- The order unit with another count of refusals. -/
def State.withRefused (n : Nat) (s : State) : State := s.modOrders fun u => { u with refused := n }

/-- A T-WRITE in progress with another count of refusals. -/
def WriteRun.withRefused (n : Nat) (q : WriteRun) : WriteRun := { q with state := q.state.withRefused n }

theorem completeEntry_withRefused (n : Nat) (q : WriteRun) (staged : List Word) :
    completeEntry staged (q.withRefused n) = (completeEntry staged q).withRefused n := by
  have htables : (q.withRefused n).state.tables = q.state.tables := rfl
  have hpointer : (q.withRefused n).state.orders.pointer = q.state.orders.pointer := rfl
  unfold completeEntry
  dsimp only
  rw [htables, hpointer]
  split <;> rfl

theorem writeWord_withRefused (n : Nat) (q : WriteRun) (w : Word) :
    writeWord (q.withRefused n) w = (writeWord q w).withRefused n := by
  have hstopped : (q.withRefused n).stopped = q.stopped := rfl
  have hpointer : (q.withRefused n).state.orders.pointer = q.state.orders.pointer := rfl
  unfold writeWord
  rw [hstopped]
  split
  · rfl
  · dsimp only
    rw [hpointer]
    split
    · rw [← completeEntry_withRefused]
      rfl
    · rfl

/-- A T-WRITE neither reads nor writes the count of refusals. -/
theorem writeRun_withRefused (n : Nat) (ws : List Word) (s : State) :
    writeRun ws (s.withRefused n) = (writeRun ws s).withRefused n := by
  have hfold (q : WriteRun) : ws.foldl writeWord (q.withRefused n) = (ws.foldl writeWord q).withRefused n := by
    induction ws generalizing q with
    | nil => rfl
    | cons w ws ih => rw [List.foldl_cons, writeWord_withRefused, ih, List.foldl_cons]
  exact hfold ⟨s, 0, 0, .done, false⟩

/-- What a T-WRITE in progress leaves alone, and its result: a refused one has stopped. -/
structure WriteRun.Steady (s : State) (q : WriteRun) : Prop where
  frame : s.Tabulates q.state
  queue : q.state.orders.queue = s.orders.queue
  taken : q.state.orders.taken = s.orders.taken
  refused : q.state.orders.refused = s.orders.refused
  mode : q.state.orders.pointer.mode = s.orders.pointer.mode
  stopped : q.stopped = true ↔ q.result = .refusedArgument
  result : q.result = .done ∨ q.result = .doneClamped ∨ q.result = .refusedArgument

theorem WriteRun.Steady.completeEntry {s : State} {q : WriteRun} (h : q.Steady s) (hq : q.stopped = false)
    (staged : List Word) : (completeEntry staged q).Steady s := by
  obtain ⟨hframe, hqueue, htaken, hrefused, hmode, hstopped, hresult⟩ := h
  unfold Machine.completeEntry
  dsimp only
  split
  · rename_i t clamped _
    refine ⟨hframe.trans rfl, hqueue, htaken, hrefused, hmode, ?_, ?_⟩
    · cases clamped
      · exact hstopped
      · simp [hq]
    · cases clamped
      · exact hresult
      · exact .inr (.inl rfl)
  · exact ⟨hframe.trans rfl, hqueue, htaken, hrefused, hmode, by simp, .inr (.inr rfl)⟩

theorem WriteRun.Steady.writeWord {s : State} {q : WriteRun} (h : q.Steady s) (w : Word) : (writeWord q w).Steady s := by
  unfold Machine.writeWord
  split
  · exact h
  · rename_i hq
    obtain ⟨hframe, hqueue, htaken, hrefused, hmode, hstopped, hresult⟩ := h
    dsimp only
    split
    · exact WriteRun.Steady.completeEntry (q := { q with used := q.used + 1 })
        ⟨hframe, hqueue, htaken, hrefused, hmode, hstopped, hresult⟩ (by simpa using hq) _
    · exact ⟨hframe.trans rfl, hqueue, htaken, hrefused, hmode, hstopped, hresult⟩

theorem writeRun_steady (ws : List Word) (s : State) : (writeRun ws s).Steady s := by
  have hfold (q : WriteRun) (h : q.Steady s) : (ws.foldl writeWord q).Steady s := by
    induction ws generalizing q with
    | nil => exact h
    | cons w ws ih => exact ih _ (h.writeWord w)
  exact hfold ⟨s, 0, 0, .done, false⟩ ⟨rfl, rfl, rfl, rfl, rfl, by simp, .inl rfl⟩

/-- A T-WRITE of two runs of words is one of the first, and one of the second after it unless the first has stopped. -/
theorem writeRun_append (us vs : List Word) (s : State) :
    writeRun (us ++ vs) s =
      if (writeRun us s).stopped = true then writeRun us s
      else (writeRun vs (writeRun us s).state).after (writeRun us s).used (writeRun us s).committed (writeRun us s).result := by
  have hsplit : writeRun (us ++ vs) s = vs.foldl writeWord (writeRun us s) := List.foldl_append ..
  rw [hsplit]
  split
  · rename_i h; exact foldl_writeWord_stopped vs h
  · rename_i h
    have hbegin : writeRun us s = WriteRun.after ⟨(writeRun us s).state, 0, 0, .done, false⟩ (writeRun us s).used
        (writeRun us s).committed (writeRun us s).result := by
      simp only [WriteRun.after, Nat.add_zero, if_true]
      rw [show false = (writeRun us s).stopped by simpa using h]
    conv_lhs => rw [hbegin]
    exact foldl_writeWord_after ..

/-! ### Entries of a T-WRITE (R199) -/

/-- Words are placed in the staged copy. -/
def OrderUnit.stage (ws : List Word) (u : OrderUnit) : OrderUnit :=
  { u with staged := u.staged ++ ws, pointer := { u.pointer with field := u.pointer.field + ws.length } }

/-- A T-WRITE in progress that has placed words in the staged copy. -/
def WriteRun.stage (ws : List Word) (q : WriteRun) : WriteRun :=
  { q with used := q.used + ws.length, state := q.state.modOrders (OrderUnit.stage ws) }

theorem WriteRun.stage_append (us vs : List Word) (q : WriteRun) : (q.stage us).stage vs = q.stage (us ++ vs) := by
  simp [WriteRun.stage, State.modOrders, OrderUnit.stage, Nat.add_assoc]

theorem writeWord_part {q : WriteRun} (w : Word) (hq : q.stopped = false)
    (h : q.state.orders.pointer.field + 1 < q.state.orders.pointer.table.fields) : writeWord q w = q.stage [w] := by
  rw [writeWord, if_neg (by simp [hq])]
  exact if_neg (by omega)

theorem writeWord_whole {q : WriteRun} (w : Word) (hq : q.stopped = false)
    (h : q.state.orders.pointer.table.fields ≤ q.state.orders.pointer.field + 1) :
    writeWord q w = completeEntry (q.state.orders.staged ++ [w]) { q with used := q.used + 1 } := by
  rw [writeWord, if_neg (by simp [hq])]
  exact if_pos h

/-- Words that leave the entry part-written are staged. -/
theorem foldl_writeWord_part (ws : List Word) (q : WriteRun) (hq : q.stopped = false)
    (h : q.state.orders.pointer.field + ws.length < q.state.orders.pointer.table.fields) :
    ws.foldl writeWord q = q.stage ws := by
  induction ws generalizing q with
  | nil => simp [WriteRun.stage, State.modOrders, OrderUnit.stage]
  | cons w ws ih =>
    rw [List.length_cons] at h
    rw [List.foldl_cons, writeWord_part w hq (by omega), ih (q.stage [w]) hq ?_, WriteRun.stage_append]
    · rfl
    · show q.state.orders.pointer.field + 1 + ws.length < q.state.orders.pointer.table.fields
      omega

/-- Words that fill the entry, the last of them apart. -/
theorem foldl_writeWord_whole (us : List Word) (w : Word) (q : WriteRun) (hq : q.stopped = false)
    (h : q.state.orders.pointer.field + us.length + 1 = q.state.orders.pointer.table.fields) :
    (us ++ [w]).foldl writeWord q =
      completeEntry (q.state.orders.staged ++ (us ++ [w])) { q.stage us with used := (q.stage us).used + 1 } := by
  rw [List.foldl_append, foldl_writeWord_part us q hq (by omega), List.foldl_cons, List.foldl_nil,
    writeWord_whole (q := q.stage us) w hq ?_, ← List.append_assoc]
  · rfl
  · show q.state.orders.pointer.table.fields ≤ q.state.orders.pointer.field + us.length + 1
    omega

theorem nextEntry_eq (t : TableId) (e f : Nat) (m : PointerMode) :
    (⟨t, e, f, m⟩ : TablePointer).nextEntry = ⟨t, if e + 1 < t.entries then e + 1 else 0, 0, m⟩ := by
  unfold TablePointer.nextEntry
  by_cases h : e + 1 < t.entries
  · rw [if_neg (by omega : ¬ t.entries ≤ e + 1), if_pos h]
  · rw [if_pos (by omega : t.entries ≤ e + 1), if_neg h]

/-- A T-WRITE that fills the pointed entry, before the commit. -/
theorem writeRun_whole {s : State} {t : TableId} {e f : Nat} {ws : List Word} (hws : ws ≠ [])
    (hp : s.orders.pointer = ⟨t, e, f, .write⟩) (h : f + ws.length = t.fields) :
    ∃ g, writeRun ws s =
      completeEntry (s.orders.staged ++ ws)
        ⟨s.modOrders fun u => { u with staged := u.staged ++ ws.dropLast, pointer := ⟨t, e, g, .write⟩ }, ws.length, 0, .done,
          false⟩ := by
  obtain ⟨us, w, rfl⟩ : ∃ us w, ws = us ++ [w] := ⟨_, _, (List.dropLast_append_getLast hws).symm⟩
  rw [List.length_append, List.length_singleton] at h
  refine ⟨f + us.length, ?_⟩
  rw [writeRun, foldl_writeWord_whole us w ⟨s, 0, 0, .done, false⟩ rfl (by rw [hp]; exact h)]
  simp only [WriteRun.stage, OrderUnit.stage, State.modOrders, hp, List.dropLast_concat, List.length_append,
    List.length_singleton, Nat.zero_add]

theorem State.taking_of_taken {y : State} {rest : List QueuedOrder} (hq : y.orders.queue = rest)
    (ht : y.orders.taken = true) (hs : y.sent = ⟨[], [], []⟩) : y.taking rest = y := by
  subst hq
  rw [State.taking, ← ht, ← hs]

end Sys2Proof.Machine

/-!
PROOF. T-WRITE whole (R199).
-/

namespace Sys2Proof.Machine

theorem completeEntry_some {q : WriteRun} {staged : List Word} {T : Tables} {clamped : Bool}
    (h : q.state.tables.commit q.state.orders.pointer.table q.state.orders.pointer.entry staged = some (T, clamped)) :
    completeEntry staged q =
      ⟨(q.state.modTables fun _ => T).modOrders fun o =>
          { o with staged := [], pointer := q.state.orders.pointer.nextEntry }, q.used, q.committed + 1,
        if clamped then .doneClamped else q.result, q.stopped⟩ := by
  unfold completeEntry
  simp only [h]

theorem completeEntry_none {q : WriteRun} {staged : List Word}
    (h : q.state.tables.commit q.state.orders.pointer.table q.state.orders.pointer.entry staged = none) :
    completeEntry staged q =
      ⟨q.state.modOrders fun o => { o with staged := [], pointer := { q.state.orders.pointer with field := 0 } }, q.used,
        q.committed, .refusedArgument, true⟩ := by
  unfold completeEntry
  simp only [h]

theorem answerTWrite_read {ws : List Word} {s : State} (hws : ws ≠ []) (hm : s.orders.pointer.mode = .read) :
    answerTWrite ws s = refuse .refusedState s := by
  have hlen : ¬ ws.length = 0 := by simpa using hws
  rw [answerTWrite, if_neg hlen, hm]

/-- A T-WRITE of an order, from what its words do. -/
theorem exec_tWrite {s t : State} {o : QueuedOrder} {rest : List QueuedOrder} {ws : List Word} {q : WriteRun}
    (h : s.Heads o rest 0x11 ws) (hws : ws ≠ []) (hm : s.orders.pointer.mode = .write)
    (hq : writeRun ws (s.taking rest) = q) (ht : q.state = t.taking rest) :
    exec .tWrite s =
      .next (t.answered o rest q.result ([Word.nat q.used, Word.nat q.committed] ++ t.orders.pointer.toWords)) := by
  refine order_taking (t := t) h ?_ (by simp [TablePointer.toWords])
  have hmode : (s.taking rest).orders.pointer.mode = .write := hm
  rw [answerTWrite_write hws hmode, hq, ht]
  rfl

/-- What a T-WRITE of an order leaves to the next one: the answer, and the state that goes with it. -/
theorem exec_tWrite_run {s : State} {o : QueuedOrder} {rest : List QueuedOrder} {ws : List Word}
    (h : s.Heads o rest 0x11 ws) (hws : ws ≠ []) (hm : s.orders.pointer.mode = .write) :
    exec .tWrite s =
      .next ((writeRun ws (s.taking rest)).state.answered o rest (writeRun ws (s.taking rest)).result
        ([Word.nat (writeRun ws (s.taking rest)).used, Word.nat (writeRun ws (s.taking rest)).committed] ++
          (writeRun ws (s.taking rest)).state.orders.pointer.toWords)) := by
  have hsteady := writeRun_steady ws (s.taking rest)
  refine exec_tWrite h hws hm rfl (State.taking_of_taken ?_ ?_ ?_).symm
  · exact hsteady.queue
  · exact hsteady.taken
  · rw [hsteady.frame]; rfl

/-- The taking of an order whose T-WRITE is not refused adds no refusal. -/
theorem countedRefusal_of_written {r : Result} (h : r = .done ∨ r = .doneClamped) : r.countedRefusal = false := by
  rcases h with rfl | rfl <;> rfl

/-- Two answers one after the other, the first no refusal, leave what one answer with the later state leaves. -/
theorem answered_withRefused {y : State} {n : Nat} {o : QueuedOrder} {rest : List QueuedOrder} {r1 r2 : Result}
    {ws : List Word} (h1 : r1 = .done ∨ r1 = .doneClamped) (hn : n = min y.orders.refused 65535) :
    y.answered o rest (if r2 = .done then r1 else r2) ws =
      { (y.withRefused n).answered o rest r2 ws with sent := ⟨[replyTo o (if r2 = .done then r1 else r2) ws], [], []⟩ } := by
  have hb : (if r2 = .done then r1 else r2).countedRefusal = r2.countedRefusal := by
    split
    · rename_i h2; rw [h2, countedRefusal_of_written h1]; rfl
    · rfl
  have hrefused (b : Nat) : min (y.orders.refused + b) 65535 = min (n + b) 65535 := by omega
  simp only [State.answered, State.withRefused, State.modOrders, OrderUnit.took, hb, hrefused]

/-- Settles O6, by the fold over the words: an entry is filled, left part-written, or begun within a longer run. -/
theorem tWriteWholeEntry : Obligations.TWriteWholeEntry := by
  refine ⟨fun s o rest t e f ws h hws => ⟨?_, ?_, ?_⟩, ?_⟩
  · intro hp _ _ hfull next back
    have hm : s.orders.pointer.mode = .write := by rw [hp]
    obtain ⟨g, hrun⟩ := writeRun_whole (s := s.taking rest) hws hp hfull
    refine ⟨fun T clamped hcommit => ?_, fun hcommit => ?_⟩
    · rw [completeEntry_some (T := T) (clamped := clamped) hcommit] at hrun
      rw [exec_tWrite (t := { s with tables := T, orders := { s.orders with pointer := next, staged := [] } })
        h hws hm hrun ?_]
      · dsimp only [State.modOrders]
        rw [nextEntry_eq]
        rfl
    · rw [completeEntry_none hcommit] at hrun
      exact exec_tWrite (t := { s with orders := { s.orders with pointer := back, staged := [] } }) h hws hm hrun rfl
  · intro hp hpart p
    have hm : s.orders.pointer.mode = .write := by rw [hp]
    have hrun := foldl_writeWord_part ws ⟨s.taking rest, 0, 0, .done, false⟩ rfl (by
      show s.orders.pointer.field + ws.length < s.orders.pointer.table.fields
      rw [hp]; exact hpart)
    rw [exec_tWrite (t := { s with orders := { s.orders with pointer := p, staged := s.orders.staged ++ ws } })
      h hws hm hrun ?_]
    · simp only [WriteRun.stage, Nat.zero_add]
    · simp only [WriteRun.stage, State.modOrders, OrderUnit.stage, State.taking, hp, p]
  · exact fun hm => order_refused h _ (answerTWrite_read hws hm)
  · intro s o rest us vs hus hvs h hm carrying answer
    have hfirst : (carrying us s).Heads { o with args := some us } rest 0x11 us := ⟨rfl, h.code, rfl, rfl, h.waited⟩
    have hrun := exec_tWrite_run hfirst hus hm
    have hbegin : (carrying us s).taking rest = s.taking rest := rfl
    rw [hbegin] at hrun
    have hwhole := exec_tWrite_run h (by simp [hus]) hm
    rw [writeRun_append] at hwhole
    have hsteady := writeRun_steady us (s.taking rest)
    generalize writeRun us (s.taking rest) = q at hrun hwhole hsteady
    obtain ⟨y, used, committed, r, stopped⟩ := q
    obtain ⟨hframe, hqueue, htaken, hrefused, hmode, hstopped, hresult⟩ := hsteady
    dsimp only at hrun hwhole hframe hqueue htaken hrefused hmode hstopped hresult
    set t1 := y.answered { o with args := some us } rest r
      ([Word.nat used, Word.nat committed] ++ y.orders.pointer.toWords) with ht1
    have hthen : (carrying vs t1).taking rest = y.withRefused t1.orders.refused := by
      have hy := State.taking_of_taken (y := y) (rest := rest) hqueue htaken (by rw [hframe]; rfl)
      conv_rhs => rw [← hy]
      rfl
    have hsecond : (carrying vs t1).Heads { o with args := some vs } rest 0x11 vs := ⟨rfl, h.code, rfl, rfl, h.waited⟩
    have hrun2 := exec_tWrite_run hsecond hvs (hmode.trans hm)
    rw [hthen, writeRun_withRefused] at hrun2
    refine ⟨t1, r, used, committed, _, (writeRun vs y).result, (writeRun vs y).used, (writeRun vs y).committed, hrun, rfl,
      hrun2, rfl, ?_⟩
    rw [hwhole]
    by_cases hr : r = .refusedArgument
    · rw [if_pos (hstopped.mpr hr), if_pos hr]
      rfl
    · have hgood : r = .done ∨ r = .doneClamped := by tauto
      rw [if_neg (mt hstopped.mp hr), if_neg hr]
      refine congrArg _ ((answered_withRefused (n := t1.orders.refused) hgood ?_).trans rfl)
      show min (y.orders.refused + _) 65535 = min (writeRun vs y).state.orders.refused 65535
      rw [countedRefusal_of_written hgood, (writeRun_steady vs y).refused]
      rfl
end Sys2Proof.Machine

/-!
PROOF. T-READ (R200).
-/

namespace Sys2Proof.Machine

/-- The pointer advanced within its entry. -/
def State.pointField (f : Nat) (s : State) : State :=
  s.modOrders fun u => { u with pointer := { u.pointer with field := f } }

/-- The pointer at the next entry, taken into the holding copy. -/
def State.pointNext (s : State) : State :=
  s.modOrders fun u =>
    { u with
      pointer := s.orders.pointer.nextEntry
      holding := s.tables.entryWords s.orders.pointer.nextEntry.table s.orders.pointer.nextEntry.entry }

theorem readWord_part {s : State} (h : s.orders.pointer.field + 1 < s.orders.pointer.table.fields) :
    readWord s = (s.pointField (s.orders.pointer.field + 1), s.orders.holding.getD s.orders.pointer.field Word.none) :=
  if_neg (by omega)

theorem readWord_last {s : State} (h : s.orders.pointer.table.fields ≤ s.orders.pointer.field + 1) :
    readWord s = (s.pointNext, s.orders.holding.getD s.orders.pointer.field Word.none) :=
  if_pos h

theorem readWords_succ (n : Nat) (s : State) :
    readWords (n + 1) s = ((readWords n (readWord s).1).1, (readWord s).2 :: (readWords n (readWord s).1).2) := rfl

theorem readWords_length (n : Nat) (s : State) : (readWords n s).2.length = n := by
  induction n generalizing s with
  | zero => rfl
  | succ n ih => rw [readWords_succ, List.length_cons, ih]

/-- A read of two runs of words is one after the other. -/
theorem readWords_add (m n : Nat) (s : State) :
    readWords (m + n) s =
      ((readWords n (readWords m s).1).1, (readWords m s).2 ++ (readWords n (readWords m s).1).2) := by
  induction m generalizing s with
  | zero => simp [readWords]
  | succ m ih => rw [Nat.succ_add, readWords_succ, ih, readWords_succ, List.cons_append]

theorem drop_take_succ (ws : List Word) (f n : Nat) (h : f < ws.length) :
    (ws.drop f).take (n + 1) = ws.getD f Word.none :: (ws.drop (f + 1)).take n := by
  rw [List.drop_eq_getElem_cons h, List.take_succ_cons, List.getD_eq_getElem _ _ h]

/-- A read that ends before the last field. -/
theorem readWords_part (n : Nat) (s : State) (hlen : s.orders.holding.length = s.orders.pointer.table.fields)
    (h : s.orders.pointer.field + n < s.orders.pointer.table.fields) :
    readWords n s =
      (s.pointField (s.orders.pointer.field + n), (s.orders.holding.drop s.orders.pointer.field).take n) := by
  induction n generalizing s with
  | zero => simp [readWords, State.pointField, State.modOrders]
  | succ n ih =>
    have hword := readWord_part (s := s) (by omega)
    have hrest := ih (s.pointField (s.orders.pointer.field + 1)) hlen (by
      show s.orders.pointer.field + 1 + n < s.orders.pointer.table.fields
      omega)
    rw [readWords_succ, hword, hrest, drop_take_succ _ _ _ (by omega)]
    simp only [State.pointField, State.modOrders, Nat.add_right_comm, Nat.add_assoc]

/-- A read that ends at the last field. -/
theorem readWords_whole {n : Nat} {s : State} (hlen : s.orders.holding.length = s.orders.pointer.table.fields)
    (hn : 1 ≤ n) (h : s.orders.pointer.field + n = s.orders.pointer.table.fields) :
    readWords n s = (s.pointNext, (s.orders.holding.drop s.orders.pointer.field).take n) := by
  obtain ⟨k, rfl⟩ : ∃ k, n = k + 1 := ⟨n - 1, by omega⟩
  have hpart := readWords_part k s hlen (by omega)
  have hlast := readWord_last (s := s.pointField (s.orders.pointer.field + k))
    (show s.orders.pointer.table.fields ≤ s.orders.pointer.field + k + 1 by omega)
  rw [readWords_add, hpart]
  dsimp only
  rw [show readWords 1 (s.pointField (s.orders.pointer.field + k)) = _ from readWords_succ 0 _, hlast]
  refine Prod.ext rfl ?_
  show (s.orders.holding.drop s.orders.pointer.field).take k ++
    [s.orders.holding.getD (s.orders.pointer.field + k) Word.none] = _
  rw [List.take_add_one, List.getElem?_drop, List.getD_eq_getElem _ _ (by omega), List.getElem?_eq_getElem (by omega)]
  rfl

/-- What a read leaves alone. -/
structure State.ReadFrom (s t : State) : Prop where
  frame : s.Tabulates t
  queue : t.orders.queue = s.orders.queue
  taken : t.orders.taken = s.orders.taken
  refused : t.orders.refused = s.orders.refused
  mode : t.orders.pointer.mode = s.orders.pointer.mode

theorem readWord_from (s : State) : s.ReadFrom (readWord s).1 := by
  unfold readWord
  dsimp only
  split <;> exact ⟨rfl, rfl, rfl, rfl, rfl⟩

theorem readWords_from (n : Nat) (s : State) : s.ReadFrom (readWords n s).1 := by
  induction n generalizing s with
  | zero => exact ⟨rfl, rfl, rfl, rfl, rfl⟩
  | succ n ih =>
    have h := readWord_from s
    have k := ih (readWord s).1
    exact ⟨h.frame.trans k.frame, k.queue.trans h.queue, k.taken.trans h.taken, k.refused.trans h.refused,
      k.mode.trans h.mode⟩

theorem readWord_withRefused (n : Nat) (s : State) :
    readWord (s.withRefused n) = ((readWord s).1.withRefused n, (readWord s).2) := by
  have hpointer : (s.withRefused n).orders.pointer = s.orders.pointer := rfl
  unfold readWord
  dsimp only
  rw [hpointer]
  split <;> rfl

/-- A read neither reads nor writes the count of refusals. -/
theorem readWords_withRefused (n k : Nat) (s : State) :
    readWords k (s.withRefused n) = ((readWords k s).1.withRefused n, (readWords k s).2) := by
  induction k generalizing s with
  | zero => rfl
  | succ k ih => rw [readWords_succ, readWord_withRefused, ih, readWords_succ]

theorem clampTo_count (w : Nat) : clampTo 1 16 w = (max 1 (min 16 w), decide (max 1 (min 16 w) ≠ w)) := by
  unfold clampTo
  refine Prod.ext rfl ?_
  rw [Bool.eq_iff_iff]
  simp only [Bool.or_eq_true, decide_eq_true_eq]
  omega

theorem answerTRead_read {w : Word} {s : State} (hm : s.orders.pointer.mode = .read) :
    answerTRead [w] s =
      ⟨(readWords (max 1 (min 16 w.toNat)) s).1, if max 1 (min 16 w.toNat) = w.toNat then .done else .doneClamped,
        (readWords (max 1 (min 16 w.toNat)) s).2 ++
          (readWords (max 1 (min 16 w.toNat)) s).1.orders.pointer.toWords⟩ := by
  rw [answerTRead, hm]
  dsimp only
  rw [clampTo_count]
  simp

/-- A T-READ of an order, from what is read. -/
theorem exec_tRead {s t : State} {o : QueuedOrder} {rest : List QueuedOrder} {w : Word} {ws : List Word}
    (h : s.Heads o rest 0x12 [w]) (hm : s.orders.pointer.mode = .read)
    (hread : readWords (max 1 (min 16 w.toNat)) (s.taking rest) = (t.taking rest, ws)) :
    exec .tRead s =
      .next (t.answered o rest (if max 1 (min 16 w.toNat) = w.toNat then .done else .doneClamped)
        (ws ++ t.orders.pointer.toWords)) := by
  have hmode : (s.taking rest).orders.pointer.mode = .read := hm
  have hlen := readWords_length (max 1 (min 16 w.toNat)) (s.taking rest)
  rw [hread] at hlen
  refine order_taking (t := t) h ?_ ?_
  · rw [answerTRead_read hmode, hread]
    rfl
  · rw [List.length_append, hlen, TablePointer.toWords_length]
    omega

/-- A T-READ of a count in range. -/
theorem exec_tRead_run {s : State} {o : QueuedOrder} {rest : List QueuedOrder} {w : Word} {n : Nat}
    (h : s.Heads o rest 0x12 [w]) (hm : s.orders.pointer.mode = .read) (hw : w.toNat = n) (h1 : 1 ≤ n) (h16 : n ≤ 16) :
    exec .tRead s =
      .next ((readWords n (s.taking rest)).1.answered o rest .done
        ((readWords n (s.taking rest)).2 ++ (readWords n (s.taking rest)).1.orders.pointer.toWords)) := by
  subst hw
  have hcount : max 1 (min 16 w.toNat) = w.toNat := by omega
  have hfrom := readWords_from w.toNat (s.taking rest)
  have hread := exec_tRead (t := (readWords w.toNat (s.taking rest)).1) h hm (ws := (readWords w.toNat (s.taking rest)).2) (by
    rw [hcount, State.taking_of_taken (rest := rest) hfrom.queue hfrom.taken (by rw [hfrom.frame]; rfl)])
  rwa [if_pos hcount] at hread

/-- Settles O8, by the recursion over the words read: within an entry, at its end, and one run after another. -/
theorem tReadGivesHolding : Obligations.TReadGivesHolding := by
  refine ⟨?_, ?_⟩
  · intro s o rest w h p n r words
    refine ⟨?_, ?_, ?_⟩
    · intro hm
      refine order_refused h _ ?_
      have hmode : (s.taking rest).orders.pointer.mode = .write := hm
      rw [answerTRead, hmode]
    · intro hm hlen hpart q
      exact exec_tRead (t := { s with orders := { s.orders with pointer := q } }) h hm
        (readWords_part n (s.taking rest) hlen hpart)
    · intro hm hlen hwhole q
      refine exec_tRead (t := { s with orders :=
        { s.orders with pointer := q, holding := s.tables.entryWords q.table q.entry } }) h hm
        ((readWords_whole (s := s.taking rest) hlen (by omega) hwhole).trans (Prod.ext ?_ rfl))
      have hnext : p.nextEntry = q := nextEntry_eq ..
      dsimp only [State.pointNext, State.modOrders, State.taking]
      rw [hnext]
  · intro s o rest m n w hm1 hn1 hle hw h hm carrying
    have hcount (k : Nat) (hk : k ≤ 16) : (Word.nat k).toNat = k := Word.nat_toNat (by omega)
    have hfirst : (carrying m s).Heads { o with args := some [Word.nat m] } rest 0x12 [Word.nat m] :=
      ⟨rfl, h.code, rfl, rfl, h.waited⟩
    have hrun := exec_tRead_run hfirst hm (hcount m (by omega)) hm1 (by omega)
    have hbegin : (carrying m s).taking rest = s.taking rest := rfl
    rw [hbegin] at hrun
    have hwhole := exec_tRead_run h hm hw (by omega) hle
    rw [readWords_add] at hwhole
    have hfrom := readWords_from m (s.taking rest)
    have hlen := readWords_length m (s.taking rest)
    generalize readWords m (s.taking rest) = q at hrun hwhole hfrom hlen
    obtain ⟨y, us⟩ := q
    obtain ⟨hframe, hqueue, htaken, hrefused, hmode⟩ := hfrom
    dsimp only at hrun hwhole hframe hqueue htaken hrefused hmode hlen
    set t1 := y.answered { o with args := some [Word.nat m] } rest .done (us ++ y.orders.pointer.toWords) with ht1
    have hthen : (carrying n t1).taking rest = y.withRefused t1.orders.refused := by
      have hy := State.taking_of_taken (y := y) (rest := rest) hqueue htaken (by rw [hframe]; rfl)
      conv_rhs => rw [← hy]
      rfl
    have hsecond : (carrying n t1).Heads { o with args := some [Word.nat n] } rest 0x12 [Word.nat n] :=
      ⟨rfl, h.code, rfl, rfl, h.waited⟩
    have hrun2 := exec_tRead_run hsecond (hmode.trans hm) (hcount n (by omega)) hn1 (by omega)
    rw [hthen, readWords_withRefused] at hrun2
    refine ⟨t1, us, _, (readWords n y).2, hrun, hlen, rfl, hrun2, readWords_length .., rfl, ?_⟩
    rw [hwhole]
    refine congrArg _ ((answered_withRefused (n := t1.orders.refused) (r1 := .done) (r2 := .done) (.inl rfl) ?_).trans ?_)
    · show min (y.orders.refused + 0) 65535 = min (readWords n y).1.orders.refused 65535
      rw [(readWords_from n y).refused, Nat.add_zero]
    · rfl

end Sys2Proof.Machine

/-!
PROOF. What a commit stores, field by field (R17 to R19, R68, R93, R127, R199, R201, R207).
-/

namespace Sys2Proof.Machine

/-! ### Fields -/

/-- A numeric field of bounds `lo` and `hi` that a word can hold. -/
theorem FieldRule.clamps_stores {lo hi : Nat} (w : Word) :
    (FieldRule.clamps lo hi).stores w = Word.nat (clampTo lo hi w.toNat).1 := rfl

theorem FieldRule.clamps_takes (lo hi : Nat) (w : Word) : (FieldRule.clamps lo hi).takes w = true := rfl

theorem Word.nat_toNat_self (w : Word) : Word.nat w.toNat = w := by
  rw [Word.nat, BitVec.ofNat_toNat, BitVec.setWidth_eq]

theorem Word.nat_eq_iff {n : Nat} {w : Word} (h : n < 2 ^ 48) : Word.nat n = w ↔ n = w.toNat := by
  constructor
  · rintro rfl; rw [Word.nat_toNat h]
  · rintro rfl; exact Word.nat_toNat_self w

theorem clampTo_changed {lo hi : Nat} (w : Word) (h : lo ≤ hi) (hhi : hi < 2 ^ 48) :
    (clampTo lo hi w.toNat).2 = true ↔ (FieldRule.clamps lo hi).stores w ≠ w := by
  have hle := clampTo_range lo hi w.toNat h
  rw [FieldRule.clamps_stores, Ne, Word.nat_eq_iff (by omega)]
  simp only [clampTo, Bool.or_eq_true, decide_eq_true_eq]
  omega

theorem codeField_val (w : Word) : Word.nat (codeField w).1.val = (FieldRule.clamps 0 255).stores w := by
  have hle := clampTo_range 0 255 w.toNat (by omega)
  rw [FieldRule.clamps_stores]
  show Word.nat (BitVec.ofNat 8 (clampTo 0 255 w.toNat).1).toNat = _
  rw [BitVec.toNat_ofNat, Nat.mod_eq_of_lt (by omega)]

theorem codeField_changed (w : Word) : (codeField w).2 = true ↔ (FieldRule.clamps 0 255).stores w ≠ w :=
  clampTo_changed (lo := 0) (hi := 255) w (by omega) (by omega)

theorem flagField_eq_some {w : Word} {b : Bool} : flagField w = some b ↔ Word.flag b = w := by
  unfold flagField Word.flag
  by_cases h0 : w = 0
  · subst h0; cases b <;> simp
  · by_cases h1 : w = 1
    · subst h1; cases b <;> simp
    · rw [if_neg h0, if_neg h1]
      cases b
      · simpa using Ne.symm h0
      · simpa using Ne.symm h1

theorem flagField_takes {w : Word} : (FieldRule.below 2).takes w = true ↔ ∃ b, flagField w = some b := by
  have hbound : (FieldRule.below 2).takes w = true ↔ w.toNat < 2 := decide_eq_true_iff
  simp only [hbound, flagField_eq_some, Word.flag]
  constructor
  · intro h
    obtain h0 | h1 : w.toNat = 0 ∨ w.toNat = 1 := by omega
    · exact ⟨false, BitVec.eq_of_toNat_eq (by simp [h0])⟩
    · exact ⟨true, BitVec.eq_of_toNat_eq (by simp [h1])⟩
  · rintro ⟨b, rfl⟩
    cases b <;> decide

theorem below_takes {n : Nat} {w : Word} : (FieldRule.below n).takes w = true ↔ w.toNat < n := decide_eq_true_iff

theorem placeField_takes {n : Nat} {w : Word} :
    (FieldRule.below n).takes w = true ↔ placeField n w = some w.toNat := by
  rw [below_takes, placeField]
  split <;> simp_all

theorem placeField_some {n a : Nat} {w : Word} (h : placeField n w = some a) : a < n ∧ Word.nat a = w := by
  unfold placeField at h
  split at h
  · rename_i hlt
    cases h
    exact ⟨hlt, Word.nat_toNat_self w⟩
  · cases h

theorem below_takes_of_placed {n a : Nat} {w : Word} (h : placeField n w = some a) :
    (FieldRule.below n).takes w = true := by
  rw [below_takes]
  unfold placeField at h
  split at h
  · assumption
  · cases h

theorem eventField_takes {w : Word} :
    (FieldRule.below 4096).takes w = true ↔ eventField w = some (w.setWidth 12) := by
  rw [below_takes, eventField]
  split <;> simp_all

theorem eventField_some {w : Word} {v : BitVec 12} (h : eventField w = some v) :
    w.toNat < 4096 ∧ Word.nat v.toNat = w := by
  unfold eventField at h
  split at h
  · rename_i hlt
    cases h
    refine ⟨hlt, ?_⟩
    rw [BitVec.toNat_setWidth, Nat.mod_eq_of_lt hlt, Word.nat_toNat_self]
  · cases h

theorem areaMask_bit : ∀ i : Fin 48,
    (0xF00000F00000 : Word).getLsbD i.val = (decide (20 ≤ i.val ∧ i.val < 24) || decide (44 ≤ i.val ∧ i.val < 48)) := by
  decide

/-- The two unused parts of an area test word are empty where the mask of them is. -/
theorem areaTest_takes {w : Word} :
    FieldRule.areaTest.takes w = true ↔ w.extractLsb' 20 4 = 0 ∧ w.extractLsb' 44 4 = 0 := by
  have htakes : FieldRule.areaTest.takes w = true ↔ w &&& 0xF00000F00000 = 0 := decide_eq_true_iff
  rw [htakes]
  constructor
  · intro h
    have hbit (i : Nat) (hi : i < 48) (hm : (0xF00000F00000 : Word).getLsbD i = true) : w.getLsbD i = false := by
      have hand := congrArg (fun v : Word => v.getLsbD i) h
      rw [BitVec.getLsbD_and, hm, Bool.and_true] at hand
      exact hand.trans BitVec.getLsbD_zero
    constructor
    · refine BitVec.eq_of_getLsbD_eq fun j hj => ?_
      rw [BitVec.getLsbD_extractLsb', hbit (20 + j) (by omega) (by rw [areaMask_bit ⟨20 + j, by omega⟩]; simp; omega)]
      simp
    · refine BitVec.eq_of_getLsbD_eq fun j hj => ?_
      rw [BitVec.getLsbD_extractLsb', hbit (44 + j) (by omega) (by rw [areaMask_bit ⟨44 + j, by omega⟩]; simp; omega)]
      simp
  · rintro ⟨hlow, hhigh⟩
    have hbit (start i : Nat) (h : w.extractLsb' start 4 = 0) (h1 : start ≤ i) (h2 : i < start + 4) :
        w.getLsbD i = false := by
      have hpart := congrArg (fun v : BitVec 4 => v.getLsbD (i - start)) h
      have hsub : start + (i - start) = i := by omega
      simpa [BitVec.getLsbD_extractLsb', hsub, (by omega : i - start < 4)] using hpart
    refine BitVec.eq_of_getLsbD_eq fun i hi => ?_
    rw [BitVec.getLsbD_and, areaMask_bit ⟨i, hi⟩]
    by_cases h20 : 20 ≤ i ∧ i < 24
    · rw [hbit 20 i hlow (by omega) (by omega)]; simp
    · by_cases h44 : 44 ≤ i ∧ i < 48
      · rw [hbit 44 i hhigh (by omega) (by omega)]; simp
      · simp [h20, h44]

theorem areaField_takes {w : Word} :
    FieldRule.areaTest.takes w = true ↔ areaField w = some (w.extractLsb' 0 20, w.extractLsb' 24 20) := by
  rw [areaTest_takes, areaField]
  simp

theorem areaField_some {w : Word} {a : BitVec 20 × BitVec 20} (h : areaField w = some a) :
    FieldRule.areaTest.takes w = true ∧ areaTestWord a.1 a.2 = w := by
  have htakes : w.extractLsb' 20 4 = 0 ∧ w.extractLsb' 44 4 = 0 := by
    by_contra hno
    rw [areaField, if_neg (by simpa using hno)] at h
    cases h
  rw [areaField_takes.mp (areaTest_takes.mpr htakes)] at h
  cases h
  refine ⟨areaTest_takes.mpr htakes, ?_⟩
  have hlow := congrArg BitVec.toNat htakes.1
  have hhigh := congrArg BitVec.toNat htakes.2
  rw [BitVec.extractLsb'_toNat, Nat.shiftRight_eq_div_pow] at hlow hhigh
  rw [areaTestWord, Word.nat_eq_iff]
  · simp only [BitVec.extractLsb'_toNat, Nat.shiftRight_eq_div_pow]
    have hlt := w.isLt
    simp at hlow hhigh ⊢
    omega
  · have h1 := (w.extractLsb' 0 20).isLt
    have h2 := (w.extractLsb' 24 20).isLt
    omega

/-! ### Settings -/

/-- A settings rule treats words as a field does. -/
def SettingRule.Reads : SettingRule → FieldRule → Prop
  | .range lo hi, .clamps lo' hi' => lo' = lo ∧ hi' = hi ∧ lo ≤ hi ∧ hi < 2 ^ 48
  | .oneOf values, .oneOf values' => values ⊆ values' ∧ values' ⊆ values
  | .oneOf values, .below n => values = List.range n
  | _, _ => False

/-- The same, decided. -/
def SettingRule.decideReads (r : SettingRule) (f : FieldRule) : Decidable (r.Reads f) :=
  match r, f with
  | .range lo hi, .clamps lo' hi' => inferInstanceAs (Decidable (lo' = lo ∧ hi' = hi ∧ lo ≤ hi ∧ hi < 2 ^ 48))
  | .oneOf values, .oneOf values' => inferInstanceAs (Decidable (values ⊆ values' ∧ values' ⊆ values))
  | .oneOf values, .below n => inferInstanceAs (Decidable (values = List.range n))
  | .range _ _, .oneOf _ | .range _ _, .below _ | .range _ _, .areaTest | .oneOf _, .clamps _ _ | .oneOf _, .areaTest =>
    isFalse id

theorem settingRules_reads (k : Fin 26) : (settingRules.get k).Reads (settingFields[k.val]'k.isLt) := by
  have hall : ∀ k : Fin 26, @decide _ ((settingRules.get k).decideReads (settingFields[k.val]'k.isLt)) = true := by
    decide +kernel
  exact @of_decide_eq_true _ (_) (hall k)

theorem SettingRule.Reads.takes {r : SettingRule} {f : FieldRule} (h : r.Reads f) (w : Word) :
    f.takes w = true ↔ ∃ v, r.check w.toNat = some v := by
  cases r with
  | oneOf values =>
    have hcheck : (∃ v, SettingRule.check (.oneOf values) w.toNat = some v) ↔ w.toNat ∈ values := by
      simp [SettingRule.check]
    rw [hcheck]
    cases f with
    | oneOf values' =>
      have htakes : (FieldRule.oneOf values').takes w = true ↔ w.toNat ∈ values' := List.contains_iff_mem
      exact htakes.trans ⟨fun hw => h.2 hw, fun hw => h.1 hw⟩
    | below n => rw [below_takes, show values = List.range n from h, List.mem_range]
    | clamps => exact h.elim
    | areaTest => exact h.elim
  | range lo hi =>
    cases f with
    | clamps lo' hi' => exact ⟨fun _ => ⟨_, rfl⟩, fun _ => rfl⟩
    | oneOf => exact h.elim
    | below => exact h.elim
    | areaTest => exact h.elim

theorem SettingRule.check_oneOf {values : List Nat} {x : Nat} {v : Nat × Bool}
    (h : SettingRule.check (.oneOf values) x = some v) : v = (x, false) ∧ x ∈ values := by
  rw [SettingRule.check] at h
  split at h
  · rename_i hx
    cases h
    exact ⟨rfl, List.contains_iff_mem.mp hx⟩
  · cases h

theorem SettingRule.Reads.stores {r : SettingRule} {f : FieldRule} (h : r.Reads f) {w : Word} {v : Nat × Bool}
    (hv : r.check w.toNat = some v) : Word.nat v.1 = f.stores w ∧ (v.2 = true ↔ f.stores w ≠ w) := by
  cases r with
  | oneOf values =>
    obtain ⟨rfl, -⟩ := SettingRule.check_oneOf hv
    have hstores : f.stores w = w := by
      cases f with
      | clamps => exact h.elim
      | _ => rfl
    rw [hstores]
    exact ⟨Word.nat_toNat_self w, by simp⟩
  | range lo hi =>
    cases f with
    | clamps lo' hi' =>
      obtain ⟨rfl, rfl, hle, hlt⟩ := h
      cases hv
      exact ⟨rfl, clampTo_changed w hle hlt⟩
    | oneOf => exact h.elim
    | below => exact h.elim
    | areaTest => exact h.elim

theorem SettingRule.Reads.ordered {lo hi : Nat} {f : FieldRule} (h : SettingRule.Reads (.range lo hi) f) : lo ≤ hi := by
  cases f with
  | clamps => exact h.2.2.1
  | _ => exact h.elim

theorem fieldRules_settings (k : Fin 26) : TableId.fieldRules .settings k.val = [settingFields[k.val]'k.isLt] := by
  rw [TableId.fieldRules, List.getElem?_eq_getElem k.isLt]
  rfl

/-! ### Entries -/

theorem EndAction.code_ofCode {a : Nat} (h : a < 4) : (EndAction.ofCode a).code = a := by
  interval_cases a <;> rfl

theorem Verdict.code_ofCode {a : Nat} (h : a < 2) : (Verdict.ofCode a).code = a := by
  interval_cases a <;> rfl

theorem AirMode.code_ofCode {a : Nat} (h : a < 3) : (AirMode.ofCode a).code = a := by
  interval_cases a <;> rfl

theorem readFilter_eq_some {enable form verdict priority mode value mask area1 area2 : Word} {f : FilterEntry × Bool} :
    readFilter enable form verdict priority mode value mask area1 area2 = some f ↔
      ∃ on, flagField enable = some on ∧ ∃ paired, flagField form = some paired ∧ ∃ v, placeField 2 verdict = some v ∧
      ∃ m, placeField 3 mode = some m ∧ ∃ ev, eventField value = some ev ∧ ∃ em, eventField mask = some em ∧
      ∃ a1, areaField area1 = some a1 ∧ ∃ a2, areaField area2 = some a2 ∧
        (⟨on, paired, Verdict.ofCode v, BitVec.toFin (BitVec.ofNat 2 (clampTo 0 3 priority.toNat).1), AirMode.ofCode m, ev,
          em, a1.1, a1.2, a2.1, a2.2⟩, (clampTo 0 3 priority.toNat).2) = f := by
  simp only [readFilter, Option.pure_def, Option.bind_eq_bind, Option.bind_eq_some_iff, Option.some.injEq]

/-- An entry is committed where each of its fields takes its word. -/
theorem Tables.commits_of_takes (T : Tables) {t : TableId} {e : Nat} {ws : List Word} (he : e < t.entries)
    (hlen : ws.length = t.fields) (htakes : ∀ p ∈ (t.fieldRules e).zip ws, p.1.takes p.2 = true) :
    ∃ U c, T.Commits t e ws U c := by
  cases t with
  | gain =>
    obtain ⟨w, rfl⟩ := List.length_eq_one_iff.mp hlen
    exact ⟨_, _, .gain ⟨e, he⟩ w⟩
  | route =>
    obtain ⟨a, b, rfl⟩ := List.length_eq_two.mp hlen
    exact ⟨_, _, .route ⟨e, he⟩ a b⟩
  | lineConf =>
    obtain ⟨a, b, rfl⟩ := List.length_eq_two.mp hlen
    exact ⟨_, _, .lineConf ⟨e, he⟩ a b⟩
  | noticeConf =>
    obtain ⟨a, b, rfl⟩ := List.length_eq_two.mp hlen
    obtain ⟨x, hx⟩ := flagField_takes.mp (htakes (.below 2, a) (by simp [TableId.fieldRules]))
    obtain ⟨y, hy⟩ := flagField_takes.mp (htakes (.below 2, b) (by simp [TableId.fieldRules]))
    exact ⟨_, _, .noticeConf ⟨e, he⟩ hx hy⟩
  | settings =>
    obtain ⟨w, rfl⟩ := List.length_eq_one_iff.mp hlen
    obtain ⟨v, hv⟩ := ((settingRules_reads ⟨e, he⟩).takes w).mp (htakes (settingFields[e]'he, w)
      (by rw [fieldRules_settings ⟨e, he⟩]; exact List.mem_singleton_self _))
    exact ⟨_, _, .settings ⟨e, he⟩ hv⟩
  | slotConf =>
    match ws, hlen with
    | [gain, action, chain, lock], _ =>
      have ha := placeField_takes.mp (htakes (.below 4, action) (by simp [TableId.fieldRules]))
      have ht := below_takes.mp (htakes (.below 32, chain) (by simp [TableId.fieldRules]))
      obtain ⟨x, hx⟩ := flagField_takes.mp (htakes (.below 2, lock) (by simp [TableId.fieldRules]))
      exact ⟨_, _, .slotConf ⟨e, he⟩ ha (finOf_eq_some (k := ⟨chain.toNat, ht⟩).mpr rfl) hx⟩
  | filter =>
    match ws, hlen with
    | [enable, form, verdict, priority, mode, value, mask, area1, area2], _ =>
      obtain ⟨on, hon⟩ := flagField_takes.mp (htakes (.below 2, enable) (by simp [TableId.fieldRules]))
      obtain ⟨paired, hpaired⟩ := flagField_takes.mp (htakes (.below 2, form) (by simp [TableId.fieldRules]))
      have hv := placeField_takes.mp (htakes (.below 2, verdict) (by simp [TableId.fieldRules]))
      have hm := placeField_takes.mp (htakes (.below 3, mode) (by simp [TableId.fieldRules]))
      have hev := eventField_takes.mp (htakes (.below 4096, value) (by simp [TableId.fieldRules]))
      have hem := eventField_takes.mp (htakes (.below 4096, mask) (by simp [TableId.fieldRules]))
      have ha1 := areaField_takes.mp (htakes (.areaTest, area1) (by simp [TableId.fieldRules]))
      have ha2 := areaField_takes.mp (htakes (.areaTest, area2) (by simp [TableId.fieldRules]))
      exact ⟨_, _, .filter ⟨e, he⟩ (readFilter_eq_some.mpr
        ⟨on, hon, paired, hpaired, _, hv, _, hm, _, hev, _, hem, _, ha1, _, ha2, rfl⟩)⟩

/-- What a commit does to its entry: each field takes its word and then reads as the field stores it. -/
structure Tables.Stored (T : Tables) (t : TableId) (e : Nat) (ws : List Word) (U : Tables) (c : Bool) : Prop where
  entry : e < t.entries
  length : ws.length = t.fields
  takes : ∀ p ∈ (t.fieldRules e).zip ws, p.1.takes p.2 = true
  words : U.entryWords t e = (t.fieldRules e).zipWith FieldRule.stores ws
  clamped : c = true ↔ (t = .gain ∧ e = 0) ∨ (t.fieldRules e).zipWith FieldRule.stores ws ≠ ws
  others : ∀ u k, ¬(u = t ∧ k = e) → U.entryWords u k = T.entryWords u k

/-- An entry that was not written reads as before. -/
theorem finOf_map_set {α β : Type} {n : Nat} (v : Vector α n) (k : Fin n) (x : α) (f : α → β) {j : Nat} (h : j ≠ k.val) :
    ((finOf n j).map fun i => f ((v.set k x).get i)) = (finOf n j).map fun i => f (v.get i) := by
  refine Option.map_congr fun i hi => ?_
  rw [get_set, if_neg fun hk => h ((finOf_eq_some.mp hi).trans hk.symm)]

theorem get_set_self {α : Type} {n : Nat} (v : Vector α n) (k : Fin n) (x : α) : (v.set k x).get k = x := by
  rw [get_set, if_pos rfl]

theorem entryWords_gain (T : Tables) (k : Fin 256) : T.entryWords .gain k.val = [Word.nat (T.gain.get k)] := by
  rw [Tables.entryWords, finOf_val]; rfl

theorem entryWords_route (T : Tables) (k : Fin 60) :
    T.entryWords .route k.val = [Word.nat (T.route.get k).code.val, Word.nat (T.route.get k).ramp] := by
  rw [Tables.entryWords, finOf_val]; rfl

theorem entryWords_slotConf (T : Tables) (k : Fin 32) :
    T.entryWords .slotConf k.val =
      [Word.nat (T.slotConf.get k).gain.val, Word.nat (T.slotConf.get k).endAction.code,
        Word.nat (T.slotConf.get k).chain.val, Word.flag (T.slotConf.get k).lock] := by
  rw [Tables.entryWords, finOf_val]; rfl

theorem entryWords_filter (T : Tables) (k : Fin 16) : T.entryWords .filter k.val = (T.filter.get k).toWords := by
  rw [Tables.entryWords, finOf_val]; rfl

theorem entryWords_lineConf (T : Tables) (k : Fin 6) :
    T.entryWords .lineConf k.val = [Word.nat (T.lineConf.get k).trim.val, Word.nat (T.lineConf.get k).holdSeconds] := by
  rw [Tables.entryWords, finOf_val]; rfl

theorem entryWords_settings (T : Tables) (k : Fin 26) : T.entryWords .settings k.val = [Word.nat (T.settings.get k)] := by
  rw [Tables.entryWords, finOf_val]; rfl

theorem entryWords_noticeConf (T : Tables) (k : Fin 25) :
    T.entryWords .noticeConf k.val =
      [Word.flag (T.noticeConf.get k).enable, Word.flag (T.noticeConf.get k).repeats] := by
  rw [Tables.entryWords, finOf_val]; rfl

theorem FieldRule.below_stores (n : Nat) (w : Word) : (FieldRule.below n).stores w = w := rfl

theorem FieldRule.areaTest_stores (w : Word) : FieldRule.areaTest.stores w = w := rfl

/-- A commit leaves the entries of other tables, and those of its own table but its own. -/
theorem Tables.Commits.others {T U : Tables} {t : TableId} {e : Nat} {ws : List Word} {c : Bool}
    (h : T.Commits t e ws U c) (u : TableId) (j : Nat) (hne : ¬(u = t ∧ j = e)) :
    U.entryWords u j = T.entryWords u j := by
  cases h with
  | gain k w =>
    rw [commitGain_eq]
    cases u with
    | gain => exact congrArg (·.getD []) (finOf_map_set _ k _ (fun x => [Word.nat x]) fun hj => hne ⟨rfl, hj⟩)
    | _ => rfl
  | route k code ramp =>
    cases u with
    | route =>
      exact congrArg (·.getD []) (finOf_map_set _ k _ (fun x : RouteEntry => [Word.nat x.code.val, Word.nat x.ramp])
        fun hj => hne ⟨rfl, hj⟩)
    | _ => rfl
  | lineConf k trim hold =>
    cases u with
    | lineConf =>
      exact congrArg (·.getD []) (finOf_map_set _ k _
        (fun x : LineConf => [Word.nat x.trim.val, Word.nat x.holdSeconds]) fun hj => hne ⟨rfl, hj⟩)
    | _ => rfl
  | settings k hv =>
    cases u with
    | settings => exact congrArg (·.getD []) (finOf_map_set _ k _ (fun x => [Word.nat x]) fun hj => hne ⟨rfl, hj⟩)
    | _ => rfl
  | noticeConf k he hr =>
    cases u with
    | noticeConf =>
      exact congrArg (·.getD []) (finOf_map_set _ k _
        (fun x : NoticeConf => [Word.flag x.enable, Word.flag x.repeats]) fun hj => hne ⟨rfl, hj⟩)
    | _ => rfl
  | slotConf k ha ht hl =>
    cases u with
    | slotConf =>
      exact congrArg (·.getD []) (finOf_map_set _ k _
        (fun x : SlotConf => [Word.nat x.gain.val, Word.nat x.endAction.code, Word.nat x.chain.val, Word.flag x.lock])
        fun hj => hne ⟨rfl, hj⟩)
    | _ => rfl
  | filter k hf =>
    cases u with
    | filter => exact congrArg (·.getD []) (finOf_map_set _ k _ FilterEntry.toWords fun hj => hne ⟨rfl, hj⟩)
    | _ => rfl

/-- Entry 0 of GAIN is committed as 0 (R18). -/
theorem Tables.Commits.gain_zero {T U : Tables} {ws : List Word} {c : Bool} (h : T.Commits .gain 0 ws U c) :
    U.gain.get 0 = 0 := by
  generalize he : 0 = e at h
  generalize ht : TableId.gain = t at h
  cases h with
  | gain k w =>
    obtain rfl : k = 0 := Fin.ext he.symm
    rw [commitGain_eq, get_set_self, if_pos rfl]
    rfl
  | _ => cases ht

/-- A commit leaves the entry's values within their ranges. -/
theorem Tables.Commits.ranges {T U : Tables} {t : TableId} {e : Nat} {ws : List Word} {c : Bool}
    (h : T.Commits t e ws U c) :
    (t = .gain → ∀ k : Fin 256, k.val = e → U.gain.get k ≤ 65535) ∧
    (t = .route → ∀ k : Fin 60, k.val = e → 1 ≤ (U.route.get k).ramp ∧ (U.route.get k).ramp ≤ 64) ∧
    (t = .lineConf → ∀ k : Fin 6, k.val = e →
      10 ≤ (U.lineConf.get k).holdSeconds ∧ (U.lineConf.get k).holdSeconds ≤ 3600) ∧
    (t = .settings → ∀ k : Fin 26, k.val = e →
      match settingRules.get k with
      | .oneOf values => U.settings.get k ∈ values ∧ c = false
      | .range lo hi => lo ≤ U.settings.get k ∧ U.settings.get k ≤ hi) := by
  cases h with
  | gain k w =>
    refine ⟨fun _ j hj => ?_, nofun, nofun, nofun⟩
    obtain rfl := Fin.ext hj
    rw [commitGain_eq, get_set_self]
    split
    · omega
    · exact (clampTo_range 0 65535 _ (by omega)).2
  | route k code ramp =>
    refine ⟨nofun, fun _ j hj => ?_, nofun, nofun⟩
    obtain rfl := Fin.ext hj
    rw [commitRoute, get_set_self]
    exact clampTo_range 1 64 _ (by omega)
  | lineConf k trim hold =>
    refine ⟨nofun, nofun, fun _ j hj => ?_, nofun⟩
    obtain rfl := Fin.ext hj
    rw [commitLineConf, get_set_self]
    exact clampTo_range 10 3600 _ (by omega)
  | @settings k w v hv =>
    refine ⟨nofun, nofun, nofun, fun _ j hj => ?_⟩
    obtain rfl := Fin.ext hj
    have hreads := settingRules_reads j
    rw [get_set_self]
    split
    · rename_i values hrule
      rw [hrule] at hv
      obtain ⟨rfl, hmem⟩ := SettingRule.check_oneOf hv
      exact ⟨hmem, rfl⟩
    · rename_i lo hi hrule
      rw [hrule] at hv hreads
      cases hv
      exact clampTo_range lo hi _ hreads.ordered
  | _ => exact ⟨nofun, nofun, nofun, nofun⟩

/-- A committed entry: its fields have taken their words, and read as the fields store them. -/
theorem Tables.Commits.stored {T U : Tables} {t : TableId} {e : Nat} {ws : List Word} {c : Bool}
    (h : T.Commits t e ws U c) : T.Stored t e ws U c := by
  have hothers := h.others
  cases h with
  | gain k w =>
    by_cases hk : k = 0
    · subst hk
      refine ⟨(0 : Fin 256).isLt, rfl, fun p hp => by rw [List.mem_singleton.mp hp]; rfl, ?_, by simp [commitGain], hothers⟩
      rw [commitGain_eq, entryWords_gain, get_set_self, if_pos rfl]
      simp [TableId.fieldRules, FieldRule.stores]
    · have hk' : k.val ≠ 0 := fun h0 => hk (Fin.ext h0)
      have hrule : TableId.fieldRules .gain k.val = [.clamps 0 65535] := by rw [TableId.fieldRules, if_neg hk']
      have hcommit : commitGain T k w =
          ({ T with gain := T.gain.set k (clampTo 0 65535 w.toNat).1 }, (clampTo 0 65535 w.toNat).2) := if_neg hk
      have h1 := clampTo_changed (lo := 0) (hi := 65535) w (by omega) (by omega)
      rw [hcommit] at hothers ⊢
      refine ⟨k.isLt, rfl, ?_, ?_, ?_, hothers⟩
      · rw [hrule]
        exact fun p hp => by rw [List.mem_singleton.mp hp]; rfl
      · rw [entryWords_gain, get_set_self, hrule]
        rfl
      · rw [hrule, h1]
        simp only [hk', and_false, false_or, List.zipWith_cons_cons, List.zipWith_nil_left, Ne, List.cons.injEq, and_true]
  | route k code ramp =>
    refine ⟨k.isLt, rfl, by simp [TableId.fieldRules, FieldRule.takes], ?_, ?_, hothers⟩
    · rw [commitRoute, entryWords_route, get_set_self, codeField_val]
      rfl
    · have h1 := codeField_changed code
      have h2 := clampTo_changed (lo := 1) (hi := 64) ramp (by omega) (by omega)
      simp only [commitRoute, Bool.or_eq_true, h1, h2, TableId.fieldRules, List.zipWith_cons_cons, List.zipWith_nil_left]
      simp [← not_and_or]
  | lineConf k trim hold =>
    refine ⟨k.isLt, rfl, by simp [TableId.fieldRules, FieldRule.takes], ?_, ?_, hothers⟩
    · rw [commitLineConf, entryWords_lineConf, get_set_self, codeField_val]
      rfl
    · have h1 := codeField_changed trim
      have h2 := clampTo_changed (lo := 10) (hi := 3600) hold (by omega) (by omega)
      simp only [commitLineConf, Bool.or_eq_true, h1, h2, TableId.fieldRules, List.zipWith_cons_cons, List.zipWith_nil_left]
      simp [← not_and_or]
  | settings k hv =>
    have hreads := settingRules_reads k
    obtain ⟨hstores, hchanged⟩ := hreads.stores hv
    refine ⟨k.isLt, rfl, ?_, ?_, ?_, hothers⟩
    · rw [fieldRules_settings]
      simpa using (hreads.takes _).mpr ⟨_, hv⟩
    · rw [fieldRules_settings, entryWords_settings, get_set_self, hstores]
      rfl
    · rw [fieldRules_settings, hchanged]
      simp
  | noticeConf k he hr =>
    refine ⟨k.isLt, rfl, ?_, ?_, ?_, hothers⟩
    · simp [TableId.fieldRules, flagField_takes, he, hr]
    · rw [entryWords_noticeConf, get_set_self, flagField_eq_some.mp he, flagField_eq_some.mp hr]
      rfl
    · simp [TableId.fieldRules, FieldRule.stores]
  | @slotConf k gain action chain lock a target locked ha ht hl =>
    obtain ⟨hlt, hact⟩ := placeField_some ha
    have hchain := finOf_eq_some.mp ht
    refine ⟨k.isLt, rfl, ?_, ?_, ?_, hothers⟩
    · have h32 : (FieldRule.below 32).takes chain = true := below_takes.mpr (by omega)
      simp [TableId.fieldRules, flagField_takes.mpr ⟨_, hl⟩, below_takes_of_placed ha, h32, FieldRule.clamps_takes]
    · rw [entryWords_slotConf, get_set_self, codeField_val, flagField_eq_some.mp hl, EndAction.code_ofCode hlt, hact,
        ← hchain, Word.nat_toNat_self]
      rfl
    · simp [TableId.fieldRules, FieldRule.below_stores, codeField_changed]
  | @filter k enable form verdict priority mode value mask area1 area2 f hf =>
    obtain ⟨on, hon, paired, hpaired, v, hv, m, hm, ev, hev, em, hem, a1, ha1, a2, ha2, rfl⟩ := readFilter_eq_some.mp hf
    refine ⟨k.isLt, rfl, ?_, ?_, ?_, hothers⟩
    · simp only [TableId.fieldRules, List.zip_cons_cons, List.zip_nil_left, List.forall_mem_cons,
        flagField_takes.mpr ⟨_, hon⟩, flagField_takes.mpr ⟨_, hpaired⟩, below_takes_of_placed hv, below_takes_of_placed hm,
        below_takes.mpr (eventField_some hev).1, below_takes.mpr (eventField_some hem).1, (areaField_some ha1).1,
        (areaField_some ha2).1, true_and]
      exact ⟨rfl, nofun⟩
    · rw [entryWords_filter, get_set_self]
      have hpriority := clampTo_range 0 3 priority.toNat (by omega)
      simp only [FilterEntry.toWords, flagField_eq_some.mp hon, flagField_eq_some.mp hpaired,
        Verdict.code_ofCode (placeField_some hv).1, (placeField_some hv).2, AirMode.code_ofCode (placeField_some hm).1,
        (placeField_some hm).2, (eventField_some hev).2, (eventField_some hem).2, (areaField_some ha1).2,
        (areaField_some ha2).2, TableId.fieldRules, List.zipWith_cons_cons, List.zipWith_nil_left, FieldRule.below_stores]
      have hval : (BitVec.toFin (BitVec.ofNat 2 (clampTo 0 3 priority.toNat).1)).val = (clampTo 0 3 priority.toNat).1 := by
        show (BitVec.ofNat 2 (clampTo 0 3 priority.toNat).1).toNat = _
        rw [BitVec.toNat_ofNat, Nat.mod_eq_of_lt (by omega)]
      rw [hval]
      rfl
    · have h1 := clampTo_changed (lo := 0) (hi := 3) priority (by omega) (by omega)
      simp [TableId.fieldRules, FieldRule.below_stores, FieldRule.areaTest_stores, h1]

/-- Settles O7, by the commit's form table by table, each field's rule being the model's check of it. -/
theorem commitStoresInRange : Obligations.CommitStoresInRange := by
  refine ⟨fun T t e ws => ?_, fun T U t e ws clamped h => ?_, fun T U t e ws clamped h => ?_⟩
  · rw [Option.isSome_iff_exists]
    constructor
    · rintro ⟨⟨U, c⟩, h⟩
      have hstored := (Tables.Commits.of_commit h).stored
      exact ⟨hstored.entry, hstored.length, hstored.takes⟩
    · rintro ⟨he, hlen, htakes⟩
      obtain ⟨U, c, h⟩ := T.commits_of_takes he hlen htakes
      exact ⟨(U, c), h.commit⟩
  · have hcommits := Tables.Commits.of_commit h
    have hstored := hcommits.stored
    refine ⟨hstored.words, by rw [hstored.words]; exact hstored.clamped, hstored.others, ?_⟩
    rintro rfl rfl
    exact hcommits.gain_zero
  · exact (Tables.Commits.of_commit h).ranges

end Sys2Proof.Machine

/-!
PROOF. STATUS, COUNTERS, MASK, TIME-SET and BYPASS (R21, R121, R146, R177, R203, R204).
-/

namespace Sys2Proof.Machine

/-! ### STATUS and COUNTERS -/

theorem sum_map_length (latches : Vector (Option (List Word)) 25) :
    (latches.toList.flatMap fun d => d.getD []).length = (latches.toList.map fun d => (d.getD []).length).sum := by
  rw [List.length_flatMap]

theorem presentClips_length (c : ClipStore) (players : Vector Player 3) : (presentClips c players).length = 175 := by
  simp [presentClips]

theorem LineUnit.shown_length (l : LineUnit) : l.shown.length = 27 := by
  simp [LineUnit.shown, LineUnit.readyWords]

theorem statusWords_length (s : State) :
    (statusWords s).length = 246 + (s.notices.latches.toList.map fun d => (d.getD []).length).sum := by
  simp only [statusWords, List.length_append, presentClips_length, LineUnit.shown_length, NoticeUnit.shown, List.length_cons,
    sum_map_length, StudioInput.shown, MixEngine.shown, DelayLine.shown, AlertIntake.shown, AirStage.shown, LinkUnit.shown,
    OrderUnit.shown, TablePointer.toWords_length, List.length_nil]
  omega

theorem counterValues_length (s : State) : (counterValues s).length = 67 := rfl

theorem counterValues_clear (s : State) : counterValues (clearCounters s) = List.replicate 67 0 := rfl

/-- Settles O9: STATUS answers with what the blocks present and clears the latches, COUNTERS with the counters, cleared. -/
theorem statusAndCountersReadOut : Obligations.StatusAndCountersReadOut := by
  refine ⟨⟨fun s o rest h => ?_, statusWords_length⟩, fun s o rest h => ?_, counterValues_length⟩
  · refine (perform_takeCode h answerStatus).trans ?_
    rw [reply, h.code]
    rfl
  · have hrun := order_taking (t := clearCounters s) h (handler := answerCounters) rfl (by simp [counterValues_length])
    exact ⟨clearCounters s, hrun, counterValues_clear s, rfl, rfl, rfl, rfl⟩

/-! ### MASK and TIME-SET -/

theorem answerMask_taken {w : Word} (s : State) (h : w.toNat < 2 ^ 20) :
    answerMask [w] s = ⟨s.modMix fun m => { m with mask := w.setWidth 20 }, .done, [s.mix.mask.setWidth 48]⟩ := if_pos h

theorem answerMask_refused {w : Word} (s : State) (h : 2 ^ 20 ≤ w.toNat) :
    answerMask [w] s = refuse .refusedArgument s := if_neg (by omega)

/-- The minute of week set, with its timer. -/
def State.withMinute (m : Nat) (s : State) : State :=
  s.modIntake fun a => { a with minuteOfWeek := some m, minuteTimer := 0 }

theorem answerTimeSet_taken {w : Word} (s : State) (h : w.toNat < 10080) :
    answerTimeSet [w] s =
      ⟨(queueMessage .timeNote (beBytes 2 w.toNat) (s.withMinute w.toNat)).1, .done,
        [Word.nat (s.intake.minuteOfWeek.getD 65535)]⟩ := if_pos h

theorem answerTimeSet_refused {w : Word} (s : State) (h : 10080 ≤ w.toNat) :
    answerTimeSet [w] s = refuse .refusedArgument s := if_neg (by show ¬ w.toNat < 10080; omega)

/-- An order whose handler changes neither the queue nor the count of refusals, and may send frames of its own. -/
theorem reply_frame {s t : State} {o : QueuedOrder} {rest : List QueuedOrder} {r : Result} {ws : List Word}
    (ho : t.orders = (s.taking rest).orders) (hw : ws.length ≤ 240) :
    reply o ⟨t, r, ws⟩ = { t with orders := s.orders.took rest r, sent := (reply o ⟨t, r, ws⟩).sent } := by
  rw [reply_single _ _ hw]
  simp [ho, OrderUnit.took, State.taking]

/-- Settles O10: MASK and TIME-SET by their handlers, the TIME_NOTE queued or dropped. -/
theorem maskAndTimeSet : Obligations.MaskAndTimeSet := by
  refine ⟨fun s o rest w h => ⟨fun hw => ?_, fun hw => ?_⟩, fun s o rest w h => ⟨fun hw hroom => ?_, fun hw hfull => ?_, fun hw => ?_⟩⟩
  · exact order_taking (t := { s with mix := { s.mix with mask := w.setWidth 20 } }) h (answerMask_taken _ hw) (by simp)
  · exact order_refused h _ (answerMask_refused _ hw)
  · refine order_taking (t := { s with
      intake := { s.intake with minuteOfWeek := some w.toNat, minuteTimer := 0 }
      link := { s.link with
        queue := s.link.queue ++ [(⟨s.link.nextNumber, .timeNote, beBytes 2 w.toNat⟩ : Message)]
        nextNumber := s.link.nextNumber + 1 } }) h ?_ (by simp)
    rw [answerTimeSet_taken _ hw, queueMessage_room _ _ _ (show ((s.taking rest).withMinute w.toNat).link.queue.length < 8 from hroom)]
    rfl
  · refine ⟨_, perform_takeCode h answerTimeSet, ?_⟩
    rw [answerTimeSet_taken _ hw, queueMessage_full _ _ _ (show 8 ≤ ((s.taking rest).withMinute w.toNat).link.queue.length from hfull)]
    refine ⟨?_, ?_, reply_getLast? _ _ (by simp)⟩
    · rw [reply_frame (s := s) (rest := rest) (by rw [latch_orders]; rfl) (by simp), latch_frame]
      rfl
    · rw [reply_notices]
      exact (latch_get ..).trans (if_pos rfl)
  · exact order_refused h _ (answerTimeSet_refused _ hw)

/-! ### BYPASS -/

theorem flagField_flag (b : Bool) : flagField (Word.flag b) = some b := flagField_eq_some.mpr rfl

theorem answerBypass_flag (b : Bool) (s : State) :
    answerBypass [Word.flag b] s =
      ⟨setBypass b s, .done, [Word.flag s.air.bypass, Word.nat (setBypass b s).air.state.code]⟩ := by
  rw [answerBypass, flagField_flag]

theorem setBypass_same (s : State) : setBypass s.air.bypass s = s := if_pos rfl

theorem setBypass_on {s : State} (h : s.air.bypass = false) :
    setBypass true s =
      { s with
        air := { s.air with bypass := true }
        delay := { s.delay with
          held := 0
          readPos := s.delay.writePos
          state := if s.delay.hold then .held else .live } } := by
  unfold setBypass
  rw [if_neg (by simp [h]), if_pos rfl]
  cases hhold : s.delay.hold <;>
    simp [bypassOn, State.modDelay, State.modAir, DelayLine.derive, DelayLine.derived, DelayLine.dropOldest, hhold,
      DelayState.moving, DelayLine.writePos]

/-- The derivation of an empty line without bypass, from the state that bypass left. -/
theorem derive_empty {d : DelayLine} (h0 : d.held = 0) (hd : d.state = if d.hold then .held else .live) :
    d.derived false = (if d.hold then .held else if d.target = 0 then .live else .building) ∧
      reachesTarget d.state (d.derived false) = false := by
  have hderived : d.derived false = (if d.hold then .held else if d.target = 0 then .live else .building) := by
    rw [DelayLine.derived, h0]
    by_cases ht : d.target = 0
    · simp [ht]
    · simp [ht, Nat.pos_of_ne_zero ht]
  refine ⟨hderived, ?_⟩
  rw [hderived, hd, reachesTarget]
  cases d.hold <;> simp

/-- A derivation that does not reach the target latches nothing. -/
theorem deriveDelay_quiet {s : State} (h : reachesTarget s.delay.state (s.delay.derived s.air.bypass) = false) :
    deriveDelay s = s.modDelay fun d => d.derive s.air.bypass :=
  if_neg (ne_true_of_eq_false h)

theorem setBypass_off {s : State} (h : s.air.bypass = true) (h0 : s.delay.held = 0)
    (hd : s.delay.state = if s.delay.hold then .held else .live) :
    setBypass false s =
      { s with
        air := { s.air with bypass := false }
        delay := { s.delay with
          state := if s.delay.hold then .held else if s.delay.target = 0 then .live else .building
          spacing := if (if s.delay.hold then DelayState.held else if s.delay.target = 0 then .live else .building) =
            DelayState.building then 0 else s.delay.spacing } } := by
  obtain ⟨hderived, hreach⟩ := derive_empty h0 hd
  unfold setBypass
  rw [if_neg (by simp [h]), if_neg (by simp), bypassOff, deriveDelay_quiet hreach]
  simp only [State.modAir, State.modDelay, DelayLine.derive, hderived, hd]
  cases s.delay.hold <;> by_cases ht : s.delay.target = 0 <;> simp [ht, DelayState.moving]

/-- Settles O11: the flag is set, and the delay line emptied and derived (R59) or derived anew (R60). -/
theorem bypassSwitches : Obligations.BypassSwitches := by
  intro s o rest w h words
  refine ⟨?_, ?_, ?_, ?_⟩
  · rintro rfl
    refine order_taking (t := s) h ?_ (by simp [words])
    rw [answerBypass_flag, show setBypass s.air.bypass (s.taking rest) = s.taking rest from setBypass_same (s.taking rest)]
    rfl
  · rintro rfl hoff
    refine order_taking h ((answerBypass_flag true _).trans ?_) (by simp [words])
    rw [setBypass_on (s := s.taking rest) hoff]
    rfl
  · rintro rfl hon h0 hd new
    refine order_taking h ((answerBypass_flag false _).trans ?_) (by simp [words])
    rw [setBypass_off (s := s.taking rest) hon h0 hd]
    rfl
  · intro hw
    refine order_refused h _ ?_
    have hflag : flagField w = none := by
      rw [Option.eq_none_iff_forall_ne_some]
      intro b hb
      rw [← flagField_eq_some.mp hb] at hw
      cases b <;> exact absurd hw (by decide)
    rw [answerBypass, hflag]

end Sys2Proof.Machine

/-!
PROOF. RESTART as a whole (R206).
-/

namespace Sys2Proof.Machine

theorem SlotState.loading_eq (x : SlotState) :
    decide (x ∈ [SlotState.filling, .recording, .alertHeld]) = x.loading := by
  cases x <;> rfl

/-- The pages of the burst that is in flight. -/
def FillRecord.burstPages : FillRecord → List Nat
  | .opened b => [b.page]
  | _ => []

theorem ClipStore.freed_eq (c : ClipStore) :
    c.freed =
      { c with
        free := c.free ++ c.fill.burstPages
        slots := c.freed.slots
        holds := Vector.replicate 4 none
        fill := .nothing
        channelHeld := false } := by
  unfold freed
  rw [replaceFill_eq]
  cases c.fill <;> simp [FillRecord.burstPages]

/-- The clip store that a RESTART leaves. -/
theorem ClipStore.restarted (c : ClipStore) :
    (List.finRange 32).foldl ClipStore.clearLoading c.freed =
        { c with
          free := c.free ++ c.fill.burstPages ++ (List.finRange 32).flatMap fun n =>
            if (c.slots.get n).state.loading then (c.slots.get n).chain else []
          slots := ((List.finRange 32).foldl ClipStore.clearLoading c.freed).slots
          holds := Vector.replicate 4 none
          fill := .nothing
          channelHeld := false } ∧
      ∀ n, ((List.finRange 32).foldl ClipStore.clearLoading c.freed).slots.get n =
        if (c.slots.get n).state.loading then (c.slots.get n).emptied else { c.slots.get n with useCount := 0 } := by
  have hmem (n : Fin 32) : n ∈ List.finRange 32 := List.mem_finRange n
  have hnodup := List.nodup_finRange 32
  generalize List.finRange 32 = l at hmem hnodup ⊢
  obtain ⟨heq, hget⟩ := foldl_clearLoading l hnodup c.freed
  have hstate (n : Fin 32) : (c.freed.slots.get n).state = (c.slots.get n).state := by rw [freed_get]
  have hchain (n : Fin 32) : (c.freed.slots.get n).chain = (c.slots.get n).chain := by rw [freed_get]
  refine ⟨?_, fun n => ?_⟩
  · conv_lhs => rw [heq]
    generalize (l.foldl clearLoading c.freed).slots = slots
    simp only [hstate, hchain]
    rw [freed_eq]
  · rw [hget, hstate]
    simp only [hmem, true_and, freed_get]
    rfl

/-- RESTART, block by block, over the clip store that it leaves. -/
theorem restartAll_eq (s : State) :
    restartAll s =
      restartLink (restartAir (restartIntake ((restartLines (restartDelay (restartMix (restartStudio s)))).modClips
        (fun _ => (List.finRange 32).foldl ClipStore.clearLoading s.clips.freed) |>.modPlayers
          fun _ => Vector.replicate 3 Player.idle))) := by
  rw [restartAll, restartClips_eq]
  have hclips : (restartLines (restartDelay (restartMix (restartStudio s)))).clips = s.clips := rfl
  rw [hclips]
  generalize (List.finRange 32).foldl ClipStore.clearLoading s.clips.freed = c
  rfl

theorem restartDelay_eq (s : State) :
    restartDelay s =
      { s with delay := { s.delay with
        held := 0
        readPos := s.delay.writePos
        state := if s.delay.target = 0 then .live else .building
        hold := false
        spacing := 0
        lastGiven := PgmFrame.silence
        overflowMark := false
        holdExchanges := 0 } } := by
  by_cases ht : s.delay.target = 0 <;>
    simp [restartDelay, State.modDelay, DelayLine.derive, DelayLine.derived, DelayLine.dropOldest, DelayLine.writePos, ht,
      Nat.pos_of_ne_zero]

/-- RESTART at the head of the queue (R206). -/
theorem exec_restart {s : State} {o : QueuedOrder} {rest : List QueuedOrder} (h : s.Heads o rest 0x23 []) :
    exec .restart s = .next (restartAll (s.answered o rest .done [])) := by
  obtain ⟨hq, hc, ha, hf, hw⟩ := h
  have hreply : reply o ⟨s.taking rest, .done, []⟩ = s.answered o rest .done [] :=
    reply_answered s _ o rest .done [] rfl rfl (by simp)
  rw [← hreply]
  show perform (takeOrder (· == 0x23) answerRestart restartAll) s = _
  simp only [perform, takeOrder, OrderUnit.ready, State.modSent, hq, hc, hf, hw, judgeForm, ha, dequeue, State.modOrders,
    Sent.nothing, beq_self_eq_true, Bool.not_false, Bool.and_self, if_true]
  rfl

/-- Settles O14: each block's RESTART effect, the loading slots emptied in turn (`ClipStore.restarted`). -/
theorem restartLeaves : Obligations.RestartLeaves := by
  intro s o rest h gone burst
  obtain ⟨hclips, hslots⟩ := s.clips.restarted
  have ht := restartAll_eq (s.answered o rest .done [])
  have hc := restartAll_clips (s.answered o rest .done [])
  have hbegin : (s.answered o rest .done []).clips = s.clips := rfl
  rw [hbegin] at ht hc
  have hgone (n : Fin 32) : gone n = (s.clips.slots.get n).state.loading := SlotState.loading_eq _
  generalize (List.finRange 32).foldl ClipStore.clearLoading s.clips.freed = c at hclips hslots ht hc
  refine ⟨_, exec_restart h, ?_, fun n => ?_, rfl, rfl, rfl, rfl, rfl, rfl, rfl, rfl, rfl, rfl, rfl, rfl, rfl, rfl, rfl,
    rfl, rfl, rfl⟩
  · rw [hc]
    simp only [hgone]
    rw [show burst = s.clips.fill.burstPages from rfl, ← hclips, ht, restartDelay_eq]
    rfl
  · rw [hc, hslots, hgone]
    rfl

end Sys2Proof.Machine

/-!
PROOF. The change of a line's state and the line orders (R69, R76 to R83).
-/

namespace Sys2Proof.Machine

/-- Settles O15: the record and the shared items after a change of state, given that they agreed. -/
theorem lineChangesState : Obligations.LineChangesState := by
  intro l k new hagrees l'
  have h := l.agrees_iff.mp hagrees
  refine ⟨l.change_self k new, fun j hj => l.change_other k j new hj, h.change_ready k new, ?_, ?_, rfl⟩
  · rw [show l'.screening = _ from l.change_screening k new]
    simp only [h.screening]
  · rw [LineUnit.linesIn_length]
    exact h.change_onAir k new

/-! ### The answers of the line orders -/

theorem lineArg_val {k : Fin 6} {w : Word} (h : w.toNat = k.val) : lineArg w = some k := finOf_eq_some.mpr h

theorem onLine_val {k : Fin 6} {w : Word} (h : w.toNat = k.val) (f : Fin 6 → State → Answer) (s : State) :
    onLine f [w] s = f k s := by
  rw [onLine, lineArg_val h]

/-- An order that names a line, refused with the line and its state. -/
theorem exec_lineRefused {s : State} {o : QueuedOrder} {rest : List QueuedOrder} {code : Byte} {args : List Word}
    (h : s.Heads o rest code args) {handler : List Word → State → Answer} {r : Result} {k : Fin 6}
    (ha : handler args (s.taking rest) = lineRefused r k (s.taking rest)) :
    perform (takeCode code handler) s =
      .next (s.answered o rest r [Word.nat k.val, Word.nat (s.line.line k).state.code]) :=
  order_taking (t := s) h ha (by simp)

/-- An order that names a line, taken: answered with the line, its state and the on-air count after. -/
theorem exec_lineDone {s : State} {o : QueuedOrder} {rest : List QueuedOrder} {code : Byte} {args : List Word}
    (h : s.Heads o rest code args) {handler : List Word → State → Answer} {k : Fin 6} {l : LineUnit}
    (ha : handler args (s.taking rest) = lineDone k ((s.taking rest).modLine fun _ => l)) :
    perform (takeCode code handler) s =
      .next ({ s with line := l }.answered o rest .done
        [Word.nat k.val, Word.nat (l.line k).state.code, Word.nat l.onAir]) :=
  order_taking (t := { s with line := l }) h ha (by simp)

theorem holdLine_eq (k : Fin 6) (s : State) :
    holdLine k s =
      if (s.line.line k).state ∈ [LineState.screening, .onAir] then lineDone k (s.modLine fun _ => s.line.change k .hold)
      else lineRefused .refusedState k s := by
  unfold holdLine
  cases (s.line.line k).state <;> rfl

theorem readyLine_eq (k : Fin 6) (s : State) :
    readyLine k s =
      if (s.line.line k).state ∈ [LineState.screening, .hold] then lineDone k (s.modLine fun _ => s.line.change k .ready)
      else lineRefused .refusedState k s := by
  unfold readyLine
  cases (s.line.line k).state <;> rfl

/-- The line unit after a LINE-DROP that is taken. -/
def LineUnit.dropLine (l : LineUnit) (k : Fin 6) : LineUnit :=
  { l.change k .idle with counters := { l.counters with dropped := min (l.counters.dropped + 1) 65535 } }

theorem dropLine_eq (k : Fin 6) (s : State) :
    dropLine k s =
      if (s.line.line k).state ∈ [LineState.screening, .hold, .ready, .onAir] then
        lineDone k (s.modLine fun _ => s.line.dropLine k)
      else lineRefused .refusedState k s := by
  unfold dropLine
  cases (s.line.line k).state <;> rfl

theorem takeLine_eq (k : Fin 6) (s : State) :
    takeLine k s =
      if (s.line.line k).state ∉ [LineState.screening, .hold, .ready] then lineRefused .refusedState k s
      else if s.line.capacity ≤ s.line.onAir then lineRefused .refusedFull k s
      else lineDone k (s.modLine fun _ => s.line.change k .onAir) := by
  unfold takeLine
  cases (s.line.line k).state <;> rfl

/-- The line unit with the screening line, if any, put on HOLD. -/
def LineUnit.parkScreening (l : LineUnit) : LineUnit :=
  match l.screening with
  | some j => l.change j .hold
  | none => l

theorem answerLine_eq (k : Fin 6) (s : State) :
    answerLine k s =
      if (s.line.line k).state ∈ [LineState.ringing, .hold, .ready] then
        ⟨s.modLine fun _ => s.line.parkScreening.change k .screening, .done,
          lineWords k (s.modLine fun _ => s.line.parkScreening.change k .screening) ++
            [Word.place (s.line.screening.map Fin.val)]⟩
      else lineRefused .refusedState k s := by
  unfold answerLine LineUnit.parkScreening
  cases s.line.screening with
  | none => cases (s.line.line k).state <;> rfl
  | some j => cases (s.line.line k).state <;> rfl

/-- The line unit with the tag of a line set. -/
def LineUnit.setTag (l : LineUnit) (k : Fin 6) (v : Nat) : LineUnit :=
  l.modLine k fun r => { r with tag := BitVec.ofNat 16 (min v 65535) }

theorem LineUnit.setTag_line (l : LineUnit) (k j : Fin 6) (v : Nat) :
    (l.setTag k v).line j = if j = k then { l.line j with tag := BitVec.ofNat 16 (min v 65535) } else l.line j :=
  l.modLine_line k j _

/-- Settles O16, order by order, each by its own table of states. -/
theorem lineOrdersMoveLines : Obligations.LineOrdersMoveLines := by
  refine ⟨?_, fun s o rest w v hw h => ?_, ?_⟩
  · intro s o rest k w hw x refused moved
    refine ⟨fun h => ?_, fun h => ?_, fun h => ?_⟩
    · split
      case isTrue hx => exact exec_lineDone h (l := s.line.change k .hold) ((onLine_val hw _ _).trans ((holdLine_eq ..).trans (if_pos hx)))
      case isFalse hx => exact exec_lineRefused h ((onLine_val hw _ _).trans ((holdLine_eq ..).trans (if_neg hx)))
    · split
      case isTrue hx => exact exec_lineDone h (l := s.line.change k .ready) ((onLine_val hw _ _).trans ((readyLine_eq ..).trans (if_pos hx)))
      case isFalse hx => exact exec_lineRefused h ((onLine_val hw _ _).trans ((readyLine_eq ..).trans (if_neg hx)))
    · split
      case isTrue hx => exact exec_lineDone h (l := s.line.dropLine k) ((onLine_val hw _ _).trans ((dropLine_eq ..).trans (if_pos hx)))
      case isFalse hx => exact exec_lineRefused h ((onLine_val hw _ _).trans ((dropLine_eq ..).trans (if_neg hx)))
  · refine order_refused h _ ?_
    have hnone : lineArg w = none := finOf_eq_none.mpr hw
    rw [answerLineTag, hnone]
  · intro s o rest k w v hw x
    refine ⟨?_, ?_⟩
    · intro h l1 l2
      have hhandler := (onLine_val hw answerLine (s.taking rest)).trans (answerLine_eq ..)
      split
      case isTrue hx =>
        have hcode : (l2.line k).state.code = 2 := by rw [show l2.line k = _ from l1.change_self k .screening]; rfl
        refine order_taking (t := { s with line := l2 }) h (hhandler.trans ((if_pos hx).trans ?_)) (by simp)
        rw [← hcode]
        rfl
      case isFalse hx => exact exec_lineRefused h (hhandler.trans (if_neg hx))
    · intro h
      have htag : tagLine k v.toNat (s.taking rest) =
          ⟨{ s with line := s.line.setTag k v.toNat }.taking rest, if v.toNat ≤ 65535 then .done else .doneClamped,
            [Word.nat (s.line.line k).tag.toNat, Word.nat k.val, Word.nat x.code, Word.nat s.line.onAir]⟩ := by
        have hresult : (if 65535 < v.toNat then Result.doneClamped else .done) =
            if v.toNat ≤ 65535 then .done else .doneClamped := by
          by_cases hv : v.toNat ≤ 65535
          · rw [if_neg (by omega), if_pos hv]
          · rw [if_pos (by omega), if_neg hv]
        have hstate : ((s.line.setTag k v.toNat).line k).state = x := by rw [LineUnit.setTag_line, if_pos rfl]
        rw [← hresult, ← hstate]
        rfl
      have hnamed : answerLineTag [w, v] (s.taking rest) = tagLine k v.toNat (s.taking rest) := by
        rw [answerLineTag, lineArg_val hw]
      refine ⟨_, order_taking h (hnamed.trans htag) (by simp), rfl, ?_, ?_⟩
      · exact (s.line.setTag_line k k v.toNat).trans (if_pos rfl)
      · exact fun j hj => (s.line.setTag_line k j v.toNat).trans (if_neg hj)

/-- Settles O17: the named line by its state and the capacity, or the head of the ready queue. -/
theorem lineTakePutsOnAir : Obligations.LineTakePutsOnAir := by
  intro s o rest taken
  have hcode (k : Fin 6) : ((s.line.change k .onAir).line k).state.code = 5 := by rw [LineUnit.change_self]; rfl
  refine ⟨?_, ?_⟩
  · intro k w h hw x words
    have hhandler : answerLineTake [w] (s.taking rest) = _ := (onLine_val hw takeLine (s.taking rest)).trans (takeLine_eq ..)
    split
    case isTrue hx => exact exec_lineRefused h (hhandler.trans (if_pos hx))
    case isFalse hx =>
      split
      case isTrue hfull => exact exec_lineRefused h (hhandler.trans ((if_neg hx).trans (if_pos hfull)))
      case isFalse hfull =>
        refine (exec_lineDone h (l := s.line.change k .onAir) (hhandler.trans ((if_neg hx).trans (if_neg hfull)))).trans ?_
        rw [hcode]
  · intro h
    cases hready : s.line.ready with
    | nil =>
      refine order_taking (t := s) h ?_ (by simp)
      have hready' : (s.taking rest).line.ready = [] := hready
      rw [answerLineTake, takeHead, hready']
      rfl
    | cons k ks =>
      have hready' : (s.taking rest).line.ready = k :: ks := hready
      have hhandler : answerLineTake [] (s.taking rest) =
          if s.line.capacity ≤ s.line.onAir then noLineRefused .refusedFull (s.taking rest)
          else lineDone k ((s.taking rest).modLine fun _ => s.line.change k .onAir) := by
        rw [answerLineTake, takeHead, hready']
        rfl
      dsimp only
      split
      case isTrue hfull => exact order_taking (t := s) h (hhandler.trans (if_pos hfull)) (by simp)
      case isFalse hfull =>
        refine (exec_lineDone h (l := s.line.change k .onAir) (hhandler.trans (if_neg hfull))).trans ?_
        rw [hcode]

end Sys2Proof.Machine

/-!
PROOF. The clip orders (R95, R101, R102).
-/

namespace Sys2Proof.Machine

theorem slotArg_val {n : Fin 32} {w : Word} (h : w.toNat = n.val) : finOf 32 w.toNat = some n := finOf_eq_some.mpr h

theorem slotArg_none {w : Word} (h : 31 < w.toNat) : finOf 32 w.toNat = none := finOf_eq_none.mpr h

/-- The page of a burst of slot `n` in flight. -/
def ClipStore.burstOf (c : ClipStore) (n : Fin 32) : Option Nat :=
  match c.fill with
  | .opened b => if b.slot = n then some b.page else none
  | _ => none

theorem ClipStore.dropBurst_eq (n : Fin 32) (c : ClipStore) :
    c.dropBurst n =
      { c with
        free := c.free ++ (c.burstOf n).toList
        fill := if (c.burstOf n).isSome then .nothing else c.fill } := by
  obtain ⟨region, free, slots, holds, fill, channelHeld, conf, reserve, counters⟩ := c
  cases fill with
  | opened b => by_cases hb : b.slot = n <;> simp [dropBurst, burstOf, hb, replaceFill_eq]
  | _ => simp [dropBurst, burstOf]

/-- Settles O20: each clip order by its slot's state, the burst's page returning before the chain. -/
theorem clipOpenAbortErase : Obligations.ClipOpenAbortErase := by
  refine ⟨fun s o rest w v hw => ?_, fun s o rest n w v hw => ?_⟩
  · have hnone := slotArg_none hw
    exact ⟨fun h => order_refused h _ (by simp only [answerClipOpen, hnone]),
      fun h => order_refused h _ (by simp only [answerClipAbort, hnone]),
      fun h => order_refused h _ (by simp only [answerClipErase, hnone])⟩
  · have hsome := slotArg_val hw
    intro t emptied refused
    refine ⟨?_, ?_, ?_⟩
    · intro h d
      have hhandler : answerClipOpen [w, v] (s.taking rest) =
          if t.state = .empty then
            ⟨(s.taking rest).modClips fun c => c.modSlot n fun _ => ⟨.filling, .cart, d, 0, [], 0, none⟩,
              if d = v.toNat then .done else .doneClamped, [Word.nat n.val, Word.nat 1, Word.nat ((d + 255) / 256)]⟩
          else refuse .refusedState (s.taking rest) := by
        simp only [answerClipOpen, hsome]
        rfl
      split
      case isTrue ht =>
        exact order_taking (t := { s with clips := { s.clips with
          slots := s.clips.slots.set n ⟨.filling, .cart, d, 0, [], 0, none⟩ } }) h (hhandler.trans (if_pos ht)) (by simp)
      case isFalse ht => exact order_refused h _ (hhandler.trans (if_neg ht))
    · intro h burst pages
      have hdrop := s.clips.dropBurst_eq n
      rw [show s.clips.burstOf n = burst from rfl] at hdrop
      have hslots : (s.clips.dropBurst n).slots = s.clips.slots := s.clips.dropBurst_slots n
      have habort : (s.clips.dropBurst n).emptySlot n =
          { s.clips with
            free := s.clips.free ++ pages
            slots := s.clips.slots.set n emptied
            fill := if burst.isSome then .nothing else s.clips.fill } := by
        rw [ClipStore.emptySlot_eq, hdrop]
        simp only [List.append_assoc]
        rfl
      have hhandler : answerClipAbort [w] (s.taking rest) =
          if t.state = .filling then
            ⟨(s.taking rest).modClips fun _ => (s.clips.dropBurst n).emptySlot n, .done,
              [Word.nat n.val, Word.nat (((s.clips.dropBurst n).emptySlot n).freeCount - s.clips.freeCount),
                Word.nat ((s.clips.dropBurst n).emptySlot n).freeCount]⟩
          else refuse .refusedState (s.taking rest) := by
        simp only [answerClipAbort, hsome]
        rfl
      split
      case isTrue ht =>
        refine order_taking h (hhandler.trans ((if_pos ht).trans ?_)) (by simp)
        rw [habort]
        simp only [ClipStore.freeCount, List.length_append, Nat.add_sub_cancel_left]
        rfl
      case isFalse ht => exact order_refused h _ (hhandler.trans (if_neg ht))
    · intro h
      have hhandler : answerClipErase [w] (s.taking rest) =
          if t.state = .ready ∧ t.useCount = 0 then
            ⟨(s.taking rest).modClips fun _ => s.clips.emptySlot n, .done,
              [Word.nat n.val, Word.nat t.chain.length, Word.nat (s.clips.emptySlot n).freeCount]⟩
          else refuse .refusedState (s.taking rest) := by
        simp only [answerClipErase, hsome, Bool.and_eq_true, decide_eq_true_eq]
        rfl
      split
      case isTrue ht =>
        refine order_taking h (hhandler.trans ((if_pos ht).trans ?_)) (by simp)
        rw [ClipStore.emptySlot_eq]
        simp only [ClipStore.freeCount, List.length_append]
        rfl
      case isFalse ht => exact order_refused h _ (hhandler.trans (if_neg ht))

end Sys2Proof.Machine

/-!
PROOF. The filter, the choice of the air stage, the latch rule and the frame period (R1, R128, R148, R201, R202).
-/

namespace Sys2Proof.Machine

/-! ### Lowest indices -/

theorem finRange_find_eq_some {n : Nat} {p : Fin n → Bool} {k : Fin n} :
    (List.finRange n).find? p = some k ↔ p k = true ∧ ∀ j, j < k → p j = false := by
  rw [← Fin.find?_eq_find?_finRange, Fin.find?_eq_some_iff]

theorem finRange_find_eq_none {n : Nat} {p : Fin n → Bool} :
    (List.finRange n).find? p = none ↔ ∀ j, p j = false := by
  simp [List.find?_eq_none]

/-! ### The filter (R128) -/

/-- The masked tests of a filter entry on a header. -/
theorem FilterEntry.hits_iff (e : FilterEntry) (h : Header) :
    e.hits h = true ↔ e.enable = true ∧ h.event &&& e.eventMask = e.eventValue &&& e.eventMask ∧
      ∃ x ∈ h.areas, x &&& e.areaMask1 = e.areaValue1 &&& e.areaMask1 ∨
        (e.paired = true ∧ x &&& e.areaMask2 = e.areaValue2 &&& e.areaMask2) := by
  simp only [hits, masked, Bool.and_eq_true, Bool.or_eq_true, List.any_eq_true, decide_eq_true_eq, and_assoc]
  constructor
  · rintro ⟨hon, hevent, ⟨x, hx, h1⟩ | ⟨hpaired, x, hx, h2⟩⟩
    · exact ⟨hon, hevent, x, hx, .inl h1⟩
    · exact ⟨hon, hevent, x, hx, .inr ⟨hpaired, h2⟩⟩
  · rintro ⟨hon, hevent, x, hx, h1 | ⟨hpaired, h2⟩⟩
    · exact ⟨hon, hevent, .inl ⟨x, hx, h1⟩⟩
    · exact ⟨hon, hevent, .inr ⟨hpaired, x, hx, h2⟩⟩

/-- Settles O26: the first entry that hits, found along the entries in their order. -/
theorem filterLowestDecides : Obligations.FilterLowestDecides := by
  intro a h hit
  have hhit (k : Fin 16) : (a.filter.get k).hits h = true ↔ hit k := FilterEntry.hits_iff ..
  have hmiss (k : Fin 16) : (a.filter.get k).hits h = false ↔ ¬hit k := by rw [← hhit, Bool.not_eq_true]
  refine ⟨fun k hk hbefore => ?_, fun hnone => ?_⟩
  · have hfind := finRange_find_eq_some.mpr ⟨(hhit k).mpr hk, fun j hj => (hmiss j).mpr (hbefore j hj)⟩
    rw [AlertIntake.filterDecision, hfind]
  · have hfind := finRange_find_eq_none.mpr fun j => (hmiss j).mpr (hnone j)
    rw [AlertIntake.filterDecision, hfind]

/-! ### The choice (R148) -/

/-- The better of a choice so far and a later record. -/
def AirStage.better (a : AirStage) (best : Option AlertRecord) (r : AlertRecord) : Option AlertRecord :=
  if a.eligible r then
    match best with
    | none => some r
    | some b => if b.priority < r.priority then some r else some b
  else best

/-- A record is the choice among those of a list: of the highest priority, and the first with it. -/
def AirStage.Chooses (a : AirStage) (l : List AlertRecord) (r : AlertRecord) : Prop :=
  ∃ before after, l = before ++ r :: after ∧ a.eligible r = true ∧
    (∀ q ∈ before, a.eligible q = true → q.priority < r.priority) ∧
    ∀ q ∈ after, a.eligible q = true → q.priority ≤ r.priority

theorem AirStage.Chooses.append {a : AirStage} {l : List AlertRecord} {r x : AlertRecord} (h : a.Chooses l r)
    (hx : a.eligible x = true → x.priority ≤ r.priority) : a.Chooses (l ++ [x]) r := by
  obtain ⟨before, after, rfl, hr, hbefore, hafter⟩ := h
  refine ⟨before, after ++ [x], by simp, hr, hbefore, fun q hq => ?_⟩
  rcases List.mem_append.mp hq with hq | hq
  · exact hafter q hq
  · rw [List.mem_singleton.mp hq]; exact hx

theorem AirStage.Chooses.le {a : AirStage} {l : List AlertRecord} {r : AlertRecord} (h : a.Chooses l r) :
    ∀ q ∈ l, a.eligible q = true → q.priority ≤ r.priority := by
  obtain ⟨before, after, rfl, hr, hbefore, hafter⟩ := h
  intro q hq he
  rcases List.mem_append.mp hq with hq | hq
  · exact (hbefore q hq he).le
  · rcases List.mem_cons.mp hq with rfl | hq
    · exact le_rfl
    · exact hafter q hq he

theorem AirStage.choice_spec (a : AirStage) (l : List AlertRecord) :
    (∀ r, l.foldl a.better none = some r → a.Chooses l r) ∧
      (l.foldl a.better none = none ↔ ∀ q ∈ l, a.eligible q = false) := by
  induction l using List.reverseRecOn with
  | nil => exact ⟨nofun, by simp⟩
  | append_singleton l x ih =>
    obtain ⟨hsome, hnone⟩ := ih
    have hfold : (l ++ [x]).foldl a.better none = a.better (l.foldl a.better none) x := by simp
    rw [hfold]
    cases hbest : l.foldl a.better none with
    | none =>
      have hall := hnone.mp hbest
      by_cases hx : a.eligible x = true
      · rw [show a.better none x = some x from if_pos hx]
        refine ⟨fun r hr => ?_, by simp [hx]⟩
        cases hr
        exact ⟨l, [], rfl, hx, fun q hq he => by simp [hall q hq] at he, nofun⟩
      · rw [show a.better none x = none from if_neg hx]
        have hxf : a.eligible x = false := by simpa using hx
        exact ⟨nofun, iff_of_true rfl fun q hq => (List.mem_append.mp hq).elim (hall q) fun hq => by
          rw [List.mem_singleton.mp hq]; exact hxf⟩
    | some b =>
      have hb := hsome b hbest
      have hsomeone : ¬∀ q ∈ l ++ [x], a.eligible q = false := by
        intro hall
        have hl := hnone.mpr fun q hq => hall q (List.mem_append_left _ hq)
        rw [hbest] at hl
        cases hl
      by_cases hx : a.eligible x = true
      · by_cases hlt : b.priority < x.priority
        · rw [show a.better (some b) x = some x from (if_pos hx).trans (if_pos hlt)]
          refine ⟨fun r hr => ?_, by simp [hx]⟩
          cases hr
          exact ⟨l, [], rfl, hx, fun q hq he => (hb.le q hq he).trans_lt hlt, nofun⟩
        · rw [show a.better (some b) x = some b from (if_pos hx).trans (if_neg hlt)]
          refine ⟨fun r hr => ?_, iff_of_false (by simp) hsomeone⟩
          cases hr
          exact hb.append fun _ => not_lt.mp hlt
      · rw [show a.better (some b) x = some b from if_neg hx]
        refine ⟨fun r hr => ?_, iff_of_false (by simp) hsomeone⟩
        cases hr
        exact hb.append fun he => absurd he hx

theorem chosenRecord_eq (s : State) : chosenRecord s = s.intake.queue.foldl s.air.better none := rfl

/-- Settles O33, by induction over the queue from its tail. -/
theorem choiceIsOldestHighest : Obligations.ChoiceIsOldestHighest := by
  intro s open'
  have hopen (r : AlertRecord) : s.air.eligible r = true ↔ open' r := by
    simp [AirStage.eligible, open', and_assoc]
  obtain ⟨hsome, hnone⟩ := s.air.choice_spec s.intake.queue
  refine ⟨fun r hr => ?_, ?_⟩
  · obtain ⟨before, after, hqueue, hr, hbefore, hafter⟩ := hsome r hr
    simp only [hopen] at hr hbefore hafter
    exact ⟨before, after, hqueue, hr, hbefore, hafter⟩
  · rw [chosenRecord_eq, hnone]
    simp only [← hopen, Bool.not_eq_true]

/-! ### Latching (R201) -/

theorem foldl_latchSet_lt (n : NoticeUnit) (l : List (Fin 25)) (acc : Nat) {k : Fin 25} (hk : k ∈ l)
    (h : (n.latches.get k).isSome = true) :
    acc < l.foldl (fun acc k => if (n.latches.get k).isSome then acc + 2 ^ k.val else acc) acc := by
  have hle (l : List (Fin 25)) (acc : Nat) :
      acc ≤ l.foldl (fun acc k => if (n.latches.get k).isSome then acc + 2 ^ k.val else acc) acc := by
    induction l generalizing acc with
    | nil => exact le_rfl
    | cons j l ih =>
      refine le_trans ?_ (ih _)
      dsimp only
      split
      · exact Nat.le_add_right ..
      · exact le_rfl
  induction l generalizing acc with
  | nil => cases hk
  | cons j l ih =>
    rcases List.mem_cons.mp hk with rfl | hk
    · refine lt_of_lt_of_le ?_ (hle l _)
      dsimp only
      rw [if_pos h]
      exact Nat.lt_add_of_pos_right (Nat.two_pow_pos _)
    · refine lt_of_le_of_lt ?_ (ih _ hk)
      dsimp only
      split
      · exact Nat.le_add_right ..
      · exact le_rfl

theorem NoticeUnit.latchSet_pos {n : NoticeUnit} {k : Fin 25} (h : (n.latches.get k).isSome = true) : n.latchSet ≠ 0 :=
  (foldl_latchSet_lt n _ 0 (List.mem_finRange k) h).ne'

theorem noticeFrame_latched {n : NoticeUnit} {k : Fin 25} (h : (n.latches.get k).isSome = true) (detail : List Word)
    (isRepeat : Bool) :
    noticeFrame n k detail isRepeat =
      [0x83, BitVec.ofNat 8 detail.length] ++ beBytes 4 n.latchSet ++
        [if isRepeat then 3 else 1, BitVec.ofNat 8 k.val] ++ detail.flatMap wordBytes := by
  rw [noticeFrame, if_pos (NoticeUnit.latchSet_pos h)]
  cases isRepeat <;> rfl

theorem NoticeUnit.firstRepeating_isSome (n : NoticeUnit) : n.firstRepeating.isSome = true ↔ ∃ j, n.repeating j = true := by
  rw [← not_iff_not, Bool.not_eq_true, Option.isSome_eq_false_iff, Option.isNone_iff_eq_none, firstRepeating,
    finRange_find_eq_none]
  simp

/-- The notice unit after a kind is latched. -/
def NoticeUnit.latch (n : NoticeUnit) (k : Fin 25) (detail : List Word) : NoticeUnit :=
  { n with
    latches := n.latches.set k (some detail)
    latched := min (n.latched + 1) 65535
    repeatTimer := if ∃ j, n.repeating j = true then n.repeatTimer else 0 }

theorem NoticeUnit.latch_isSome (n : NoticeUnit) (k : Fin 25) (detail : List Word) :
    ((n.latch k detail).latches.get k).isSome = true := by
  rw [NoticeUnit.latch, get_set_self]
  rfl

/-- Latching a kind whose latch is clear. -/
theorem latch_of_none {kind : NoticeKind} {s : State} (detail : List Word) (h : s.notices.latches.get kind.index = none) :
    Machine.latch kind detail s =
      if (s.notices.conf.get kind.index).enable then
        sendStudio none (noticeFrame (s.notices.latch kind.index detail) kind.index detail false)
          (s.modNotices fun _ => s.notices.latch kind.index detail)
      else s.modNotices fun _ => s.notices.latch kind.index detail := by
  have htimer : (if s.notices.firstRepeating.isSome then s.notices.repeatTimer else 0) =
      if ∃ j, s.notices.repeating j = true then s.notices.repeatTimer else 0 := by
    by_cases hr : ∃ j, s.notices.repeating j = true
    · rw [if_pos hr, if_pos (s.notices.firstRepeating_isSome.mpr hr)]
    · rw [if_neg hr, if_neg (mt s.notices.firstRepeating_isSome.mp hr)]
  unfold Machine.latch
  simp only [h, State.modNotices, htimer]
  rfl

/-! ### The frame period (R1, R202) -/

/-- The state at a frame period, before the notice unit's frame. -/
def State.nextPeriod (s : State) : State :=
  { s with
    frameCount := s.frameCount + 1
    orders := { s.orders with taken := false, queue := s.orders.queue.map fun o => { o with fresh := false } }
    intake := { s.intake with
      queue := s.intake.queue.map fun r =>
        { r with ageHeld := r.ageHeld || (s.frameCount + 1 - r.stamp).toNat = 4294967295 }
      recording := { s.intake.recording with fresh := false } } }

theorem periodWork_eq (s : State) : periodWork s = noticePeriod s.nextPeriod := rfl

/-- NOTICECONF adopted. -/
def State.adoptNotices (s : State) : NoticeUnit := { s.notices with conf := s.tables.noticeConf }

theorem noticePeriod_quiet {s : State}
    (h : s.notices.firstRepeating = none ∨ s.adoptNotices.firstRepeating = none) :
    noticePeriod s = s.modNotices fun _ => { s.adoptNotices with repeatTimer := 0 } := by
  unfold noticePeriod
  dsimp only
  rw [show (s.modNotices fun n => { n with conf := s.tables.noticeConf }).notices = s.adoptNotices from rfl]
  cases hafter : s.adoptNotices.firstRepeating with
  | none => rfl
  | some k =>
    rw [hafter] at h
    rw [h.resolve_right nofun]
    rfl

theorem noticePeriod_counts {s : State} {k : Fin 25} (hb : s.notices.firstRepeating.isSome = true)
    (ha : s.adoptNotices.firstRepeating = some k) (ht : s.notices.repeatTimer + 1 < 1000) :
    noticePeriod s = s.modNotices fun _ => { s.adoptNotices with repeatTimer := s.notices.repeatTimer + 1 } := by
  unfold noticePeriod
  dsimp only
  rw [show (s.modNotices fun n => { n with conf := s.tables.noticeConf }).notices = s.adoptNotices from rfl, ha, hb]
  exact if_pos ht

theorem noticePeriod_repeats {s : State} {k : Fin 25} (hb : s.notices.firstRepeating.isSome = true)
    (ha : s.adoptNotices.firstRepeating = some k) (ht : 1000 ≤ s.notices.repeatTimer + 1) :
    noticePeriod s =
      sendStudio none (noticeFrame s.adoptNotices k ((s.notices.latches.get k).getD []) true)
        (s.modNotices fun _ => { s.adoptNotices with repeatTimer := 0, repeated := min (s.notices.repeated + 1) 65535 }) := by
  unfold noticePeriod
  dsimp only
  rw [show (s.modNotices fun n => { n with conf := s.tables.noticeConf }).notices = s.adoptNotices from rfl, ha, hb]
  exact if_neg (show ¬ s.notices.repeatTimer + 1 < 1000 by omega)

theorem exec_framePeriod (s : State) : exec .framePeriod s = .next (noticePeriod s.cleared.nextPeriod) := rfl

theorem exec_repeatTimer (s : State) :
    exec .repeatTimer s = .next (if repeatDue s then noticePeriod s.cleared.nextPeriod else s.cleared) := rfl

theorem repeatDue_iff (s : State) :
    repeatDue s = true ↔ s.notices.firstRepeating.isSome = true ∧ s.adoptNotices.firstRepeating.isSome = true ∧
      1000 ≤ s.notices.repeatTimer + 1 := by
  simp only [repeatDue, Bool.and_eq_true, decide_eq_true_eq, and_assoc]
  rfl

/-- Settles O53: the latch rule, and the frame period by what repeats before and after the adoption. -/
theorem framePeriodBegins : Obligations.FramePeriodBegins := by
  refine ⟨?_, ?_⟩
  · intro s kind detail k n latched
    refine ⟨fun d hd => latch_of_some detail hd, ?_⟩
    intro hnone out
    have hsome := s.notices.latch_isSome k detail
    rw [latch_of_none detail hnone, noticeFrame_latched hsome]
    by_cases hon : (s.notices.conf.get k).enable = true
    · rw [if_pos hon, show out = _ from if_pos hon]
      rfl
    · rw [if_neg hon, show out = _ from if_neg hon, List.append_nil]
      rfl
  · intro s repeats before base adopted
    have hrepeats (n : NoticeUnit) (hl : n.latches = s.notices.latches) (k : Fin 25) :
        n.repeating k = true ↔ repeats n.conf k := by
      simp [NoticeUnit.repeating, repeats, hl, and_assoc]
    have hbefore : s.notices.firstRepeating.isSome = true ↔ before := by
      rw [NoticeUnit.firstRepeating_isSome]
      exact exists_congr (hrepeats _ rfl)
    have hnone : s.adoptNotices.firstRepeating = none ↔ ∀ k, ¬repeats s.tables.noticeConf k := by
      rw [NoticeUnit.firstRepeating, finRange_find_eq_none]
      exact forall_congr' fun k => by
        rw [← Bool.not_eq_true, hrepeats s.adoptNotices rfl k]
        rfl
    refine ⟨?_, ?_⟩
    · intro hquiet
      have hfirst : s.notices.firstRepeating = none ∨ s.adoptNotices.firstRepeating = none := by
        refine hquiet.imp (fun h => ?_) hnone.mpr
        rw [← hbefore, Bool.not_eq_true, Option.isSome_eq_false_iff, Option.isNone_iff_eq_none] at h
        exact h
      have hdue : ¬ repeatDue s = true := by
        rw [repeatDue_iff]
        rintro ⟨h1, h2, -⟩
        rcases hfirst with h | h
        · rw [h] at h1; cases h1
        · rw [h] at h2; cases h2
      refine ⟨?_, ?_⟩
      · rw [exec_framePeriod, noticePeriod_quiet (s := s.cleared.nextPeriod) hfirst]
        rfl
      · rw [exec_repeatTimer, if_neg hdue]
        rfl
    · intro k hb hk hlow
      have hfirst : s.notices.firstRepeating.isSome = true := hbefore.mpr hb
      have hafter : s.adoptNotices.firstRepeating = some k :=
        finRange_find_eq_some.mpr ⟨(hrepeats s.adoptNotices rfl k).mpr hk, fun j hj => by
          rw [← Bool.not_eq_true, hrepeats s.adoptNotices rfl j]
          exact hlow j hj⟩
      refine ⟨?_, ?_⟩
      · intro ht
        have hdue : ¬ repeatDue s = true := by
          rw [repeatDue_iff]
          omega
        refine ⟨?_, ?_⟩
        · rw [exec_framePeriod, noticePeriod_counts (s := s.cleared.nextPeriod) hfirst hafter ht]
          rfl
        · rw [exec_repeatTimer, if_neg hdue]
          rfl
      · intro detail hd ht out
        have hdue : repeatDue s = true := (repeatDue_iff s).mpr ⟨hfirst, by rw [hafter]; rfl, ht⟩
        have hlatched : (s.adoptNotices.latches.get k).isSome = true := by
          rw [show s.adoptNotices.latches = s.notices.latches from rfl, hd]
          rfl
        have hperiod : Host.Outcome.next (noticePeriod s.cleared.nextPeriod) = out := by
          rw [noticePeriod_repeats (s := s.cleared.nextPeriod) hfirst hafter ht,
            show s.cleared.nextPeriod.adoptNotices = s.adoptNotices from rfl, noticeFrame_latched hlatched,
            show s.cleared.nextPeriod.notices.latches.get k = some detail from hd]
          rfl
        exact ⟨hperiod, by rw [exec_repeatTimer, if_pos hdue]; exact hperiod⟩

end Sys2Proof.Machine

/-!
PROOF. The records of the alert port: their layout, and what a HEADER record does before it is stored (R119, R122 to R125,
R210).
-/

namespace Sys2Proof.Machine

/-! ### Records -/

theorem recordRest_cons (kind : Byte) (body : List Byte) :
    kind :: recordRest kind body =
      kind :: BitVec.ofNat 8 body.length :: (body ++ crc16Bytes (kind :: BitVec.ofNat 8 body.length :: body)) := rfl

/-- A record that is laid out from its body passes its check. -/
theorem recordChecked_rest (kind : Byte) {body : List Byte} (h : body.length ≤ 255) :
    recordChecked (kind :: recordRest kind body) = true := by
  rw [recordRest_cons]
  set head := kind :: BitVec.ofNat 8 body.length :: body with hhead
  have hrecord : kind :: BitVec.ofNat 8 body.length :: (body ++ crc16Bytes head) = head ++ crc16Bytes head := rfl
  have hlen : (head ++ crc16Bytes head).length - 2 = head.length := by
    rw [List.length_append, crc16Bytes_length, Nat.add_sub_cancel]
  have hwhole : recordWhole (head ++ crc16Bytes head) = true := by
    simp [recordWhole, hhead, crc16Bytes_length, Nat.mod_eq_of_lt (by omega : body.length < 256)]
  rw [hrecord, recordChecked, hwhole, hlen, List.drop_left, List.take_left]
  simp

theorem recordBody_rest (kind : Byte) (body : List Byte) : recordBody (kind :: recordRest kind body) = body := by
  rw [recordRest_cons]
  simp [recordBody, crc16Bytes_length]

/-- A number within a run of bytes. -/
theorem beAt_of_take {bytes : List Byte} {i n x : Nat} (h : (bytes.drop i).take n = beBytes n x) (hx : x < 256 ^ n) :
    beAt bytes i n = x := by
  have hvalue := beAt_beBytes n x hx
  rw [beAt, List.drop_zero, List.take_of_length_le (by simp)] at hvalue
  rw [beAt, h, hvalue]

/-! ### The body of a HEADER record -/

theorem Header.body_eq (h : Header) :
    h.body =
      BitVec.ofNat 8 (h.identity.issuer.toNat / 256 ^ 1) :: BitVec.ofNat 8 (h.identity.issuer.toNat / 256 ^ 0) ::
        BitVec.ofNat 8 (h.identity.serial.toNat / 256 ^ 1) :: BitVec.ofNat 8 (h.identity.serial.toNat / 256 ^ 0) ::
        BitVec.ofNat 8 h.issuerClass :: BitVec.ofNat 8 (h.event.toNat / 256 ^ 1) ::
        BitVec.ofNat 8 (h.event.toNat / 256 ^ 0) :: BitVec.ofNat 8 h.severity :: BitVec.ofNat 8 (h.issuedAt / 256 ^ 1) ::
        BitVec.ofNat 8 (h.issuedAt / 256 ^ 0) :: BitVec.ofNat 8 (h.duration / 256 ^ 1) ::
        BitVec.ofNat 8 (h.duration / 256 ^ 0) :: (if h.audio then 1 else 0) :: BitVec.ofNat 8 h.areas.length ::
        h.areas.flatMap fun a => beBytes 3 a.toNat := rfl

theorem Header.body_length (h : Header) : h.body.length = 14 + 3 * h.areas.length := by
  rw [body_eq]
  simp [List.length_flatMap, Nat.mul_comm]
  omega

/-- The fields of a header lie in the ranges of their bytes. -/
structure Header.Fits (h : Header) : Prop where
  issuerClass : h.issuerClass < 256
  severity : h.severity < 256
  issuedAt : h.issuedAt < 65536
  duration : h.duration < 65536
  areas : h.areas.length ≤ 80

theorem Header.Sound.fits {h : Header} (hs : h.Sound) : h.Fits := by
  obtain ⟨h1, h2, h3, h4, h5⟩ := hs
  exact ⟨by omega, by omega, by omega, h4.2, by omega⟩

theorem toNat_ofNat_byte {n : Nat} (h : n < 256) : (BitVec.ofNat 8 n).toNat = n := by
  rw [BitVec.toNat_ofNat, Nat.mod_eq_of_lt h]

/-- What a laid-out body is read as, field by field. -/
structure Header.Reads (h : Header) (body : List Byte) : Prop where
  issuer : beAt body 0 2 = h.identity.issuer.toNat
  serial : beAt body 2 2 = h.identity.serial.toNat
  issuerClass : (byteAt body 4).toNat = h.issuerClass
  event : beAt body 5 2 = h.event.toNat
  severity : (byteAt body 7).toNat = h.severity
  issuedAt : beAt body 8 2 = h.issuedAt
  duration : beAt body 10 2 = h.duration
  audio : (byteAt body 12).toNat = if h.audio then 1 else 0
  count : (byteAt body 13).toNat = h.areas.length
  area : ∀ k (hk : k < h.areas.length), areaAt body k = h.areas[k].toNat

theorem Header.Fits.reads {h : Header} (hf : h.Fits) : h.Reads h.body := by
  obtain ⟨h1, h2, h3, h4, h5⟩ := hf
  have hissuer := h.identity.issuer.isLt
  have hserial := h.identity.serial.isLt
  have hevent := h.event.isLt
  refine ⟨beAt_of_take rfl (by omega), beAt_of_take rfl (by omega), toNat_ofNat_byte h1, beAt_of_take rfl (by omega),
    toNat_ofNat_byte h2, beAt_of_take rfl (by omega), beAt_of_take rfl (by omega), ?_, toNat_ofNat_byte (by omega),
    fun k hk => ?_⟩
  · show ((if h.audio then 1 else 0 : Byte)).toNat = _
    cases h.audio <;> rfl
  · refine beAt_of_take ?_ (by have := h.areas[k].isLt; omega)
    rw [← List.drop_drop]
    exact take_drop_flatMap (fun a : BitVec 20 => beBytes 3 a.toNat) (fun _ => by simp) h.areas k hk

/-- The header that a laid-out body carries. -/
theorem Header.Reads.readHeader {h : Header} {body : List Byte} (hr : h.Reads body) (ht : h.test = false) :
    readHeader body = h.capped := by
  obtain ⟨hissuer, hserial, hclass, hevent, hseverity, hissued, hduration, haudio, hcount, harea⟩ := hr
  have hareas : ((List.range h.areas.length).map fun k => BitVec.ofNat 20 (areaAt body k)) = h.areas := by
    refine List.ext_getElem (by simp) fun k h₁ h₂ => ?_
    simp [harea k h₂]
  have haudio' : (decide ((if h.audio then 1 else 0) = 1)) = h.audio := by cases h.audio <;> rfl
  simp only [Machine.readHeader, hissuer, hserial, hclass, hevent, hseverity, hissued, hduration, haudio, hcount, hareas,
    haudio', BitVec.ofNat_toNat, BitVec.setWidth_eq, Header.capped, ← ht]

/-- The fields that can lie outside their ranges. -/
theorem Header.Reads.inRange {h : Header} {body : List Byte} (hr : h.Reads body) :
    headerInRange body = true ↔
      (1 ≤ h.areas.length ∧ h.areas.length ≤ 12) ∧ h.issuerClass ≤ 7 ∧ h.severity ≤ 3 ∧ h.issuedAt < 10080 ∧ 1 ≤ h.duration := by
  obtain ⟨hissuer, hserial, hclass, hevent, hseverity, hissued, hduration, haudio, hcount, harea⟩ := hr
  have haudio' : (if h.audio then 1 else 0) ≤ 1 := by cases h.audio <;> simp
  have hevent' : h.event.toNat ≤ 4095 := by have := h.event.isLt; omega
  have hareas : ((List.range h.areas.length).all fun k => areaAt body k < 2 ^ 20) = true := by
    rw [List.all_eq_true]
    intro k hk
    rw [harea k (List.mem_range.mp hk)]
    exact decide_eq_true (BitVec.isLt _)
  simp only [headerInRange, hcount, hclass, hevent, hseverity, hissued, hduration, haudio, hareas, haudio', hevent',
    Bool.and_eq_true, decide_eq_true_eq, and_true, Config.weekMinutes]
  tauto

/-! ### The arrival of a HEADER record -/

theorem exec_header (rest : List Byte) (s : State) : exec (.header rest) s = .next (headerArrives rest s.cleared) := rfl

theorem headerArrives_body {h : Header} (hf : h.Fits) (s : State) :
    headerArrives (recordRest 1 h.body) s =
      if headerInRange h.body then (intakeHeader (readHeader h.body) s).1 else countIntakeError s := by
  have hcount := hf.reads.count
  have hareas := hf.areas
  have hchecked := recordChecked_rest 1 (body := h.body) (by rw [h.body_length]; omega)
  have hbody := recordBody_rest 1 h.body
  unfold headerArrives
  dsimp only
  rw [hbody, hchecked, hcount, h.body_length]
  simp

/-- A sound header's record goes through the steps of intake. -/
theorem exec_header_sound {h : Header} (hs : h.Sound) (ht : h.test = false) (s : State) :
    exec (.header (recordRest 1 h.body)) s = .next (intakeHeader h.capped s.cleared).1 := by
  have hrange : headerInRange h.body = true :=
    hs.fits.reads.inRange.mpr ⟨hs.areas, hs.issuerClass, hs.severity, hs.issuedAt, hs.duration.1⟩
  rw [exec_header, headerArrives_body hs.fits, if_pos hrange, hs.fits.reads.readHeader ht]

/-- Settles O24: the layout read back field by field, and the check of the ranges. -/
theorem headerFieldsTaken : Obligations.HeaderFieldsTaken := by
  refine ⟨fun s h hs ht => exec_header_sound hs ht s, ?_⟩
  rintro s rest h (hbad | ⟨rfl, hareas, hclass, hseverity, hissued, hduration, hbad⟩)
  · rw [exec_header, headerArrives]
    dsimp only
    rw [hbad]
    rfl
  · have hf : h.Fits := ⟨hclass, hseverity, hissued, hduration, hareas⟩
    have hrange : ¬ headerInRange h.body = true := by
      rw [hf.reads.inRange, ← List.length_eq_zero_iff] at *
      omega
    rw [exec_header, headerArrives_body hf, if_neg hrange]
    rfl

end Sys2Proof.Machine

/-!
PROOF. Headers that end early: stale, duplicate, discarded; the place in the recent-alert table (R124 to R126, R128).
-/

namespace Sys2Proof.Machine

/-! ### The place in the recent-alert table (R126) -/

/-- The lower of two places by a value, the first where they are equal. -/
def lowerPlace {n : Nat} (v : Fin n → Nat) (best k : Fin n) : Fin n := if v k < v best then k else best

/-- Along increasing places the fold finds the lowest place of the least value. -/
theorem foldl_lowerPlace {n : Nat} (v : Fin n → Nat) (k : Fin n) (hk : ∀ j, v k < v j ∨ (v k = v j ∧ k ≤ j)) (l : List (Fin n))
    (hl : l.Pairwise (· < ·)) (best : Fin n) (h : best = k ∨ (k ∈ l ∧ v k < v best)) : l.foldl (lowerPlace v) best = k := by
  induction l generalizing best with
  | nil => exact h.resolve_right fun h => nomatch h.1
  | cons j l ih =>
    obtain ⟨hj, hl⟩ := List.pairwise_cons.mp hl
    rw [List.foldl_cons]
    refine ih hl _ ?_
    unfold lowerPlace
    rcases h with rfl | ⟨hmem, hlt⟩
    · have hno : ¬ v j < v best := by have := hk j; omega
      exact .inl (if_neg hno)
    · rcases List.mem_cons.mp hmem with rfl | hmem
      · exact .inl (if_pos hlt)
      · split
        · have hafter := hj k hmem
          have hle := hk j
          exact .inr ⟨hmem, by omega⟩
        · exact .inr ⟨hmem, hlt⟩

/-- The remaining minutes at a place of the recent-alert table. -/
def remainingAt (recent : Vector (Option RecentEntry) 16) (k : Fin 16) : Nat :=
  ((recent.get k).map RecentEntry.remaining).getD 0

theorem recentPlace_empty {recent : Vector (Option RecentEntry) 16} {k : Fin 16} (h : recent.get k = none)
    (hlow : ∀ j, j < k → recent.get j ≠ none) : recentPlace recent = k := by
  have hfind := finRange_find_eq_some (p := fun k => (recent.get k).isNone) (k := k)
    |>.mpr ⟨by rw [h]; rfl, fun j hj => by simpa using Option.ne_none_iff_isSome.mp (hlow j hj)⟩
  rw [recentPlace, hfind]

theorem recentPlace_full {recent : Vector (Option RecentEntry) 16} {k : Fin 16} (hfull : ∀ j, recent.get j ≠ none)
    (hk : ∀ j, remainingAt recent k < remainingAt recent j ∨ (remainingAt recent k = remainingAt recent j ∧ k ≤ j)) :
    recentPlace recent = k := by
  have hfind := finRange_find_eq_none (p := fun k => (recent.get k).isNone)
    |>.mpr fun j => by simpa using Option.ne_none_iff_isSome.mp (hfull j)
  rw [recentPlace, hfind]
  refine foldl_lowerPlace (remainingAt recent) k hk _ (List.pairwise_lt_finRange 16) 0 ?_
  rcases hk 0 with h | ⟨-, h⟩
  · exact .inr ⟨List.mem_finRange k, h⟩
  · exact .inl (Fin.le_zero_iff.mp h).symm

/-! ### The first steps of intake (R124, R125, R128) -/

theorem AlertIntake.remainingOf_eq (a : AlertIntake) (h : Header) : a.remainingOf h = h.duration - a.elapsed h := by
  unfold remainingOf elapsed
  cases a.minuteOfWeek <;> rfl

theorem AlertIntake.knows_iff (a : AlertIntake) (i : Identity) :
    a.knows i = true ↔ (∃ n e, a.recent.get n = some e ∧ e.identity = i) ∨ i ∈ a.identities := by
  simp only [knows, Bool.or_eq_true, List.any_eq_true, Option.any_eq_true, decide_eq_true_eq, identities, List.mem_map]
  refine or_congr ⟨?_, ?_⟩ ⟨?_, ?_⟩
  · rintro ⟨x, hx, e, rfl, he⟩
    obtain ⟨n, hn, hget⟩ := List.getElem_of_mem hx
    exact ⟨⟨n, by simpa using hn⟩, e, by simpa [Vector.get_eq_getElem] using hget, he⟩
  · rintro ⟨n, e, hn, he⟩
    refine ⟨some e, ?_, e, rfl, he⟩
    rw [← hn, Vector.get_eq_getElem]
    simp
  · rintro ⟨r, hr, he⟩; exact ⟨r, hr, he⟩
  · rintro ⟨r, hr, he⟩; exact ⟨r, hr, he⟩

theorem intakeHeader_stale {h : Header} {s : State} (hr : s.intake.remainingOf h = 0) :
    intakeHeader h s = (countIntake (fun k => { k with stale := bump k.stale 1 }) s, .stale, none) := by
  rw [AlertIntake.remainingOf_eq] at hr
  exact if_pos (by omega)

theorem intakeHeader_duplicate {h : Header} {s : State} (hr : 0 < s.intake.remainingOf h)
    (hk : s.intake.knows h.identity = true) :
    intakeHeader h s = (countIntake (fun k => { k with duplicate := bump k.duplicate 1 }) s, .duplicate, none) := by
  rw [AlertIntake.remainingOf_eq] at hr
  exact (if_neg (by omega)).trans (if_pos hk)

/-- The identity remembered. -/
def State.remembering (h : Header) (s : State) : State :=
  s.modIntake fun a => a.remember h.identity (s.intake.remainingOf h)

theorem intakeHeader_new {h : Header} {s : State} (hr : 0 < s.intake.remainingOf h)
    (hk : s.intake.knows h.identity = false) :
    intakeHeader h s =
      match (s.intake.filterDecision h).verdict with
      | .discard =>
        (countIntake (fun k => { k with filterDiscard := bump k.filterDiscard 1 }) (s.remembering h), .discarded,
          some (s.intake.filterDecision h).matched)
      | .accept =>
        ((storeAndAccept h (s.intake.filterDecision h) (s.intake.remainingOf h) (s.remembering h)).1,
          (storeAndAccept h (s.intake.filterDecision h) (s.intake.remainingOf h) (s.remembering h)).2,
          some (s.intake.filterDecision h).matched) := by
  have hstale : ¬ h.duration ≤ s.intake.elapsed h := by
    rw [AlertIntake.remainingOf_eq] at hr
    omega
  unfold intakeHeader State.remembering
  rw [AlertIntake.remainingOf_eq]
  dsimp only
  rw [if_neg hstale, hk]
  rfl

/-- Settles O25: the order of the tests of intake, each ending with its count. -/
theorem headerEndsEarly : Obligations.HeaderEndsEarly := by
  refine ⟨fun recent k => ⟨recentPlace_empty, fun e hfull he hlow => ?_⟩, ?_⟩
  · have hat : remainingAt recent k = e.remaining := by rw [remainingAt, he]; rfl
    refine recentPlace_full hfull fun j => ?_
    obtain ⟨d, hd⟩ := Option.ne_none_iff_exists'.mp (hfull j)
    have hd' : remainingAt recent j = d.remaining := by rw [remainingAt, hd]; rfl
    rw [hat, hd']
    exact hlow j d hd
  · intro s h hs ht remaining k left known
    have hrun := exec_header_sound hs ht s
    have hknows : s.intake.knows h.capped.identity = true ↔ known := s.intake.knows_iff h.identity
    refine ⟨fun hzero => ?_, fun hpos hknown => ?_, fun hpos hnew hdiscard => ?_⟩
    · rw [hrun, intakeHeader_stale (s := s.cleared) hzero]
      rfl
    · rw [hrun, intakeHeader_duplicate (s := s.cleared) hpos (hknows.mpr hknown)]
      rfl
    · have hunknown : s.intake.knows h.capped.identity = false := by rw [← Bool.not_eq_true, hknows]; exact hnew
      have hverdict : (s.cleared.intake.filterDecision h.capped).verdict = .discard := hdiscard
      rw [hrun, intakeHeader_new (s := s.cleared) hpos hunknown, hverdict]
      rfl

end Sys2Proof.Machine

/-!
PROOF. The end of a recording, and the audio records (R119, R133, R135, R210).
-/

namespace Sys2Proof.Machine

/-! ### The end of a recording (R135) -/

/-- The state after the recording of slot `n` has ended, before a cause is latched. -/
def State.endedRecording (n : Fin 32) (s : State) : State :=
  { s with
    clips := { s.clips with
      slots := s.clips.slots.set n { s.clips.slots.get n with state := .alertHeld }
      channelHeld := false }
    intake := { s.intake with recording := ⟨.none, none, none, 0, 0, false⟩ } }

/-- The record of an identity flagged "audio short", and counted. -/
def State.audioShort (i : Identity) (s : State) : State :=
  { s with intake := { s.intake with
    queue := s.intake.queue.map fun q => if q.identity = i then q.setFlag flagAudioShort else q
    counters := { s.intake.counters with audioShort := min (s.intake.counters.audioShort + 1) 65535 } } }

theorem endRecording_quiet {s : State} {n : Fin 32} {i : Identity} (hn : s.intake.recording.slot = some n)
    (hi : s.intake.recording.identity = some i) : endRecording none s = s.endedRecording n := by
  rw [endRecording_eq hn hi]
  rfl

theorem endRecording_cause {s : State} {n : Fin 32} {i : Identity} (c : EndCause)
    (hn : s.intake.recording.slot = some n) (hi : s.intake.recording.identity = some i) :
    endRecording (some c) s =
      latch .alertAudioShort [i.word, Word.nat s.intake.recording.position, Word.nat c.code]
        ((s.endedRecording n).audioShort i) := by
  rw [endRecording_eq hn hi]
  rfl

/-! ### The audio records (R133) -/

theorem Identity.body_length (i : Identity) : i.body.length = 4 := by simp [Identity.body]

theorem audioIdentity_rest (kind : Byte) (i : Identity) : audioIdentity (kind :: recordRest kind i.body) = some i := by
  have hchecked := recordChecked_rest kind (body := i.body) (by rw [i.body_length]; omega)
  have hbody := recordBody_rest kind i.body
  have hissuer : beAt i.body 0 2 = i.issuer.toNat := beAt_of_take rfl i.issuer.isLt
  have hserial : beAt i.body 2 2 = i.serial.toNat := beAt_of_take rfl i.serial.isLt
  unfold audioIdentity
  dsimp only
  rw [hbody, hchecked, i.body_length, hissuer, hserial]
  simp

theorem audioIdentity_bad {record : List Byte} (h : recordChecked record = false) : audioIdentity record = none := by
  simp [audioIdentity, h]

theorem audioBeginArrives_rest (i : Identity) (s : State) :
    audioBeginArrives (recordRest 2 i.body) s = beginAudio i s := by
  have hi := audioIdentity_rest 0x02 i
  rw [audioBeginArrives, hi]

theorem audioEndArrives_rest (i : Identity) (s : State) : audioEndArrives (recordRest 3 i.body) s = endAudio i s := by
  have hi := audioIdentity_rest 0x03 i
  rw [audioEndArrives, hi]

theorem beginAudio_eq (i : Identity) (s : State) :
    beginAudio i s =
      if s.intake.recording.state = .waiting ∧ s.intake.recording.identity = some i then
        s.modIntake fun a => { a with recording := { a.recording with state := .writing, fresh := true } }
      else countUnmatched s := by
  unfold beginAudio
  cases hs : s.intake.recording.state <;> simp

theorem endAudio_unmatched {i : Identity} {s : State}
    (h : s.intake.recording.state = .none ∨ s.intake.recording.identity ≠ some i) : endAudio i s = countUnmatched s := by
  unfold endAudio
  by_cases hi : s.intake.recording.identity = some i
  · rw [if_pos hi, h.resolve_right (fun hne => hne hi)]
  · rw [if_neg hi]

theorem endAudio_matched {i : Identity} {s : State} (hi : s.intake.recording.identity = some i)
    (hs : s.intake.recording.state ≠ .none) :
    endAudio i s = endRecording (if s.intake.recording.state = .waiting then some .noBegin else none) s := by
  unfold endAudio
  rw [if_pos hi]
  cases hstate : s.intake.recording.state with
  | none => exact absurd hstate hs
  | waiting => rfl
  | writing => rfl

theorem recordBad_of {record : List Byte} (h : recordChecked record = false ∨ ∀ b ∈ record.head?, b ∉ [1, 2, 3]) :
    recordBad record = true := by
  unfold recordBad
  rcases h with h | h
  · simp [h]
  · cases hb : record.head? with
    | none => simp
    | some b =>
      have hkind := h b hb
      simp only [List.mem_cons, List.not_mem_nil, or_false, not_or] at hkind
      obtain ⟨h1, h2, h3⟩ := hkind
      dsimp only
      split
      · rename_i heq; exact absurd (Option.some.inj heq) h1
      · rename_i heq; exact absurd (Option.some.inj heq) h2
      · rename_i heq; exact absurd (Option.some.inj heq) h3
      · rfl

theorem recordBegun_of {bytes : List Byte} (hne : bytes ≠ []) (h : ∀ n ∈ bytes[1]?, bytes.length < n.toNat + 4) :
    recordBegun bytes = true := by
  have hlen := List.length_pos_iff.mpr hne
  rw [recordBegun]
  by_cases h2 : bytes.length < 2
  · simp [h2]; omega
  · have hget : bytes[1]? = some bytes[1] := List.getElem?_eq_getElem (by omega)
    have hshort := h _ hget
    have hgetD : bytes.getD 1 0 = bytes[1] := List.getD_eq_getElem _ _ (by omega)
    simp only [hgetD, Bool.and_eq_true, Bool.or_eq_true, decide_eq_true_eq]
    omega

/-- Settles O29: the identity read back from its record, then the recording's own state. -/
theorem audioRecordsSteer : Obligations.AudioRecordsSteer := by
  refine ⟨fun s i => ?_, fun s bytes => ?_⟩
  · intro r k unmatched
    have hbegin : exec (.audioBegin (recordRest 2 i.body)) s = .next (beginAudio i s.cleared) :=
      congrArg _ (audioBeginArrives_rest i s.cleared)
    have hend : exec (.audioEnd (recordRest 3 i.body)) s = .next (endAudio i s.cleared) :=
      congrArg _ (audioEndArrives_rest i s.cleared)
    refine ⟨?_, fun h => ?_, fun n hi hn hs => ?_⟩
    · rw [hbegin, beginAudio_eq]
      rfl
    · rw [hend, endAudio_unmatched (s := s.cleared) h]
      rfl
    · have hmatched := endAudio_matched (s := s.cleared) hi hs
      intro clips
      refine ⟨fun hw => ?_, fun hw => ?_⟩
      · have hquiet : ¬ s.cleared.intake.recording.state = .waiting := by
          rw [show s.cleared.intake.recording.state = .writing from hw]
          nofun
        rw [hend, hmatched, if_neg hquiet, endRecording_quiet (s := s.cleared) hn hi]
        rfl
      · refine ⟨_, hend, ?_⟩
        rw [hmatched, if_pos (show s.cleared.intake.recording.state = .waiting from hw), endRecording_cause (s := s.cleared) .noBegin hn hi]
        refine ⟨?_, (latch_get ..).trans (if_pos rfl)⟩
        rw [latch_frame]
        rfl
  · intro counted
    refine ⟨fun h => ?_, fun hne h => ?_, fun h => ?_, fun h => ?_⟩
    · have hbad := recordBad_of h
      show perform (fun s => if recordBad bytes then countIntakeError s else s) s = counted
      rw [hbad]
      rfl
    · have hbegun := recordBegun_of hne h
      show perform (fun s => if recordBegun bytes then countIntakeError s else s) s = counted
      rw [hbegun]
      rfl
    · show perform (audioBeginArrives bytes) s = counted
      rw [perform, audioBeginArrives, audioIdentity_bad h]
      rfl
    · show perform (audioEndArrives bytes) s = counted
      rw [perform, audioEndArrives, audioIdentity_bad h]
      rfl

end Sys2Proof.Machine

/-!
PROOF. What the selection of the air stage and the causes of a wake may change: latches, the link's own items, one on-air
mark, one hold (R149 to R152, R177, R189 to R191).
-/

namespace Sys2Proof.Machine

/-! ### Latches -/

/-- From `s` to `t` only kinds of `ks` may have been latched: a latched kind keeps its detail, and any other stands. -/
structure State.Latches (ks : List (Fin 25)) (s t : State) : Prop where
  kinds : ∀ k, t.notices.latches.get k = s.notices.latches.get k ∨ (k ∈ ks ∧ s.notices.latches.get k = none)

theorem State.Latches.of_eq {ks : List (Fin 25)} {s t : State} (h : t.notices = s.notices) : s.Latches ks t :=
  ⟨fun k => .inl (by rw [h])⟩

theorem State.Latches.refl (ks : List (Fin 25)) (s : State) : s.Latches ks s := .of_eq rfl

theorem State.Latches.trans {ks : List (Fin 25)} {s t u : State} (h : s.Latches ks t) (k : t.Latches ks u) :
    s.Latches ks u := ⟨fun j => by
  rcases k.kinds j with hk | ⟨hmem, hnone⟩
  · rw [hk]; exact h.kinds j
  · rcases h.kinds j with hj | hj
    · exact .inr ⟨hmem, hj ▸ hnone⟩
    · exact .inr hj⟩

theorem State.Latches.mono {ks js : List (Fin 25)} {s t : State} (h : s.Latches ks t) (hsub : ∀ k ∈ ks, k ∈ js) :
    s.Latches js t := ⟨fun k => (h.kinds k).imp_right fun hk => ⟨hsub k hk.1, hk.2⟩⟩

theorem State.Latches.of_mem {ks : List (Fin 25)} {kind : NoticeKind} (h : kind.index ∈ ks) (detail : List Word)
    (s : State) : s.Latches ks (latch kind detail s) := ⟨fun k => by
  rw [latch_get]
  split
  · rename_i hk
    subst hk
    cases hs : s.notices.latches.get kind.index with
    | none => exact .inr ⟨h, rfl⟩
    | some d => exact .inl rfl
  · exact .inl rfl⟩

theorem State.Latches.latched {ks : List (Fin 25)} {kind : NoticeKind} {s t : State} (h : s.Latches ks t)
    (hk : kind.index ∈ ks) (detail : List Word) : s.Latches ks (latch kind detail t) := h.trans (.of_mem hk detail t)

/-- A kind that is not listed stands. -/
theorem State.Latches.stands {ks : List (Fin 25)} {s t : State} (h : s.Latches ks t) {k : Fin 25} (hk : k ∉ ks) :
    t.notices.latches.get k = s.notices.latches.get k := (h.kinds k).resolve_right fun hno => hk hno.1

/-- A latched kind keeps its detail. -/
theorem State.Latches.kept {ks : List (Fin 25)} {s t : State} (h : s.Latches ks t) {k : Fin 25} {d : List Word}
    (hk : s.notices.latches.get k = some d) : t.notices.latches.get k = some d := by
  rcases h.kinds k with he | ⟨-, hnone⟩
  · rw [he, hk]
  · rw [hk] at hnone; cases hnone

theorem State.Latches.isSome {ks : List (Fin 25)} {s t : State} (h : s.Latches ks t) {k : Fin 25}
    (hk : (s.notices.latches.get k).isSome = true) : (t.notices.latches.get k).isSome = true := by
  obtain ⟨d, hd⟩ := Option.isSome_iff_exists.mp hk
  rw [h.kept hd]
  rfl

/-! ### Link messages -/

/-- What passing a message may change of the link unit. -/
def LinkUnit.Passes (l m : LinkUnit) : Prop :=
  m = { l with
    queue := m.queue
    nextNumber := m.nextNumber
    counters := { l.counters with messageLost := m.counters.messageLost }
    faultsSince := m.faultsSince
    capture := m.capture }

theorem LinkUnit.Passes.refl (l : LinkUnit) : l.Passes l := rfl

theorem LinkUnit.Passes.trans {l m n : LinkUnit} (h : l.Passes m) (k : m.Passes n) : l.Passes n := by
  unfold Passes at h k ⊢
  conv_lhs => rw [k, h]

theorem queueMessage_passes (kind : MessageKind) (body : List Byte) (s : State) :
    s.link.Passes (queueMessage kind body s).1.link := by
  rcases Nat.lt_or_ge s.link.queue.length 8 with h | h
  · rw [queueMessage_room kind body s h]; rfl
  · rw [queueMessage_full kind body s h, latch_link]; rfl

theorem queueMessage_latches (kind : MessageKind) (body : List Byte) (s : State) :
    s.Latches [23] (queueMessage kind body s).1 := by
  rcases Nat.lt_or_ge s.link.queue.length 8 with h | h
  · rw [queueMessage_room kind body s h]; exact .of_eq rfl
  · rw [queueMessage_full kind body s h]
    dsimp only
    refine State.Latches.latched (kind := .linkMessageLost) (ks := [23]) ?_ (by decide) _
    exact .of_eq rfl

/-! ### The end of a negotiation (R189) -/

theorem queueCancel_latches (e : Ending) (s : State) : s.Latches [23] (queueCancel e s).1 := by
  cases e
  · exact .refl _ s
  · exact queueMessage_latches ..

theorem queueCancel_passes (e : Ending) (s : State) : s.link.Passes (queueCancel e s).1.link := by
  cases e
  · exact .refl _
  · exact queueMessage_passes ..

theorem LinkUnit.markLate_fields (l : LinkUnit) (cancel : Option Byte) :
    l.markLate cancel = { l with lateNumber := (l.markLate cancel).lateNumber } := by
  unfold markLate
  split
  · split <;> rfl
  · rfl

/-- What the end of a negotiation in SLEEP_PENDING leaves: RUN, no phase, the end counted, SLEEP_RESULT latched. -/
theorem endNegotiation_pending {s : State} (h : s.link.mode = .sleepPending) (e : Ending) (cause : Nat) :
    (endNegotiation e cause s).link.mode = .run ∧ (endNegotiation e cause s).link.phase = .none ∧
      (endNegotiation e cause s).link.counters =
        { e.count s.link.counters with messageLost := (endNegotiation e cause s).link.counters.messageLost } ∧
      (endNegotiation e cause s).notices.latches.get 21 =
        some ((s.notices.latches.get 21).getD [Word.nat e.code, Word.nat cause]) := by
  unfold endNegotiation
  dsimp only
  rw [if_pos h]
  have hpass := queueCancel_passes e ((enterRun s).modLink LinkUnit.leavePhase)
  have hlatch := (queueCancel_latches e ((enterRun s).modLink LinkUnit.leavePhase)).stands (k := 21) (by decide)
  generalize queueCancel e ((enterRun s).modLink LinkUnit.leavePhase) = q at hpass hlatch
  obtain ⟨u, cancel⟩ := q
  dsimp only at hpass hlatch ⊢
  refine ⟨?_, ?_, ?_, ?_⟩
  · rw [latch_link, State.modLink_link, LinkUnit.markLate_fields]
    exact (congrArg LinkUnit.mode hpass).trans rfl
  · rw [latch_link, State.modLink_link, LinkUnit.markLate_fields]
    exact (congrArg LinkUnit.phase hpass).trans rfl
  · rw [latch_link, State.modLink_link]
    show e.count u.link.counters = { e.count s.link.counters with messageLost := (e.count u.link.counters).messageLost }
    rw [congrArg LinkUnit.counters hpass]
    cases e <;> rfl
  · rw [latch_get, if_pos (show (21 : Fin 25) = NoticeKind.sleepResult.index from rfl)]
    exact congrArg (fun x => some (Option.getD x _)) hlatch

theorem endNegotiation_latches (e : Ending) (cause : Nat) (s : State) : s.Latches [21, 23] (endNegotiation e cause s) := by
  unfold endNegotiation
  dsimp only
  have henter : s.Latches [21, 23] (if s.link.mode = .sleepPending then enterRun s else s) := by
    split <;> exact .of_eq rfl
  generalize (if s.link.mode = .sleepPending then enterRun s else s) = u at henter
  have hcancel := (queueCancel_latches e (u.modLink LinkUnit.leavePhase)).mono (js := [21, 23]) (by decide)
  generalize queueCancel e (u.modLink LinkUnit.leavePhase) = q at hcancel
  refine henter.trans (State.Latches.trans (t := u.modLink LinkUnit.leavePhase) (.of_eq rfl) (hcancel.trans ?_))
  refine State.Latches.latched (kind := .sleepResult) (ks := [21, 23]) ?_ (by decide) _
  exact .of_eq rfl

theorem wakeOrAbort_latches (cause : Nat) (s : State) : s.Latches [21, 23] (wakeOrAbort cause s) := by
  unfold wakeOrAbort
  split
  · exact .of_eq rfl
  · exact endNegotiation_latches ..
  all_goals exact .refl _ s

/-- A cause of a wake or of an abort leaves the link awake. -/
theorem wakeOrAbort_mode (cause : Nat) (s : State) :
    (wakeOrAbort cause s).link.mode =
      match s.link.mode with
      | .asleep => .waking
      | .sleepPending => .run
      | m => m := by
  cases h : s.link.mode with
  | asleep => simp only [wakeOrAbort, h]; rfl
  | sleepPending => simp only [wakeOrAbort, h]; exact (endNegotiation_pending h .aborted cause).1
  | _ => rw [wakeOrAbort_awake cause s (by simp [h])]; exact h

theorem wakeOrAbort_isAwake (cause : Nat) (s : State) : (wakeOrAbort cause s).link.mode.awake = true := by
  rw [wakeOrAbort_mode]
  cases s.link.mode <;> rfl

/-! ### The entry to LEAD_IN and the commit (R151, R152) -/

theorem chooseAttention_clips (s : State) :
    (chooseAttention s).clips = s.clips ∨
      ∃ n, s.clips.playable n = true ∧ (chooseAttention s).clips = s.clips.hold airReader n := by
  unfold chooseAttention
  dsimp only
  split
  · exact .inl rfl
  · split
    · rename_i n _ h
      exact .inr ⟨n, (Bool.and_eq_true_iff.mp h).1, rfl⟩
    · exact .inl rfl

theorem enterLeadIn_clips (s : State) :
    (enterLeadIn s).clips = s.clips ∨ ∃ n, s.clips.playable n = true ∧ (enterLeadIn s).clips = s.clips.hold airReader n := by
  have h := chooseAttention_clips (s.modAir fun a => { a with state := .leadIn, step := 0, position := 0 })
  rw [enterLeadIn_eq, leadInRest]
  split
  · rw [queueMessage_frame]; exact h
  · exact h

theorem enterLeadIn_passes (s : State) : s.link.Passes (enterLeadIn s).link := by
  have h : (chooseAttention (s.modAir fun a => { a with state := .leadIn, step := 0, position := 0 })).link = s.link := by
    rw [chooseAttention_frame]; rfl
  rw [enterLeadIn_eq, leadInRest]
  split
  · rw [← h]; exact queueMessage_passes ..
  · rw [h]; exact .refl _

theorem enterLeadIn_latches (s : State) : s.Latches [23] (enterLeadIn s) := by
  have h : s.Latches [23] (chooseAttention (s.modAir fun a => { a with state := .leadIn, step := 0, position := 0 })) :=
    .of_eq (by rw [chooseAttention_frame]; rfl)
  rw [enterLeadIn_eq, leadInRest]
  split
  · exact h.trans (queueMessage_latches ..)
  · exact h

/-- The air stage after the entry to LEAD_IN. -/
theorem enterLeadIn_air (s : State) :
    (enterLeadIn s).air =
      { s.air with
        state := .leadIn
        step := 0
        position := 0
        attention := (enterLeadIn s).air.attention
        attentionFrames := (enterLeadIn s).air.attentionFrames } := by
  have h : (chooseAttention (s.modAir fun a => { a with state := .leadIn, step := 0, position := 0 })).air =
      { s.air with
        state := .leadIn
        step := 0
        position := 0
        attention := (chooseAttention (s.modAir fun a => { a with state := .leadIn, step := 0, position := 0 })).air.attention
        attentionFrames :=
          (chooseAttention (s.modAir fun a => { a with state := .leadIn, step := 0, position := 0 })).air.attentionFrames } := by
    rw [chooseAttention_frame]
    rfl
  rw [enterLeadIn_eq, leadInRest]
  split
  · rw [queueMessage_frame]; exact h
  · exact h

/-- What a commit may change (R151). -/
structure State.Committed (i : Identity) (s t : State) : Prop where
  frame : t = { s with
    clips := t.clips
    intake := s.intake.modRecord i fun r => { r with onAir := true }
    air := t.air
    link := t.link
    notices := t.notices
    sent := t.sent }
  clips : t.clips = s.clips ∨ ∃ n, s.clips.playable n = true ∧ t.clips = s.clips.hold airReader n
  latches : s.Latches [21, 23] t
  awake : t.link.mode.awake = true
  passes : s.link.mode.awake = true → s.link.Passes t.link
  air : t.air = { s.air with
    state := t.air.state
    airing := some i
    present := true
    impaired := false
    underruns := 0
    messageFrames := 0
    waitSet := if s.link.mode = .sleepPending then [] else s.air.waitSet
    step := t.air.step
    position := t.air.position
    attention := t.air.attention
    attentionFrames := t.air.attentionFrames }
  leadIn : s.link.mode.awake = true → t.air.state = .leadIn ∧ t.air.step = 0 ∧ t.air.position = 0
  waitLink : s.link.mode.awake = false → t.air.state = .waitLink

/-- The record marked and the air stage set for it, before the state of the commit. -/
def State.marked (i : Identity) (s : State) : State :=
  (s.modIntake fun q => q.modRecord i fun r => { r with onAir := true }).modAir fun a =>
    { a with airing := some i, present := true, impaired := false, underruns := 0, messageFrames := 0 }

theorem commit_awake {s : State} (h : s.link.mode.awake = true) (i : Identity) : commit i s = enterLeadIn (s.marked i) := by
  unfold commit
  have hmode : (s.marked i).link.mode = s.link.mode := rfl
  cases hm : s.link.mode with
  | asleep => rw [hm] at h; cases h
  | sleepPending => rw [hm] at h; cases h
  | _ =>
    rw [hm] at hmode
    show (match (s.marked i).link.mode with
      | .asleep | .sleepPending => wakeOrAbort 4 ((s.marked i).modAir fun a => { a with state := .waitLink })
      | .run | .waking | .cut => enterLeadIn (s.marked i)) = _
    rw [hmode]

theorem commit_asleep {s : State} (h : s.link.mode.awake = false) (i : Identity) :
    commit i s = wakeOrAbort 4 ((s.marked i).modAir fun a => { a with state := .waitLink }) := by
  unfold commit
  have hmode : (s.marked i).link.mode = s.link.mode := rfl
  show (match (s.marked i).link.mode with
      | .asleep | .sleepPending => wakeOrAbort 4 ((s.marked i).modAir fun a => { a with state := .waitLink })
      | .run | .waking | .cut => enterLeadIn (s.marked i)) = _
  cases hm : s.link.mode with
  | asleep => rw [hmode, hm]
  | sleepPending => rw [hmode, hm]
  | _ => rw [hm] at h; cases h

theorem commit_committed (i : Identity) (s : State) : s.Committed i (commit i s) := by
  by_cases h : s.link.mode.awake = true
  · have hne : s.link.mode ≠ .sleepPending := ((LinkMode.awake_iff _).mp h).1
    rw [commit_awake h]
    refine ⟨?_, enterLeadIn_clips (s.marked i), ?_, ?_, fun _ => enterLeadIn_passes (s.marked i), ?_, fun _ => ?_, fun hno => ?_⟩
    · rw [enterLeadIn_frame]; rfl
    · exact State.Latches.trans (t := s.marked i) (.of_eq rfl) ((enterLeadIn_latches _).mono (by decide))
    · rw [enterLeadIn_passes (s.marked i)]; exact h
    · rw [if_neg hne, enterLeadIn_air]; rfl
    · rw [enterLeadIn_air]; exact ⟨rfl, rfl, rfl⟩
    · rw [h] at hno; cases hno
  · have hasleep : s.link.mode.awake = false := by simpa using h
    rw [commit_asleep hasleep]
    refine ⟨?_, .inl ?_, ?_, wakeOrAbort_isAwake .., fun hyes => absurd hyes h, ?_, fun hyes => absurd hyes h, fun _ => ?_⟩
    · rw [wakeOrAbort_frame]; rfl
    · rw [wakeOrAbort_frame]; rfl
    · exact State.Latches.trans (t := (s.marked i).modAir fun a => { a with state := .waitLink }) (.of_eq rfl)
        (wakeOrAbort_latches ..)
    · rw [wakeOrAbort_frame]; rfl
    · rw [wakeOrAbort_frame]; rfl

/-! ### The selection (R149) -/

/-- What the selection may change. -/
structure State.Selects (s t : State) : Prop where
  frame : t = { s with
    clips := t.clips, intake := t.intake, air := t.air, link := t.link, notices := t.notices, sent := t.sent }
  marks : t.intake = s.intake ∨ ∃ i, t.intake = s.intake.modRecord i fun r => { r with onAir := true }
  clips : t.clips = s.clips ∨ ∃ n, s.clips.playable n = true ∧ t.clips = s.clips.hold airReader n
  latches : s.Latches [21, 23] t
  passes : s.link.mode.awake = true → s.link.Passes t.link
  waitSet : s.link.mode ≠ .sleepPending → t.air.waitSet = s.air.waitSet
  counters : t.air.counters = { s.air.counters with deadline := t.air.counters.deadline }

theorem State.Selects.refl (s : State) : s.Selects s :=
  ⟨rfl, .inl rfl, .inl rfl, .refl _ s, fun _ => .refl _, fun _ => rfl, rfl⟩

theorem select_selects (s : State) : s.Selects (select s) := by
  by_cases h : s.air.state ∈ [AirState.idle, .waitBreak]
  · cases hc : chosenRecord s with
    | none =>
      rw [select_none h hc]
      exact ⟨rfl, .inl rfl, .inl rfl, .of_eq rfl, fun _ => .refl _, fun _ => rfl, rfl⟩
    | some r =>
      cases hd : recordDue s r with
      | false =>
        rw [select_waits h hc hd]
        exact ⟨rfl, .inl rfl, .inl rfl, .of_eq rfl, fun _ => .refl _, fun _ => rfl, rfl⟩
      | true =>
        rw [select_due h hc hd]
        set u := s.modAir fun a => { a with counters := { a.counters with
          deadline := bump a.counters.deadline (if r.airMode = .nextBreak then 1 else 0) } } with hu
        have hcommit := commit_committed r.identity u
        refine ⟨?_, .inr ⟨r.identity, ?_⟩, hcommit.clips, ?_, hcommit.passes, fun hne => ?_, ?_⟩
        · rw [show (commit r.identity u).intake = _ from congrArg State.intake hcommit.frame]
          exact hcommit.frame
        · exact congrArg State.intake hcommit.frame
        · exact State.Latches.trans (t := u) (.of_eq rfl) hcommit.latches
        · rw [hcommit.air]; exact if_neg hne
        · rw [hcommit.air]
          rfl
  · rw [select_busy s h]
    exact .refl s

end Sys2Proof.Machine

/-!
PROOF. One line bus cycle: what the frame of one line does to it, and to what it shares (R64 to R75, R210).
-/

namespace Sys2Proof.Machine

/-! ### One line moves -/

theorem latch_slots (kind : NoticeKind) (detail : List Word) (s : State) :
    (latch kind detail s).sent.slots = s.sent.slots := by
  obtain ⟨frames, h⟩ := latch_sent kind detail s
  rw [h]

theorem latch_sentLink (kind : NoticeKind) (detail : List Word) (s : State) :
    (latch kind detail s).sent.link = s.sent.link := by
  obtain ⟨frames, h⟩ := latch_sent kind detail s
  rw [h]

/-- From `s` to `t` line `k` becomes `r`, by events and limits: no other line, no setting, no frame changes. -/
structure State.LineMoves (k : Fin 6) (r : Line) (s t : State) : Prop where
  line : t.line.line k = r
  others : ∀ j, j ≠ k → t.line.line j = s.line.line j
  items : t.line = { s.line with
    lines := t.line.lines
    ready := t.line.ready
    screening := t.line.screening
    onAir := t.line.onAir
    counters := t.line.counters }
  slots : t.sent.slots = s.sent.slots
  link : t.sent.link = s.sent.link
  latches : s.Latches [4, 5, 6, 7] t
  ring : (t.notices.latches.get 4).isSome ↔
    (s.notices.latches.get 4).isSome ∨ ((s.line.line k).state = .idle ∧ r.state = .ringing)
  missed : min s.line.counters.missed 65535 ≤ t.line.counters.missed
  timedOut : min s.line.counters.holdTimeout 65535 ≤ t.line.counters.holdTimeout

theorem State.LineMoves.stay (k : Fin 6) (s : State) : s.LineMoves k (s.line.line k) s where
  line := rfl
  others _ _ := rfl
  items := rfl
  slots := rfl
  link := rfl
  latches := .refl _ s
  ring := by
    refine ⟨.inl, fun h => h.resolve_right fun ⟨hidle, hring⟩ => ?_⟩
    rw [hidle] at hring
    cases hring
  missed := Nat.min_le_left ..
  timedOut := Nat.min_le_left ..

/-- A move within a state, and another one after it. -/
theorem State.LineMoves.trans {k : Fin 6} {r q : Line} {s t u : State} (h : s.LineMoves k r t)
    (hr : r.state = (s.line.line k).state) (h' : t.LineMoves k q u) : s.LineMoves k q u where
  line := h'.line
  others j hj := (h'.others j hj).trans (h.others j hj)
  items := by conv_lhs => rw [h'.items, h.items]
  slots := h'.slots.trans h.slots
  link := h'.link.trans h.link
  latches := h.latches.trans h'.latches
  ring := by
    have hno : ¬ ((s.line.line k).state = .idle ∧ r.state = .ringing) := by
      rintro ⟨hidle, hring⟩
      rw [hr, hidle] at hring
      cases hring
    rw [h'.ring, h.ring, h.line, or_iff_left hno, hr]
  missed := by have := h.missed; have := h'.missed; omega
  timedOut := by have := h.timedOut; have := h'.timedOut; omega

theorem State.LineMoves.counted {k : Fin 6} {r : Line} {s t : State} (h : s.LineMoves k r t)
    (f : LineCounters → LineCounters) (hmissed : ∀ c, min c.missed 65535 ≤ (f c).missed)
    (htimedOut : ∀ c, min c.holdTimeout 65535 ≤ (f c).holdTimeout) : s.LineMoves k r (countLine f t) where
  line := h.line
  others := h.others
  items := by
    show { t.line with counters := f t.line.counters } = _
    conv_lhs => rw [h.items]
    rfl
  slots := h.slots
  link := h.link
  latches := h.latches.trans (.of_eq rfl)
  ring := h.ring
  missed := by have := h.missed; have := hmissed t.line.counters; simp only [countLine, State.modLine_line]; omega
  timedOut := by have := h.timedOut; have := htimedOut t.line.counters; simp only [countLine, State.modLine_line]; omega

theorem State.LineMoves.latched {k : Fin 6} {r : Line} {s t : State} (h : s.LineMoves k r t) {kind : NoticeKind}
    (hkind : kind.index ∈ [(5 : Fin 25), 6, 7]) (detail : List Word) : s.LineMoves k r (latch kind detail t) where
  line := by rw [latch_line]; exact h.line
  others := by rw [latch_line]; exact h.others
  items := by rw [latch_line]; exact h.items
  slots := by rw [latch_slots]; exact h.slots
  link := by rw [latch_sentLink]; exact h.link
  latches := h.latches.latched (List.mem_cons_of_mem _ hkind) detail
  ring := by
    rw [latch_get, if_neg (fun e => by rw [← e] at hkind; exact absurd hkind (by decide))]
    exact h.ring
  missed := by rw [latch_line]; exact h.missed
  timedOut := by rw [latch_line]; exact h.timedOut

/-- The record of a line that enters a state (R69). -/
def Line.entering (new : LineState) (r : Line) : Line := ⟨new, 0, if new = .ringing then 0 else r.tag, r.missingRun⟩

/-- A line enters a state other than RINGING. -/
theorem State.LineMoves.enter (k : Fin 6) {new : LineState} (hnew : new ≠ .ringing) (s : State) :
    s.LineMoves k ((s.line.line k).entering new) (changeLine k new s) where
  line := s.line.change_self k new
  others j hj := s.line.change_other k j new hj
  items := s.line.change_frame k new
  slots := rfl
  link := rfl
  latches := .of_eq rfl
  ring := ⟨.inl, fun h => h.resolve_right fun hring => hnew hring.2⟩
  missed := Nat.min_le_left ..
  timedOut := Nat.min_le_left ..

/-- An IDLE line enters RINGING, with RING latched (R71). -/
theorem State.LineMoves.rings {k : Fin 6} {s : State} (h : (s.line.line k).state = .idle) (detail : List Word) :
    s.LineMoves k ((s.line.line k).entering .ringing) (latch .ring detail (changeLine k .ringing s)) where
  line := by rw [latch_line]; exact s.line.change_self k .ringing
  others j hj := by rw [latch_line]; exact s.line.change_other k j .ringing hj
  items := by rw [latch_line]; exact s.line.change_frame k .ringing
  slots := latch_slots ..
  link := latch_sentLink ..
  latches := State.Latches.trans (t := changeLine k .ringing s) (.of_eq rfl) (.of_mem (by decide) _ _)
  ring := by
    rw [latch_get, if_pos (show (4 : Fin 25) = NoticeKind.ring.index from rfl)]
    exact ⟨fun _ => .inr ⟨h, rfl⟩, fun _ => rfl⟩
  missed := by rw [latch_line]; exact Nat.min_le_left ..
  timedOut := by rw [latch_line]; exact Nat.min_le_left ..

/-! ### The events (R71 to R73) -/

theorem State.LineMoves.countEventError (k : Fin 6) (s : State) : s.LineMoves k (s.line.line k) (countEventError s) :=
  (State.LineMoves.stay k s).counted _ (fun _ => Nat.min_le_left ..) (fun _ => Nat.min_le_left ..)

theorem State.LineMoves.abandonCall (k : Fin 6) (s : State) :
    s.LineMoves k ((s.line.line k).entering .idle) (abandonCall k s) :=
  (State.LineMoves.enter k (new := .idle) nofun s).counted (fun c => { c with abandoned := bump c.abandoned 1 })
    (fun _ => Nat.min_le_left ..) (fun _ => Nat.min_le_left ..)

theorem State.LineMoves.hangUp (k : Fin 6) (s : State) : s.LineMoves k ((s.line.line k).entering .idle) (hangUp k s) :=
  ((State.LineMoves.enter k (new := .idle) nofun s).counted (fun c => { c with hangUp := bump c.hangUp 1 })
    (fun _ => Nat.min_le_left ..) (fun _ => Nat.min_le_left ..)).latched (kind := .hungUp) (by decide) _

theorem State.LineMoves.faultLine (k : Fin 6) (cause : Nat) (s : State) :
    s.LineMoves k ((s.line.line k).entering .fault) (faultLine k cause s) :=
  ((State.LineMoves.enter k (new := .fault) nofun s).counted (fun c => { c with fault := bump c.fault 1 })
    (fun _ => Nat.min_le_left ..) (fun _ => Nat.min_le_left ..)).latched (kind := .lineFault) (by decide) _

/-- The state that an event takes a line to. -/
def LineState.afterEvent (x : LineState) (e : LineEvent) : LineState :=
  match x, e with
  | .fault, .quiet => .idle
  | .fault, _ => .fault
  | _, .fault => .fault
  | .idle, .ring => .ringing
  | .idle, _ => .idle
  | .ringing, .quiet => .idle
  | _, .dropped => .idle
  | y, _ => y

/-- The record of a line that is taken to a state, where that is another one. -/
def Line.toState (new : LineState) (r : Line) : Line := if new = r.state then r else r.entering new

theorem State.LineMoves.lineEvent (k : Fin 6) (e : LineEvent) (s : State) :
    s.LineMoves k ((s.line.line k).toState ((s.line.line k).state.afterEvent e)) (lineEvent k e s) := by
  unfold Machine.lineEvent
  split <;> rename_i hx <;> simp only [Line.toState, hx, LineState.afterEvent, reduceCtorEq, ↓reduceIte]
  · exact .rings hx _
  iterate 2 exact .countEventError ..
  iterate 3 exact .stay ..
  iterate 2 exact .abandonCall ..
  iterate 4 exact .hangUp ..
  iterate 12 exact .stay ..
  · exact .enter k (new := .idle) nofun s
  iterate 4 exact .stay ..
  all_goals exact .faultLine ..

/-! ### The slot (R64, R66, R70) -/

/-- The line unit with the slot of line `k` noted: the run of missing slots, and the caller frame. -/
def LineUnit.noteSlot (k : Fin 6) (slot : List Byte) (l : LineUnit) : LineUnit :=
  { l.modLine k fun r => { r with missingRun := if slotPresent slot then 0 else min (r.missingRun + 1) 65535 } with
    callers := l.callers.set k (if slotPresent slot then some (blockAt slot 1) else none) }

theorem LineUnit.noteSlot_self (l : LineUnit) (k : Fin 6) (slot : List Byte) :
    (l.noteSlot k slot).line k =
      { l.line k with missingRun := if slotPresent slot then 0 else min ((l.line k).missingRun + 1) 65535 } := by
  simp [noteSlot, modLine, line, get_set]

theorem LineUnit.noteSlot_other (l : LineUnit) {k j : Fin 6} (hj : j ≠ k) (slot : List Byte) :
    (l.noteSlot k slot).line j = l.line j := by
  have : ¬ k.val = j.val := fun e => hj (Fin.ext e.symm)
  simp [noteSlot, modLine, line, get_set, this]

/-- The state after a present slot, by its event. -/
theorem LineState.afterSlot_present (x : LineState) {slot : List Byte} (h : slotPresent slot = true) (missing : Nat) :
    x.afterSlot slot missing = ((LineEvent.ofByte (byteAt slot 0)).map x.afterEvent).getD x := by
  unfold LineState.afterSlot LineEvent.ofByte
  rw [if_pos h]
  generalize (byteAt slot 0).toNat = n
  rcases n with _ | _ | _ | _ | _ | n <;> cases x <;> rfl

theorem LineState.afterSlot_missing (x : LineState) {slot : List Byte} (h : ¬ slotPresent slot = true) (missing : Nat) :
    x.afterSlot slot missing = if (x = .ringing || x.connected) && 200 ≤ missing then .fault else x := by
  unfold LineState.afterSlot
  rw [if_neg h]
  by_cases hm : 200 ≤ missing <;> cases x <;> simp [hm, LineState.connected]

/-- The record of a line with its slot noted. -/
def Line.noting (slot : List Byte) (r : Line) : Line :=
  { r with missingRun := if slotPresent slot then 0 else min (r.missingRun + 1) 65535 }

/-- The slot of a line: what is noted of it, then its event or the fault of a line that has been missing for too long. -/
theorem State.LineMoves.slotPart {k : Fin 6} {slot : List Byte} {s : State} {r : Line}
    (hr : (s.line.line k).noting slot = r) :
    (s.modLine (LineUnit.noteSlot k slot)).LineMoves k (r.toState (r.state.afterSlot slot r.missingRun))
      (slotPart k slot s) := by
  have hself : (s.modLine (LineUnit.noteSlot k slot)).line.line k = r := (s.line.noteSlot_self k slot).trans hr
  unfold Machine.slotPart
  by_cases h : slotPresent slot = true
  · have hnote : (s.modLine fun l => { l.modLine k fun r => { r with missingRun := 0 } with
        callers := l.callers.set k (some (blockAt slot 1)) }) = s.modLine (LineUnit.noteSlot k slot) := by
      simp only [State.modLine, LineUnit.noteSlot, h, ↓reduceIte]
    rw [if_pos h, takeSlot, hnote, LineState.afterSlot_present _ h]
    generalize s.modLine (LineUnit.noteSlot k slot) = u at hself
    cases LineEvent.ofByte (byteAt slot 0) with
    | none =>
      have hcount := State.LineMoves.countEventError k u
      rw [hself] at hcount
      simpa [Line.toState] using hcount
    | some e =>
      have hevent := State.LineMoves.lineEvent k e u
      rw [hself] at hevent
      exact hevent
  · have hnote : (s.modLine fun l => { l.modLine k fun r => { r with missingRun := bump r.missingRun 1 } with
        callers := l.callers.set k none }) = s.modLine (LineUnit.noteSlot k slot) := by
      simp only [State.modLine, LineUnit.noteSlot, h, Bool.false_eq_true, ↓reduceIte, bump, Config.counterMax]
    rw [if_neg h, missSlot, hnote, LineState.afterSlot_missing _ h]
    generalize s.modLine (LineUnit.noteSlot k slot) = u at hself
    have hcount := (State.LineMoves.stay k u).counted (fun c => { c with missingFrame := bump c.missingFrame 1 })
      (fun _ => Nat.min_le_left ..) (fun _ => Nat.min_le_left ..)
    generalize countLine (fun c => { c with missingFrame := bump c.missingFrame 1 }) u = v at hcount
    have hfault := hcount.trans rfl (.faultLine k 1 v)
    rw [hself] at hcount
    rw [hcount.line] at hfault ⊢
    rw [show Config.missingSlotLimit = 200 from rfl]
    split
    · rename_i hdue
      rw [Line.toState, if_neg]
      · exact hfault
      · intro e
        rw [← e] at hdue
        simp [LineState.connected] at hdue
    · rw [Line.toState, if_pos rfl]
      exact hcount

/-! ### The limits (R74, R75) -/

/-- What a line whose state stands through its slot becomes: its time advances, and a limit reached takes it to IDLE. -/
def Line.timing (ringLimit holdLimit : Nat) (r : Line) : Line :=
  let time := min (r.timeInState + 1) 4294967295
  if (r.state = .ringing && ringLimit ≤ time) || ((r.state = .hold || r.state = .ready) && holdLimit ≤ time) then
    r.entering .idle
  else { r with timeInState := time }

theorem LineUnit.timed_self (l : LineUnit) (k : Fin 6) :
    (l.modLine k fun r => { r with timeInState := tick32 r.timeInState }).line k =
      { l.line k with timeInState := min ((l.line k).timeInState + 1) 4294967295 } := by
  simp [modLine, line, get_set, tick32, Config.timerMax]

theorem State.LineMoves.tickLine (k : Fin 6) (s : State) :
    s.LineMoves k { s.line.line k with timeInState := min ((s.line.line k).timeInState + 1) 4294967295 } (tickLine k s) where
  line := s.line.timed_self k
  others j hj := by
    have : ¬ k.val = j.val := fun e => hj (Fin.ext e.symm)
    simp [Machine.tickLine, LineUnit.modLine, LineUnit.line, get_set, this]
  items := rfl
  slots := rfl
  link := rfl
  latches := .of_eq rfl
  ring := (State.LineMoves.stay k s).ring
  missed := Nat.min_le_left ..
  timedOut := Nat.min_le_left ..

theorem State.LineMoves.timeoutLine (k : Fin 6) (s : State) :
    s.LineMoves k ((s.line.line k).entering .idle) (timeoutLine k s) :=
  (State.LineMoves.enter k (new := .idle) nofun s).latched (kind := .lineTimeout) (by decide) _

/-- A limit is reached: counted, then the timeout. -/
theorem State.LineMoves.limit (k : Fin 6) (f : LineCounters → LineCounters)
    (hmissed : ∀ c, min c.missed 65535 ≤ (f c).missed) (htimedOut : ∀ c, min c.holdTimeout 65535 ≤ (f c).holdTimeout)
    (s : State) : s.LineMoves k ((s.line.line k).entering .idle) (Machine.timeoutLine k (countLine f s)) :=
  ((State.LineMoves.stay k s).counted f hmissed htimedOut).trans rfl (State.LineMoves.timeoutLine k (countLine f s))

theorem State.LineMoves.checkLimits (k : Fin 6) (s : State) :
    s.LineMoves k ((s.line.line k).timing s.line.ringLimit ((s.line.conf.get k).holdSeconds * 1000))
      (checkLimits k (Machine.tickLine k s)) := by
  have htick := State.LineMoves.tickLine k s
  set u := Machine.tickLine k s
  unfold Machine.checkLimits Line.timing
  have hring : u.line.ringOver k = ((s.line.line k).state = .ringing &&
      s.line.ringLimit ≤ min ((s.line.line k).timeInState + 1) 4294967295) := by
    unfold LineUnit.ringOver
    rw [htick.line]
    rfl
  have hhold : u.line.holdOver k = (((s.line.line k).state = .hold || (s.line.line k).state = .ready) &&
      (s.line.conf.get k).holdSeconds * 1000 ≤ min ((s.line.line k).timeInState + 1) 4294967295) := by
    unfold LineUnit.holdOver
    rw [htick.line]
    rfl
  have henter : (u.line.line k).entering .idle = (s.line.line k).entering .idle := by
    rw [htick.line]; rfl
  have hmissed := htick.trans rfl (.limit k (fun c => { c with missed := bump c.missed 1 })
    (fun c => by simp only [bump, Config.counterMax]; omega) (fun _ => Nat.min_le_left ..) u)
  have hheld := htick.trans rfl (.limit k (fun c => { c with holdTimeout := bump c.holdTimeout 1 })
    (fun _ => Nat.min_le_left ..) (fun c => by simp only [bump, Config.counterMax]; omega) u)
  rw [henter] at hmissed hheld
  dsimp only
  rw [← hring, ← hhold]
  cases u.line.ringOver k
  · cases u.line.holdOver k
    · exact htick
    · exact hheld
  · exact hmissed

/-! ### The line frame (R70) -/

theorem Line.afterCycle_eq (ringLimit holdLimit : Nat) (slot : List Byte) (r : Line) :
    r.afterCycle ringLimit holdLimit slot =
      let q := r.noting slot
      let new := q.state.afterSlot slot q.missingRun
      if new = q.state then q.timing ringLimit holdLimit else q.entering new := by
  unfold Line.afterCycle Line.noting
  dsimp only
  generalize (if slotPresent slot = true then 0 else min (r.missingRun + 1) 65535) = missing
  rw [ite_not]
  by_cases h : r.state.afterSlot slot missing = r.state
  · rw [if_pos h, if_pos h, h]
    rfl
  · rw [if_neg h, if_neg h]
    rfl

theorem lineFrame_stands {slots : IncomingSlots} {k : Fin 6} {s : State}
    (h : ((slotPart k (slots.get k) s).line.line k).state = (s.line.line k).state) :
    lineFrame slots k s = checkLimits k (tickLine k (slotPart k (slots.get k) s)) := by
  simp only [lineFrame, lineBeforeLimits, if_pos h, ↓reduceIte]

theorem lineFrame_moved {slots : IncomingSlots} {k : Fin 6} {s : State}
    (h : ¬ ((slotPart k (slots.get k) s).line.line k).state = (s.line.line k).state) :
    lineFrame slots k s = slotPart k (slots.get k) s := by
  simp only [lineFrame, lineBeforeLimits, if_neg h, Bool.false_eq_true, ↓reduceIte]

theorem State.LineMoves.lineFrame (slots : IncomingSlots) (k : Fin 6) (s : State) :
    (s.modLine (LineUnit.noteSlot k (slots.get k))).LineMoves k
      ((s.line.line k).afterCycle s.line.ringLimit ((s.line.conf.get k).holdSeconds * 1000) (slots.get k))
      (lineFrame slots k s) := by
  rw [Line.afterCycle_eq]
  have hslot := State.LineMoves.slotPart (k := k) (slot := slots.get k) (s := s) rfl
  have hself : ((s.modLine (LineUnit.noteSlot k (slots.get k))).line.line k).state = (s.line.line k).state := by
    rw [State.modLine_line, LineUnit.noteSlot_self]
  set q := (s.line.line k).noting (slots.get k)
  have hq : q.state = (s.line.line k).state := rfl
  dsimp only
  by_cases h : q.state.afterSlot (slots.get k) q.missingRun = q.state
  · rw [if_pos h]
    rw [h, Line.toState, if_pos rfl] at hslot
    rw [lineFrame_stands (by rw [hslot.line, hq])]
    have hlimits := State.LineMoves.checkLimits k (Machine.slotPart k (slots.get k) s)
    rw [hslot.line, hslot.items] at hlimits
    exact hslot.trans (hq.trans hself.symm) hlimits
  · rw [if_neg h]
    rw [Line.toState, if_neg h] at hslot
    rw [lineFrame_moved (by rw [hslot.line]; exact h)]
    exact hslot

end Sys2Proof.Machine

/-!
PROOF. The six lines of a line bus cycle, and the limits (R64, R65, R70, R74, R75).
-/

namespace Sys2Proof.Machine

/-! ### The lines of a cycle in turn -/

/-- From `s` to `t` the frames of the lines of `l` have been taken. -/
structure State.Cycles (slots : IncomingSlots) (l : List (Fin 6)) (s t : State) : Prop where
  moved : ∀ k ∈ l, t.line.line k =
    (s.line.line k).afterCycle s.line.ringLimit ((s.line.conf.get k).holdSeconds * 1000) (slots.get k)
  stands : ∀ k ∉ l, t.line.line k = s.line.line k
  callers : ∀ k ∈ l, t.line.callers.get k = if slotPresent (slots.get k) then some (blockAt (slots.get k) 1) else none
  callersStand : ∀ k ∉ l, t.line.callers.get k = s.line.callers.get k
  items : t.line = { s.line with
    lines := t.line.lines
    ready := t.line.ready
    screening := t.line.screening
    onAir := t.line.onAir
    callers := t.line.callers
    counters := t.line.counters }
  slots : t.sent.slots = s.sent.slots
  link : t.sent.link = s.sent.link
  latches : s.Latches [4, 5, 6, 7] t
  ring : (t.notices.latches.get 4).isSome ↔
    (s.notices.latches.get 4).isSome ∨ ∃ k ∈ l, (s.line.line k).state = .idle ∧ (t.line.line k).state = .ringing
  missed : min s.line.counters.missed 65535 ≤ t.line.counters.missed
  timedOut : min s.line.counters.holdTimeout 65535 ≤ t.line.counters.holdTimeout

theorem State.Cycles.nil (slots : IncomingSlots) (s : State) : s.Cycles slots [] s where
  moved := nofun
  stands _ _ := rfl
  callers := nofun
  callersStand _ _ := rfl
  items := rfl
  slots := rfl
  link := rfl
  latches := .refl _ s
  ring := by simp
  missed := Nat.min_le_left ..
  timedOut := Nat.min_le_left ..

theorem LineUnit.noteSlot_callers (l : LineUnit) (k j : Fin 6) (slot : List Byte) :
    (l.noteSlot k slot).callers.get j =
      if j = k then (if slotPresent slot then some (blockAt slot 1) else none) else l.callers.get j := by
  simp only [noteSlot, get_set, Fin.ext_iff, eq_comm]

/-- The frame of a line, then those of other lines. -/
theorem State.Cycles.cons {slots : IncomingSlots} {k : Fin 6} {l : List (Fin 6)} {s t : State} (hk : k ∉ l)
    (h : (lineFrame slots k s).Cycles slots l t) : s.Cycles slots (k :: l) t := by
  have hmove := State.LineMoves.lineFrame slots k s
  have hother (j : Fin 6) (hj : j ≠ k) : (lineFrame slots k s).line.line j = s.line.line j :=
    (hmove.others j hj).trans (s.line.noteSlot_other hj _)
  have hcallers (j : Fin 6) : (lineFrame slots k s).line.callers.get j = _ :=
    (congrArg (fun u : LineUnit => u.callers.get j) hmove.items).trans (s.line.noteSlot_callers k j (slots.get k))
  have hnoted : ((s.line.noteSlot k (slots.get k)).line k).state = (s.line.line k).state := by
    rw [LineUnit.noteSlot_self]
  refine ⟨fun j hj => ?_, fun j hj => ?_, fun j hj => ?_, fun j hj => ?_, ?_, h.slots.trans hmove.slots,
    h.link.trans hmove.link, ?_, ?_, ?_, ?_⟩
  · by_cases hjk : j = k
    · subst hjk
      rw [h.stands j hk, hmove.line]
    · rw [h.moved j ((List.mem_cons.mp hj).resolve_left hjk), hother j hjk, hmove.items]
      rfl
  · rw [List.mem_cons, not_or] at hj
    rw [h.stands j hj.2, hother j hj.1]
  · by_cases hjk : j = k
    · subst hjk
      rw [h.callersStand j hk, hcallers, if_pos rfl]
    · exact h.callers j ((List.mem_cons.mp hj).resolve_left hjk)
  · rw [List.mem_cons, not_or] at hj
    rw [h.callersStand j hj.2, hcallers, if_neg hj.1]
  · conv_lhs => rw [h.items, hmove.items]
    rfl
  · exact State.Latches.trans (t := s.modLine (LineUnit.noteSlot k (slots.get k))) (.of_eq rfl)
      (hmove.latches.trans h.latches)
  · have hkeep : t.line.line k = (lineFrame slots k s).line.line k := h.stands k hk
    rw [h.ring, hmove.ring, State.modLine_line, hnoted, State.modLine_notices, or_assoc]
    refine or_congr_right ⟨?_, ?_⟩
    · rintro (hself | ⟨j, hj, hidle, hring⟩)
      · exact ⟨k, List.mem_cons_self, hself.1, by rw [hkeep, hmove.line]; exact hself.2⟩
      · have hjk : j ≠ k := fun e => hk (e ▸ hj)
        exact ⟨j, List.mem_cons_of_mem _ hj, by rw [← hother j hjk]; exact hidle, hring⟩
    · rintro ⟨j, hj, hidle, hring⟩
      by_cases hjk : j = k
      · subst hjk
        rw [hkeep, hmove.line] at hring
        exact .inl ⟨hidle, hring⟩
      · exact .inr ⟨j, (List.mem_cons.mp hj).resolve_left hjk, by rw [hother j hjk]; exact hidle, hring⟩
  · have := h.missed
    have : min s.line.counters.missed 65535 ≤ _ := hmove.missed
    omega
  · have := h.timedOut
    have : min s.line.counters.holdTimeout 65535 ≤ _ := hmove.timedOut
    omega

theorem State.Cycles.foldl (slots : IncomingSlots) {l : List (Fin 6)} (hl : l.Nodup) (s : State) :
    s.Cycles slots l (l.foldl (fun s k => lineFrame slots k s) s) := by
  induction l generalizing s with
  | nil => exact .nil slots s
  | cons k l ih =>
    rw [List.nodup_cons] at hl
    exact .cons hl.1 (ih hl.2 _)

/-- The state after the six line frames, before the outgoing slots. -/
def afterLines (slots : IncomingSlots) (s : State) : State :=
  (List.finRange 6).foldl (fun s k => lineFrame slots k s) (adoptLines s)

theorem lineWork_eq (slots : IncomingSlots) (s : State) : lineWork slots s = sendSlots (afterLines slots s) := rfl

theorem State.Cycles.afterLines (slots : IncomingSlots) (s : State) :
    (adoptLines s).Cycles slots (List.finRange 6) (afterLines slots s) := .foldl slots (List.nodup_finRange 6) _

/-- Settles O18: each line moves by its own slot, record and limits; the six outgoing slots follow. -/
theorem lineCycleMovesLines : Obligations.LineCycleMovesLines := by
  intro s slots
  have h := State.Cycles.afterLines slots s.cleared
  have hframe := (State.Rings.lineWork slots s.cleared).frame
  have hmem (k : Fin 6) : k ∈ List.finRange 6 := List.mem_finRange k
  refine ⟨lineWork slots s.cleared, rfl, hframe, ?_⟩
  rw [lineWork_eq]
  generalize Machine.afterLines slots s.cleared = u at h
  have hfeeds : u.line.feeds = s.line.feeds := by rw [h.items]; rfl
  have hring := h.ring
  simp only [hmem, true_and] at hring
  refine ⟨fun k => h.moved k (hmem k), fun k => h.callers k (hmem k), congrArg LineUnit.conf h.items,
    congrArg LineUnit.capacity h.items, congrArg LineUnit.ringLimit h.items, hfeeds, h.link, ?_, hring,
    fun n hn => h.latches.stands hn⟩
  show u.sent.slots ++ _ = _
  rw [h.slots]
  refine List.map_congr_left fun k _ => ?_
  unfold LineUnit.outgoing
  rw [hfeeds]
  rfl

/-! ### The limits -/

section
variable {slots : IncomingSlots} {k : Fin 6} {s : State} {q : Line}

/-- A line whose state stands through its slot: its time advances, and its limits are then checked. -/
theorem lineBeforeLimits_stands (hq : (s.line.line k).noting (slots.get k) = q)
    (h : q.state.afterSlot (slots.get k) q.missingRun = q.state) :
    ∃ u, lineBeforeLimits k (slots.get k) s = (u, true) ∧ lineFrame slots k s = checkLimits k u ∧
      (s.modLine (LineUnit.noteSlot k (slots.get k))).LineMoves k
        { q with timeInState := min (q.timeInState + 1) 4294967295 } u := by
  have hslot := State.LineMoves.slotPart hq
  rw [Line.toState, if_pos h] at hslot
  have hstate : q.state = (s.line.line k).state := by rw [← hq]; rfl
  have hself : ((s.modLine (LineUnit.noteSlot k (slots.get k))).line.line k).state = (s.line.line k).state := by
    rw [State.modLine_line, LineUnit.noteSlot_self]
  have htick := State.LineMoves.tickLine k (slotPart k (slots.get k) s)
  rw [hslot.line] at htick
  have hbefore : lineBeforeLimits k (slots.get k) s = (tickLine k (slotPart k (slots.get k) s), true) := by
    unfold lineBeforeLimits
    dsimp only
    rw [if_pos (by rw [hslot.line, hstate])]
  exact ⟨_, hbefore, lineFrame_stands (by rw [hslot.line, hstate]), hslot.trans (hstate.trans hself.symm) htick⟩

theorem limitDue_stands (hq : (s.line.line k).noting (slots.get k) = q)
    (h : q.state.afterSlot (slots.get k) q.missingRun = q.state) :
    limitDue LineUnit.ringOver k slots s =
        (q.state = .ringing && s.setting Setting.ringLimit ≤ min (q.timeInState + 1) 4294967295) ∧
      limitDue LineUnit.holdOver k slots s = ((q.state = .hold || q.state = .ready) &&
        (s.tables.lineConf.get k).holdSeconds * 1000 ≤ min (q.timeInState + 1) 4294967295) := by
  obtain ⟨u, hbefore, -, hmoves⟩ := lineBeforeLimits_stands (s := adoptLines s) hq h
  unfold limitDue LineUnit.ringOver LineUnit.holdOver LineUnit.holdLimit
  rw [hbefore]
  dsimp only
  rw [hmoves.line, hmoves.items]
  exact ⟨rfl, rfl⟩

/-- A line that is in none of a limit's states does not reach it in this cycle. -/
theorem limitDue_other {reached : LineUnit → Fin 6 → Bool}
    (h : ∀ l : LineUnit, (l.line k).state = (s.line.line k).state → reached l k = false) :
    limitDue reached k slots s = false := by
  unfold limitDue lineBeforeLimits
  dsimp only
  split
  · rename_i hstate
    have htick := State.LineMoves.tickLine k (slotPart k (slots.get k) (adoptLines s))
    rw [Bool.true_and]
    exact h _ (by rw [htick.line]; exact hstate)
  · rfl

/-- A limit reached: the timeout is latched, and the missed call or the hold timeout is counted. -/
theorem lineFrame_over (hq : (s.line.line k).noting (slots.get k) = q)
    (h : q.state.afterSlot (slots.get k) q.missingRun = q.state) :
    ((q.state = .ringing ∧ s.line.ringLimit ≤ min (q.timeInState + 1) 4294967295) →
      ((lineFrame slots k s).notices.latches.get 7).isSome ∧
        min (s.line.counters.missed + 1) 65535 ≤ (lineFrame slots k s).line.counters.missed) ∧
    (((q.state = .hold ∨ q.state = .ready) ∧
        (s.line.conf.get k).holdSeconds * 1000 ≤ min (q.timeInState + 1) 4294967295) →
      ((lineFrame slots k s).notices.latches.get 7).isSome ∧
        min (s.line.counters.holdTimeout + 1) 65535 ≤ (lineFrame slots k s).line.counters.holdTimeout) := by
  obtain ⟨u, -, hframe, hmoves⟩ := lineBeforeLimits_stands hq h
  have hmissed : min s.line.counters.missed 65535 ≤ u.line.counters.missed := hmoves.missed
  have htimedOut : min s.line.counters.holdTimeout 65535 ≤ u.line.counters.holdTimeout := hmoves.timedOut
  have hlimit : u.line.ringLimit = s.line.ringLimit := by rw [hmoves.items]; rfl
  have hconf : u.line.conf = s.line.conf := by rw [hmoves.items]; rfl
  have hlatched (v : State) : ((timeoutLine k v).notices.latches.get 7).isSome := by
    rw [timeoutLine, latch_get, if_pos (show (7 : Fin 25) = NoticeKind.lineTimeout.index from rfl)]
    rfl
  rw [hframe]
  unfold checkLimits LineUnit.ringOver LineUnit.holdOver LineUnit.holdLimit
  rw [hmoves.line, hlimit, hconf]
  dsimp only
  refine ⟨fun ⟨hstate, hover⟩ => ?_, fun ⟨hstate, hover⟩ => ?_⟩
  · rw [if_pos (by simp [hstate, hover])]
    refine ⟨hlatched _, ?_⟩
    rw [timeoutLine, latch_line]
    show _ ≤ min (u.line.counters.missed + 1) 65535
    omega
  · rw [if_neg (by rcases hstate with e | e <;> simp [e]), if_pos (by simp [hstate, hover])]
    refine ⟨hlatched _, ?_⟩
    rw [timeoutLine, latch_line]
    show _ ≤ min (u.line.counters.holdTimeout + 1) 65535
    omega

/-- The six line frames, at the frame of one line. -/
theorem afterLines_split (slots : IncomingSlots) (k : Fin 6) (s : State) :
    ∃ l m u t, k ∉ l ∧ (adoptLines s).Cycles slots l u ∧ (lineFrame slots k u).Cycles slots m t ∧
      afterLines slots s = t := by
  obtain ⟨l, m, hlm⟩ := List.append_of_mem (List.mem_finRange k)
  have hnodup := List.nodup_finRange 6
  rw [hlm, List.nodup_append, List.nodup_cons] at hnodup
  obtain ⟨hl, ⟨-, hm⟩, hdisjoint⟩ := hnodup
  refine ⟨l, m, _, _, fun hk => hdisjoint k hk k List.mem_cons_self rfl, .foldl slots hl _, .foldl slots hm _, ?_⟩
  unfold afterLines
  rw [hlm, List.foldl_append, List.foldl_cons]

end

/-- A counter that does not fall, rises by 1, and does not fall. -/
theorem counted_through {a b c d : Nat} (hab : min a 65535 ≤ b) (hbc : min (b + 1) 65535 ≤ c) (hcd : min c 65535 ≤ d) :
    min (a + 1) 65535 ≤ d := by omega

/-- The cycle in which a line reaches a limit: the timeout stands latched, and the count has risen. -/
theorem lineWork_over {slots : IncomingSlots} {k : Fin 6} {s : State} {q : Line}
    (hq : (s.line.line k).noting (slots.get k) = q) (h : q.state.afterSlot (slots.get k) q.missingRun = q.state) :
    ((q.state = .ringing ∧ s.setting Setting.ringLimit ≤ min (q.timeInState + 1) 4294967295) →
      ((lineWork slots s).notices.latches.get 7).isSome ∧
        min (s.line.counters.missed + 1) 65535 ≤ (lineWork slots s).line.counters.missed) ∧
    (((q.state = .hold ∨ q.state = .ready) ∧
        (s.tables.lineConf.get k).holdSeconds * 1000 ≤ min (q.timeInState + 1) 4294967295) →
      ((lineWork slots s).notices.latches.get 7).isSome ∧
        min (s.line.counters.holdTimeout + 1) 65535 ≤ (lineWork slots s).line.counters.holdTimeout) := by
  obtain ⟨l, m, u, t, hk, hbefore, hafter, hall⟩ := afterLines_split slots k s
  have hu : (u.line.line k).noting (slots.get k) = q := (congrArg (Line.noting (slots.get k)) (hbefore.stands k hk)).trans hq
  have hlimit : u.line.ringLimit = s.setting Setting.ringLimit := by rw [hbefore.items]; rfl
  have hconf : u.line.conf = s.tables.lineConf := by rw [hbefore.items]; rfl
  have hmissed : min s.line.counters.missed 65535 ≤ u.line.counters.missed := hbefore.missed
  have htimedOut : min s.line.counters.holdTimeout 65535 ≤ u.line.counters.holdTimeout := hbefore.timedOut
  have hover := lineFrame_over hu h
  rw [hlimit, hconf] at hover
  rw [lineWork_eq, hall]
  refine ⟨fun hring => ?_, fun hhold => ?_⟩
  · obtain ⟨hlatched, hcount⟩ := hover.1 hring
    exact ⟨hafter.latches.isSome hlatched, counted_through hmissed hcount hafter.missed⟩
  · obtain ⟨hlatched, hcount⟩ := hover.2 hhold
    exact ⟨hafter.latches.isSome hlatched, counted_through htimedOut hcount hafter.timedOut⟩

theorem lineWork_line (slots : IncomingSlots) (k : Fin 6) (s : State) : (lineWork slots s).line.line k =
    (s.line.line k).afterCycle (s.setting Setting.ringLimit) ((s.tables.lineConf.get k).holdSeconds * 1000)
      (slots.get k) :=
  (State.Cycles.afterLines slots s).moved k (List.mem_finRange k)

/-- A line whose state stands through its slot and whose limit is reached becomes IDLE, keeping its tag. -/
theorem Line.afterCycle_over {ringLimit holdLimit : Nat} {slot : List Byte} {r : Line}
    (h : (r.noting slot).state.afterSlot slot (r.noting slot).missingRun = (r.noting slot).state)
    (hover : (r.state = .ringing ∧ ringLimit ≤ min (r.timeInState + 1) 4294967295) ∨
      ((r.state = .hold ∨ r.state = .ready) ∧ holdLimit ≤ min (r.timeInState + 1) 4294967295)) :
    r.afterCycle ringLimit holdLimit slot = ⟨.idle, 0, r.tag, (r.noting slot).missingRun⟩ := by
  rw [Line.afterCycle_eq]
  dsimp only
  rw [if_pos h, Line.timing, if_pos ?_]
  · rfl
  · show ((r.state = .ringing && _) || ((r.state = .hold || r.state = .ready) && _)) = true
    rcases hover with ⟨hstate, hlimit⟩ | ⟨hstate, hlimit⟩
    · rw [decide_eq_true hstate, decide_eq_true (show ringLimit ≤ min ((r.noting slot).timeInState + 1) 4294967295 from hlimit)]
      rfl
    · rw [decide_eq_true (show holdLimit ≤ min ((r.noting slot).timeInState + 1) 4294967295 from hlimit)]
      rcases hstate with e | e <;> rw [decide_eq_true e] <;> simp

theorem limitDue_ringing {k : Fin 6} {s : State} (slots : IncomingSlots) (h : (s.line.line k).state ≠ .ringing) :
    limitDue LineUnit.ringOver k slots s = false := by
  refine limitDue_other fun l hl => ?_
  rw [LineUnit.ringOver, hl, decide_eq_false h]
  rfl

theorem limitDue_held {k : Fin 6} {s : State} (slots : IncomingSlots) (h : (s.line.line k).state ≠ .hold)
    (h' : (s.line.line k).state ≠ .ready) : limitDue LineUnit.holdOver k slots s = false := by
  refine limitDue_other fun l hl => ?_
  rw [LineUnit.holdOver, hl, decide_eq_false h, decide_eq_false h']
  rfl

/-- Settles O19: the ring limit and the hold limit, and the rows of a line in another state. -/
theorem lineLimits : Obligations.LineLimits := by
  intro s k slots r missing time
  have hq : (s.cleared.line.line k).noting (slots.get k) = r.noting (slots.get k) := rfl
  refine ⟨fun hslot hstate hover => ?_, fun hslot hstate hover => ?_, fun hstate => ?_, fun hhold hready => ?_⟩
  · have hstands := hslot.trans hstate.symm
    obtain ⟨hlatched, hcount⟩ := (lineWork_over hq hstands).1 ⟨hstate, hover⟩
    refine ⟨lineWork slots s.cleared, ?_, rfl, ?_, hlatched, hcount⟩
    · rw [exec_eq, work, whenDue, (limitDue_stands hq hstands).1, if_pos]
      rw [decide_eq_true (show (r.noting (slots.get k)).state = .ringing from hstate)]
      exact decide_eq_true hover
    · rw [lineWork_line]
      exact Line.afterCycle_over hstands (.inl ⟨hstate, hover⟩)
  · have hstands := hslot
    obtain ⟨hlatched, hcount⟩ := (lineWork_over hq hstands).2 ⟨hstate, hover⟩
    refine ⟨lineWork slots s.cleared, ?_, rfl, ?_, hlatched, hcount⟩
    · rw [exec_eq, work, whenDue, (limitDue_stands hq hstands).2, if_pos]
      refine Bool.and_eq_true_iff.mpr ⟨?_, decide_eq_true hover⟩
      rcases hstate with e | e <;>
        simp [show (r.noting (slots.get k)).state = _ from e]
    · rw [lineWork_line]
      exact Line.afterCycle_over hstands (.inr ⟨hstate, hover⟩)
  · rw [exec_eq, work, whenDue, limitDue_ringing slots (s := s.cleared) hstate]
    rfl
  · rw [exec_eq, work, whenDue, limitDue_held slots (s := s.cleared) hhold hready]
    rfl

end Sys2Proof.Machine

/-!
PROOF. The exchange: what it gives and keeps in each delay state (R43 to R52).
-/

namespace Sys2Proof.Machine

/-! ### What the read and store parts give and keep -/

/-- The frame `g` is given, and `held` are the frames kept. -/
structure DelayLine.Gives (d : DelayLine) (g : PgmFrame) (held : List PgmFrame) : Prop where
  offered : d.offered = some g
  lastGiven : d.lastGiven = g
  heldFrames : d.heldFrames = held

theorem DelayLine.heldFrames_length (d : DelayLine) : d.heldFrames.length = d.held := by
  rw [heldFrames, List.length_map, List.length_range]

theorem DelayLine.heldFrames_eq_nil {d : DelayLine} (h : d.held = 0) : d.heldFrames = [] := by
  rw [heldFrames, h]; rfl

theorem DelayLine.heldFrames_getElem? (d : DelayLine) {i : Nat} (h : i < d.held) :
    d.heldFrames[i]? = some (d.heldFrame i) := by
  simp [heldFrames, h]

theorem DelayLine.readSide_eq (d : DelayLine) (f : PgmFrame) : d.readSide f = (d.heldFrames ++ [f]).headD f := by
  unfold readSide
  split
  · rename_i h; rw [heldFrames_eq_nil h]; rfl
  · rename_i h
    have hget := d.heldFrames_getElem? (i := 0) (by omega)
    rw [List.headD_eq_head?_getD, List.head?_append, List.head?_eq_getElem?, hget]
    rfl

theorem DelayLine.Gives.plain {d : DelayLine} (h : d.held ≤ 65536) (f : PgmFrame) :
    (d.plain f).Gives ((d.heldFrames ++ [f]).headD f) (d.heldFrames ++ [f]).tail := by
  rw [← d.readSide_eq f]
  unfold DelayLine.plain readSide
  split
  · rename_i h0
    refine ⟨rfl, rfl, ?_⟩
    rw [give_heldFrames, heldFrames_eq_nil h0]
    rfl
  · rename_i h0
    refine ⟨rfl, rfl, ?_⟩
    have hne : d.heldFrames ≠ [] := by
      rw [ne_eq, ← List.length_eq_zero_iff, heldFrames_length]; exact h0
    rw [give_heldFrames, store_heldFrames _ _ (by rw [dropOldest_held]; omega), dropOldest_heldFrames,
      List.tail_append_of_ne_nil hne, List.drop_one]

theorem DelayLine.Gives.skip {d : DelayLine} (h0 : 1 ≤ d.held) (h : d.held ≤ 65536) (f : PgmFrame) :
    (if d.held = 1 then (d.dropOldest 1).give f else ((d.dropOldest 2).store f).give (d.heldFrame 1)).Gives
      ((d.heldFrames ++ [f]).getD 1 f) ((d.heldFrames ++ [f]).drop 2) := by
  have hlength := d.heldFrames_length
  split
  · rename_i h1
    refine ⟨?_, ?_, ?_⟩
    · rw [List.getD_append_right _ _ _ _ (by omega), hlength, h1]; rfl
    · rw [List.getD_append_right _ _ _ _ (by omega), hlength, h1]; rfl
    · rw [give_heldFrames, dropOldest_heldFrames, List.drop_eq_nil_of_le (by omega),
        List.drop_eq_nil_of_le (by rw [List.length_append, List.length_singleton]; omega)]
  · have hget : (d.heldFrames ++ [f]).getD 1 f = d.heldFrame 1 := by
      rw [List.getD_append _ _ _ _ (by omega), List.getD_eq_getElem?_getD, d.heldFrames_getElem? (by omega)]
      rfl
    rw [hget]
    refine ⟨rfl, rfl, ?_⟩
    rw [give_heldFrames, store_heldFrames _ _ (by rw [dropOldest_held]; omega), dropOldest_heldFrames,
      List.drop_append_of_le_length (by omega)]

theorem DelayLine.Gives.derive {d : DelayLine} {g : PgmFrame} {held : List PgmFrame} (h : d.Gives g held) (bypass : Bool) :
    (d.derive bypass).Gives g held := ⟨h.offered, h.lastGiven, h.heldFrames⟩

/-! ### The adoption (R43, R52) -/

/-- The delay line with the committed settings adopted, derived for a state. -/
def State.adopted (s : State) : DelayLine :=
  { ({ s.delay with target := s.setting Setting.delayTarget } : DelayLine).derive s.air.bypass with
    buildSpacing := s.setting Setting.buildSpacing
    dumpLength := s.setting Setting.dumpLength
    policy := HoldPolicy.ofCode (s.setting Setting.holdPolicy) }

theorem DelayLine.derive_self {d : DelayLine} {bypass : Bool} (h : d.state = d.derived bypass) : d.derive bypass = d := by
  unfold derive
  dsimp only
  rw [← h, if_neg (by simp)]

theorem reachesTarget_self (x : DelayState) : reachesTarget x x = false := by cases x <;> rfl

theorem adoptDelay_of_derived {s : State} (h : s.delay.state = s.delay.derived s.air.bypass) :
    adoptDelay s =
      { s with delay := s.adopted, notices := (adoptDelay s).notices, sent := (adoptDelay s).sent } ∧
    (∀ k, (adoptDelay s).notices.latches.get k =
      if k = 10 ∧ reachesTarget s.delay.state s.adopted.state = true then
        some ((s.notices.latches.get k).getD [Word.nat (s.setting Setting.delayTarget)])
      else s.notices.latches.get k) ∧
    (reachesTarget s.delay.state s.adopted.state = false → (adoptDelay s).notices = s.notices) := by
  unfold adoptDelay
  dsimp only
  split
  · rename_i ht
    have hsame : s.adopted = { s.delay with
        buildSpacing := s.setting Setting.buildSpacing
        dumpLength := s.setting Setting.dumpLength
        policy := HoldPolicy.ofCode (s.setting Setting.holdPolicy) } := by
      unfold State.adopted
      rw [← show s.delay.target = s.setting Setting.delayTarget from ht, DelayLine.derive_self h]
    rw [hsame]
    refine ⟨rfl, fun k => ?_, fun _ => rfl⟩
    rw [if_neg (by rw [reachesTarget_self]; simp)]
    rfl
  · refine ⟨?_, fun k => ?_, fun hno => ?_⟩
    · rw [deriveDelay_frame]; rfl
    · rw [deriveDelay_get]; rfl
    · rw [deriveDelay_quiet hno]; rfl

/-! ### The exchange in each state (R46 to R50) -/

theorem DelayLine.derived_congr {d e : DelayLine} (hhold : e.hold = d.hold) (htarget : e.target = d.target)
    (hheld : e.held = d.held) (bypass : Bool) : e.derived bypass = d.derived bypass := by
  simp only [derived, hhold, htarget, hheld]

/-- What a plain read leaves alone. -/
theorem DelayLine.plain_keeps (d : DelayLine) (f : PgmFrame) :
    d.plain f = { d with
      region := (d.plain f).region
      readPos := (d.plain f).readPos
      lastGiven := (d.plain f).lastGiven
      offered := (d.plain f).offered } := by
  have hheld := d.plain_held f
  unfold plain at hheld ⊢
  split
  · rfl
  · rename_i h
    rw [if_neg h] at hheld
    simp only [store, dropOldest, give, DelayLine.mk.injEq, and_true, true_and]
    exact hheld

/-- A plain read with the spacing count advanced leaves the state that it was in. -/
theorem DelayLine.spaced_plain_derive {d : DelayLine} {bypass : Bool} (h : d.state = d.derived bypass) (f : PgmFrame) :
    (({ d with spacing := d.spaced }.plain f).derive bypass).spacing = d.spaced ∧
      (({ d with spacing := d.spaced }.plain f).derive bypass).counters = d.counters := by
  have hkeeps := DelayLine.plain_keeps { d with spacing := d.spaced } f
  generalize ({ d with spacing := d.spaced } : DelayLine).plain f = e at hkeeps
  have hstate : e.derived bypass = e.state := by
    rw [DelayLine.derived_congr (d := d) (by rw [hkeeps]) (by rw [hkeeps]) (by rw [hkeeps]), ← h, hkeeps]
  unfold derive
  dsimp only
  rw [hstate, if_neg (by simp), hkeeps]
  exact ⟨rfl, rfl⟩

/-- An insertion or a skip is due. -/
def DelayLine.due (d : DelayLine) (f : PgmFrame) : Prop := d.buildSpacing ≤ d.spaced ∧ (d.readSide f).quiet = true

theorem DelayLine.build_plain {d : DelayLine} {f : PgmFrame} (h : ¬ d.due f) :
    d.build f = { d with spacing := d.spaced }.plain f := by
  unfold build
  rw [if_neg]
  rw [Bool.and_eq_true, decide_eq_true_eq]
  exact h

theorem DelayLine.shrink_plain {d : DelayLine} {f : PgmFrame} (h : ¬ d.due f) :
    d.shrink f = { d with spacing := d.spaced }.plain f := by
  unfold shrink
  rw [if_neg]
  rw [Bool.and_eq_true, Bool.and_eq_true, decide_eq_true_eq]
  exact fun hdue => h hdue.1

theorem DelayLine.build_due {d : DelayLine} {f : PgmFrame} (h : d.due f) (hroom : d.held < 65536) :
    (d.build f).Gives d.lastGiven (d.heldFrames ++ [f]) ∧ (d.build f).spacing = 0 ∧
      (d.build f).counters.insertion = min (d.counters.insertion + 1) 65535 := by
  unfold build
  rw [if_pos (by rw [Bool.and_eq_true, decide_eq_true_eq]; exact h)]
  exact ⟨⟨rfl, rfl, d.store_heldFrames f hroom⟩, rfl, rfl⟩

theorem DelayLine.shrink_due {d : DelayLine} {f : PgmFrame} (h : d.due f) (h0 : 1 ≤ d.held) (hheld : d.held ≤ 65536) :
    (d.shrink f).Gives ((d.heldFrames ++ [f]).getD 1 f) ((d.heldFrames ++ [f]).drop 2) ∧ (d.shrink f).spacing = 0 ∧
      (d.shrink f).counters.skip = min (d.counters.skip + 1) 65535 := by
  have hgives := DelayLine.Gives.skip h0 hheld f
  have hcounters : (if d.held = 1 then (d.dropOldest 1).give f
      else ((d.dropOldest 2).store f).give (d.heldFrame 1)).counters = d.counters := by split <;> rfl
  unfold shrink
  rw [if_pos (by rw [Bool.and_eq_true, Bool.and_eq_true, decide_eq_true_eq, decide_eq_true_eq]; exact ⟨h, h0⟩)]
  dsimp only
  rw [hcounters]
  exact ⟨⟨hgives.offered, hgives.lastGiven, hgives.heldFrames⟩, rfl, rfl⟩

/-- The derivation leaves a spacing count of 0 as it is. -/
theorem DelayLine.derive_spacing_zero {d : DelayLine} (h : d.spacing = 0) (bypass : Bool) : (d.derive bypass).spacing = 0 := by
  unfold derive
  dsimp only
  rw [h, ite_self]

theorem DelayLine.held_pos_of_shrinking {d : DelayLine} {bypass : Bool} (h : d.derived bypass = .shrinking) :
    1 ≤ d.held := by
  revert h
  unfold DelayLine.derived
  split_ifs <;> simp_all
  omega

/-- The read and store parts leave the delay state, and every latch but DELAY_OVERFLOW, as they are. -/
theorem exchangeHeld_keeps (f : PgmFrame) (s : State) :
    (exchangeHeld f s).delay.state = s.delay.state ∧
      ∀ k, k ≠ 9 → (exchangeHeld f s).notices.latches.get k = s.notices.latches.get k := by
  unfold exchangeHeld
  dsimp only
  split
  · exact ⟨rfl, fun _ _ => rfl⟩
  · split
    · exact ⟨rfl, fun _ _ => rfl⟩
    · split
      · exact ⟨rfl, fun _ _ => rfl⟩
      · refine ⟨by rw [latch_delay]; rfl, fun k hk => ?_⟩
        exact (State.Latches.of_mem (ks := [9]) (kind := .delayOverflow) (by decide) _ _).stands (by simpa using hk)

theorem DelayLine.plain_state (d : DelayLine) (f : PgmFrame) : (d.plain f).state = d.state := by rw [plain_keeps]

theorem DelayLine.build_state (d : DelayLine) (f : PgmFrame) : (d.build f).state = d.state := by
  unfold build
  split
  · rfl
  · rw [plain_state]

theorem DelayLine.shrink_state (d : DelayLine) (f : PgmFrame) : (d.shrink f).state = d.state := by
  unfold shrink
  split
  · dsimp only
    split <;> rfl
  · rw [plain_state]

/-- What the read and store parts leave alone of the settings adopted. -/
def DelayLine.SameSettings (d e : DelayLine) : Prop :=
  e.target = d.target ∧ e.dumpLength = d.dumpLength ∧ e.policy = d.policy

theorem DelayLine.SameSettings.plain (d : DelayLine) (f : PgmFrame) : d.SameSettings (d.plain f) := by
  rw [plain_keeps]
  exact ⟨rfl, rfl, rfl⟩

theorem exchangeRead_settings (f : PgmFrame) (s : State) : s.delay.SameSettings (exchangeRead f s).delay := by
  unfold exchangeRead
  split
  · exact ⟨rfl, rfl, rfl⟩
  · rw [State.modDelay_delay, DelayLine.build]
    split
    · exact ⟨rfl, rfl, rfl⟩
    · exact .plain { s.delay with spacing := s.delay.spaced } f
  · exact .plain s.delay f
  · rw [State.modDelay_delay, DelayLine.shrink]
    split
    · dsimp only
      split <;> exact ⟨rfl, rfl, rfl⟩
    · exact .plain { s.delay with spacing := s.delay.spaced } f
  · unfold exchangeHeld
    dsimp only
    split
    · exact ⟨rfl, rfl, rfl⟩
    · split
      · exact ⟨rfl, rfl, rfl⟩
      · split
        · exact ⟨rfl, rfl, rfl⟩
        · rw [latch_delay]; exact ⟨rfl, rfl, rfl⟩

theorem exchangeRead_keeps (f : PgmFrame) (s : State) :
    (exchangeRead f s).delay.state = s.delay.state ∧
      ∀ k, k ≠ 9 → (exchangeRead f s).notices.latches.get k = s.notices.latches.get k := by
  unfold exchangeRead
  split
  · exact ⟨rfl, fun _ _ => rfl⟩
  · exact ⟨s.delay.build_state f, fun _ _ => rfl⟩
  · exact ⟨s.delay.plain_state f, fun _ _ => rfl⟩
  · exact ⟨s.delay.shrink_state f, fun _ _ => rfl⟩
  · exact exchangeHeld_keeps f s

/-! ### The exchange (R46) -/

theorem reachesTarget_iff (x y : DelayState) :
    reachesTarget x y = true ↔ x ∈ [DelayState.building, .shrinking, .held] ∧ y ∈ [DelayState.safe, .live] := by
  cases x <;> cases y <;> decide

/-- The state after the adoption, of a delay line whose state is the one that follows (R43, R52). -/
structure State.Adopts (s u : State) : Prop where
  frame : u = { s with delay := s.adopted, notices := u.notices, sent := u.sent }
  latches : ∀ k, u.notices.latches.get k =
    if k = 10 ∧ reachesTarget s.delay.state s.adopted.state = true then
      some ((s.notices.latches.get k).getD [Word.nat (s.setting Setting.delayTarget)])
    else s.notices.latches.get k
  quiet : reachesTarget s.delay.state s.adopted.state = false → u.notices = s.notices

theorem adoptDelay_adopts {s : State} (h : s.delay.state = s.delay.derived s.air.bypass) : s.Adopts (adoptDelay s) :=
  let ⟨hframe, hlatches, hquiet⟩ := adoptDelay_of_derived h
  ⟨hframe, hlatches, hquiet⟩

/-- The latches after an exchange: DELAY_OVERFLOW apart, DELAY_AT_TARGET by the adoption or by the exchange. -/
theorem exchangeWork_latches {s : State} (h : s.delay.state = s.delay.derived s.air.bypass) {k : Fin 25} (hk : k ≠ 9) :
    (exchangeWork s).notices.latches.get k =
      if k = 10 ∧ (reachesTarget s.delay.state s.adopted.state = true ∨
          reachesTarget s.adopted.state (exchangeWork s).delay.state = true) then
        some ((s.notices.latches.get k).getD [Word.nat (s.setting Setting.delayTarget)])
      else s.notices.latches.get k := by
  have hadopt := adoptDelay_adopts h
  unfold exchangeWork
  dsimp only
  rw [deriveDelay_delay, DelayLine.derive_state, deriveDelay_get]
  generalize adoptDelay s = u at hadopt
  have hdelay : u.delay = s.adopted := by rw [hadopt.frame]
  obtain ⟨hstate, hread⟩ := exchangeRead_keeps u.mix.pgm u
  have htarget : (exchangeRead u.mix.pgm u).delay.target = s.setting Setting.delayTarget := by
    rw [(exchangeRead_settings u.mix.pgm u).1, hdelay]
    rfl
  rw [hstate, htarget, hread k hk, hadopt.latches k, hdelay]
  by_cases h10 : k = 10
  · by_cases h1 : reachesTarget s.delay.state s.adopted.state = true <;> simp [h10, h1]
  · simp [h10]

/-- What an exchange gives and keeps in a state other than HELD. -/
theorem exchangeWork_delay {s : State} (h : s.delay.state = s.delay.derived s.air.bypass) :
    (s.adopted.state = .live → (exchangeWork s).delay = (s.adopted.give s.mix.pgm).derive s.air.bypass) ∧
    (s.adopted.state = .safe → (exchangeWork s).delay = (s.adopted.plain s.mix.pgm).derive s.air.bypass) ∧
    (s.adopted.state = .building → (exchangeWork s).delay = (s.adopted.build s.mix.pgm).derive s.air.bypass) ∧
    (s.adopted.state = .shrinking → (exchangeWork s).delay = (s.adopted.shrink s.mix.pgm).derive s.air.bypass) ∧
    ∃ u, s.Adopts u ∧ (s.adopted.state = .held → exchangeWork s = deriveDelay (exchangeHeld s.mix.pgm u)) := by
  have hadopt := adoptDelay_adopts h
  have hwork : exchangeWork s = deriveDelay (exchangeRead (adoptDelay s).mix.pgm (adoptDelay s)) := rfl
  rw [hwork]
  generalize adoptDelay s = u at hadopt
  have hdelay : u.delay = s.adopted := by rw [hadopt.frame]
  have hpgm : u.mix.pgm = s.mix.pgm := by rw [hadopt.frame]
  have hbypass : u.air.bypass = s.air.bypass := by rw [hadopt.frame]
  rw [hpgm]
  refine ⟨fun hs => ?_, fun hs => ?_, fun hs => ?_, fun hs => ?_, u, hadopt, fun hs => ?_⟩
  all_goals unfold exchangeRead
  all_goals rw [hdelay, hs]
  all_goals dsimp only
  all_goals rw [deriveDelay_delay, State.modDelay_delay, hdelay]
  all_goals exact congrArg _ hbypass

/-- The exchange leaves the state that follows, and the settings adopted. -/
theorem exchangeWork_settings {s : State} (h : s.delay.state = s.delay.derived s.air.bypass) :
    (exchangeWork s).delay.state = (exchangeWork s).delay.derived s.air.bypass ∧
      s.adopted.SameSettings (exchangeWork s).delay := by
  have hadopt := adoptDelay_adopts h
  have hsettings := exchangeRead_settings (adoptDelay s).mix.pgm (adoptDelay s)
  have hframe := (State.Delays.adoptDelay s).trans (.exchangeRead (adoptDelay s).mix.pgm (adoptDelay s))
  unfold exchangeWork
  dsimp only
  rw [deriveDelay_delay, hframe.air]
  refine ⟨rfl, ?_⟩
  rw [show (adoptDelay s).delay = s.adopted by rw [hadopt.frame]] at hsettings
  exact hsettings

/-- The delay line as an exchange in HELD begins. -/
def DelayLine.holding (d : DelayLine) : DelayLine := { d with holdExchanges := tick32 d.holdExchanges, offered := none }

theorem exchangeHeld_eq (f : PgmFrame) (s : State) :
    exchangeHeld f s =
      if s.air.bypass then s.modDelay DelayLine.holding
      else if s.delay.held < 65536 then s.modDelay fun d => d.holding.store f
      else if s.delay.overflowMark then s.modDelay fun d => d.holding.overflow f
      else latch .delayOverflow [Word.nat (tick32 s.delay.holdExchanges)]
        (s.modDelay fun d => { d.holding.overflow f with overflowMark := true }) := rfl

/-- The exchange in HELD (R50). -/
structure State.HeldExchange (f : PgmFrame) (s t : State) : Prop where
  offered : t.delay.offered = none
  lastGiven : t.delay.lastGiven = s.delay.lastGiven
  count : t.delay.holdExchanges = min (s.delay.holdExchanges + 1) 4294967295
  bypassed : s.air.bypass = true → t.delay.heldFrames = s.delay.heldFrames ∧ t.notices = s.notices
  kept : s.air.bypass = false → s.delay.held < 65536 →
    t.delay.heldFrames = s.delay.heldFrames ++ [f] ∧ t.notices = s.notices
  full : s.air.bypass = false → s.delay.held = 65536 →
    t.delay.heldFrames = (s.delay.heldFrames ++ [f]).tail ∧
    t.delay.counters.overflow = min (s.delay.counters.overflow + 1) 65535 ∧ t.delay.overflowMark = true ∧
    (s.delay.overflowMark = true → t.notices = s.notices) ∧
    (s.delay.overflowMark = false → t.notices.latches.get 9 =
      some ((s.notices.latches.get 9).getD [Word.nat (min (s.delay.holdExchanges + 1) 4294967295)]))

theorem DelayLine.overflow_heldFrames {d : DelayLine} (h : d.held = 65536) (f : PgmFrame) :
    (d.overflow f).heldFrames = (d.heldFrames ++ [f]).tail := by
  have hne : d.heldFrames ≠ [] := by
    rw [ne_eq, ← List.length_eq_zero_iff, heldFrames_length]; omega
  show ((d.dropOldest 1).store f).heldFrames = _
  rw [store_heldFrames _ _ (by rw [dropOldest_held]; omega), dropOldest_heldFrames, List.tail_append_of_ne_nil hne,
    List.drop_one]

theorem exchangeHeld_rows (f : PgmFrame) (s : State) : s.HeldExchange f (exchangeHeld f s) := by
  rw [exchangeHeld_eq]
  cases hb : s.air.bypass with
  | true =>
    rw [if_pos rfl]
    exact ⟨rfl, rfl, rfl, fun _ => ⟨rfl, rfl⟩, fun h => (by rw [hb] at h; cases h), fun h => (by rw [hb] at h; cases h)⟩
  | false =>
    rw [if_neg nofun]
    by_cases hroom : s.delay.held < 65536
    · rw [if_pos hroom]
      exact ⟨rfl, rfl, rfl, fun h => (by rw [hb] at h; cases h),
        fun _ _ => ⟨s.delay.holding.store_heldFrames f hroom, rfl⟩, fun _ hfull => by omega⟩
    · rw [if_neg hroom]
      have hover (hfull : s.delay.held = 65536) := DelayLine.overflow_heldFrames (d := s.delay.holding) hfull f
      cases hm : s.delay.overflowMark with
      | true =>
        rw [if_pos rfl]
        exact ⟨rfl, rfl, rfl, fun h => (by rw [hb] at h; cases h), fun _ h => absurd h hroom,
          fun _ hfull => ⟨hover hfull, rfl, hm, fun _ => rfl, fun h => (by rw [hm] at h; cases h)⟩⟩
      | false =>
        rw [if_neg nofun]
        refine ⟨by rw [latch_delay]; rfl, by rw [latch_delay]; rfl, by rw [latch_delay]; rfl,
          fun h => (by rw [hb] at h; cases h), fun _ h => absurd h hroom, fun _ hfull => ?_⟩
        rw [latch_delay]
        refine ⟨hover hfull, rfl, rfl, fun h => (by rw [hm] at h; cases h), fun _ => ?_⟩
        rw [latch_get, if_pos (show (9 : Fin 25) = NoticeKind.delayOverflow.index from rfl)]
        rfl

/-- A delay line whose hold flag is set stays in HELD through the exchange. -/
theorem exchangeWork_held {s : State} (h : s.delay.state = s.delay.derived s.air.bypass) (hs : s.delay.state = .held) :
    s.HeldExchange s.mix.pgm (exchangeWork s) ∧ (exchangeWork s).delay.state = .held := by
  have hhold : s.delay.hold = true := by
    rw [h] at hs
    revert hs
    unfold DelayLine.derived
    split_ifs <;> simp_all
  have hadopted : s.adopted.state = .held := by
    show DelayLine.derived { s.delay with target := s.setting Setting.delayTarget } s.air.bypass = _
    rw [DelayLine.derived, if_pos hhold]
  obtain ⟨-, -, -, -, u, hadopt, hwork⟩ := exchangeWork_delay h
  have hquiet : u.notices = s.notices := hadopt.quiet (by rw [hs, hadopted]; rfl)
  have hdelay : u.delay = s.adopted := by rw [hadopt.frame]
  have hrows := exchangeHeld_rows s.mix.pgm u
  have hkeeps := exchangeHeld_keeps s.mix.pgm u
  have hmoves := (exchangeHeld_delay s.mix.pgm u).1
  have hbypass : u.air.bypass = s.air.bypass := by rw [hadopt.frame]
  rw [hwork hadopted]
  generalize exchangeHeld s.mix.pgm u = v at hrows hkeeps hmoves
  have hderived : v.delay.derived v.air.bypass = .held := by
    rw [DelayLine.derived, if_pos (by rw [hmoves.hold, hdelay]; exact hhold)]
  have hderive : deriveDelay v = v.modDelay fun d => d.derive v.air.bypass :=
    deriveDelay_quiet (by rw [hderived]; rfl)
  rw [hderive]
  obtain ⟨hoffered, hgiven, hcount, hbypassed, hkept, hfull⟩ := hrows
  rw [hbypass, hquiet, hdelay] at *
  exact ⟨⟨hoffered, hgiven, hcount, hbypassed, hkept, hfull⟩, hderived⟩

/-- Settles O42: the exchange in each delay state, and the latching of DELAY_AT_TARGET and DELAY_OVERFLOW. -/
theorem exchangeGivesFrames : Obligations.ExchangeGivesFrames := by
  refine ⟨fun s hwf => ?_, fun s hwf hheld => ?_⟩
  · intro f d queue n due
    simp only [State.delayWf, Bool.and_eq_true, decide_eq_true_eq] at hwf
    obtain ⟨⟨⟨⟨hheld, hpos⟩, htarget⟩, hsetting⟩, hstate⟩ := hwf
    have hheld : s.delay.held ≤ 65536 := hheld
    have hdue : s.cleared.adopted.due f ↔ due := by
      unfold DelayLine.due
      rw [DelayLine.readSide_eq]
      rfl
    obtain ⟨hlive, hsafe, hbuild, hshrink, -⟩ := exchangeWork_delay (s := s.cleared) hstate
    obtain ⟨hderived, hsettings⟩ := exchangeWork_settings (s := s.cleared) hstate
    have hadopted : s.cleared.adopted.state = s.cleared.adopted.derived s.air.bypass := rfl
    refine ⟨exchangeWork s.cleared, rfl, State.Delays.exchangeWork s.cleared, hsettings.1, hsettings.2.1, hsettings.2.2,
      hderived, ?_⟩
    intro gives
    have hgives {e : DelayLine} {g : PgmFrame} {held : List PgmFrame} (he : (exchangeWork s.cleared).delay = e)
        (h : e.Gives g held) : gives g held := by
      subst he
      exact ⟨h.offered, h.lastGiven, h.heldFrames⟩
    refine ⟨fun h => ?_, fun h => ?_, ?_, fun ⟨h, hd⟩ => ?_, fun ⟨h, hd⟩ => ?_, ?_⟩
    · exact ⟨congrArg DelayLine.offered (hlive h), congrArg DelayLine.lastGiven (hlive h),
        (congrArg DelayLine.heldFrames (hlive h)).trans rfl⟩
    · exact hgives (hsafe h) (.derive (.plain (d := s.cleared.adopted) hheld f) _)
    · rintro (⟨h, hd⟩ | ⟨h, hd⟩)
      · have he := (hbuild h).trans (congrArg (DelayLine.derive · s.air.bypass)
          (DelayLine.build_plain (f := f) fun e => hd (hdue.mp e)))
        obtain ⟨hspacing, hcounters⟩ := DelayLine.spaced_plain_derive hadopted f
        exact ⟨hgives he (.derive (.plain (d := { s.cleared.adopted with spacing := s.cleared.adopted.spaced }) hheld f) _),
          (congrArg DelayLine.spacing he).trans hspacing, (congrArg DelayLine.counters he).trans hcounters⟩
      · have he := (hshrink h).trans (congrArg (DelayLine.derive · s.air.bypass)
          (DelayLine.shrink_plain (f := f) fun e => hd (hdue.mp e)))
        obtain ⟨hspacing, hcounters⟩ := DelayLine.spaced_plain_derive hadopted f
        exact ⟨hgives he (.derive (.plain (d := { s.cleared.adopted with spacing := s.cleared.adopted.spaced }) hheld f) _),
          (congrArg DelayLine.spacing he).trans hspacing, (congrArg DelayLine.counters he).trans hcounters⟩
    · have hroom : s.cleared.adopted.held < 65536 := by
        have hlt : s.delay.held < s.setting Setting.delayTarget :=
          DelayLine.held_lt_of_building (hadopted.symm.trans h)
        show s.delay.held < 65536
        omega
      obtain ⟨hg, hspacing, hcount⟩ := DelayLine.build_due (hdue.mpr hd) hroom
      exact ⟨hgives (hbuild h) (hg.derive _),
        (congrArg DelayLine.spacing (hbuild h)).trans (DelayLine.derive_spacing_zero hspacing _),
        (congrArg (fun e => e.counters.insertion) (hbuild h)).trans hcount⟩
    · obtain ⟨hg, hspacing, hcount⟩ := DelayLine.shrink_due (hdue.mpr hd)
        (DelayLine.held_pos_of_shrinking (hadopted.symm.trans h)) hheld
      exact ⟨hgives (hshrink h) (hg.derive _),
        (congrArg DelayLine.spacing (hshrink h)).trans (DelayLine.derive_spacing_zero hspacing _),
        (congrArg (fun e => e.counters.skip) (hshrink h)).trans hcount⟩
    · intro arrives
      have harrives (x y : DelayState) : reachesTarget x y = true ↔ arrives x y := reachesTarget_iff x y
      have h10 := exchangeWork_latches (s := s.cleared) hstate (k := 10) (by decide)
      refine ⟨fun h => ?_, fun h => ?_, fun k h9 h10 => ?_⟩
      · rw [h10, if_pos ⟨rfl, h.imp (harrives _ _).mpr (harrives _ _).mpr⟩]; rfl
      · rw [h10, if_neg fun e => h (e.2.imp (harrives _ _).mp (harrives _ _).mp)]; rfl
      · rw [exchangeWork_latches (s := s.cleared) hstate h9, if_neg fun e => h10 e.1]; rfl
  · simp only [State.delayWf, Bool.and_eq_true, decide_eq_true_eq] at hwf
    obtain ⟨hrows, hstate⟩ := exchangeWork_held (s := s.cleared) hwf.2 hheld
    exact ⟨exchangeWork s.cleared, rfl, State.Delays.exchangeWork s.cleared, hstate, hrows.offered, hrows.lastGiven,
      hrows.count, hrows.bypassed, hrows.kept, hrows.full⟩

end Sys2Proof.Machine

/-!
PROOF. What the input stage of a mix frame may change: the studio input, holds and players, and what a break event, a
sign-off and an active frame do at the air stage and the link (R7 to R12, R27, R112, R187, R189, R191).
-/

namespace Sys2Proof.Machine

/-! ### What is sent -/

/-- From `s` to `t` at most frames on the studio port have been sent. -/
def State.Tells (s t : State) : Prop := ∃ frames, t.sent = { s.sent with studio := s.sent.studio ++ frames }

theorem State.Tells.of_eq {s t : State} (h : t.sent = s.sent) : s.Tells t := ⟨[], by rw [h, List.append_nil]⟩

theorem State.Tells.trans {s t u : State} (h : s.Tells t) (k : t.Tells u) : s.Tells u := by
  obtain ⟨a, ha⟩ := h
  obtain ⟨b, hb⟩ := k
  exact ⟨a ++ b, by rw [hb, ha, List.append_assoc]⟩

theorem State.Tells.link {s t : State} (h : s.Tells t) : t.sent.link = s.sent.link := by
  obtain ⟨a, ha⟩ := h
  rw [ha]

theorem State.Tells.slots {s t : State} (h : s.Tells t) : t.sent.slots = s.sent.slots := by
  obtain ⟨a, ha⟩ := h
  rw [ha]

theorem State.Tells.latch (kind : NoticeKind) (detail : List Word) (s : State) : s.Tells (latch kind detail s) :=
  latch_sent kind detail s

theorem State.Tells.queueMessage (kind : MessageKind) (body : List Byte) (s : State) :
    s.Tells (queueMessage kind body s).1 := by
  rcases Nat.lt_or_ge s.link.queue.length 8 with h | h
  · rw [queueMessage_room kind body s h]; exact .of_eq rfl
  · rw [queueMessage_full kind body s h]
    dsimp only
    exact State.Tells.trans (.of_eq rfl) (.latch ..)

theorem State.Tells.queueCancel (e : Ending) (s : State) : s.Tells (queueCancel e s).1 := by
  cases e
  · exact .of_eq rfl
  · exact .queueMessage ..

theorem State.Tells.endNegotiation (e : Ending) (cause : Nat) (s : State) : s.Tells (endNegotiation e cause s) := by
  unfold Machine.endNegotiation
  dsimp only
  have henter : s.Tells (if s.link.mode = .sleepPending then enterRun s else s) := by
    split <;> exact .of_eq rfl
  generalize (if s.link.mode = .sleepPending then enterRun s else s) = u at henter
  have hcancel := State.Tells.queueCancel e (u.modLink LinkUnit.leavePhase)
  generalize Machine.queueCancel e (u.modLink LinkUnit.leavePhase) = q at hcancel
  refine (henter.trans (.trans (.of_eq rfl) hcancel)).trans (.trans ?_ (.latch ..))
  exact .of_eq rfl

theorem State.Tells.wakeOrAbort (cause : Nat) (s : State) : s.Tells (wakeOrAbort cause s) := by
  unfold Machine.wakeOrAbort
  split
  · exact .of_eq rfl
  · exact .endNegotiation ..
  all_goals exact .of_eq rfl

theorem State.Tells.enterLeadIn (s : State) : s.Tells (enterLeadIn s) := by
  have h : s.Tells (chooseAttention (s.modAir fun a => { a with state := .leadIn, step := 0, position := 0 })) :=
    .of_eq (by rw [chooseAttention_frame]; rfl)
  rw [enterLeadIn_eq, leadInRest]
  split
  · exact h.trans (.queueMessage ..)
  · exact h

theorem State.Tells.commit (i : Identity) (s : State) : s.Tells (commit i s) := by
  by_cases h : s.link.mode.awake = true
  · rw [commit_awake h]
    exact State.Tells.trans (t := s.marked i) (.of_eq rfl) (.enterLeadIn _)
  · rw [commit_asleep (by simpa using h)]
    exact State.Tells.trans (t := (s.marked i).modAir fun a => { a with state := .waitLink }) (.of_eq rfl)
      (.wakeOrAbort ..)

theorem State.Tells.select (s : State) : s.Tells (select s) := by
  by_cases h : s.air.state ∈ [AirState.idle, .waitBreak]
  · cases hc : chosenRecord s with
    | none => rw [select_none h hc]; exact .of_eq rfl
    | some r =>
      cases hd : recordDue s r with
      | false => rw [select_waits h hc hd]; exact .of_eq rfl
      | true =>
        rw [select_due h hc hd]
        set u := s.modAir fun a => { a with counters := { a.counters with
          deadline := bump a.counters.deadline (if r.airMode = .nextBreak then 1 else 0) } } with hu
        exact State.Tells.trans (t := u) (.of_eq rfl) (.commit ..)
  · rw [select_busy s h]
    exact .of_eq rfl

theorem State.Tells.startSleep (s : State) : s.Tells (startSleep s) := by
  unfold Machine.startSleep
  dsimp only
  have h := State.Tells.queueMessage .sleepRequest (beBytes 2 (s.modLink fun l =>
    { l with
      mode := .sleepPending
      phase := .requesting
      requestTimer := 0
      requestAcked := false
      lateNumber := none }).link.quietInterval ++ minuteBytes (s.modLink fun l =>
    { l with
      mode := .sleepPending
      phase := .requesting
      requestTimer := 0
      requestAcked := false
      lateNumber := none }).intake.minuteOfWeek) (s.modLink fun l =>
    { l with
      mode := .sleepPending
      phase := .requesting
      requestTimer := 0
      requestAcked := false
      lateNumber := none })
  exact (State.Tells.trans (.of_eq rfl) h).trans (.of_eq rfl)

/-! ### The clip store -/

/-- From `c` to `d` only holds, use counts and stamps of slots, settings adopted and counters change. -/
structure ClipStore.Rereads (c d : ClipStore) : Prop where
  region : d.region = c.region
  free : d.free = c.free
  fill : d.fill = c.fill
  channelHeld : d.channelHeld = c.channelHeld
  slots : ∀ m, d.slots.get m =
    { c.slots.get m with useCount := (d.slots.get m).useCount, stamp := (d.slots.get m).stamp }
  ended : min c.counters.ended 65535 ≤ d.counters.ended
  chainFailure : min c.counters.chainFailure 65535 ≤ d.counters.chainFailure

theorem ClipStore.Rereads.refl (c : ClipStore) : c.Rereads c :=
  ⟨rfl, rfl, rfl, rfl, fun _ => rfl, Nat.min_le_left .., Nat.min_le_left ..⟩

theorem ClipStore.Rereads.trans {c d e : ClipStore} (h : c.Rereads d) (k : d.Rereads e) : c.Rereads e where
  region := k.region.trans h.region
  free := k.free.trans h.free
  fill := k.fill.trans h.fill
  channelHeld := k.channelHeld.trans h.channelHeld
  slots m := by conv_lhs => rw [k.slots m, h.slots m]
  ended := by have := h.ended; have := k.ended; omega
  chainFailure := by have := h.chainFailure; have := k.chainFailure; omega

theorem ClipStore.Rereads.hold (c : ClipStore) (r : Reader) (n : Fin 32) : c.Rereads (c.hold r n) where
  region := by rw [c.hold_frame r n]
  free := by rw [c.hold_frame r n]
  fill := by rw [c.hold_frame r n]
  channelHeld := by rw [c.hold_frame r n]
  slots m := by rw [c.hold_get r n m]; split_ifs <;> rfl
  ended := by rw [c.hold_frame r n]; exact Nat.min_le_left ..
  chainFailure := by rw [c.hold_frame r n]; exact Nat.min_le_left ..

theorem ClipStore.hold_stamp (c : ClipStore) (r : Reader) (n m : Fin 32) :
    ((c.hold r n).slots.get m).stamp = (c.slots.get m).stamp := by
  rw [c.hold_get r n m]; split_ifs <;> rfl

theorem ClipStore.release_stamp (c : ClipStore) (r : Reader) (m : Fin 32) :
    ((c.release r).slots.get m).stamp = (c.slots.get m).stamp := by
  rw [c.release_get r m]; split_ifs <;> rfl

theorem ClipStore.Rereads.release (c : ClipStore) (r : Reader) : c.Rereads (c.release r) where
  region := by rw [c.release_frame r]
  free := by rw [c.release_frame r]
  fill := by rw [c.release_frame r]
  channelHeld := by rw [c.release_frame r]
  slots m := by rw [c.release_get r m]; split_ifs <;> rfl
  ended := by rw [c.release_frame r]; exact Nat.min_le_left ..
  chainFailure := by rw [c.release_frame r]; exact Nat.min_le_left ..

theorem ClipStore.Rereads.stamp (c : ClipStore) (n : Fin 32) (x : Option (BitVec 32)) :
    c.Rereads (c.modSlot n fun t => { t with stamp := x }) where
  region := rfl
  free := rfl
  fill := rfl
  channelHeld := rfl
  slots m := by rw [c.modSlot_get]; split_ifs <;> rfl
  ended := Nat.min_le_left ..
  chainFailure := Nat.min_le_left ..

/-! ### The blocks that the input stage reaches -/

/-- From `s` to `t` the kinds of `ks` may be latched, and the players of `ps` may change with their holds: the input
stage of a mix frame, and what an active frame does at the link. -/
structure State.Inputs (ks : List (Fin 25)) (ps : List (Fin 3)) (s t : State) : Prop where
  frame : t = { s with
    studio := t.studio, clips := t.clips, players := t.players, intake := t.intake, air := t.air, link := t.link
    notices := t.notices, sent := t.sent }
  tells : s.Tells t
  latches : s.Latches ks t
  lastAir : t.air.lastAir = s.air.lastAir
  rereads : s.clips.Rereads t.clips
  holds : ∀ p ∉ ps, t.clips.holds.get (playerReader p) = s.clips.holds.get (playerReader p)
  players : ∀ p ∉ ps, t.players.get p = s.players.get p
  stamps : ∀ m, (t.clips.slots.get m).stamp = (s.clips.slots.get m).stamp ∨
    (t.clips.slots.get m).stamp = some s.frameCount

variable {ks js : List (Fin 25)} {ps qs : List (Fin 3)} {s t u : State}

theorem State.Inputs.refl (ks : List (Fin 25)) (ps : List (Fin 3)) (s : State) : s.Inputs ks ps s :=
  ⟨rfl, .of_eq rfl, .refl _ s, rfl, .refl _, fun _ _ => rfl, fun _ _ => rfl, fun _ => .inl rfl⟩

theorem State.Inputs.trans (h : s.Inputs ks ps t) (k : t.Inputs ks ps u) : s.Inputs ks ps u where
  frame := by conv_lhs => rw [k.frame, h.frame]
  tells := h.tells.trans k.tells
  latches := h.latches.trans k.latches
  lastAir := k.lastAir.trans h.lastAir
  rereads := h.rereads.trans k.rereads
  holds p hp := (k.holds p hp).trans (h.holds p hp)
  players p hp := (k.players p hp).trans (h.players p hp)
  stamps m := by
    have hcount : t.frameCount = s.frameCount := by rw [h.frame]
    rcases k.stamps m with hk | hk
    · rw [hk]; exact h.stamps m
    · rw [hk, hcount]; exact .inr rfl

theorem State.Inputs.mono (h : s.Inputs ks ps t) (hks : ∀ k ∈ ks, k ∈ js) (hps : ∀ p ∈ ps, p ∈ qs) : s.Inputs js qs t where
  frame := h.frame
  tells := h.tells
  latches := h.latches.mono hks
  lastAir := h.lastAir
  rereads := h.rereads
  holds p hp := h.holds p fun e => hp (hps p e)
  players p hp := h.players p fun e => hp (hps p e)
  stamps := h.stamps

theorem State.Inputs.modStudio (f : StudioInput → StudioInput) (s : State) : s.Inputs [] [] (s.modStudio f) :=
  ⟨rfl, .of_eq rfl, .of_eq rfl, rfl, .refl _, fun _ _ => rfl, fun _ _ => rfl, fun _ => .inl rfl⟩

theorem State.Inputs.latch {kind : NoticeKind} (hk : kind.index ∈ ks) (detail : List Word) (s : State) :
    s.Inputs ks [] (latch kind detail s) where
  frame := by conv_lhs => rw [latch_frame]
              simp only [latch_studio, latch_clips, latch_players, latch_intake, latch_air, latch_link]
  tells := .latch ..
  latches := .of_mem hk detail s
  lastAir := by rw [latch_air]
  rereads := by rw [latch_clips]; exact .refl _
  holds _ _ := by rw [latch_clips]
  players _ _ := by rw [latch_players]
  stamps _ := .inl (by rw [latch_clips])

/-- A change of the link unit, with what it tells. -/
theorem State.Inputs.of_link (h : t = { s with air := t.air, link := t.link, notices := t.notices, sent := t.sent })
    (hair : t.air.lastAir = s.air.lastAir) (htells : s.Tells t) (hlatches : s.Latches ks t) : s.Inputs ks [] t where
  frame := by
    have hstudio : t.studio = s.studio := by rw [h]
    have hclips : t.clips = s.clips := by rw [h]
    have hplayers : t.players = s.players := by rw [h]
    have hintake : t.intake = s.intake := by rw [h]
    rw [hstudio, hclips, hplayers, hintake]
    exact h
  tells := htells
  latches := hlatches
  lastAir := hair
  rereads := by rw [h]; exact .refl _
  holds _ _ := by rw [h]
  players _ _ := by rw [h]
  stamps _ := .inl (by rw [h])

theorem playerReader_ne_airReader (p : Fin 3) : playerReader p ≠ airReader := by
  revert p
  decide

theorem playerReader_injective {p q : Fin 3} (h : playerReader p = playerReader q) : p = q := Fin.castSucc_injective 3 h

/-- The hold of the air stage leaves those of the players alone. -/
theorem holds_of_airHold {c d : ClipStore} (h : d = c ∨ ∃ n, c.playable n = true ∧ d = c.hold airReader n) :
    c.Rereads d ∧ (∀ p, d.holds.get (playerReader p) = c.holds.get (playerReader p)) ∧
      ∀ m, (d.slots.get m).stamp = (c.slots.get m).stamp := by
  rcases h with rfl | ⟨n, -, rfl⟩
  · exact ⟨.refl _, fun _ => rfl, fun _ => rfl⟩
  · refine ⟨.hold .., fun p => ?_, c.hold_stamp airReader n⟩
    rw [ClipStore.hold_holds, if_neg (playerReader_ne_airReader p)]

theorem State.Inputs.wakeOrAbort (cause : Nat) (s : State) : s.Inputs [21, 23] [] (wakeOrAbort cause s) := by
  refine .of_link ?_ ?_ (.wakeOrAbort ..) (wakeOrAbort_latches cause s)
  · conv_lhs => rw [wakeOrAbort_frame]
    rw [wakeOrAbort_frame]
  · rw [wakeOrAbort_frame]

theorem State.Inputs.commit (i : Identity) (s : State) : s.Inputs [21, 23] [] (commit i s) := by
  have h := commit_committed i s
  obtain ⟨hrereads, hholds, hstamps⟩ := holds_of_airHold h.clips
  refine ⟨?_, .commit i s, h.latches, by rw [h.air], hrereads, fun p _ => hholds p, fun p _ => by rw [h.frame],
    fun m => .inl (hstamps m)⟩
  have hstudio : (Machine.commit i s).studio = s.studio := by rw [h.frame]
  have hplayers : (Machine.commit i s).players = s.players := by rw [h.frame]
  have hintake := congrArg State.intake h.frame
  rw [hstudio, hplayers, hintake]
  exact h.frame

theorem State.Inputs.breakEvent (s : State) : s.Inputs [21, 23] [] (breakEvent s) := by
  unfold Machine.breakEvent
  split
  · exact .commit ..
  · exact .refl ..

theorem select_lastAir (s : State) : (select s).air.lastAir = s.air.lastAir := by
  by_cases h : s.air.state ∈ [AirState.idle, .waitBreak]
  · cases hc : chosenRecord s with
    | none => rw [select_none h hc]; rfl
    | some r =>
      cases hd : recordDue s r with
      | false => rw [select_waits h hc hd]; rfl
      | true => rw [select_due h hc hd, (commit_committed ..).air]; rfl
  · rw [select_busy s h]

theorem State.Inputs.select (s : State) : s.Inputs [21, 23] [] (select s) := by
  have h := select_selects s
  obtain ⟨hrereads, hholds, hstamps⟩ := holds_of_airHold h.clips
  refine ⟨?_, .select s, h.latches, select_lastAir s, hrereads, fun p _ => hholds p, fun p _ => by rw [h.frame],
    fun m => .inl (hstamps m)⟩
  have hstudio : (Machine.select s).studio = s.studio := by rw [h.frame]
  have hplayers : (Machine.select s).players = s.players := by rw [h.frame]
  rw [hstudio, hplayers]
  exact h.frame

/-! ### The players (R109 to R114, R187) -/

theorem State.Inputs.modPlayer (p : Fin 3) (f : Player → Player) (s : State) : s.Inputs ks [p] (modPlayer p f s) where
  frame := rfl
  tells := .of_eq rfl
  latches := .of_eq rfl
  lastAir := rfl
  rereads := .refl _
  holds _ _ := rfl
  players q hq := (modPlayer_player p q f s).trans (if_neg fun e => hq (List.mem_singleton.mpr e))
  stamps _ := .inl rfl

/-- A change of the clip store: a hold of player `p`, or none. -/
theorem State.Inputs.modClips (f : ClipStore → ClipStore) (s : State) (hrereads : s.clips.Rereads (f s.clips))
    (hholds : ∀ p ∉ ps, (f s.clips).holds.get (playerReader p) = s.clips.holds.get (playerReader p))
    (hstamps : ∀ m, ((f s.clips).slots.get m).stamp = (s.clips.slots.get m).stamp ∨
      ((f s.clips).slots.get m).stamp = some s.frameCount) :
    s.Inputs ks ps (s.modClips f) :=
  ⟨rfl, .of_eq rfl, .of_eq rfl, rfl, hrereads, hholds, fun _ _ => rfl, hstamps⟩

theorem State.Inputs.hold (p : Fin 3) (n : Fin 32) (s : State) :
    s.Inputs ks [p] (s.modClips fun c => c.hold (playerReader p) n) := by
  refine .modClips _ s (.hold ..) (fun q hq => ?_) fun m => .inl (s.clips.hold_stamp _ n m)
  rw [ClipStore.hold_holds, if_neg]
  exact fun e => hq (List.mem_singleton.mpr (playerReader_injective e))

theorem State.Inputs.release (p : Fin 3) (s : State) : s.Inputs ks [p] (s.modClips fun c => c.release (playerReader p)) := by
  refine .modClips _ s (.release ..) (fun q hq => ?_) fun m => .inl (s.clips.release_stamp _ m)
  rw [ClipStore.release_holds, if_neg]
  exact fun e => hq (List.mem_singleton.mpr (playerReader_injective e))

theorem State.Inputs.idlePlayer (p : Fin 3) (s : State) : s.Inputs ks [p] (idlePlayer p s) :=
  (State.Inputs.release p s).trans (.modPlayer ..)

theorem State.Inputs.stampSlot (n : Fin 32) (s : State) : s.Inputs ks ps (stampSlot n s) := by
  refine .modClips _ s (.stamp ..) (fun _ _ => rfl) fun m => ?_
  rw [ClipStore.modSlot_get]
  split
  · exact .inr rfl
  · exact .inl rfl

theorem State.Inputs.runSlot (p : Fin 3) (n : Fin 32) (s : State) : s.Inputs ks [p] (runSlot p n s) :=
  ((State.Inputs.hold p n s).trans (.modPlayer ..)).trans (.stampSlot ..)

theorem State.Inputs.startFill (slot : Option (Fin 32)) (s : State) : s.Inputs ks [fillPlayer] (startFill slot s).1 := by
  rcases startFill_cases slot s with ⟨n, -, -, -, h⟩ | h
  · rw [h]; exact .runSlot ..
  · rw [h]; exact .refl ..

theorem startSleep_latches (s : State) : s.Latches [21, 23] (startSleep s) := by
  unfold Machine.startSleep
  dsimp only
  refine State.Latches.trans (t := s.modLink fun l =>
    { l with
      mode := .sleepPending
      phase := .requesting
      requestTimer := 0
      requestAcked := false
      lateNumber := none }) (.of_eq rfl) ?_
  exact ((queueMessage_latches ..).mono (by decide)).trans (.of_eq rfl)

theorem State.Inputs.signOff (s : State) : s.Inputs [21, 23] [] (signOff s) := by
  have hdefer : s.Inputs [21, 23] [] (deferSignOff s) := .latch (by decide) ..
  unfold Machine.signOff
  split
  · exact .refl ..
  · split
    · split
      · refine .of_link ?_ (by rw [startSleep_frame]) (.startSleep s) (startSleep_latches s)
        conv_lhs => rw [startSleep_frame]
        rw [startSleep_frame]
      · exact hdefer
    · exact .refl ..
    · exact .refl ..
    · exact hdefer
    · exact hdefer

theorem State.Inputs.endClip (p : Fin 3) (n : Fin 32) (action : EndAction) (chained : Option (Option (Fin 32)))
    (s : State) : s.Inputs [13, 21, 23] [] (endClip p n action chained s) := by
  unfold Machine.endClip
  refine State.Inputs.trans (.modClips _ s ⟨rfl, rfl, rfl, rfl, fun _ => rfl, ?_, ?_⟩ (fun _ _ => rfl) fun _ => .inl rfl)
    (.latch (by decide) ..)
  · simp only [bump, Config.counterMax]; omega
  · simp only [bump, Config.counterMax]; omega

theorem State.Inputs.endAction (p : Fin 3) (n : Fin 32) (s : State) : s.Inputs [13, 21, 23] [p] (endAction p n s) := by
  have hend (u : State) (a : EndAction) (x : Option (Option (Fin 32))) :
      u.Inputs [13, 21, 23] [p] (Machine.endClip p n a x u) := (State.Inputs.endClip p n a x u).mono (fun _ h => h) nofun
  unfold Machine.endAction
  dsimp only
  split
  · exact (State.Inputs.idlePlayer p s).trans (hend ..)
  · exact .modPlayer ..
  · split
    · exact (State.Inputs.runSlot p _ s).trans (hend ..)
    · exact (State.Inputs.idlePlayer p s).trans (hend ..)
  · exact ((State.Inputs.idlePlayer p s).trans ((State.Inputs.signOff _).mono (by decide) nofun)).trans (hend ..)

theorem State.Inputs.clipEnd (p : Fin 3) (n : Fin 32) (s : State) : s.Inputs [13, 21, 23] [p] (clipEnd p n s) := by
  unfold Machine.clipEnd
  split
  · exact .modPlayer ..
  · exact .endAction ..

theorem State.Inputs.playerFrame (p : Fin 3) (s : State) : s.Inputs [13, 21, 23] [p] (playerFrame p s).1 := by
  unfold Machine.playerFrame
  dsimp only
  split
  · split
    · dsimp only
      split
      · exact (State.Inputs.modPlayer p _ s).trans (.clipEnd ..)
      · exact .modPlayer ..
    · exact .refl ..
    · exact .refl ..
  · exact .refl ..

theorem State.Inputs.adoptClips (s : State) : s.Inputs ks ps (adoptClips s) :=
  .modClips _ s ⟨rfl, rfl, rfl, rfl, fun _ => rfl, Nat.min_le_left .., Nat.min_le_left ..⟩ (fun _ _ => rfl)
    fun _ => .inl rfl

/-! ### The studio input (R4, R7 to R12) -/

theorem State.Inputs.adoptStudio (s : State) : s.Inputs [] [] (adoptStudio s) := by
  unfold Machine.adoptStudio
  exact .modStudio ..

theorem State.Inputs.useFrame (f : ProgrammeFrame) (s : State) :
    s.Inputs [1, 21, 23] [] (useFrame f s) ∧ (f.breakFlag = false → s.Inputs [1] [] (useFrame f s)) := by
  have huse (g : StudioInput → StudioInput) : s.Inputs [1] [] (if s.studio.lost = true then
      studioBack s.studio.missingRun (s.modStudio g) else s.modStudio g) := by
    have hg : s.Inputs [1] [] (s.modStudio g) := (State.Inputs.modStudio g s).mono nofun nofun
    split
    · exact (hg.trans ((State.Inputs.modStudio _ _).mono nofun nofun)).trans (.latch (by decide) ..)
    · exact hg
  unfold Machine.useFrame
  dsimp only
  cases f.breakFlag with
  | true => exact ⟨((huse _).mono (by decide) nofun).trans ((State.Inputs.breakEvent _).mono (by decide) nofun), nofun⟩
  | false => exact ⟨(huse _).mono (by decide) nofun, fun _ => huse _⟩

/-- The studio input once a frame is missing (R7). -/
def StudioInput.missed (i : StudioInput) : StudioInput :=
  { i with
    expected := i.expected.map (· + 1)
    missingRun := bump i.missingRun 1
    counters := { i.counters with missing := bump i.counters.missing (if i.expected.isSome then 1 else 0) } }

theorem missFrame_eq (s : State) : missFrame s = afterMissing (s.modStudio StudioInput.missed) := rfl

/-- The studio input once the feed is lost (R8). -/
def StudioInput.losing (i : StudioInput) : StudioInput :=
  { i with lost := true, fillStopMarked := false, counters := { i.counters with losses := bump i.counters.losses 1 } }

theorem loseStudio_eq (s : State) :
    loseStudio s = latch .studioLost [Word.place ((askFill (s.modStudio StudioInput.losing)).2.map Fin.val)]
      (askFill (s.modStudio StudioInput.losing)).1 := rfl

theorem State.Inputs.missFrame (s : State) : s.Inputs [0] [fillPlayer] (missFrame s) := by
  have hstudio (f : StudioInput → StudioInput) (u : State) : u.Inputs [0] [fillPlayer] (u.modStudio f) :=
    (State.Inputs.modStudio f u).mono nofun nofun
  have hask (u : State) : u.Inputs [0] [fillPlayer] (askFill u).1 := .startFill ..
  rw [missFrame_eq]
  refine (hstudio StudioInput.missed s).trans ?_
  unfold afterMissing
  split
  · exact hask _
  · split
    · rw [loseStudio_eq]
      exact ((hstudio _ _).trans (hask _)).trans ((State.Inputs.latch (by decide) ..).mono (fun _ h => h) nofun)
    · exact .refl ..

theorem State.Inputs.studioRequest (s : State) : s.Inputs [0, 1, 21, 23] [fillPlayer] (studioRequest s).1 := by
  have hadopt : s.Inputs [0, 1, 21, 23] [fillPlayer] (Machine.adoptStudio s) :=
    (State.Inputs.adoptStudio s).mono nofun nofun
  unfold Machine.studioRequest
  dsimp only
  split
  · exact hadopt.trans ((State.Inputs.useFrame _ _).1.mono (by decide) nofun)
  · exact hadopt.trans ((State.Inputs.missFrame _).mono (by decide) (fun _ h => h))

theorem State.Inputs.playerSources (s : State) : s.Inputs [13, 21, 23] [playerA, playerB, fillPlayer] (playerSources s).1 := by
  have hplayer (p : Fin 3) (u : State) : u.Inputs [13, 21, 23] [playerA, playerB, fillPlayer] (Machine.playerFrame p u).1 :=
    (State.Inputs.playerFrame p u).mono (fun _ h => h) (by revert p; decide)
  exact (((State.Inputs.adoptClips s).trans (hplayer playerA _)).trans (hplayer playerB _)).trans (hplayer fillPlayer _)

/-! ### The hand-off (R38, R189, R191) -/

theorem State.Inputs.activity (quiet : Bool) (s : State) : s.Inputs [21, 23] [] (activity quiet s) := by
  unfold Machine.activity
  split
  · exact .refl ..
  · split
    · split
      · exact (State.Inputs.wakeOrAbort 2 s).trans (.select _)
      · exact .refl ..
    · split
      · exact .wakeOrAbort 2 s
      · exact .refl ..
    all_goals exact .refl ..

theorem State.Inputs.fillStop (silent : Bool) (s : State) : s.Inputs [] [fillPlayer] (fillStop silent s) := by
  unfold Machine.fillStop
  split
  · exact (State.Inputs.idlePlayer fillPlayer s).trans ((State.Inputs.modStudio _ _).mono nofun nofun)
  · exact .refl ..

end Sys2Proof.Machine

/-!
PROOF. The stages of a mix frame: adoption, gates and ramps, the input stage, the outputs (R16 to R24, R38).
-/

namespace Sys2Proof.Machine

/-! ### The stages (R16) -/

/-- The state after the adoption, the gates and the ramps of a mix frame. -/
def State.stepped (s : State) : State := (adoptMix s).modMix fun m => m.stepRamps (readGates (adoptMix s))

/-- The state after the input stage. -/
def State.mixIn (s : State) : State := (mixInputs s.stepped).1

/-- The sources of a mix frame. -/
def State.mixSources (s : State) : Vector Frame 20 := (mixInputs s.stepped).2

theorem mixWork_eq (s : State) : mixWork s = mixOutputs (readGates (adoptMix s)) s.mixSources s.mixIn := rfl

theorem State.stepped_eq (s : State) : s.stepped = { s with mix := s.stepped.mix } := rfl

theorem State.Inputs.mixIn (s : State) :
    s.stepped.Inputs [0, 1, 13, 21, 23] [playerA, playerB, fillPlayer] s.mixIn :=
  ((State.Inputs.studioRequest s.stepped).mono (by decide) (by decide)).trans
    ((State.Inputs.playerSources _).mono (by decide) fun _ h => h)

/-- The mix engine with the clamps of a frame counted (R30). -/
def MixEngine.clamped (left right cue : Nat) (m : MixEngine) : MixEngine :=
  { m with
    counters := { m.counters with
      pgmLeft := bump m.counters.pgmLeft left
      pgmRight := bump m.counters.pgmRight right
      cue := bump m.counters.cue cue }
    climbLeft := m.climbLeft || climbs m.counters.pgmLeft left m.climbLeft
    climbRight := m.climbRight || climbs m.counters.pgmRight right m.climbRight
    clampedLeft := left ≠ 0
    clampedRight := right ≠ 0
    clampedCue := cue ≠ 0 }

/-- From `s` to `t` only the notice unit and what was sent change. -/
def State.Notes (s t : State) : Prop := t = { s with notices := t.notices, sent := t.sent }

theorem State.Notes.refl (s : State) : s.Notes s := rfl

theorem State.Notes.trans {s t u : State} (h : s.Notes t) (k : t.Notes u) : s.Notes u := by
  unfold State.Notes at h k ⊢
  conv_lhs => rw [k, h]

theorem State.Notes.latch (kind : NoticeKind) (detail : List Word) (s : State) : s.Notes (latch kind detail s) :=
  latch_frame ..

theorem State.Notes.mix {s t : State} (h : s.Notes t) : t.mix = s.mix := by rw [h]

theorem State.Notes.line {s t : State} (h : s.Notes t) : t.line = s.line := by rw [h]

theorem State.Notes.air {s t : State} (h : s.Notes t) : t.air = s.air := by rw [h]

/-- A latch under a condition. -/
def latchIf (b : Bool) (kind : NoticeKind) (detail : List Word) (s : State) : State :=
  if b then latch kind detail s else s

@[simp] theorem MixEngine.clamped_gain (l r c : Nat) (m : MixEngine) : (m.clamped l r c).gain = m.gain := rfl
@[simp] theorem MixEngine.clamped_feed (l r c : Nat) (m : MixEngine) :
    (m.clamped l r c).counters.feed = m.counters.feed := rfl
@[simp] theorem MixEngine.clamped_ramps (l r c : Nat) (m : MixEngine) : (m.clamped l r c).ramps = m.ramps := rfl
@[simp] theorem MixEngine.clamped_talkback (l r c : Nat) (m : MixEngine) : (m.clamped l r c).talkback = m.talkback := rfl
@[simp] theorem MixEngine.clamped_threshold (l r c : Nat) (m : MixEngine) : (m.clamped l r c).threshold = m.threshold := rfl

theorem latchIf_get (b : Bool) (kind : NoticeKind) (detail : List Word) (s : State) (k : Fin 25) :
    (latchIf b kind detail s).notices.latches.get k =
      (s.notices.latches.get k).or (if b = true ∧ k = kind.index then some detail else none) := by
  cases b with
  | true =>
    rw [latchIf, if_pos rfl, latch_get_or]
    simp
  | false => rw [latchIf, if_neg nofun, if_neg (by simp), Option.or_none]

theorem State.Notes.latchIf (b : Bool) (kind : NoticeKind) (detail : List Word) (s : State) :
    s.Notes (latchIf b kind detail s) ∧ s.Tells (latchIf b kind detail s) := by
  unfold Machine.latchIf
  split
  · exact ⟨.latch .., .latch ..⟩
  · exact ⟨.refl s, .of_eq rfl⟩

theorem countClamps_latches (left right cue : Nat) (s : State) :
    countClamps left right cue s =
      latchIf (left + right ≠ 0) .pgmClip [Word.nat (left + right)]
        (latchIf (climbs s.mix.counters.pgmRight right s.mix.climbRight) .clipCountHalf [Word.nat 1]
          (latchIf (climbs s.mix.counters.pgmLeft left s.mix.climbLeft) .clipCountHalf [Word.nat 0]
            (s.modMix (MixEngine.clamped left right cue)))) := by
  unfold latchIf
  by_cases h : left + right = 0
  · rw [if_neg (by simp [h])]
    exact if_pos h
  · rw [if_pos (decide_eq_true h)]
    exact if_neg h

/-- What the counting of the clamps leaves: the mix engine's counts and marks, and two kinds of notices (R30, R31). -/
theorem countClamps_eq (left right cue : Nat) (s : State) :
    (s.modMix (MixEngine.clamped left right cue)).Notes (countClamps left right cue s) ∧
    s.Tells (countClamps left right cue s) ∧
    ∀ k, (countClamps left right cue s).notices.latches.get k = (((s.notices.latches.get k).or
      (if climbs s.mix.counters.pgmLeft left s.mix.climbLeft = true ∧ k = 3 then some [Word.nat 0] else none)).or
      (if climbs s.mix.counters.pgmRight right s.mix.climbRight = true ∧ k = 3 then some [Word.nat 1] else none)).or
      (if decide (left + right ≠ 0) = true ∧ k = 2 then some [Word.nat (left + right)] else none) := by
  rw [countClamps_latches]
  refine ⟨((State.Notes.latchIf ..).1.trans (State.Notes.latchIf ..).1).trans (State.Notes.latchIf ..).1, ?_, fun k => ?_⟩
  · exact State.Tells.trans (t := s.modMix (MixEngine.clamped left right cue)) (.of_eq rfl)
      (((State.Notes.latchIf ..).2.trans (State.Notes.latchIf ..).2).trans (State.Notes.latchIf ..).2)
  · rw [latchIf_get, latchIf_get, latchIf_get]
    rfl

/-! ### The outputs (R29 to R38) -/

/-- The mix engine and the feeds after a mix frame, before what the hand-off does elsewhere. -/
def State.handed (pgm : PgmFrame) (cue : Frame) (feeds : Vector (Vector (Int × Bool) 48) 6) (x : Vector Frame 20)
    (s : State) : State :=
  { s with
    mix := { s.mix with
      pgm := pgm
      cue := cue
      studioLeft := x.get 0
      studioRight := x.get 1
      counters := { s.mix.counters with feed := bump s.mix.counters.feed (feedClamps feeds) } }
    line := { s.line with feeds := feeds.map fun f => f.map Prod.fst } }

theorem handOff_eq (pgm : PgmFrame) (cue : Frame) (feeds : Vector (Vector (Int × Bool) 48) 6) (x : Vector Frame 20)
    (s : State) :
    handOff pgm cue feeds x s = fillStop s.mix.fillSilent (activity pgm.quiet (s.handed pgm cue feeds x)) := rfl

theorem State.Inputs.afterHandOff (silent quiet : Bool) (s : State) :
    s.Inputs [21, 23] [fillPlayer] (Machine.fillStop silent (Machine.activity quiet s)) :=
  ((State.Inputs.activity quiet s).mono (fun _ h => h) nofun).trans ((State.Inputs.fillStop ..).mono nofun fun _ h => h)

/-- The number of clamped samples of a bus, its frame, the PGM frame and the feeds of a mix frame. -/
def State.clampsOf (s : State) (x : Vector Frame 20) (bus : Nat) : Nat := busClamps (s.mix.accumulators x bus)

def State.busOf (s : State) (x : Vector Frame 20) (bus : Nat) : Frame := busFrame (s.mix.accumulators x bus)

def State.pgmFrame (s : State) (x : Vector Frame 20) : PgmFrame := pgmOf s.mix.threshold ⟨s.busOf x 0, s.busOf x 1⟩

/-- The state in which the clamps of a mix frame have been counted. -/
def State.counted (s : State) (x : Vector Frame 20) : State :=
  countClamps (s.clampsOf x 0) (s.clampsOf x 1) (s.clampsOf x 2) s

def State.feedsFrom (s : State) (g : Gates) (x : Vector Frame 20) : Vector (Vector (Int × Bool) 48) 6 :=
  feedsOf s g x (s.mix.accumulators x 0) (s.mix.accumulators x 1)

theorem State.counted_notes (s : State) (x : Vector Frame 20) :
    (s.modMix (MixEngine.clamped (s.clampsOf x 0) (s.clampsOf x 1) (s.clampsOf x 2))).Notes (s.counted x) :=
  (countClamps_eq ..).1

theorem State.counted_mix (s : State) (x : Vector Frame 20) :
    (s.counted x).mix = s.mix.clamped (s.clampsOf x 0) (s.clampsOf x 1) (s.clampsOf x 2) :=
  (s.counted_notes x).mix.trans (State.modMix_mix ..)

/-- The feeds depend on the gains, the ramps and the talkback channel of the mix engine, on the trims of the lines, and on
the last air frame. -/
theorem feedsOf_congr {s t : State} (hgain : t.mix.gain = s.mix.gain) (hramps : t.mix.ramps = s.mix.ramps)
    (htalkback : t.mix.talkback = s.mix.talkback) (hconf : t.line.conf = s.line.conf)
    (hair : t.air.lastAir = s.air.lastAir) (g : Gates) (x : Vector Frame 20) (l r : Vector Int 48) :
    feedsOf t g x l r = feedsOf s g x l r := by
  have hsample (k : Fin 6) (i : Fin 48) : feedSample t g x l r k i = feedSample s g x l r k i := by
    have hused (a b : Nat) : t.mix.used a b = s.mix.used a b := by unfold MixEngine.used; rw [hramps]
    have hgained (c : Fin 256) : t.mix.multiplier c = s.mix.multiplier c := by unfold MixEngine.multiplier; rw [hgain]
    unfold feedSample MixEngine.mixMinus
    simp only [hused, hgained, htalkback, hconf, hair]
  have hfeed (k : Fin 6) : feedOf t g x l r k = feedOf s g x l r k := congrArg Vector.ofFn (funext (hsample k))
  exact congrArg Vector.ofFn (funext hfeed)

theorem feedsFrom_counted (s : State) (g : Gates) (x : Vector Frame 20) :
    feedsOf (s.counted x) g x (s.mix.accumulators x 0) (s.mix.accumulators x 1) = s.feedsFrom g x := by
  have hline : (s.counted x).line = s.line := (s.counted_notes x).line.trans (State.modMix_line ..)
  have hair : (s.counted x).air = s.air := (s.counted_notes x).air.trans (State.modMix_air ..)
  have hmix := s.counted_mix x
  exact feedsOf_congr (by rw [hmix, MixEngine.clamped_gain]) (by rw [hmix, MixEngine.clamped_ramps])
    (by rw [hmix, MixEngine.clamped_talkback]) (by rw [hline]) (by rw [hair]) ..

/-- The mix engine as a mix frame leaves it. -/
def MixEngine.outputs (m : MixEngine) (x : Vector Frame 20) (threshold feedClamps : Nat) : MixEngine :=
  let bus (k : Nat) : Frame := busFrame (m.accumulators x k)
  let clamps (k : Nat) : Nat := busClamps (m.accumulators x k)
  let c := m.clamped (clamps 0) (clamps 1) (clamps 2)
  { c with
    pgm := pgmOf threshold ⟨bus 0, bus 1⟩
    cue := bus 2
    studioLeft := x.get 0
    studioRight := x.get 1
    counters := { c.counters with feed := bump m.counters.feed feedClamps } }

/-- What a mix frame makes of the state after its input stage. -/
structure State.Mixed (g : Gates) (x : Vector Frame 20) (d t : State) : Prop where
  frame : t = { d with
    studio := t.studio, mix := t.mix, line := t.line, clips := t.clips, players := t.players, intake := t.intake
    air := t.air, link := t.link, notices := t.notices, sent := t.sent }
  mix : t.mix = d.mix.outputs x d.mix.threshold (feedClamps (d.feedsFrom g x))
  line : t.line = { d.line with feeds := (d.feedsFrom g x).map fun f => f.map Prod.fst }
  tells : d.Tells t
  latches : ∀ k, k ≠ 21 → k ≠ 23 → t.notices.latches.get k = (((d.notices.latches.get k).or
    (if climbs d.mix.counters.pgmLeft (d.clampsOf x 0) d.mix.climbLeft = true ∧ k = 3 then some [Word.nat 0] else none)).or
    (if climbs d.mix.counters.pgmRight (d.clampsOf x 1) d.mix.climbRight = true ∧ k = 3 then some [Word.nat 1]
      else none)).or
    (if decide (d.clampsOf x 0 + d.clampsOf x 1 ≠ 0) = true ∧ k = 2 then
      some [Word.nat (d.clampsOf x 0 + d.clampsOf x 1)] else none)

/-- The state in which the outputs have been handed off, and what follows it. -/
def State.out (g : Gates) (x : Vector Frame 20) (s : State) : State :=
  (s.counted x).handed (s.pgmFrame x) (s.busOf x 2) (s.feedsFrom g x) x

theorem mixOutputs_of {g : Gates} {x : Vector Frame 20} {s u : State}
    (hu : countClamps (busClamps (s.mix.accumulators x 0)) (busClamps (s.mix.accumulators x 1))
      (busClamps (s.mix.accumulators x 2)) s = u) :
    mixOutputs g x s =
      handOff (pgmOf u.mix.threshold ⟨busFrame (s.mix.accumulators x 0), busFrame (s.mix.accumulators x 1)⟩)
        (busFrame (s.mix.accumulators x 2)) (feedsOf u g x (s.mix.accumulators x 0) (s.mix.accumulators x 1)) x u := by
  subst hu
  rfl

theorem mixOutputs_eq (g : Gates) (x : Vector Frame 20) (s : State) :
    mixOutputs g x s = fillStop s.mix.fillSilent (activity (s.pgmFrame x).quiet (s.out g x)) := by
  have hmix := s.counted_mix x
  have hsilent : (s.counted x).mix.fillSilent = s.mix.fillSilent := by
    unfold MixEngine.fillSilent
    rw [hmix, MixEngine.clamped_ramps]
  have hthreshold : (s.counted x).mix.threshold = s.mix.threshold := by rw [hmix, MixEngine.clamped_threshold]
  have hfeeds := feedsFrom_counted s g x
  unfold State.out State.pgmFrame State.busOf
  rw [mixOutputs_of (u := s.counted x) rfl, handOff_eq, hthreshold, hsilent, hfeeds]

theorem MixEngine.outputs_eq (s : State) (x : Vector Frame 20) (n : Nat) :
    s.mix.outputs x s.mix.threshold n =
      { s.mix.clamped (s.clampsOf x 0) (s.clampsOf x 1) (s.clampsOf x 2) with
        pgm := s.pgmFrame x
        cue := s.busOf x 2
        studioLeft := x.get 0
        studioRight := x.get 1
        counters := { (s.mix.clamped (s.clampsOf x 0) (s.clampsOf x 1) (s.clampsOf x 2)).counters with
          feed := bump s.mix.counters.feed n } } := rfl

theorem State.Notes.handed {s u : State} (h : s.Notes u) (pgm : PgmFrame) (cue : Frame)
    (feeds : Vector (Vector (Int × Bool) 48) 6) (x : Vector Frame 20) :
    u.handed pgm cue feeds x = { s.handed pgm cue feeds x with notices := u.notices, sent := u.sent } := by
  unfold State.Notes at h
  unfold State.handed
  conv_lhs => rw [h]

/-- The state in which the outputs have been handed off, as an equation. -/
theorem State.out_eq (g : Gates) (x : Vector Frame 20) (s : State) :
    s.out g x = { s with
      mix := s.mix.outputs x s.mix.threshold (feedClamps (s.feedsFrom g x))
      line := { s.line with feeds := (s.feedsFrom g x).map fun f => f.map Prod.fst }
      notices := (s.counted x).notices
      sent := (s.counted x).sent } := by
  rw [State.out, (s.counted_notes x).handed, MixEngine.outputs_eq]
  simp only [State.handed, State.modMix, MixEngine.clamped_feed]

theorem mixOutputs_mixed (g : Gates) (x : Vector Frame 20) (s : State) : s.Mixed g x (mixOutputs g x s) := by
  have hafter := State.Inputs.afterHandOff s.mix.fillSilent (s.pgmFrame x).quiet (s.out g x)
  have hout := s.out_eq g x
  have hcount := countClamps_eq (s.clampsOf x 0) (s.clampsOf x 1) (s.clampsOf x 2) s
  rw [mixOutputs_eq]
  generalize fillStop s.mix.fillSilent (activity (s.pgmFrame x).quiet (s.out g x)) = t at hafter
  have hnotices : (s.out g x).notices = (s.counted x).notices := by rw [hout]
  have hsent : (s.out g x).sent = (s.counted x).sent := by rw [hout]
  have hmix : t.mix = (s.out g x).mix := by rw [hafter.frame]
  have hline : t.line = (s.out g x).line := by rw [hafter.frame]
  refine ⟨?_, by rw [hmix, hout], by rw [hline, hout], ?_, fun k h21 h23 => ?_⟩
  · conv_lhs => rw [hafter.frame, hout]
    rw [hmix, hline, hout]
  · exact hcount.2.1.trans (State.Tells.trans (t := s.out g x) (.of_eq hsent) hafter.tells)
  · rw [hafter.latches.stands (by simp [h21, h23]), hnotices, State.counted]
    exact hcount.2.2 k

/-- The mix engine through the input stage. -/
theorem State.mixIn_mix (s : State) : s.mixIn.mix = s.stepped.mix := by rw [(State.Inputs.mixIn s).frame]

/-- The mix engine's routes after a mix frame. -/
theorem mixWork_routes (s : State) :
    (mixWork s).mix.ramps = s.stepped.mix.ramps ∧ (mixWork s).mix.snap = false ∧
      (mixWork s).mix.gain = s.tables.gain ∧ (mixWork s).mix.route = s.tables.route ∧
      (mixWork s).mix.mask = s.mix.mask := by
  have hmix := (mixOutputs_mixed (readGates (adoptMix s)) s.mixSources s.mixIn).mix
  rw [← mixWork_eq, MixEngine.outputs_eq, s.mixIn_mix] at hmix
  rw [hmix]
  exact ⟨rfl, rfl, rfl, rfl, rfl⟩

/-! ### The gates (R20) -/

theorem sourceLine_eq (source : Nat) (k : Fin 6) : sourceLine source = some k ↔ source = 8 + k.val := by
  unfold sourceLine
  split
  · rw [finOf_eq_some]; omega
  · simp only [reduceCtorEq, false_iff]; omega

theorem Gates.shut_iff (s : State) (source bus : Nat) (hs : source < 20) :
    (readGates s).shut source bus = true ↔
      s.mix.mask.getLsbD source = true ∨
      (∃ k : Fin 6, source = 8 + k.val ∧ (s.line.line k).state ≠ if bus = 2 then .screening else .onAir) ∨
      (18 ≤ source ∧ s.studio.lost = false) := by
  have hline (k : Fin 6) : (readGates s).lines.get k = (s.line.line k).state := by
    simp [readGates, LineUnit.line]
  unfold Gates.shut
  simp only [Bool.or_eq_true, Bool.and_eq_true, decide_eq_true_eq, or_assoc]
  refine or_congr Iff.rfl (or_congr ?_ ?_)
  · cases h : sourceLine source with
    | none =>
      simp only [Bool.false_eq_true, false_iff, not_exists, not_and]
      intro k hk
      rw [(sourceLine_eq source k).mpr hk] at h
      cases h
    | some k =>
      rw [decide_eq_true_eq, hline]
      refine ⟨fun hne => ⟨k, (sourceLine_eq source k).mp h, hne⟩, fun ⟨j, hj, hne⟩ => ?_⟩
      rw [(sourceLine_eq source j).mpr hj] at h
      cases h
      exact hne
  · refine and_congr (by omega) ?_
    simp [readGates]

/-- Settles O38: the ramps after the target and step stages, by the gates read at the start of the frame. -/
theorem rampsFollowGates : Obligations.RampsFollowGates := by
  intro s
  obtain ⟨hramps, hsnap, hgain, hroute, hmask⟩ := mixWork_routes s.cleared
  refine ⟨mixWork s.cleared, rfl, hsnap, hgain, hroute, hmask, fun r => ?_⟩
  intro source shut route go
  have hramp : (mixWork s.cleared).mix.ramps.get r =
      (adoptMix s.cleared).mix.stepRoute (readGates (adoptMix s.cleared)) r := by
    rw [hramps]
    simp [State.stepped, MixEngine.stepRamps]
  have hshut := Gates.shut_iff (adoptMix s.cleared) (r.val / 3) (r.val % 3) (by omega)
  have hgo (m : Nat) (hm : (adoptMix s.cleared).mix.routeTarget (readGates (adoptMix s.cleared)) r = m) : go m := by
    show _ = _
    rw [hramp, MixEngine.stepRoute, hm]
    rfl
  refine ⟨fun h => hgo _ ?_, fun h => hgo _ ?_⟩
  · rw [MixEngine.routeTarget, if_pos (hshut.mpr h)]
    rfl
  · rw [MixEngine.routeTarget, if_neg fun e => h (hshut.mp e)]
    rfl

end Sys2Proof.Machine

/-!
PROOF. The sources of a mix frame: the studio request, and the frames of the players (R2, R4, R7 to R9, R27, R69, R94, R112,
R114).
-/

namespace Sys2Proof.Machine

/-! ### The request (R4, R7) -/

theorem adoptStudio_next (u : State) : (adoptStudio u).studio.next = u.usedFrame := by
  unfold adoptStudio StudioInput.next State.usedFrame
  rw [State.modStudio_studio]
  dsimp only
  by_cases h : u.studio.width = u.setting Setting.studioWidth
  · rw [if_pos h, if_pos h]
    cases u.studio.expected <;> rfl
  · rw [if_neg h, if_neg h]
    dsimp only [StudioInput.countMalformed]
    cases u.studio.expected <;> rfl

theorem adoptStudio_width (u : State) : (adoptStudio u).studio.width = u.setting Setting.studioWidth := by
  unfold adoptStudio
  rw [State.modStudio_studio]
  dsimp only
  split
  · assumption
  · rfl

theorem studioRequest_used {u : State} {f : ProgrammeFrame} (h : u.usedFrame = some f) :
    studioRequest u = (useFrame f (adoptStudio u), studioSources f (u.setting Setting.studioWidth)) := by
  unfold studioRequest
  dsimp only
  rw [adoptStudio_next, h, adoptStudio_width]

theorem studioRequest_missed {u : State} (h : u.usedFrame = none) :
    studioRequest u = (missFrame (adoptStudio u), Vector.replicate 8 Frame.silence) := by
  unfold studioRequest
  dsimp only
  rw [adoptStudio_next, h]

theorem usedFrame_width {u : State} {f : ProgrammeFrame} (h : u.usedFrame = some f) :
    u.studio.width = u.setting Setting.studioWidth := by
  unfold State.usedFrame at h
  split at h
  · assumption
  · cases h

/-- The slot that the fill player starts on where the studio input asks for it (R9, R114). -/
def State.fillAsked (s : State) : Option (Fin 32) :=
  if (s.player fillPlayer).state = .idle then s.studio.fillSlot.filter fun n => cueable fillPlayer n s else none

/-- The fill player started, where it starts. -/
def State.filled (start : Option (Fin 32)) (s : State) : State :=
  match start with
  | some n => runSlot fillPlayer n s
  | none => s

theorem askFill_eq (s : State) : askFill s = (s.filled s.fillAsked, s.fillAsked) := by
  unfold askFill startFill State.fillAsked
  cases s.studio.fillSlot with
  | none =>
    have hfilter : Option.filter (fun n => cueable fillPlayer n s) none = none := rfl
    rw [hfilter, ite_self]
    rfl
  | some n =>
    by_cases hidle : (s.player fillPlayer).state = .idle
    · rw [if_pos hidle]
      cases hcue : cueable fillPlayer n s with
      | true => simp [hidle, hcue, Option.filter, State.filled]
      | false => simp [hcue, Option.filter, State.filled]
    · simp [hidle, State.filled]

/-- A missing frame, by what follows it (R7 to R9). -/
theorem missFrame_cases (s : State) :
    missFrame s =
      if s.studio.lost then (s.modStudio StudioInput.missed).filled s.fillAsked
      else if s.studio.lossLimit ≤ bump s.studio.missingRun 1 then
        latch .studioLost [Word.place (s.fillAsked.map Fin.val)]
          (((s.modStudio StudioInput.missed).modStudio StudioInput.losing).filled s.fillAsked)
      else s.modStudio StudioInput.missed := by
  rw [missFrame_eq]
  unfold afterMissing
  have hasked : (s.modStudio StudioInput.missed).fillAsked = s.fillAsked := rfl
  have hlosing : ((s.modStudio StudioInput.missed).modStudio StudioInput.losing).fillAsked = s.fillAsked := rfl
  rw [loseStudio_eq, askFill_eq, askFill_eq, hasked, hlosing]
  rfl

theorem fillStarts_eq (u : State) :
    u.fillStarts =
      if u.usedFrame = none ∧ (u.studio.lost = true ∨ u.setting Setting.studioLossLimit ≤ min (u.studio.missingRun + 1) 65535)
      then (adoptStudio u).fillAsked else none := by
  have hslot : (adoptStudio u).studio.fillSlot = u.slotSetting Setting.fillSlot := by
    unfold adoptStudio
    rw [State.modStudio_studio]
    dsimp only
    split <;> rfl
  have hcue : (fun n => cueable fillPlayer n (adoptStudio u)) = fun n => decide
      ((u.clips.slots.get n).state = .ready ∧ (u.clips.slots.get n).kind = .cart ∧
        (u.clips.holds.get 2 = some n ∨ (u.clips.slots.get n).useCount < 3)) := by
    funext n
    rw [Bool.eq_iff_iff, decide_eq_true_eq, cueable_iff, ClipStore.playable, ClipStore.canHold, Bool.and_eq_true,
      Bool.or_eq_true, decide_eq_true_eq, decide_eq_true_eq, decide_eq_true_eq, decide_eq_true_eq, and_assoc]
    exact Iff.rfl
  unfold State.fillStarts State.fillAsked
  rw [hslot, hcue]
  have hplayer : ((adoptStudio u).player fillPlayer).state = (u.players.get 2).state := rfl
  rw [hplayer]
  by_cases hasks : u.usedFrame = none ∧
      (u.studio.lost = true ∨ u.setting Setting.studioLossLimit ≤ min (u.studio.missingRun + 1) 65535)
  · by_cases hidle : (u.players.get 2).state = .idle
    · rw [if_pos ⟨hasks.1, hasks.2, hidle⟩, if_pos hasks, if_pos hidle]
    · rw [if_neg fun e => hidle e.2.2, if_pos hasks, if_neg hidle]
  · rw [if_neg fun e => hasks ⟨e.1, e.2.1⟩, if_neg hasks]

/-- The players and holds after a missed request: the fill player on the slot that it starts on, if any. -/
theorem missFrame_fill {u : State} (h : u.usedFrame = none) :
    (missFrame (adoptStudio u)).players = (u.filled u.fillStarts).players ∧
      (missFrame (adoptStudio u)).clips = (u.filled u.fillStarts).clips := by
  have hstarts := fillStarts_eq u
  have hfilled (o : Option (Fin 32)) {v : State} (hp : v.players = u.players) (hc : v.clips = u.clips)
      (hf : v.frameCount = u.frameCount) :
      (v.filled o).players = (u.filled o).players ∧ (v.filled o).clips = (u.filled o).clips := by
    cases o with
    | none => exact ⟨hp, hc⟩
    | some n =>
      unfold State.filled
      dsimp only
      rw [runSlot_eq, runSlot_eq, hp, hc, hf]
      exact ⟨rfl, rfl⟩
  have hlimit : (adoptStudio u).studio.lossLimit = u.setting Setting.studioLossLimit := by
    unfold adoptStudio
    rw [State.modStudio_studio]
    dsimp only
    split <;> rfl
  have hrun : (adoptStudio u).studio.missingRun = u.studio.missingRun ∧ (adoptStudio u).studio.lost = u.studio.lost := by
    unfold adoptStudio
    rw [State.modStudio_studio]
    dsimp only
    split <;> exact ⟨rfl, rfl⟩
  rw [missFrame_cases, hlimit, hrun.1, hrun.2]
  by_cases hlost : u.studio.lost = true
  · rw [if_pos hlost]
    rw [if_pos ⟨h, .inl hlost⟩] at hstarts
    rw [hstarts]
    exact hfilled _ rfl rfl rfl
  · rw [if_neg hlost]
    by_cases hloses : u.setting Setting.studioLossLimit ≤ min (u.studio.missingRun + 1) 65535
    · rw [if_pos (show _ ≤ bump u.studio.missingRun 1 from hloses), latch_players, latch_clips]
      rw [if_pos ⟨h, .inr hloses⟩] at hstarts
      rw [hstarts]
      exact hfilled _ rfl rfl rfl
    · rw [if_neg (show ¬ _ ≤ bump u.studio.missingRun 1 from hloses)]
      rw [if_neg fun e => e.2.elim hlost hloses] at hstarts
      rw [hstarts]
      exact ⟨rfl, rfl⟩

/-- The request leaves the fill player and its hold alone, or starts it. -/
theorem studioRequest_fill (u : State) :
    (u.fillStarts = none → (studioRequest u).1.players.get fillPlayer = u.players.get fillPlayer ∧
      (studioRequest u).1.clips.holds.get (playerReader fillPlayer) = u.clips.holds.get (playerReader fillPlayer)) ∧
    ∀ n, u.fillStarts = some n → (studioRequest u).1.players = u.players.set 2 ⟨.running, some n, 0⟩ ∧
      (studioRequest u).1.clips =
        (u.clips.hold (playerReader fillPlayer) n).modSlot n fun t => { t with stamp := some u.frameCount } := by
  cases hused : u.usedFrame with
  | some f =>
    have hnone : u.fillStarts = none := by
      unfold State.fillStarts
      rw [hused, if_neg fun e => nomatch e.1]
    rw [studioRequest_used hused, hnone]
    refine ⟨fun _ => ?_, nofun⟩
    have hinputs := ((State.Inputs.adoptStudio u).mono (js := [1, 21, 23]) (qs := []) nofun nofun).trans
      (State.Inputs.useFrame f _).1
    exact ⟨hinputs.players _ nofun, hinputs.holds _ nofun⟩
  | none =>
    rw [studioRequest_missed hused]
    obtain ⟨hplayers, hclips⟩ := missFrame_fill hused
    dsimp only
    rw [hplayers, hclips]
    refine ⟨fun h => ?_, fun n h => ?_⟩
    · rw [h]; exact ⟨rfl, rfl⟩
    · rw [h]; exact ⟨rfl, rfl⟩

/-! ### The players' frames (R27, R94, R112) -/

theorem playerFrame_snd (p : Fin 3) (u : State) :
    (playerFrame p u).2 = ((u.playerReads p).map fun f =>
      scaleStereo f (((u.players.get p).slot.map fun n => u.mix.gain.get (u.clips.conf.get n).gain).getD 0)).getD
        StereoFrame.silence := by
  unfold playerFrame State.playerReads State.player
  dsimp only
  cases hslot : (u.players.get p).slot with
  | none => cases (u.players.get p).state <;> rfl
  | some n =>
    dsimp only
    cases hstate : (u.players.get p).state with
    | idle => rw [if_neg fun e => nomatch e.1]; rfl
    | cued => rw [if_neg fun e => nomatch e.1]; rfl
    | running =>
      dsimp only
      unfold ClipStore.readFor
      by_cases hhold : u.clips.holds.get (playerReader p) = some n
      · rw [if_pos hhold]
        by_cases hpos : (u.players.get p).position < (u.clips.slots.get n).length
        · rw [if_pos hpos, if_pos (show PlayerState.running = .running ∧ u.clips.holds.get p.castSucc = some n ∧
            (u.players.get p).position < (u.clips.slots.get n).length from ⟨rfl, hhold, hpos⟩)]
          rfl
        · rw [if_neg hpos, if_neg (show ¬ (PlayerState.running = .running ∧ u.clips.holds.get p.castSucc = some n ∧
            (u.players.get p).position < (u.clips.slots.get n).length) from fun e => hpos e.2.2)]
          rfl
      · rw [if_neg hhold, if_neg (show ¬ (PlayerState.running = .running ∧ u.clips.holds.get p.castSucc = some n ∧
            (u.players.get p).position < (u.clips.slots.get n).length) from fun e => hhold e.2.1)]
        rfl

/-- What player `p` is given depends on its own record and hold, and on what no mix frame changes of the store. -/
theorem playerReads_congr {p : Fin 3} {s u : State} (hplayers : u.players.get p = s.players.get p)
    (hholds : u.clips.holds.get (playerReader p) = s.clips.holds.get (playerReader p))
    (hclips : s.clips.Rereads u.clips) : u.playerReads p = s.playerReads p := by
  have hholds' : u.clips.holds.get p.castSucc = s.clips.holds.get p.castSucc := hholds
  unfold State.playerReads
  dsimp only
  rw [hplayers, hholds', hclips.region]
  cases (s.players.get p).slot with
  | none => rfl
  | some n =>
    dsimp only
    rw [hclips.slots n]

/-- The settings of the clip store stand through a player's frame. -/
theorem playerFrame_conf (p : Fin 3) (s : State) : (playerFrame p s).1.clips.conf = s.clips.conf := by
  have hidle (u : State) : (idlePlayer p u).clips.conf = u.clips.conf := by
    rw [idlePlayer_eq, ClipStore.release_frame]
  have hrun (n : Fin 32) (u : State) : (runSlot p n u).clips.conf = u.clips.conf := by
    rw [runSlot_eq, ClipStore.hold_frame]; rfl
  have hend (n : Fin 32) (a : EndAction) (x : Option (Option (Fin 32))) (u : State) :
      (endClip p n a x u).clips.conf = u.clips.conf := by
    rw [endClip, latch_clips]; rfl
  have haction (n : Fin 32) (u : State) : (endAction p n u).clips.conf = u.clips.conf := by
    unfold endAction
    dsimp only
    split
    · rw [hend, hidle]
    · rfl
    · split
      · rw [hend, hrun]
      · rw [hend, hidle]
    · rw [hend, signOff_frame]
      exact hidle u
  unfold playerFrame clipEnd
  dsimp only
  split
  · split
    · dsimp only
      split
      · split
        · rfl
        · rw [haction]; rfl
      · rfl
    · rfl
    · rfl
  · rfl

/-! ### The sources (R2, R27, R69) -/

section
variable (a : Vector Frame 8) (b c : Vector Frame 6)

/-- The twenty sources: the studio channels, the caller frames, the players' frames. -/
def joinSources : Vector Frame 20 := a ++ b ++ c

theorem joinSources_studio (k : Fin 8) (h : 8 ≤ 20) : (joinSources a b c).get (k.castLE h) = a.get k :=
  (Vector.getElem_append_left (xs := a ++ b) (ys := c) (i := k.val) (by omega)).trans
    (Vector.getElem_append_left (xs := a) (ys := b) (i := k.val) k.isLt)

theorem joinSources_caller (k : Fin 6) (h : 8 + k.val < 20) : (joinSources a b c).get ⟨8 + k.val, h⟩ = b.get k :=
  (Vector.getElem_append_left (xs := a ++ b) (ys := c) (i := 8 + k.val) (by omega)).trans
    ((Vector.getElem_append_right (xs := a) (ys := b) (i := 8 + k.val) (by omega) (by omega)).trans
      (by simp [Vector.get_eq_getElem]))

theorem joinSources_player (k : Fin 6) (h : 14 + k.val < 20) : (joinSources a b c).get ⟨14 + k.val, h⟩ = c.get k :=
  (Vector.getElem_append_right (xs := a ++ b) (ys := c) (i := 14 + k.val) (by omega) (by omega)).trans
    (by simp [Vector.get_eq_getElem])

end

/-- The state in which player `p` gives its frame. -/
def State.beforePlayer (s : State) (p : Fin 3) : State :=
  let c := adoptClips (studioRequest s.stepped).1
  if p = 0 then c
  else if p = 1 then (playerFrame playerA c).1
  else (playerFrame playerB (playerFrame playerA c).1).1

/-- The stereo frame of a player. -/
def State.playerGives (s : State) (p : Fin 3) : StereoFrame := (playerFrame p (s.beforePlayer p)).2

theorem State.mixSources_eq (s : State) :
    s.mixSources = joinSources (studioRequest s.stepped).2 (callerSources s.mixIn)
      #v[(s.playerGives 0).left, (s.playerGives 0).right, (s.playerGives 1).left, (s.playerGives 1).right,
        (s.playerGives 2).left, (s.playerGives 2).right] := rfl

theorem State.mixSources_player (s : State) (p : Fin 3) :
    s.mixSources.get ⟨14 + 2 * p.val, by omega⟩ = (s.playerGives p).left ∧
      s.mixSources.get ⟨15 + 2 * p.val, by omega⟩ = (s.playerGives p).right := by
  rw [State.mixSources_eq]
  have hleft := joinSources_player (studioRequest s.stepped).2 (callerSources s.mixIn)
    #v[(s.playerGives 0).left, (s.playerGives 0).right, (s.playerGives 1).left, (s.playerGives 1).right,
      (s.playerGives 2).left, (s.playerGives 2).right] ⟨2 * p.val, by omega⟩ (by show 14 + 2 * p.val < 20; omega)
  have hright := joinSources_player (studioRequest s.stepped).2 (callerSources s.mixIn)
    #v[(s.playerGives 0).left, (s.playerGives 0).right, (s.playerGives 1).left, (s.playerGives 1).right,
      (s.playerGives 2).left, (s.playerGives 2).right] ⟨2 * p.val + 1, by omega⟩ (by show 14 + (2 * p.val + 1) < 20; omega)
  refine ⟨hleft.trans ?_, ?_⟩
  · fin_cases p <;> rfl
  · have hindex : (⟨15 + 2 * p.val, by omega⟩ : Fin 20) = ⟨14 + (2 * p.val + 1), by omega⟩ := Fin.ext (by dsimp only; omega)
    rw [hindex]
    exact hright.trans (by fin_cases p <;> rfl)

/-- Player `p` as it gives its frame: its record and hold as the request has left them, the store's records as they were
but for holds and stamps, and the settings adopted. -/
structure State.Playing (s : State) (p : Fin 3) (u : State) : Prop where
  player : u.players.get p = (studioRequest s.stepped).1.players.get p
  hold : u.clips.holds.get (playerReader p) = (studioRequest s.stepped).1.clips.holds.get (playerReader p)
  rereads : s.clips.Rereads u.clips
  conf : u.clips.conf = s.tables.slotConf
  gain : u.mix.gain = s.tables.gain
  frameCount : u.frameCount = s.frameCount

theorem State.beforePlayer_playing (s : State) (p : Fin 3) : s.Playing p (s.beforePlayer p) := by
  have hrequest := State.Inputs.studioRequest s.stepped
  set c := (studioRequest s.stepped).1 with hc
  have hadopt : c.Inputs [13, 21, 23] [] (adoptClips c) := .adoptClips c
  have htables : c.tables = s.tables := by rw [hrequest.frame]; rfl
  have hconf : (adoptClips c).clips.conf = s.tables.slotConf := by rw [← htables]; rfl
  have hgain : c.mix.gain = s.tables.gain := by rw [hrequest.frame]; rfl
  have hcount : c.frameCount = s.frameCount := by rw [hrequest.frame]; rfl
  have hrereads : s.clips.Rereads c.clips := hrequest.rereads
  have hplaying {ps : List (Fin 3)} {u : State} (h : (adoptClips c).Inputs [13, 21, 23] ps u) (hp : p ∉ ps)
      (huconf : u.clips.conf = (adoptClips c).clips.conf) : s.Playing p u := by
    refine ⟨h.players p hp, h.holds p hp, (hrereads.trans hadopt.rereads).trans h.rereads, huconf.trans hconf, ?_, ?_⟩
    · rw [h.frame]; exact hgain
    · rw [h.frame]; exact hcount
  have hA := State.Inputs.playerFrame playerA (adoptClips c)
  have hB := State.Inputs.playerFrame playerB (playerFrame playerA (adoptClips c)).1
  unfold State.beforePlayer
  rw [← hc]
  dsimp only
  split
  · exact hplaying (ps := []) (.refl ..) nofun rfl
  · split
    · rename_i h1
      subst h1
      exact hplaying hA (by decide) (playerFrame_conf ..)
    · rename_i h0 h1
      refine hplaying (ps := [playerA, playerB]) ((hA.mono (fun _ h => h) (by decide)).trans (hB.mono (fun _ h => h) (by decide)))
        ?_ ((playerFrame_conf ..).trans (playerFrame_conf ..))
      intro hmem
      rcases List.mem_cons.mp hmem with e | e
      · exact h0 e
      · exact h1 (List.mem_singleton.mp e)

theorem playerGain_eq (s : State) (p : Fin 3) :
    s.playerGain p = ((s.players.get p).slot.map fun n => s.tables.gain.get (s.tables.slotConf.get n).gain).getD 0 := by
  unfold State.playerGain
  cases (s.players.get p).slot <;> rfl

/-- A player that the request leaves alone gives what it reads, by the gain of its slot. -/
theorem State.playerGives_eq {s : State} {p : Fin 3} (h : p = 2 → s.fillStarts = none) :
    s.playerGives p = ((s.playerReads p).map fun f => scaleStereo f (s.playerGain p)).getD StereoFrame.silence := by
  have hplaying := s.beforePlayer_playing p
  have hrequest := State.Inputs.studioRequest s.stepped
  have hkept : (studioRequest s.stepped).1.players.get p = s.players.get p ∧
      (studioRequest s.stepped).1.clips.holds.get (playerReader p) = s.clips.holds.get (playerReader p) := by
    by_cases hp : p = fillPlayer
    · subst hp
      exact (studioRequest_fill s.stepped).1 (h rfl)
    · exact ⟨hrequest.players p (by simpa using hp), hrequest.holds p (by simpa using hp)⟩
  have hreads : (s.beforePlayer p).playerReads p = s.playerReads p :=
    playerReads_congr (hplaying.player.trans hkept.1) (hplaying.hold.trans hkept.2) hplaying.rereads
  unfold State.playerGives
  rw [playerFrame_snd, hreads, playerGain_eq, hplaying.player, hkept.1, hplaying.conf, hplaying.gain]

/-- A fill player that starts gives the first frame of its slot. -/
theorem State.playerGives_starts {s : State} {n : Fin 32} (h : s.fillStarts = some n) :
    s.playerGives 2 =
      if 0 < (s.clips.slots.get n).length then
        scaleStereo (Memory.read StereoFrame.silence s.clips.region ((s.clips.slots.get n).chain.getD 0 0 * 256))
          (s.tables.gain.get (s.tables.slotConf.get n).gain)
      else StereoFrame.silence := by
  have hplaying := s.beforePlayer_playing 2
  obtain ⟨hplayers, hclips⟩ := (studioRequest_fill s.stepped).2 n h
  have hplayer : (s.beforePlayer 2).players.get 2 = ⟨.running, some n, 0⟩ := by
    rw [hplaying.player, hplayers]
    exact get_set_self s.stepped.players (2 : Fin 3) _
  have hhold : (s.beforePlayer 2).clips.holds.get (2 : Fin 3).castSucc = some n := by
    have hheld := hplaying.hold
    rw [hclips] at hheld
    exact hheld.trans (by rw [ClipStore.modSlot_holds, ClipStore.hold_holds]; exact if_pos rfl)
  have hslot := hplaying.rereads.slots n
  have hreads : (s.beforePlayer 2).playerReads 2 =
      if 0 < (s.clips.slots.get n).length then
        some (Memory.read StereoFrame.silence s.clips.region ((s.clips.slots.get n).chain.getD 0 0 * 256))
      else none := by
    unfold State.playerReads
    rw [hplayer]
    dsimp only
    rw [hhold, hslot, hplaying.rereads.region]
    simp
  unfold State.playerGives
  rw [playerFrame_snd, hreads, hplayer]
  dsimp only [Option.map_some, Option.getD_some]
  rw [hplaying.conf, hplaying.gain]
  split <;> rfl

theorem State.mixSources_sources (s : State) : s.Sources s.mixSources where
  studio c := by
    rw [State.mixSources_eq, joinSources_studio]
    cases h : s.usedFrame with
    | some f =>
      rw [studioRequest_used (u := s.stepped) h]
      have hwidth : s.studio.width = s.stepped.setting Setting.studioWidth := usedFrame_width h
      simp [studioSources, hwidth]
    | none =>
      rw [studioRequest_missed (u := s.stepped) h]
      simp
  caller k := by
    rw [State.mixSources_eq, joinSources_caller]
    have hline : s.mixIn.line = s.line := by rw [(State.Inputs.mixIn s).frame]; rfl
    simp [callerSources, hline, LineUnit.callerFrame]
  plays p f h := by
    have hfill (hp : p = 2) : s.fillStarts = none := by
      subst hp
      unfold State.fillStarts
      rw [if_neg]
      intro e
      unfold State.playerReads at h
      dsimp only at h
      rw [e.2.2] at h
      split at h
      · rw [if_neg fun e => nomatch e.1] at h
        cases h
      · cases h
    obtain ⟨hleft, hright⟩ := s.mixSources_player p
    rw [hleft, hright, s.playerGives_eq hfill, h]
    exact ⟨rfl, rfl⟩
  silent p h hfill := by
    obtain ⟨hleft, hright⟩ := s.mixSources_player p
    rw [hleft, hright, s.playerGives_eq hfill, h]
    exact ⟨rfl, rfl⟩
  starts n h := by
    obtain ⟨hleft, hright⟩ := s.mixSources_player 2
    have hleft : s.mixSources.get 18 = (s.playerGives 2).left := hleft
    have hright : s.mixSources.get 19 = (s.playerGives 2).right := hright
    dsimp only
    rw [hleft, hright, s.playerGives_starts h]
    split <;> exact ⟨rfl, rfl⟩

end Sys2Proof.Machine

/-!
PROOF. The sums, the clip counters, the peak and the feeds of a mix frame (R28 to R37).
-/

namespace Sys2Proof.Machine

/-! ### Sums (R28, R29) -/

theorem MixEngine.used_eq (m : MixEngine) (k : Fin 20) (bus : Fin 3) :
    m.used k.val bus.val = (m.ramps.get ⟨3 * k.val + bus.val, by omega⟩).current := by
  have h : finOf 60 (k.val * 3 + bus.val) = some ⟨3 * k.val + bus.val, by omega⟩ := by
    rw [finOf_eq_some]; dsimp only; omega
  rw [MixEngine.used, h]

theorem MixEngine.accumulators_get (m : MixEngine) (x : Vector Frame 20) (bus : Fin 3) (i : Fin 48) :
    (m.accumulators x bus.val).get i = busSum m.ramps x bus i := by
  have h : m.accumulate x bus.val i = busSum m.ramps x bus i := by
    unfold MixEngine.accumulate busSum
    simp only [MixEngine.used_eq]
  rw [← h, MixEngine.accumulators]
  simp

theorem busSum_eq_sum (ramps : Vector Ramp 60) (x : Vector Frame 20) (bus : Fin 3) (i : Fin 48) :
    busSum ramps x bus i = ∑ k : Fin 20, (x.get k).get i * ((ramps.get ⟨3 * k.val + bus.val, by omega⟩).current : Int) := by
  rw [Fin.sum_univ_def, busSum]

theorem silence_get (i : Fin 48) : Frame.silence.get i = 0 := by
  simp [Frame.silence, Vector.get_eq_getElem]

/-- A source taken out of a sum. -/
theorem busSum_without (ramps : Vector Ramp 60) (x : Vector Frame 20) (bus : Fin 3) (i : Fin 48) (j : Fin 20) :
    busSum ramps (x.set j.val Frame.silence) bus i =
      busSum ramps x bus i - (x.get j).get i * ((ramps.get ⟨3 * j.val + bus.val, by omega⟩).current : Int) := by
  rw [busSum_eq_sum, busSum_eq_sum, eq_sub_iff_add_eq, ← eq_sub_iff_add_eq', ← Finset.sum_sub_distrib,
    Finset.sum_eq_single j]
  · rw [get_set, if_pos rfl, silence_get]
    ring
  · intro k _ hk
    have hne : ¬ j.val = k.val := fun e => hk (Fin.ext e.symm)
    rw [get_set, if_neg hne, sub_self]
  · exact fun h => absurd (Finset.mem_univ j) h

theorem busFrame_get (acc : Vector Int 48) (i : Fin 48) : (busFrame acc).get i = clampSample (roundGain (acc.get i)) := by
  simp [busFrame]

theorem vector_toList_eq {α : Type} {n : Nat} (v : Vector α n) : v.toList = (List.finRange n).map v.get := by
  refine List.ext_getElem (by simp) fun i h₁ h₂ => ?_
  simp [Vector.get_eq_getElem]

theorem busClamps_eq (acc : Vector Int 48) :
    busClamps acc = (List.finRange 48).countP fun i => clampSample (roundGain (acc.get i)) ≠ roundGain (acc.get i) := by
  rw [busClamps, vector_toList_eq, List.countP_map]
  rfl

/-! ### Peak (R37) -/

theorem foldl_max_natAbs (l : List Int) (m : Nat) :
    m ≤ l.foldl (fun acc x => max acc x.natAbs) m ∧
      (∀ x ∈ l, x.natAbs ≤ l.foldl (fun acc x => max acc x.natAbs) m) ∧
      (l.foldl (fun acc x => max acc x.natAbs) m = m ∨
        ∃ x ∈ l, x.natAbs = l.foldl (fun acc x => max acc x.natAbs) m) := by
  induction l generalizing m with
  | nil => exact ⟨le_rfl, nofun, .inl rfl⟩
  | cons y l ih =>
    obtain ⟨hle, hall, hsome⟩ := ih (max m y.natAbs)
    rw [List.foldl_cons]
    refine ⟨(le_max_left ..).trans hle, fun x hx => ?_, ?_⟩
    · rcases List.mem_cons.mp hx with rfl | hx
      · exact (le_max_right ..).trans hle
      · exact hall x hx
    · rcases hsome with he | ⟨x, hx, he⟩
      · rw [he]
        rcases max_choice m y.natAbs with hm | hm
        · exact .inl hm
        · exact .inr ⟨y, List.mem_cons_self, hm.symm⟩
      · exact .inr ⟨x, List.mem_cons_of_mem _ hx, he⟩

theorem framePeak_spec (f : StereoFrame) :
    (∀ i, (f.left.get i).natAbs ≤ framePeak f ∧ (f.right.get i).natAbs ≤ framePeak f) ∧
      ∃ i, (f.left.get i).natAbs = framePeak f ∨ (f.right.get i).natAbs = framePeak f := by
  obtain ⟨-, hall, hsome⟩ := foldl_max_natAbs (f.left.toList ++ f.right.toList) 0
  have hmem (y : Int) : y ∈ f.left.toList ++ f.right.toList ↔ ∃ i, f.left.get i = y ∨ f.right.get i = y := by
    rw [List.mem_append, vector_toList_eq, vector_toList_eq]
    simp [exists_or]
  refine ⟨fun i => ⟨hall _ ((hmem _).mpr ⟨i, .inl rfl⟩), hall _ ((hmem _).mpr ⟨i, .inr rfl⟩)⟩, ?_⟩
  rcases hsome with h0 | ⟨y, hy, he⟩
  · refine ⟨0, .inl ?_⟩
    have hle := hall _ ((hmem _).mpr ⟨0, .inl rfl⟩)
    show _ = List.foldl _ _ _
    omega
  · obtain ⟨i, hi⟩ := (hmem y).mp hy
    refine ⟨i, hi.imp (fun e => ?_) fun e => ?_⟩
    all_goals
      rw [e]
      exact he

/-! ### The feeds (R32 to R36) -/

/-- The sum that the mix-minus of line `k` is made from, before its shift (R33). -/
def othersSum (ramps : Vector Ramp 60) (x : Vector Frame 20) (k : Fin 6) (i : Fin 48) : Int :=
  (busSum ramps (x.set (8 + k.val) Frame.silence) 0 i + busSum ramps (x.set (8 + k.val) Frame.silence) 1 i + 16384) / 32768

theorem mixMinus_of {m : MixEngine} {x : Vector Frame 20} {l r : Vector Int 48} {k : Fin 6} {i : Fin 48} {pre : Int}
    (h : (l.get i - (x.get ((finOf 20 (8 + k.val)).getD 0)).get i * (m.used (8 + k.val) 0 : Int) +
      (r.get i - (x.get ((finOf 20 (8 + k.val)).getD 0)).get i * (m.used (8 + k.val) 1 : Int)) + 16384) / 32768 = pre)
    (gain : Nat) :
    m.mixMinus x l r k gain i = trimSample gain (clampSample pre ≠ pre) (clampSample pre) := by
  subst h
  rfl

theorem mixMinus_eq (m : MixEngine) (x : Vector Frame 20) (k : Fin 6) (gain : Nat) (i : Fin 48) :
    m.mixMinus x (m.accumulators x 0) (m.accumulators x 1) k gain i =
      trimSample gain (clampSample (othersSum m.ramps x k i) ≠ othersSum m.ramps x k i)
        (clampSample (othersSum m.ramps x k i)) := by
  have hsource : (finOf 20 (8 + k.val)).getD 0 = ⟨8 + k.val, by omega⟩ := by
    rw [show finOf 20 (8 + k.val) = some ⟨8 + k.val, by omega⟩ from finOf_eq_some.mpr rfl]
    rfl
  have hwithout (bus : Fin 3) : (m.accumulators x bus.val).get i -
      (x.get ⟨8 + k.val, by omega⟩).get i * (m.used (8 + k.val) bus.val : Int) =
        busSum m.ramps (x.set (8 + k.val) Frame.silence) bus i := by
    rw [m.accumulators_get, m.used_eq ⟨8 + k.val, by omega⟩ bus]
    exact (busSum_without m.ramps x bus i ⟨8 + k.val, by omega⟩).symm
  have hleft : (m.accumulators x 0).get i - (x.get ⟨8 + k.val, by omega⟩).get i * (m.used (8 + k.val) 0 : Int) = _ :=
    hwithout 0
  have hright : (m.accumulators x 1).get i - (x.get ⟨8 + k.val, by omega⟩).get i * (m.used (8 + k.val) 1 : Int) = _ :=
    hwithout 1
  refine mixMinus_of ?_ gain
  rw [hsource, hleft, hright, othersSum]

theorem feedsFrom_get (s : State) (g : Gates) (x : Vector Frame 20) (k : Fin 6) :
    (s.feedsFrom g x).get k = Vector.ofFn (feedSample s g x (s.mix.accumulators x 0) (s.mix.accumulators x 1) k) := by
  simp [State.feedsFrom, feedsOf, feedOf]

theorem feedClamps_eq (s : State) (g : Gates) (x : Vector Frame 20) :
    feedClamps (s.feedsFrom g x) = ((List.finRange 6).map fun k => (List.finRange 48).countP fun i =>
      (feedSample s g x (s.mix.accumulators x 0) (s.mix.accumulators x 1) k i).2).sum := by
  unfold feedClamps
  rw [vector_toList_eq, List.map_map]
  refine congrArg List.sum (List.map_congr_left fun k _ => ?_)
  rw [Function.comp_apply, feedsFrom_get, vector_toList_eq, List.countP_map]
  refine List.countP_congr fun i _ => ?_
  rw [Function.comp_apply, Vector.get_ofFn]

/-- The feed of line `k` at one sample, in terms of the state before the mix frame, its sources and its ramps. -/
def State.feedAt (s : State) (ramps : Vector Ramp 60) (x : Vector Frame 20) (k : Fin 6) (i : Fin 48) : Int × Bool :=
  let gain := s.tables.gain.get (s.line.conf.get k).trim
  match (s.line.line k).state with
  | .onAir =>
    trimSample gain (clampSample (othersSum ramps x k i) ≠ othersSum ramps x k i) (clampSample (othersSum ramps x k i))
  | .screening => trimSample gain false ((x.get ⟨s.setting Setting.talkback % 8, by omega⟩).get i)
  | .hold | .ready => trimSample gain false (monoSample s.air.lastAir i)
  | .idle | .ringing | .fault => (0, false)

theorem feedSample_eq (s : State) (x : Vector Frame 20) (k : Fin 6) (i : Fin 48) :
    feedSample s.mixIn (readGates (adoptMix s)) x (s.mixIn.mix.accumulators x 0) (s.mixIn.mix.accumulators x 1) k i =
      s.feedAt s.stepped.mix.ramps x k i := by
  have hmix := s.mixIn_mix
  have hline : s.mixIn.line = s.line := by rw [(State.Inputs.mixIn s).frame]; rfl
  have hair : s.mixIn.air.lastAir = s.air.lastAir := (State.Inputs.mixIn s).lastAir
  have hstate : (readGates (adoptMix s)).lines.get k = (s.line.line k).state := by
    simp only [readGates, LineUnit.line, Vector.get_map]
    rfl
  have hgain : s.mixIn.mix.multiplier (s.mixIn.line.conf.get k).trim = s.tables.gain.get (s.line.conf.get k).trim := by
    rw [hmix, hline]
    rfl
  have htalkback : s.mixIn.mix.talkback.castLE (show 8 ≤ 20 by decide) = ⟨s.setting Setting.talkback % 8, by omega⟩ := by
    rw [hmix]
    rfl
  unfold feedSample State.feedAt
  rw [hstate, hgain]
  dsimp only
  cases (s.line.line k).state with
  | onAir =>
    dsimp only
    rw [mixMinus_eq, hmix]
  | screening =>
    dsimp only
    rw [htalkback]
  | hold => dsimp only [monoSample]; rw [hair]
  | ready => dsimp only [monoSample]; rw [hair]
  | _ => rfl

end Sys2Proof.Machine

/-!
PROOF. A mix frame as a whole: its outputs in terms of its sources and its ramps, and its feeds (R28 to R38).
-/

namespace Sys2Proof.Machine

/-- What a mix frame leaves, in terms of the state after its input stage. -/
theorem mixWork_mixed (s : State) : s.mixIn.Mixed (readGates (adoptMix s)) s.mixSources (mixWork s) := by
  rw [mixWork_eq]
  exact mixOutputs_mixed ..

theorem mixIn_ramps (s : State) : s.mixIn.mix.ramps = (mixWork s).mix.ramps := by
  rw [s.mixIn_mix, (mixWork_routes s).1]

/-- The mix engine after a mix frame. -/
theorem mixWork_mix (s : State) :
    let d := s.mixIn
    let x := s.mixSources
    (mixWork s).mix =
      { d.mix.clamped (d.clampsOf x 0) (d.clampsOf x 1) (d.clampsOf x 2) with
        pgm := d.pgmFrame x
        cue := d.busOf x 2
        studioLeft := x.get 0
        studioRight := x.get 1
        counters := { (d.mix.clamped (d.clampsOf x 0) (d.clampsOf x 1) (d.clampsOf x 2)).counters with
          feed := bump d.mix.counters.feed (feedClamps (d.feedsFrom (readGates (adoptMix s)) x)) } } :=
  (mixWork_mixed s).mix.trans (MixEngine.outputs_eq ..)

/-- A sample of a bus in a mix frame (R28, R29). -/
theorem mixIn_busOf (s : State) (bus : Fin 3) (i : Fin 48) :
    (s.mixIn.busOf s.mixSources bus.val).get i =
      clampSample (roundGain (busSum (mixWork s).mix.ramps s.mixSources bus i)) := by
  rw [State.busOf, busFrame_get, MixEngine.accumulators_get, mixIn_ramps]

/-- The number of samples of a bus that a clamp changes (R30). -/
def clampCount (ramps : Vector Ramp 60) (x : Vector Frame 20) (bus : Fin 3) : Nat :=
  (List.finRange 48).countP fun i => clampSample (roundGain (busSum ramps x bus i)) ≠ roundGain (busSum ramps x bus i)

theorem mixIn_clampsOf (s : State) (bus : Fin 3) :
    s.mixIn.clampsOf s.mixSources bus.val = clampCount (mixWork s).mix.ramps s.mixSources bus := by
  rw [State.clampsOf, busClamps_eq, clampCount]
  simp only [MixEngine.accumulators_get, mixIn_ramps]

theorem clampCount_ne_zero (ramps : Vector Ramp 60) (x : Vector Frame 20) (bus : Fin 3) :
    clampCount ramps x bus ≠ 0 ↔
      ∃ i, clampSample (roundGain (busSum ramps x bus i)) ≠ roundGain (busSum ramps x bus i) := by
  rw [clampCount, ← Nat.pos_iff_ne_zero, List.countP_pos_iff]
  simp

/-- The latches of the mix engine after a mix frame (R30, R31). -/
theorem mixWork_latches (s : State) :
    let count := clampCount (mixWork s).mix.ramps s.mixSources
    (mixWork s).notices.latches.get 2 = (s.notices.latches.get 2).or
      (if count 0 + count 1 = 0 then none else some [Word.nat (count 0 + count 1)]) ∧
    (mixWork s).notices.latches.get 3 = (s.notices.latches.get 3).or
      (if climbs s.mix.counters.pgmLeft (count 0) s.mix.climbLeft then some [0]
        else if climbs s.mix.counters.pgmRight (count 1) s.mix.climbRight then some [1] else none) := by
  intro count
  have hlatches := (mixWork_mixed s).latches
  have hinputs := (State.Inputs.mixIn s).latches
  have hleft : s.mixIn.clampsOf s.mixSources 0 = count 0 := mixIn_clampsOf s 0
  have hright : s.mixIn.clampsOf s.mixSources 1 = count 1 := mixIn_clampsOf s 1
  have hmix : s.mixIn.mix.counters = s.mix.counters ∧ s.mixIn.mix.climbLeft = s.mix.climbLeft ∧
      s.mixIn.mix.climbRight = s.mix.climbRight := by
    rw [s.mixIn_mix]; exact ⟨rfl, rfl, rfl⟩
  have hstands (k : Fin 25) (hk : k ∉ [0, 1, 13, 21, 23]) : s.mixIn.notices.latches.get k = s.notices.latches.get k :=
    hinputs.stands hk
  rw [hleft, hright, hmix.1, hmix.2.1, hmix.2.2] at hlatches
  refine ⟨?_, ?_⟩
  · rw [hlatches 2 (by decide) (by decide), hstands 2 (by decide)]
    have hor : ∀ o : Option (List Word), ((o.or none).or none) = o := by simp
    rw [if_neg (fun e => nomatch e.2), if_neg (fun e => nomatch e.2), hor]
    by_cases h : count 0 + count 1 = 0
    · rw [if_pos h, if_neg (by rw [h]; decide)]
    · rw [if_neg h, if_pos ⟨decide_eq_true h, rfl⟩]
  · rw [hlatches 3 (by decide) (by decide), hstands 3 (by decide)]
    cases climbs s.mix.counters.pgmLeft (count 0) s.mix.climbLeft <;>
      cases climbs s.mix.counters.pgmRight (count 1) s.mix.climbRight <;>
        cases s.notices.latches.get 3 <;> simp
    all_goals rfl

theorem climbs_eq (k n : Nat) (mark : Bool) :
    climbs k n mark = decide (k < 32768 ∧ 32768 ≤ min (k + n) 65535 ∧ mark = false) := by
  unfold climbs bump Config.counterHalf Config.counterMax
  cases mark <;> by_cases h : k < 32768 <;> simp [h]

theorem State.Sources.of_cleared {s : State} {x : Vector Frame 20} (h : s.cleared.Sources x) : s.Sources x :=
  ⟨h.studio, h.caller, h.plays, h.silent, h.starts⟩

/-- What a mix frame may change, and that it sends on the studio port alone. -/
theorem mixWork_frame (s : State) :
    mixWork s = { s with
      studio := (mixWork s).studio
      mix := (mixWork s).mix
      line := { s.line with feeds := (mixWork s).line.feeds }
      clips := (mixWork s).clips
      players := (mixWork s).players
      intake := (mixWork s).intake
      air := (mixWork s).air
      link := (mixWork s).link
      notices := (mixWork s).notices
      sent := (mixWork s).sent } ∧ s.Tells (mixWork s) := by
  have hinputs := State.Inputs.mixIn s
  have hmixed := mixWork_mixed s
  generalize mixWork s = t at hmixed
  have hline : t.line = { s.line with feeds := t.line.feeds } := by
    have hd : s.mixIn.line = s.line := by rw [hinputs.frame]; rfl
    rw [hmixed.line, hd]
  refine ⟨?_, State.Tells.trans (t := s.stepped) (.of_eq rfl) (hinputs.tells.trans hmixed.tells)⟩
  rw [← hline]
  conv_lhs => rw [hmixed.frame, hinputs.frame]
  rfl

/-- A sample of a feed after a mix frame (R32). -/
theorem mixWork_feed (s : State) (k : Fin 6) (i : Fin 48) :
    ((mixWork s).line.feeds.get k).get i = (s.feedAt (mixWork s).mix.ramps s.mixSources k i).1 := by
  rw [(mixWork_mixed s).line, (mixWork_routes s).1, ← feedSample_eq, Vector.get_map, feedsFrom_get, Vector.get_map,
    Vector.get_ofFn]

/-- The feed counter after a mix frame (R36). -/
theorem mixWork_feedCounter (s : State) :
    (mixWork s).mix.counters.feed = min (s.mix.counters.feed + ((List.finRange 6).map fun k =>
      (List.finRange 48).countP fun i => (s.feedAt (mixWork s).mix.ramps s.mixSources k i).2).sum) 65535 := by
  have hfeed : s.mixIn.mix.counters.feed = s.mix.counters.feed := by rw [s.mixIn_mix]; rfl
  have hcount : (mixWork s).mix.counters.feed =
      bump s.mixIn.mix.counters.feed (feedClamps (s.mixIn.feedsFrom (readGates (adoptMix s)) s.mixSources)) :=
    congrArg (fun m => m.counters.feed) (mixWork_mix s)
  rw [hcount, (mixWork_routes s).1, hfeed, feedClamps_eq]
  simp only [feedSample_eq]
  rfl

/-- The items of a mix engine whose outputs have been set. -/
theorem MixEngine.outputs_items {m e : MixEngine} {a b c n : Nat} {pgm : PgmFrame} {cue l r : Frame}
    (h : e = { m.clamped a b c with
      pgm := pgm, cue := cue, studioLeft := l, studioRight := r
      counters := { (m.clamped a b c).counters with feed := n } }) :
    (e.pgm = pgm ∧ e.cue = cue ∧ e.studioLeft = l ∧ e.studioRight = r) ∧
    (e.clampedLeft = decide (a ≠ 0) ∧ e.clampedRight = decide (b ≠ 0) ∧ e.clampedCue = decide (c ≠ 0)) ∧
    (e.counters.pgmLeft = min (m.counters.pgmLeft + a) 65535 ∧
      e.counters.pgmRight = min (m.counters.pgmRight + b) 65535 ∧ e.counters.cue = min (m.counters.cue + c) 65535) ∧
    e.climbLeft = (m.climbLeft || climbs m.counters.pgmLeft a m.climbLeft) ∧
    e.climbRight = (m.climbRight || climbs m.counters.pgmRight b m.climbRight) := by
  subst h
  exact ⟨⟨rfl, rfl, rfl, rfl⟩, ⟨rfl, rfl, rfl⟩, ⟨rfl, rfl, rfl⟩, rfl, rfl⟩

/-- The frames of a mix frame, with the peak and the quiet flag (R28, R29, R37, R38). -/
theorem mixWork_frames (s : State) :
    (mixWork s).mix.pgm = s.mixIn.pgmFrame s.mixSources ∧ (mixWork s).mix.cue = s.mixIn.busOf s.mixSources 2 ∧
      (mixWork s).mix.studioLeft = s.mixSources.get 0 ∧ (mixWork s).mix.studioRight = s.mixSources.get 1 :=
  (MixEngine.outputs_items (mixWork_mix s)).1

theorem mixIn_threshold (s : State) : s.mixIn.mix.threshold = s.setting Setting.silenceThreshold := by
  rw [s.mixIn_mix]
  rfl

theorem pgmFrame_items (d : State) (x : Vector Frame 20) :
    (d.pgmFrame x).audio = ⟨d.busOf x 0, d.busOf x 1⟩ ∧
      (d.pgmFrame x).peak = framePeak ⟨d.busOf x 0, d.busOf x 1⟩ ∧
      ((d.pgmFrame x).quiet = true ↔ (d.pgmFrame x).peak ≤ d.mix.threshold) := ⟨rfl, rfl, decide_eq_true_iff⟩

theorem pgmFrame_peak (d : State) (x : Vector Frame 20) :
    (∀ i, ((d.pgmFrame x).audio.left.get i).natAbs ≤ (d.pgmFrame x).peak ∧
      ((d.pgmFrame x).audio.right.get i).natAbs ≤ (d.pgmFrame x).peak) ∧
    ∃ i, ((d.pgmFrame x).audio.left.get i).natAbs = (d.pgmFrame x).peak ∨
      ((d.pgmFrame x).audio.right.get i).natAbs = (d.pgmFrame x).peak :=
  framePeak_spec ⟨d.busOf x 0, d.busOf x 1⟩

/-- The counts, the marks and the clamp flags of a mix frame (R30, R31). -/
theorem mixWork_counts (s : State) :
    let count := clampCount (mixWork s).mix.ramps s.mixSources
    ((mixWork s).mix.clampedLeft = decide (count 0 ≠ 0) ∧ (mixWork s).mix.clampedRight = decide (count 1 ≠ 0) ∧
      (mixWork s).mix.clampedCue = decide (count 2 ≠ 0)) ∧
    ((mixWork s).mix.counters.pgmLeft = min (s.mix.counters.pgmLeft + count 0) 65535 ∧
      (mixWork s).mix.counters.pgmRight = min (s.mix.counters.pgmRight + count 1) 65535 ∧
      (mixWork s).mix.counters.cue = min (s.mix.counters.cue + count 2) 65535) ∧
    (mixWork s).mix.climbLeft = (s.mix.climbLeft || climbs s.mix.counters.pgmLeft (count 0) s.mix.climbLeft) ∧
    (mixWork s).mix.climbRight = (s.mix.climbRight || climbs s.mix.counters.pgmRight (count 1) s.mix.climbRight) := by
  have hitems := (MixEngine.outputs_items (mixWork_mix s)).2
  have hleft : s.mixIn.clampsOf s.mixSources 0 = _ := mixIn_clampsOf s 0
  have hright : s.mixIn.clampsOf s.mixSources 1 = _ := mixIn_clampsOf s 1
  have hcue : s.mixIn.clampsOf s.mixSources 2 = _ := mixIn_clampsOf s 2
  have hmix : s.mixIn.mix.counters = s.mix.counters ∧ s.mixIn.mix.climbLeft = s.mix.climbLeft ∧
      s.mixIn.mix.climbRight = s.mix.climbRight := by
    rw [s.mixIn_mix]; exact ⟨rfl, rfl, rfl⟩
  rw [hleft, hright, hcue, hmix.1, hmix.2.1, hmix.2.2] at hitems
  exact hitems

end Sys2Proof.Machine

/-!
PROOF. The sums and feeds of a mix frame, and that no caller hears itself (R28 to R38).
-/

namespace Sys2Proof.Machine

/-- The frames of a mix frame, sample by sample (R28, R29, R37, R38). -/
theorem mixFrame_buses (s : State) (i : Fin 48) :
    (mixWork s).mix.pgm.audio.left.get i =
        clampSample (roundGain (busSum (mixWork s).mix.ramps s.mixSources 0 i)) ∧
      (mixWork s).mix.pgm.audio.right.get i =
        clampSample (roundGain (busSum (mixWork s).mix.ramps s.mixSources 1 i)) ∧
      (mixWork s).mix.cue.get i = clampSample (roundGain (busSum (mixWork s).mix.ramps s.mixSources 2 i)) := by
  obtain ⟨hpgm, hcue, -, -⟩ := mixWork_frames s
  have h0 := mixIn_busOf s 0 i
  have h1 := mixIn_busOf s 1 i
  have h2 := mixIn_busOf s 2 i
  rw [hpgm, hcue, (pgmFrame_items ..).1]
  exact ⟨h0, h1, h2⟩

/-- The peak and the quiet flag of the PGM frame (R37). -/
theorem mixFrame_peak (s : State) :
    (∀ i, ((mixWork s).mix.pgm.audio.left.get i).natAbs ≤ (mixWork s).mix.pgm.peak ∧
      ((mixWork s).mix.pgm.audio.right.get i).natAbs ≤ (mixWork s).mix.pgm.peak) ∧
    (∃ i, ((mixWork s).mix.pgm.audio.left.get i).natAbs = (mixWork s).mix.pgm.peak ∨
      ((mixWork s).mix.pgm.audio.right.get i).natAbs = (mixWork s).mix.pgm.peak) ∧
    ((mixWork s).mix.pgm.quiet = true ↔ (mixWork s).mix.pgm.peak ≤ s.setting Setting.silenceThreshold) := by
  obtain ⟨hpgm, -, -, -⟩ := mixWork_frames s
  have hpeak := pgmFrame_peak s.mixIn s.mixSources
  have hquiet := (pgmFrame_items s.mixIn s.mixSources).2.2
  rw [mixIn_threshold] at hquiet
  rw [hpgm]
  exact ⟨hpeak.1, hpeak.2, hquiet⟩

/-- The feed sample of a line is clipped: what the feed counter counts (R36). -/
theorem feedAt_snd (s : State) (ramps : Vector Ramp 60) (x : Vector Frame 20) (k : Fin 6) (i : Fin 48) :
    let changed (a : Int) : Bool := clampSample a ≠ a
    let trim (y : Int) : Int := (y * (s.tables.gain.get (s.line.conf.get k).trim : Int) + 8192) / 16384
    (s.feedAt ramps x k i).2 =
      match (s.line.line k).state with
      | .onAir => changed (othersSum ramps x k i) || changed (trim (clampSample (othersSum ramps x k i)))
      | .screening => changed (trim ((x.get ⟨s.setting Setting.talkback % 8, by omega⟩).get i))
      | .hold | .ready => changed (trim ((s.air.lastAir.left.get i + s.air.lastAir.right.get i + 1) / 2))
      | .idle | .ringing | .fault => false := by
  intro changed trim
  unfold State.feedAt
  cases (s.line.line k).state <;> rfl

/-- The feed sample of a line (R32 to R36). -/
theorem feedAt_fst (s : State) (ramps : Vector Ramp 60) (x : Vector Frame 20) (k : Fin 6) (i : Fin 48) :
    let trimmed (y : Int) : Int :=
      clampSample ((y * (s.tables.gain.get (s.line.conf.get k).trim : Int) + 8192) / 16384)
    (s.feedAt ramps x k i).1 =
      match (s.line.line k).state with
      | .onAir => trimmed (clampSample (othersSum ramps x k i))
      | .screening => trimmed ((x.get ⟨s.setting Setting.talkback % 8, by omega⟩).get i)
      | .hold | .ready => trimmed ((s.air.lastAir.left.get i + s.air.lastAir.right.get i + 1) / 2)
      | .idle | .ringing | .fault => 0 := by
  intro trimmed
  unfold State.feedAt
  cases (s.line.line k).state <;> rfl

theorem isSome_or_counts (o : Option (List Word)) (a b : Nat) :
    ((o.or (if a + b = 0 then none else some [Word.nat (a + b)])).isSome = true ↔ o.isSome = true ∨ a ≠ 0 ∨ b ≠ 0) := by
  have h : (if a + b = 0 then none else some [Word.nat (a + b)]).isSome = true ↔ a ≠ 0 ∨ b ≠ 0 := by
    split <;> simp <;> omega
  rw [← h, Option.isSome_or, Bool.or_eq_true]

/-- Settles O40: the buses, the counts and the feeds of a mix frame, from its sources by the multipliers of their routes. -/
theorem mixFrameSums : Obligations.MixFrameSums := by
  refine ⟨fun s => ?_, fun s => ?_⟩
  · obtain ⟨hframe, htells⟩ := mixWork_frame s.cleared
    have hbuses := mixFrame_buses s.cleared
    obtain ⟨hpeak, hsome, hquiet⟩ := mixFrame_peak s.cleared
    obtain ⟨⟨hleft, hright, hcue⟩, ⟨kleft, kright, kcue⟩, hclimbL, hclimbR⟩ := mixWork_counts s.cleared
    obtain ⟨-, -, hstudioL, hstudioR⟩ := mixWork_frames s.cleared
    obtain ⟨h2, h3⟩ := mixWork_latches s.cleared
    have hclamps := clampCount_ne_zero (mixWork s.cleared).mix.ramps s.cleared.mixSources
    refine ⟨mixWork s.cleared, s.cleared.mixSources, rfl, s.cleared.mixSources_sources.of_cleared, hframe, htells.link,
      htells.slots, ?_⟩
    generalize mixWork s.cleared = t at *
    generalize s.cleared.mixSources = x at *
    intro sum round clamp pgm
    refine ⟨hbuses, hpeak, hsome, hquiet, ?_, ?_, ?_, ?_, ?_, hstudioL, hstudioR⟩
    · rw [hleft, decide_eq_true_eq]; exact hclamps 0
    · rw [hright, decide_eq_true_eq]; exact hclamps 1
    · rw [hcue, decide_eq_true_eq]; exact hclamps 2
    · rw [h2, hleft, hright, decide_eq_true_eq, decide_eq_true_eq]
      exact isSome_or_counts ..
    · intro count climbs' k climbL climbR
      refine ⟨kleft, kright, kcue, ?_, ?_, ?_, h2⟩
      · rw [hclimbL, climbs_eq]; rfl
      · rw [hclimbR, climbs_eq]; rfl
      · rw [h3, climbs_eq, climbs_eq]; rfl
  · obtain ⟨hframe, htells⟩ := mixWork_frame s.cleared
    refine ⟨mixWork s.cleared, s.cleared.mixSources, rfl, s.cleared.mixSources_sources.of_cleared, ?_, ?_⟩
    · intro clamp changed trim clipped
      refine (mixWork_feedCounter s.cleared).trans ?_
      have hclipped (k : Fin 6) (i : Fin 48) :
          (s.cleared.feedAt (mixWork s.cleared).mix.ramps s.cleared.mixSources k i).2 = clipped k i := by
        rw [feedAt_snd]
        simp only [State.cleared_line, clipped]
        cases (s.line.line k).state <;> rfl
      simp only [hclipped]
      rfl
    · intro k i clamp trimmed y others
      have hfeed := mixWork_feed s.cleared k i
      rw [feedAt_fst] at hfeed
      simp only [State.cleared_line] at hfeed
      have hy : y = _ := hfeed
      cases hstate : (s.line.line k).state with
      | onAir => rw [hstate] at hy; exact hy
      | screening =>
        rw [hstate] at hy
        dsimp only
        intro c hc
        have hindex : (⟨s.setting Setting.talkback % 8, by omega⟩ : Fin 20) = c.castLE (by decide) :=
          Fin.ext (show s.setting Setting.talkback % 8 = c.val by have := c.isLt; omega)
        refine hy.trans ?_
        show trimmed ((s.cleared.mixSources.get ⟨s.setting Setting.talkback % 8, by omega⟩).get i) = _
        rw [hindex]
      | hold => rw [hstate] at hy; exact hy
      | ready => rw [hstate] at hy; exact hy
      | idle => rw [hstate] at hy; exact hy
      | ringing => rw [hstate] at hy; exact hy
      | fault => rw [hstate] at hy; exact hy

/-! ### No caller hears itself (R33) -/

/-- The state with another caller frame of line `k`. -/
def State.recalled (k : Fin 6) (f : Option Frame) (s : State) : State :=
  { s with line := { s.line with callers := s.line.callers.set k f } }

theorem playerGives_recalled (k : Fin 6) (f : Option Frame) (s : State) (p : Fin 3) :
    (s.recalled k f).playerGives p = s.playerGives p := by
  have hstarts : (s.recalled k f).fillStarts = s.fillStarts := rfl
  by_cases h : p = 2 → s.fillStarts = none
  · rw [State.playerGives_eq h, State.playerGives_eq (hstarts ▸ h)]
    rfl
  · rw [Classical.not_imp] at h
    obtain ⟨rfl, hne⟩ := h
    obtain ⟨n, hn⟩ := Option.ne_none_iff_exists'.mp hne
    rw [State.playerGives_starts hn, State.playerGives_starts (s := s.recalled k f) hn]
    rfl

theorem studioSources_recalled (k : Fin 6) (f : Option Frame) (s : State) :
    (studioRequest (s.recalled k f).stepped).2 = (studioRequest s.stepped).2 := by
  have hused : (s.recalled k f).stepped.usedFrame = s.stepped.usedFrame := rfl
  cases h : s.stepped.usedFrame with
  | some g => rw [studioRequest_used h, studioRequest_used (hused.trans h)]; rfl
  | none => rw [studioRequest_missed h, studioRequest_missed (hused.trans h)]

/-- The sources differ in the caller frame alone. -/
theorem mixSources_recalled (k : Fin 6) (f : Option Frame) (s : State) {j : Fin 20} (hj : j.val ≠ 8 + k.val) :
    (s.recalled k f).mixSources.get j = s.mixSources.get j := by
  have hplayers : (s.recalled k f).mixSources =
      joinSources (studioRequest s.stepped).2 (callerSources (s.recalled k f).mixIn)
        #v[(s.playerGives 0).left, (s.playerGives 0).right, (s.playerGives 1).left, (s.playerGives 1).right,
          (s.playerGives 2).left, (s.playerGives 2).right] := by
    rw [State.mixSources_eq, studioSources_recalled, playerGives_recalled, playerGives_recalled, playerGives_recalled]
  rw [hplayers, State.mixSources_eq]
  rcases Nat.lt_or_ge j.val 8 with h | h
  · exact (joinSources_studio _ _ _ ⟨j.val, h⟩ (by decide)).trans (joinSources_studio _ _ _ ⟨j.val, h⟩ (by decide)).symm
  · rcases Nat.lt_or_ge j.val 14 with h' | h'
    · have hjeq : j = ⟨8 + (⟨j.val - 8, by omega⟩ : Fin 6).val, by dsimp only; omega⟩ := Fin.ext (by dsimp only; omega)
      rw [hjeq, joinSources_caller, joinSources_caller]
      have hline : s.mixIn.line = s.line := by rw [(State.Inputs.mixIn s).frame]; rfl
      have hline' : (s.recalled k f).mixIn.line = (s.recalled k f).line := by
        rw [(State.Inputs.mixIn (s.recalled k f)).frame]; rfl
      simp only [callerSources, Vector.get_ofFn, hline, hline']
      have hget : (s.recalled k f).line.callers.get ⟨j.val - 8, by omega⟩ = s.line.callers.get ⟨j.val - 8, by omega⟩ := by
        rw [State.recalled, get_set, if_neg (by dsimp only; omega)]
      unfold LineUnit.callerFrame
      rw [hget]
      rfl
    · have hjeq : j = ⟨14 + (⟨j.val - 14, by omega⟩ : Fin 6).val, by dsimp only; omega⟩ := Fin.ext (by dsimp only; omega)
      rw [hjeq, joinSources_player, joinSources_player]

/-- Settles O41: the mix-minus takes the caller's own source out, and no other feed reads it. -/
theorem noCallerHearsItself : Obligations.NoCallerHearsItself := by
  intro s k f
  refine ⟨mixWork s.cleared, mixWork (s.cleared.recalled k f), rfl, rfl, ?_⟩
  have hramps : (mixWork (s.cleared.recalled k f)).mix.ramps = (mixWork s.cleared).mix.ramps := by
    rw [(mixWork_routes _).1, (mixWork_routes _).1]
    rfl
  have hothers : (s.cleared.recalled k f).mixSources.set (8 + k.val) Frame.silence =
      s.cleared.mixSources.set (8 + k.val) Frame.silence := by
    refine Vector.ext fun j hj => ?_
    rw [Vector.getElem_set, Vector.getElem_set]
    split
    · rfl
    · rename_i hne
      exact mixSources_recalled k f s.cleared (j := ⟨j, hj⟩) (Ne.symm hne)
  refine Vector.ext fun i hi => ?_
  have hfeed := mixWork_feed s.cleared k ⟨i, hi⟩
  have hfeed' := mixWork_feed (s.cleared.recalled k f) k ⟨i, hi⟩
  rw [hramps] at hfeed'
  refine hfeed.trans (Eq.trans ?_ hfeed'.symm)
  rw [feedAt_fst, feedAt_fst]
  have hstate : ((s.cleared.recalled k f).line.line k).state = (s.cleared.line.line k).state := rfl
  rw [hstate]
  cases (s.cleared.line.line k).state with
  | onAir =>
    dsimp only
    unfold othersSum
    rw [hothers]
    rfl
  | screening =>
    dsimp only
    rw [mixSources_recalled k f s.cleared (by dsimp only; omega)]
    rfl
  | _ => rfl

end Sys2Proof.Machine

/-!
PROOF. The player orders (R108 to R111).
-/

namespace Sys2Proof.Machine

/-! ### The arguments (R108) -/

theorem playerArg_val {p : Fin 2} {w : Word} (h : w.toNat = p.val) : playerArg w = some (p.castLE (by decide)) := by
  unfold playerArg
  fin_cases p
  · rw [if_pos (show w = 0 from BitVec.eq_of_toNat_eq h)]; rfl
  · have h1 : w.toNat = 1 := h
    have h0 : w ≠ 0 := fun e => by rw [e] at h1; cases h1
    rw [if_neg h0, if_pos (show w = 1 from BitVec.eq_of_toNat_eq h1)]; rfl

theorem playerArg_none {w : Word} (h : 1 < w.toNat) : playerArg w = none := by
  unfold playerArg
  have h0 : w ≠ 0 := fun e => by rw [e] at h; cases h
  have h1 : w ≠ 1 := fun e => by rw [e] at h; exact absurd h (by decide)
  rw [if_neg h0, if_neg h1]

/-- The words of a player record in a reply. -/
theorem playerWords_eq (p : Fin 3) (s : State) :
    playerWords p s = [Word.nat p.val, Word.nat (s.players.get p).state.code,
      Word.nat (((s.players.get p).slot.map Fin.val).getD 255), Word.nat (s.players.get p).position] := rfl

theorem playerRefused_words (ws : List Word) (s : State) :
    (playerRefused ws s).words =
      match ws with
      | [] => []
      | v :: _ =>
        if named : v.toNat < 3 then
          let r := s.players.get ⟨v.toNat, named⟩
          [v, Word.nat r.state.code, Word.nat ((r.slot.map Fin.val).getD 255), Word.nat r.position]
        else [v, Word.none, 255, Word.none] := by
  cases ws with
  | nil => rfl
  | cons v more =>
    unfold playerRefused
    dsimp only
    by_cases h : v.toNat < 3
    · rw [dif_pos h, show finOf 3 v.toNat = some ⟨v.toNat, h⟩ from finOf_eq_some.mpr rfl]
      dsimp only
      rw [playerAnswer, playerWords_eq, Word.nat_toNat_self]
    · rw [dif_neg h, show finOf 3 v.toNat = none from finOf_eq_none.mpr (by omega)]
      rfl

/-- A player order refused for its arguments (log entry 27). -/
theorem exec_playerRefused {s : State} {o : QueuedOrder} {rest : List QueuedOrder} {code : Byte} {ws : List Word}
    (h : s.Heads o rest code ws) {handler : List Word → State → Answer}
    (ha : handler ws (s.taking rest) = playerRefused ws (s.taking rest)) :
    perform (takeCode code handler) s = .next (s.answered o rest .refusedArgument (playerRefused ws s).words) := by
  have hwords : (playerRefused ws (s.taking rest)).words = (playerRefused ws s).words := by
    rw [playerRefused_words, playerRefused_words]; rfl
  refine order_taking h (ha.trans ((playerRefused_answer ws _).trans ?_)) ?_
  · rw [hwords]
  · rw [playerRefused_words]
    split
    · simp
    · split <;> simp

/-! ### Holds -/

theorem ClipStore.hold_eq (c : ClipStore) (r : Reader) (n : Fin 32) :
    c.hold r n = { c with slots := (c.hold r n).slots, holds := c.holds.set r.val (some n) } := by
  have hholds : (c.hold r n).holds = c.holds.set r.val (some n) := by
    refine Vector.ext fun i hi => ?_
    have h := c.hold_holds r ⟨i, hi⟩ n
    rw [Vector.getElem_set]
    refine h.trans ?_
    by_cases hir : r.val = i
    · rw [if_pos (Fin.ext hir.symm), if_pos hir]
    · rw [if_neg fun e => hir (congrArg Fin.val e).symm, if_neg hir]
      rfl
  rw [← hholds]
  exact c.hold_frame r n

/-- A player order refused in the player's state, or for the slot's. -/
theorem exec_playerState {s : State} {o : QueuedOrder} {rest : List QueuedOrder} {code : Byte} {ws : List Word} {p : Fin 3}
    {r : Result} (h : s.Heads o rest code ws) {handler : List Word → State → Answer}
    (ha : handler ws (s.taking rest) = playerAnswer p r (s.taking rest)) :
    perform (takeCode code handler) s = .next (s.answered o rest r
      [Word.nat p.val, Word.nat (s.players.get p).state.code,
        Word.nat (((s.players.get p).slot.map Fin.val).getD 255), Word.nat (s.players.get p).position]) :=
  order_taking (t := s) h ha (by simp)

/-- A player order taken: the store and the players changed. -/
theorem exec_playerMoved {s : State} {o : QueuedOrder} {rest : List QueuedOrder} {code : Byte} {ws : List Word} {p : Fin 3}
    {c : ClipStore} {v : Vector Player 3} (h : s.Heads o rest code ws) {handler : List Word → State → Answer}
    (ha : handler ws (s.taking rest) = playerAnswer p .done { s.taking rest with clips := c, players := v }) :
    perform (takeCode code handler) s = .next ({ s with clips := c, players := v }.answered o rest .done
      [Word.nat p.val, Word.nat (v.get p).state.code, Word.nat (((v.get p).slot.map Fin.val).getD 255),
        Word.nat (v.get p).position]) :=
  order_taking (t := { s with clips := c, players := v }) h ha (by simp)

theorem answerPlayerCue_val {p : Fin 2} {n : Fin 32} {w v : Word} (hw : w.toNat = p.val) (hv : v.toNat = n.val) (s : State) :
    answerPlayerCue [w, v] s = cueSlot (p.castLE (by decide)) n s := by
  simp only [answerPlayerCue, playerArg_val hw, slotArg_val hv]

theorem answerPlayerStart_val {p : Fin 2} {n : Fin 32} {w v : Word} (hw : w.toNat = p.val) (hv : v.toNat = n.val)
    (s : State) : answerPlayerStart [w, v] s = startSlot (p.castLE (by decide)) n s := by
  simp only [answerPlayerStart, playerArg_val hw, slotArg_val hv]

/-- The conditions of a cue or a start on a slot (R109, R110). -/
theorem cueable_taking {s : State} {rest : List QueuedOrder} {p : Fin 3} {n : Fin 32} :
    (((s.taking rest).player p).state ≠ .running && cueable p n (s.taking rest)) = true ↔
      (s.players.get p).state ≠ .running ∧ (s.clips.slots.get n).state = .ready ∧ (s.clips.slots.get n).kind = .cart ∧
        (s.clips.holds.get p.castSucc = some n ∨ (s.clips.slots.get n).useCount < 3) := by
  rw [Bool.and_eq_true, decide_eq_true_eq, cueable_iff, ClipStore.playable, ClipStore.canHold, Bool.and_eq_true,
    Bool.or_eq_true, decide_eq_true_eq, decide_eq_true_eq, decide_eq_true_eq, decide_eq_true_eq, and_assoc]
  exact Iff.rfl

/-- The slots once a hold has been taken on slot `n`, with its stamp as given. -/
theorem hold_slots (c : ClipStore) (r : Reader) (n m : Fin 32) (stamp : Option (BitVec 32)) :
    ((c.hold r n).modSlot n fun t => { t with stamp := stamp }).slots.get m =
      { c.slots.get m with
        useCount :=
          if c.holds.get r = some n then (c.slots.get m).useCount
          else if m = n then (c.slots.get m).useCount + 1
          else if c.holds.get r = some m then (c.slots.get m).useCount - 1
          else (c.slots.get m).useCount
        stamp := if m = n then stamp else (c.slots.get m).stamp } := by
  rw [ClipStore.modSlot_get, ClipStore.hold_get]
  split_ifs <;> rfl

theorem hold_slots_unstamped (c : ClipStore) (r : Reader) (n m : Fin 32) :
    (c.hold r n).slots.get m =
      { c.slots.get m with
        useCount :=
          if c.holds.get r = some n then (c.slots.get m).useCount
          else if m = n then (c.slots.get m).useCount + 1
          else if c.holds.get r = some m then (c.slots.get m).useCount - 1
          else (c.slots.get m).useCount
        stamp := if m = n then (c.slots.get n).stamp else (c.slots.get m).stamp } := by
  rw [ClipStore.hold_get]
  by_cases hm : m = n
  · subst hm
    split_ifs <;> rfl
  · split_ifs <;> rfl

section
variable {s : State} {o : QueuedOrder} {rest : List QueuedOrder} {p : Fin 2} {n : Fin 32} {w v : Word}

/-- PLAYER-CUE and PLAYER-START with a slot, taken (R109, R110). -/
theorem exec_cueTaken (hw : w.toNat = p.val) (hv : v.toNat = n.val)
    (hrunning : (s.players.get (p.castLE (by decide))).state ≠ .running) (hready : (s.clips.slots.get n).state = .ready)
    (hkind : (s.clips.slots.get n).kind = .cart)
    (hheld : s.clips.holds.get (p.castLE (by decide)) = some n ∨ (s.clips.slots.get n).useCount < 3) :
    let q : Fin 3 := p.castLE (by decide)
    let c := s.clips.hold (playerReader q) n
    (s.Heads o rest 0x58 [w, v] → exec .playerCue s =
      .next ({ s with clips := c, players := s.players.set p.val ⟨.cued, some n, 0⟩ }.answered o rest .done
        [Word.nat p.val, Word.nat PlayerState.cued.code, Word.nat n.val, Word.nat 0])) ∧
    (s.Heads o rest 0x59 [w, v] → exec .playerStart s =
      .next ({ s with
        clips := c.modSlot n fun t => { t with stamp := some s.frameCount }
        players := s.players.set p.val ⟨.running, some n, 0⟩ }.answered o rest .done
        [Word.nat p.val, Word.nat PlayerState.running.code, Word.nat n.val, Word.nat 0])) := by
  intro q c
  have hcue : ((((s.taking rest).player q).state ≠ .running && cueable q n (s.taking rest)) = true) :=
    cueable_taking.mpr ⟨hrunning, hready, hkind, hheld⟩
  have hget (x : Player) : (s.players.set p.val x).get q = x := get_set_self s.players q x
  refine ⟨fun h => ?_, fun h => ?_⟩
  · have hanswer := (answerPlayerCue_val hw hv (s.taking rest)).trans (if_pos hcue)
    have hexec := exec_playerMoved (handler := answerPlayerCue) (p := q) (c := c)
      (v := s.players.set p.val ⟨.cued, some n, 0⟩) h hanswer
    rw [hget] at hexec
    exact hexec
  · have hanswer := (answerPlayerStart_val hw hv (s.taking rest)).trans (if_pos hcue)
    have hexec := exec_playerMoved (handler := answerPlayerStart) (p := q)
      (c := c.modSlot n fun t => { t with stamp := some s.frameCount })
      (v := s.players.set p.val ⟨.running, some n, 0⟩) h hanswer
    rw [hget] at hexec
    exact hexec

/-- PLAYER-CUE and PLAYER-START with a slot, refused in the player's or the slot's state (R109, R110). -/
theorem exec_cueRefused (hw : w.toNat = p.val) (hv : v.toNat = n.val)
    (hrefuse : (s.players.get (p.castLE (by decide))).state = .running ∨ (s.clips.slots.get n).state ≠ .ready ∨
      (s.clips.slots.get n).kind ≠ .cart ∨
      (s.clips.holds.get (p.castLE (by decide)) ≠ some n ∧ 3 ≤ (s.clips.slots.get n).useCount)) :
    let q : Fin 3 := p.castLE (by decide)
    let refused : State := s.answered o rest .refusedState
      [Word.nat p.val, Word.nat (s.players.get q).state.code,
        Word.nat (((s.players.get q).slot.map Fin.val).getD 255), Word.nat (s.players.get q).position]
    (s.Heads o rest 0x58 [w, v] → exec .playerCue s = .next refused) ∧
    (s.Heads o rest 0x59 [w, v] → exec .playerStart s = .next refused) := by
  intro q refused
  have hcue : ¬ ((((s.taking rest).player q).state ≠ .running && cueable q n (s.taking rest)) = true) := by
    rw [cueable_taking]
    rintro ⟨hrunning, hready, hkind, hheld⟩
    rcases hrefuse with h | h | h | ⟨h, h'⟩
    · exact hrunning h
    · exact h hready
    · exact h hkind
    · exact hheld.elim h (by omega)
  refine ⟨fun h => ?_, fun h => ?_⟩
  · exact exec_playerState h ((answerPlayerCue_val hw hv (s.taking rest)).trans (if_neg hcue))
  · exact exec_playerState h ((answerPlayerStart_val hw hv (s.taking rest)).trans (if_neg hcue))

/-- PLAYER-START without a slot (R110). -/
theorem exec_startCued (hw : w.toNat = p.val) (h : s.Heads o rest 0x59 [w]) :
    let q : Fin 3 := p.castLE (by decide)
    let r := s.players.get q
    (∀ n, r.state = .cued → r.slot = some n → exec .playerStart s =
      .next ({ s with
        clips := s.clips.modSlot n fun t => { t with stamp := some s.frameCount }
        players := s.players.set p.val { r with state := .running } }.answered o rest .done
          [Word.nat p.val, Word.nat PlayerState.running.code, Word.nat ((r.slot.map Fin.val).getD 255),
            Word.nat r.position])) ∧
    (r.state ≠ .cued → exec .playerStart s = .next (s.answered o rest .refusedState
      [Word.nat p.val, Word.nat r.state.code, Word.nat ((r.slot.map Fin.val).getD 255), Word.nat r.position])) := by
  intro q r
  have hanswer : answerPlayerStart [w] (s.taking rest) = startCued q (s.taking rest) := by
    simp only [answerPlayerStart, playerArg_val hw]
    rfl
  have hstart : startCued q (s.taking rest) = match r.state, r.slot with
      | .cued, some n => playerAnswer q .done (stampSlot n (modPlayer q (fun r => { r with state := .running }) (s.taking rest)))
      | _, _ => playerAnswer q .refusedState (s.taking rest) := by
    unfold startCued
    rfl
  refine ⟨fun n hstate hslot => ?_, fun hstate => ?_⟩
  · rw [hstate, hslot] at hstart
    have hexec := exec_playerMoved (handler := answerPlayerStart) (p := q)
      (c := s.clips.modSlot n fun t => { t with stamp := some s.frameCount })
      (v := s.players.set p.val { r with state := .running }) h (hanswer.trans hstart)
    rw [show (s.players.set p.val { r with state := .running }).get q = _ from get_set_self s.players q _] at hexec
    exact hexec
  · refine exec_playerState h (hanswer.trans (hstart.trans ?_))
    cases hr : r.state with
    | cued => exact absurd hr hstate
    | idle => rfl
    | running => rfl

/-- PLAYER-STOP (R111). -/
theorem exec_playerStop (hw : w.toNat = p.val) (h : s.Heads o rest 0x5A [w]) :
    let q : Fin 3 := p.castLE (by decide)
    let r := s.players.get q
    (r.state = .idle → exec .playerStop s = .next (s.answered o rest .done
      [Word.nat p.val, Word.nat r.state.code, Word.nat ((r.slot.map Fin.val).getD 255), Word.nat r.position])) ∧
    (∀ n, r.state ≠ .idle → s.clips.holds.get (playerReader q) = some n → exec .playerStop s =
      .next ({ s with
        clips := { s.clips with
          slots := s.clips.slots.set n { s.clips.slots.get n with useCount := (s.clips.slots.get n).useCount - 1 }
          holds := s.clips.holds.set p.val none }
        players := s.players.set p.val Player.idle }.answered o rest .done
          [Word.nat p.val, Word.nat Player.idle.state.code, Word.nat 255, Word.nat 0])) := by
  intro q r
  have hanswer : answerPlayerStop [w] (s.taking rest) = match r.state with
      | .idle => playerAnswer q .done (s.taking rest)
      | .cued | .running => playerAnswer q .done (idlePlayer q (s.taking rest)) := by
    simp only [answerPlayerStop, playerArg_val hw]
    rfl
  refine ⟨fun hstate => ?_, fun n hstate hheld => ?_⟩
  · rw [hstate] at hanswer
    exact exec_playerState h hanswer
  · have hidle : answerPlayerStop [w] (s.taking rest) = playerAnswer q .done (idlePlayer q (s.taking rest)) := by
      rw [hanswer]
      cases hr : r.state with
      | idle => exact absurd hr hstate
      | cued => rfl
      | running => rfl
    have hrelease : s.clips.release (playerReader q) = { s.clips with
        slots := s.clips.slots.set n { s.clips.slots.get n with useCount := (s.clips.slots.get n).useCount - 1 }
        holds := s.clips.holds.set p.val none } := by
      unfold ClipStore.release
      rw [hheld]
      rfl
    rw [idlePlayer_eq] at hidle
    have hexec := exec_playerMoved (handler := answerPlayerStop) (p := q) (c := s.clips.release (playerReader q))
      (v := s.players.set p.val Player.idle) h hidle
    rw [hrelease, show (s.players.set p.val Player.idle).get q = _ from get_set_self s.players q _] at hexec
    exact hexec

end

end Sys2Proof.Machine

/-!
PROOF. The players in a mix frame: a player's frame, the end of its clip, and what the rest of the frame leaves of it
(R112, R113).
-/

namespace Sys2Proof.Machine

/-! ### A player's frame -/

theorem playerFrame_still {p : Fin 3} {s : State} (h : (s.players.get p).state ≠ .running) : (playerFrame p s).1 = s := by
  unfold playerFrame State.player
  dsimp only
  split
  · rename_i n hstate hslot
    exact absurd hstate h
  · rfl

/-- Player `p` runs on slot `n` at a position, holding it. -/
structure State.Plays (p : Fin 3) (n : Fin 32) (position : Nat) (s : State) : Prop where
  player : s.players.get p = ⟨.running, some n, position⟩
  hold : s.clips.holds.get p.castSucc = some n

/-- Player `p` stands IDLE, holding nothing. -/
structure State.Stopped (p : Fin 3) (s : State) : Prop where
  player : s.players.get p = ⟨.idle, none, 0⟩
  hold : s.clips.holds.get p.castSucc = none

/-- From `s` to `t` a clip's end has been counted and latched with a detail. -/
structure State.EndLatched (detail : List Word) (s t : State) : Prop where
  ended : min (s.clips.counters.ended + 1) 65535 ≤ t.clips.counters.ended
  latched : t.notices.latches.get 13 = some ((s.notices.latches.get 13).getD detail)

theorem modPlayer_get (p : Fin 3) (f : Player → Player) (s : State) :
    (modPlayer p f s).players.get p = f (s.players.get p) :=
  (modPlayer_player p p f s).trans (if_pos rfl)

theorem State.Plays.moved {p : Fin 3} {n : Fin 32} {i j : Nat} {s : State} (h : s.Plays p n i) :
    (modPlayer p (fun r => { r with position := j }) s).Plays p n j :=
  ⟨by rw [modPlayer_get, h.player], h.hold⟩

theorem runSlot_plays (p : Fin 3) (n : Fin 32) (s : State) : (runSlot p n s).Plays p n 0 := by
  rw [runSlot_eq]
  exact ⟨get_set_self s.players p _, by
    show (((s.clips.hold (playerReader p) n).modSlot n _).holds).get p.castSucc = _
    rw [ClipStore.modSlot_holds, ClipStore.hold_holds]
    exact if_pos rfl⟩

theorem idlePlayer_stopped (p : Fin 3) (s : State) : (idlePlayer p s).Stopped p := by
  rw [idlePlayer_eq]
  exact ⟨get_set_self s.players p _, (ClipStore.release_holds ..).trans (if_pos rfl)⟩

/-- The frame of a running player that holds its slot within the slot's length. -/
theorem playerFrame_running {p : Fin 3} {n : Fin 32} {i : Nat} {s : State} (h : s.Plays p n i)
    (hi : i < (s.clips.slots.get n).length) :
    (playerFrame p s).1 =
      if i + 1 = (s.clips.slots.get n).length then clipEnd p n (modPlayer p (fun r => { r with position := i + 1 }) s)
      else modPlayer p (fun r => { r with position := i + 1 }) s := by
  have hbump : modPlayer p (fun r => { r with position := r.position + 1 }) s =
      modPlayer p (fun r => { r with position := i + 1 }) s := by
    unfold modPlayer
    rw [State.modPlayers, State.modPlayers, h.player]
  unfold playerFrame State.player
  dsimp only
  simp only [h.player, ClipStore.readFor]
  rw [if_pos (show s.clips.holds.get (playerReader p) = some n from h.hold), if_pos hi, hbump]

/-! ### The end of a clip (R112, R113) -/

section
variable (p : Fin 3) (n : Fin 32) (a : EndAction) (x : Option (Option (Fin 32))) (s : State)

theorem endClip_players : (endClip p n a x s).players = s.players := by rw [endClip, latch_players]; rfl

theorem endClip_holds : (endClip p n a x s).clips.holds = s.clips.holds := by rw [endClip, latch_clips]; rfl

theorem endClip_slots : (endClip p n a x s).clips.slots = s.clips.slots := by rw [endClip, latch_clips]; rfl

theorem endClip_chainFailure :
    (endClip p n a x s).clips.counters.chainFailure =
      min (s.clips.counters.chainFailure + if x = some none then 1 else 0) 65535 := by
  rw [endClip, latch_clips]; rfl

theorem endClip_endLatched {chain continued : Word}
    (hchain : Word.option (x.map fun target => if target.isSome then 0 else 1) = chain)
    (hcontinued : Word.place ((x.getD none).map Fin.val) = continued) :
    s.EndLatched [Word.nat p.val, Word.nat n.val, Word.nat a.code, chain, continued] (endClip p n a x s) where
  ended := by rw [endClip, latch_clips]; exact Nat.le_refl _
  latched := by
    rw [endClip, latch_get, if_pos (show (13 : Fin 25) = NoticeKind.playerEnd.index from rfl), hchain, hcontinued]
    rfl

end

theorem State.Plays.endClip {p : Fin 3} {m : Fin 32} {i : Nat} {s : State} (h : s.Plays p m i) (n : Fin 32)
    (a : EndAction) (x : Option (Option (Fin 32))) : (endClip p n a x s).Plays p m i :=
  ⟨by rw [endClip_players, h.player], by rw [endClip_holds, h.hold]⟩

theorem State.Stopped.endClip {p : Fin 3} {s : State} (h : s.Stopped p) (n : Fin 32)
    (a : EndAction) (x : Option (Option (Fin 32))) : (endClip p n a x s).Stopped p :=
  ⟨by rw [endClip_players, h.player], by rw [endClip_holds, h.hold]⟩

/-- What the end of a clip's latch stands on when the change before it latches no end and counts no end. -/
theorem State.EndLatched.of_before {detail : List Word} {s t u : State}
    (hended : t.clips.counters = s.clips.counters) (hlatch : t.notices.latches.get 13 = s.notices.latches.get 13)
    (h : t.EndLatched detail u) : s.EndLatched detail u :=
  ⟨by rw [← hended]; exact h.ended, by rw [← hlatch]; exact h.latched⟩

theorem idlePlayer_counters (p : Fin 3) (s : State) : (idlePlayer p s).clips.counters = s.clips.counters := by
  rw [idlePlayer_eq, ClipStore.release_frame]

theorem runSlot_counters (p : Fin 3) (n : Fin 32) (s : State) : (runSlot p n s).clips.counters = s.clips.counters := by
  rw [runSlot_eq]
  show (s.clips.hold (playerReader p) n).counters = _
  rw [s.clips.hold_frame (playerReader p) n]

/-- Under STOP and SIGN_OFF a clip's end stops its player. -/
theorem endAction_stops {p : Fin 3} {n : Fin 32} {s : State}
    (h : (s.clips.conf.get n).endAction = .stop ∨ (s.clips.conf.get n).endAction = .signOff) :
    (endAction p n s).Stopped p ∧
      s.EndLatched [Word.nat p.val, Word.nat n.val, Word.nat (s.clips.conf.get n).endAction.code, Word.none, 255]
        (endAction p n s) := by
  have hlatches : s.Inputs [21, 23] [p] (signOff (idlePlayer p s)) :=
    (State.Inputs.idlePlayer p s).trans ((State.Inputs.signOff _).mono (fun _ h => h) nofun)
  unfold endAction
  dsimp only
  rcases h with h | h
  · rw [h]
    exact ⟨(idlePlayer_stopped p s).endClip .., .of_before (idlePlayer_counters p s) rfl (endClip_endLatched (hchain := rfl) (hcontinued := rfl) ..)⟩
  · rw [h]
    have hframe := signOff_frame (idlePlayer p s)
    have hstopped := idlePlayer_stopped p s
    refine ⟨State.Stopped.endClip ⟨?_, ?_⟩ .., .of_before ?_ (hlatches.latches.stands (by decide)) (endClip_endLatched (hchain := rfl) (hcontinued := rfl) ..)⟩
    · rw [hframe]; exact hstopped.player
    · rw [hframe]; exact hstopped.hold
    · rw [hframe]; exact idlePlayer_counters p s

/-- Under CHAIN a clip's end begins the target, where it can take the player's hold. -/
theorem endAction_chains {p : Fin 3} {n : Fin 32} {s : State} (h : (s.clips.conf.get n).endAction = .chain)
    (hcue : cueable p (s.clips.conf.get n).chain s = true) :
    (endAction p n s).Plays p (s.clips.conf.get n).chain 0 ∧
      ((endAction p n s).clips.slots.get (s.clips.conf.get n).chain).stamp = some s.frameCount ∧
      s.EndLatched [Word.nat p.val, Word.nat n.val, Word.nat EndAction.chain.code, 0,
        Word.nat (s.clips.conf.get n).chain.val] (endAction p n s) := by
  unfold endAction
  dsimp only
  rw [h]
  dsimp only
  rw [if_pos hcue]
  refine ⟨(runSlot_plays ..).endClip .., ?_, .of_before (runSlot_counters ..) rfl (endClip_endLatched (hchain := rfl) (hcontinued := rfl) ..)⟩
  rw [endClip_slots, runSlot_eq]
  exact congrArg Slot.stamp ((ClipStore.modSlot_get ..).trans (if_pos rfl))

/-- Under CHAIN a clip's end stops the player where the target cannot take its hold. -/
theorem endAction_chainFails {p : Fin 3} {n : Fin 32} {s : State} (h : (s.clips.conf.get n).endAction = .chain)
    (hcue : ¬ cueable p (s.clips.conf.get n).chain s = true) :
    (endAction p n s).Stopped p ∧
      min (s.clips.counters.chainFailure + 1) 65535 ≤ (endAction p n s).clips.counters.chainFailure ∧
      s.EndLatched [Word.nat p.val, Word.nat n.val, Word.nat EndAction.chain.code, 1, 255] (endAction p n s) := by
  unfold endAction
  dsimp only
  rw [h]
  dsimp only
  rw [if_neg hcue]
  refine ⟨(idlePlayer_stopped p s).endClip .., ?_, .of_before (idlePlayer_counters ..) rfl (endClip_endLatched (hchain := rfl) (hcontinued := rfl) ..)⟩
  rw [endClip_chainFailure, idlePlayer_counters, if_pos rfl]

/-! ### The rest of the mix frame -/

/-- The fill player latches no end. -/
theorem State.Inputs.fillFrame (s : State) : s.Inputs [] [fillPlayer] (Machine.playerFrame fillPlayer s).1 := by
  unfold Machine.playerFrame
  dsimp only
  split
  · split
    · dsimp only
      split
      · rw [clipEnd_fill]
        exact (State.Inputs.modPlayer fillPlayer _ s).trans (.modPlayer ..)
      · exact .modPlayer ..
    · exact .refl ..
    · exact .refl ..
  · exact .refl ..

/-- What the stages after the input stage leave of the players A and B and of the clip store. -/
theorem mixWork_players (s : State) :
    (∀ p ≠ fillPlayer, (mixWork s).players.get p = s.mixIn.players.get p ∧
      (mixWork s).clips.holds.get (playerReader p) = s.mixIn.clips.holds.get (playerReader p)) ∧
    s.mixIn.clips.Rereads (mixWork s).clips ∧
    (mixWork s).notices.latches.get 13 = s.mixIn.notices.latches.get 13 ∧
    ∀ m, ((mixWork s).clips.slots.get m).stamp = (s.mixIn.clips.slots.get m).stamp ∨
      ((mixWork s).clips.slots.get m).stamp = some s.mixIn.frameCount := by
  have hmixed := mixOutputs_mixed (readGates (adoptMix s)) s.mixSources s.mixIn
  have hafter := State.Inputs.afterHandOff s.mixIn.mix.fillSilent (s.mixIn.pgmFrame s.mixSources).quiet
    (s.mixIn.out (readGates (adoptMix s)) s.mixSources)
  have hout := s.mixIn.out_eq (readGates (adoptMix s)) s.mixSources
  rw [← mixOutputs_eq, ← mixWork_eq] at hafter
  rw [← mixWork_eq] at hmixed
  have hclips : (s.mixIn.out (readGates (adoptMix s)) s.mixSources).clips = s.mixIn.clips := by rw [hout]
  have hplayers : (s.mixIn.out (readGates (adoptMix s)) s.mixSources).players = s.mixIn.players := by rw [hout]
  have hcount : (s.mixIn.out (readGates (adoptMix s)) s.mixSources).frameCount = s.mixIn.frameCount := by rw [hout]
  refine ⟨fun p hp => ⟨?_, ?_⟩, ?_, ?_, fun m => ?_⟩
  · rw [hafter.players p (by simpa using hp), hplayers]
  · rw [hafter.holds p (by simpa using hp), hclips]
  · rw [← hclips]; exact hafter.rereads
  · rw [hmixed.latches 13 (by decide) (by decide), if_neg (fun e => nomatch e.2), if_neg (fun e => nomatch e.2),
      if_neg (fun e => nomatch e.2), Option.or_none, Option.or_none, Option.or_none]
  · rw [← hclips, ← hcount]; exact hafter.stamps m

/-- The state after player A's or B's frame. -/
def State.afterPlayer (s : State) (p : Fin 3) : State := (playerFrame p (s.beforePlayer p)).1

/-- What a mix frame makes of player A or B, and of the ends latched, once that player has had its frame. -/
structure State.Finishes (p : Fin 3) (v t : State) : Prop where
  player : t.players.get p = v.players.get p
  hold : t.clips.holds.get p.castSucc = v.clips.holds.get p.castSucc
  rereads : v.clips.Rereads t.clips
  kept : ∀ d, v.notices.latches.get 13 = some d → t.notices.latches.get 13 = some d
  stamps : ∀ m, (t.clips.slots.get m).stamp = (v.clips.slots.get m).stamp ∨
    (t.clips.slots.get m).stamp = some v.frameCount

theorem State.Inputs.finishes {ks : List (Fin 25)} {ps : List (Fin 3)} {s t : State} (h : s.Inputs ks ps t) {p : Fin 3}
    (hp : p ∉ ps) : s.Finishes p t :=
  ⟨h.players p hp, h.holds p hp, h.rereads, fun _ hd => h.latches.kept hd, h.stamps⟩

theorem mixWork_finishes (s : State) {p : Fin 3} (hp : p ≠ fillPlayer) {v : State} {ks : List (Fin 25)} {ps : List (Fin 3)}
    (hv : v.Inputs ks ps s.mixIn) (hps : p ∉ ps) : v.Finishes p (mixWork s) := by
  obtain ⟨hplayers, hrereads, hlatch, hstamps⟩ := mixWork_players s
  have hcount : s.mixIn.frameCount = v.frameCount := by rw [hv.frame]
  have hfin := hv.finishes hps
  refine ⟨(hplayers p hp).1.trans hfin.player, (hplayers p hp).2.trans hfin.hold, hfin.rereads.trans hrereads,
    fun d hd => hlatch.trans (hfin.kept d hd), fun m => ?_⟩
  rcases hstamps m with hm | hm
  · rw [hm]; exact hfin.stamps m
  · rw [hm, hcount]; exact .inr rfl

theorem State.mixIn_afterB (s : State) : s.mixIn = (playerFrame fillPlayer (s.afterPlayer 1)).1 := rfl

/-- What a mix frame makes of player A or B once it has had its frame; it latches no further end where the other player
does not run. -/
theorem afterPlayer_finishes (s : State) (p : Fin 2) :
    (s.afterPlayer (p.castLE (by decide))).Finishes (p.castLE (by decide)) (mixWork s) ∧
    (p = 1 ∨ (s.players.get 1).state ≠ .running →
      (mixWork s).notices.latches.get 13 = (s.afterPlayer (p.castLE (by decide))).notices.latches.get 13) := by
  obtain ⟨-, -, hlatch, -⟩ := mixWork_players s
  have hfill := State.Inputs.fillFrame (s.afterPlayer 1)
  rw [← State.mixIn_afterB] at hfill
  match p with
  | 1 =>
    exact ⟨mixWork_finishes s (by decide) hfill (by decide),
      fun _ => hlatch.trans (hfill.latches.stands (List.not_mem_nil))⟩
  | 0 =>
    have hB : (s.afterPlayer 0).Inputs [13, 21, 23] [playerB] (s.afterPlayer 1) :=
      State.Inputs.playerFrame playerB (s.afterPlayer 0)
    have hin : (s.afterPlayer 0).Inputs [13, 21, 23] [playerB, fillPlayer] s.mixIn :=
      (hB.mono (fun _ h => h) (by decide)).trans (hfill.mono nofun (by decide))
    refine ⟨mixWork_finishes s (by decide) hin (by decide), fun h => ?_⟩
    have hstill : (s.beforePlayer 1).players.get 1 = s.players.get 1 :=
      (s.beforePlayer_playing 1).player.trans ((State.Inputs.studioRequest s.stepped).players 1 (by decide))
    have hsame : s.afterPlayer 1 = s.beforePlayer 1 :=
      playerFrame_still (by rw [hstill]; exact h.resolve_left (by decide))
    refine hlatch.trans ((hfill.latches.stands (List.not_mem_nil)).trans ?_)
    rw [hsame]
    rfl

/-- Player A or B, and the ends latched, as the player comes to its frame. -/
structure State.Comes (s : State) (p : Fin 3) (u : State) : Prop where
  plays : ∀ n i, s.Plays p n i → u.Plays p n i
  rereads : s.clips.Rereads u.clips
  conf : u.clips.conf = s.tables.slotConf
  frameCount : u.frameCount = s.frameCount
  latch : p = 0 ∨ (s.players.get 0).state ≠ .running → u.notices.latches.get 13 = s.notices.latches.get 13

theorem beforePlayer_eq {s : State} {p : Fin 2} (h : p = 0 ∨ (s.players.get 0).state ≠ .running) :
    s.beforePlayer (p.castLE (by decide)) = adoptClips (studioRequest s.stepped).1 := by
  match p with
  | 0 => rfl
  | 1 =>
    have hstill : (adoptClips (studioRequest s.stepped).1).players.get 0 = s.players.get 0 :=
      (State.Inputs.studioRequest s.stepped).players 0 (by decide)
    exact playerFrame_still (by rw [show playerA = 0 from rfl, hstill]; exact h.resolve_left (by decide))

theorem playerAB_ne_fill (p : Fin 2) : (p.castLE (by decide) : Fin 3) ≠ fillPlayer := by
  revert p
  decide

theorem castPlayer_eq_zero (p : Fin 2) : (p.castLE (by decide) : Fin 3) = 0 ↔ p = 0 := by
  revert p
  decide

theorem beforePlayer_comes (s : State) (p : Fin 2) :
    s.Comes (p.castLE (by decide)) (s.beforePlayer (p.castLE (by decide))) := by
  have hplaying := s.beforePlayer_playing (p.castLE (by decide))
  have hrequest := State.Inputs.studioRequest s.stepped
  have hp : (p.castLE (by decide) : Fin 3) ∉ [fillPlayer] := by simpa using playerAB_ne_fill p
  refine ⟨fun n i h => ⟨?_, ?_⟩, hplaying.rereads, hplaying.conf, hplaying.frameCount, fun h => ?_⟩
  · rw [hplaying.player, hrequest.players _ hp]; exact h.player
  · exact hplaying.hold.trans ((hrequest.holds _ hp).trans h.hold)
  · rw [beforePlayer_eq (h.imp_left (castPlayer_eq_zero p).mp)]
    exact hrequest.latches.stands (by decide)

/-- A request that brings no break event and starts no fill player leaves the clip store alone. -/
theorem studioRequest_clips {s : State} (hbreak : ∀ f, s.usedFrame = some f → f.breakFlag = false)
    (hfill : s.usedFrame = none → (s.players.get 2).state ≠ .idle) : (studioRequest s).1.clips = s.clips := by
  cases hused : s.usedFrame with
  | some f =>
    rw [studioRequest_used hused]
    unfold useFrame studioBack
    dsimp only
    rw [hbreak f hused, if_neg nofun]
    split
    · rw [latch_clips]; rfl
    · rfl
  | none =>
    have hnone : s.fillStarts = none := by
      unfold State.fillStarts
      exact if_neg fun e => hfill hused e.2.2
    rw [studioRequest_missed hused]
    exact (missFrame_fill hused).2.trans (by rw [hnone]; rfl)

/-- A player's frame that stays within its clip, or is the last of it. -/
theorem playerFrame_ends {p : Fin 2} {n : Fin 32} {i : Nat} {u : State} (h : u.Plays (p.castLE (by decide)) n i)
    (hi : i < (u.clips.slots.get n).length) :
    (i + 1 < (u.clips.slots.get n).length → (playerFrame (p.castLE (by decide)) u).1.Plays (p.castLE (by decide)) n (i + 1)) ∧
    (i + 1 = (u.clips.slots.get n).length → (playerFrame (p.castLE (by decide)) u).1 =
      endAction (p.castLE (by decide)) n (modPlayer (p.castLE (by decide)) (fun r => { r with position := i + 1 }) u)) := by
  rw [playerFrame_running h hi]
  refine ⟨fun hlt => ?_, fun heq => ?_⟩
  · rw [if_neg (Nat.ne_of_lt hlt)]
    exact h.moved
  · rw [if_pos heq, clipEnd, if_neg (playerAB_ne_fill p)]

theorem State.Finishes.plays {p : Fin 3} {n : Fin 32} {i : Nat} {v t : State} (h : v.Finishes p t) (hv : v.Plays p n i) :
    t.Plays p n i := ⟨h.player.trans hv.player, h.hold.trans hv.hold⟩

theorem State.Finishes.stopped {p : Fin 3} {v t : State} (h : v.Finishes p t) (hv : v.Stopped p) : t.Stopped p :=
  ⟨h.player.trans hv.player, h.hold.trans hv.hold⟩

/-- A clip's end, counted and latched in the player's frame, is so after the mix frame. -/
theorem State.EndLatched.finishes {p : Fin 3} {detail : List Word} {s u v t : State} (h : u.EndLatched detail v)
    (hcomes : s.Comes p u) (hfin : v.Finishes p t) :
    min (s.clips.counters.ended + 1) 65535 ≤ t.clips.counters.ended ∧
      (p = 0 ∨ (s.players.get 0).state ≠ .running →
        t.notices.latches.get 13 = some ((s.notices.latches.get 13).getD detail)) := by
  refine ⟨?_, fun hA => ?_⟩
  · have := hcomes.rereads.ended
    have := h.ended
    have := hfin.rereads.ended
    omega
  · rw [← hcomes.latch hA]
    exact hfin.kept _ h.latched

/-- A failed chain counted in the player's frame is so after the mix frame. -/
theorem chainFailure_finishes {p : Fin 3} {s u v t : State} (hcomes : s.Comes p u) (hfin : v.Finishes p t)
    (h : min (u.clips.counters.chainFailure + 1) 65535 ≤ v.clips.counters.chainFailure) :
    min (s.clips.counters.chainFailure + 1) 65535 ≤ t.clips.counters.chainFailure := by
  have := hcomes.rereads.chainFailure
  have := hfin.rereads.chainFailure
  omega

/-- The bumped position of a player changes nothing that the end of its clip looks at. -/
theorem State.EndLatched.bumped {q : Fin 3} {f : Player → Player} {detail : List Word} {u v : State}
    (h : (modPlayer q f u).EndLatched detail v) : u.EndLatched detail v := ⟨h.ended, h.latched⟩

/-- What a mix frame makes of a player A or B that runs within its clip (R112, R113). -/
theorem mixFrame_player (s : State) (p : Fin 2) (n : Fin 32) (i : Nat)
    (hplays : s.Plays (p.castLE (by decide)) n i) (hi : i < (s.clips.slots.get n).length) :
    let q : Fin 3 := p.castLE (by decide)
    let conf := s.tables.slotConf.get n
    let t := mixWork s
    let latches (chain continued : Word) : Prop :=
      min (s.clips.counters.ended + 1) 65535 ≤ t.clips.counters.ended ∧
      (q = 0 ∨ (s.players.get 0).state ≠ .running → t.notices.latches.get 13 =
        some ((s.notices.latches.get 13).getD
          [Word.nat q.val, Word.nat n.val, Word.nat conf.endAction.code, chain, continued]))
    (i + 1 < (s.clips.slots.get n).length → t.Plays q n (i + 1)) ∧
    (i + 1 = (s.clips.slots.get n).length →
      (conf.endAction = .stop ∨ conf.endAction = .signOff → t.Stopped q ∧ latches Word.none 255) ∧
      (conf.endAction = .loop → t.Plays q n 0 ∧
        ((∀ j : Fin 3, j < 2 → j ≠ q → (s.players.get j).state ≠ .running) →
          t.notices.latches.get 13 = s.notices.latches.get 13)) ∧
      (conf.endAction = .chain → (∀ f, s.usedFrame = some f → f.breakFlag = false) →
        (s.usedFrame = none → (s.players.get 2).state ≠ .idle) → p = 0 ∨ (s.players.get 0).state ≠ .running →
        (((s.clips.slots.get conf.chain).state = .ready ∧ (s.clips.slots.get conf.chain).kind = .cart ∧
            (conf.chain = n ∨ (s.clips.slots.get conf.chain).useCount < 3)) →
          t.Plays q conf.chain 0 ∧ (t.clips.slots.get conf.chain).stamp = some s.frameCount ∧
            latches 0 (Word.nat conf.chain.val)) ∧
        (¬ ((s.clips.slots.get conf.chain).state = .ready ∧ (s.clips.slots.get conf.chain).kind = .cart ∧
            (conf.chain = n ∨ (s.clips.slots.get conf.chain).useCount < 3)) →
          t.Stopped q ∧ latches 1 255 ∧
            min (s.clips.counters.chainFailure + 1) 65535 ≤ t.clips.counters.chainFailure))) := by
  intro q conf t latches
  have hcomes := beforePlayer_comes s p
  obtain ⟨hfin, hquiet⟩ := afterPlayer_finishes s p
  set u := s.beforePlayer (p.castLE (by decide)) with hu
  have hplaysU : u.Plays q n i := hcomes.plays n i hplays
  have hlength : (u.clips.slots.get n).length = (s.clips.slots.get n).length :=
    by rw [hcomes.rereads.slots n]
  have hconf : u.clips.conf.get n = conf := by rw [hcomes.conf]
  obtain ⟨hgoes, hends⟩ := playerFrame_ends hplaysU (by rw [hlength]; exact hi)
  rw [hlength] at hgoes hends
  set w := modPlayer q (fun r => { r with position := i + 1 }) u with hw
  have hconfW : w.clips.conf.get n = conf := hconf
  have hlatches {chain continued : Word} (h : w.EndLatched
      [Word.nat q.val, Word.nat n.val, Word.nat conf.endAction.code, chain, continued] (playerFrame q u).1) :
      latches chain continued := h.bumped.finishes hcomes hfin
  refine ⟨fun hlt => hfin.plays (hgoes hlt), fun heq => ?_⟩
  have hafter : (playerFrame q u).1 = endAction q n w := hends heq
  rw [State.afterPlayer, ← hu, hafter] at hfin hquiet
  rw [hafter] at hlatches
  refine ⟨fun h => ?_, fun h => ?_, fun h hbreak hfill hA => ?_⟩
  · obtain ⟨hstopped, hlatched⟩ := endAction_stops (p := q) (n := n) (s := w) (by rw [hconfW]; exact h)
    rw [hconfW] at hlatched
    exact ⟨hfin.stopped hstopped, hlatches hlatched⟩
  · rw [endAction_loop q n w (by rw [hconfW]; exact h)] at hfin hquiet
    refine ⟨hfin.plays hplaysU.moved.moved, fun hother => ?_⟩
    rw [hquiet ?_]
    · refine hcomes.latch ?_
      by_cases hq : q = 0
      · exact .inl hq
      · exact .inr (hother 0 (by decide) fun e => hq e.symm)
    · by_cases hp : p = 1
      · exact .inl hp
      · exact .inr (hother 1 (by decide) fun e => hp (Fin.ext (congrArg Fin.val e).symm))
  · have hclips : u.clips.slots = s.clips.slots := by
      rw [hu, beforePlayer_eq hA]
      have hclips : (studioRequest s.stepped).1.clips = s.clips := studioRequest_clips hbreak hfill
      show (studioRequest s.stepped).1.clips.slots = _
      rw [hclips]
    have hcue : cueable q conf.chain w = true ↔ (s.clips.slots.get conf.chain).state = .ready ∧
        (s.clips.slots.get conf.chain).kind = .cart ∧
          (conf.chain = n ∨ (s.clips.slots.get conf.chain).useCount < 3) := by
      have hheld : w.clips.holds.get (playerReader q) = some n := hplaysU.hold
      have hslots : w.clips.slots = s.clips.slots := hclips
      rw [cueable_iff, ClipStore.playable, ClipStore.canHold, hslots, hheld, Bool.and_eq_true, Bool.or_eq_true,
        decide_eq_true_eq, decide_eq_true_eq, decide_eq_true_eq, decide_eq_true_eq, and_assoc]
      exact and_congr_right' (and_congr_right' (or_congr ⟨fun e => (Option.some.inj e).symm, fun e => by rw [e]⟩ Iff.rfl))
    have hchain : (w.clips.conf.get n).endAction = .chain := by rw [hconfW]; exact h
    refine ⟨fun htarget => ?_, fun htarget => ?_⟩
    · obtain ⟨hruns, hstamp, hlatched⟩ := endAction_chains (p := q) hchain (by rw [hconfW]; exact hcue.mpr htarget)
      rw [hconfW] at hruns hstamp hlatched
      have hcount : w.frameCount = s.frameCount := hcomes.frameCount
      refine ⟨hfin.plays hruns, ?_, hlatches (by rw [h]; exact hlatched)⟩
      have hcount' : (endAction q n w).frameCount = s.frameCount := by
        rw [(State.Inputs.endAction q n w).frame]; exact hcount
      rcases hfin.stamps conf.chain with hs | hs
      · rw [hs, hstamp, hcount]
      · rw [hs, hcount']
    · obtain ⟨hstopped, hfailed, hlatched⟩ :=
        endAction_chainFails (p := q) hchain (by rw [hconfW]; exact fun e => htarget (hcue.mp e))
      refine ⟨hfin.stopped hstopped, hlatches (by rw [h]; exact hlatched), ?_⟩
      exact chainFailure_finishes hcomes hfin hfailed

section
variable {ws : List Word} {s : State}

/-- A player order refused for its first word, whatever its other words. -/
theorem playerArg_refused (h : ∃ v more, ws = v :: more ∧ 1 < v.toNat) : ∃ v more, ws = v :: more ∧ playerArg v = none := by
  obtain ⟨v, more, rfl, hv⟩ := h
  exact ⟨v, more, rfl, playerArg_none hv⟩

theorem answerPlayerCue_refused (h : ws.length ≠ 2 ∨ (∃ v more, ws = v :: more ∧ 1 < v.toNat) ∨
    ∃ v x, ws = [v, x] ∧ 31 < x.toNat) : answerPlayerCue ws s = playerRefused ws s := by
  unfold answerPlayerCue
  split
  · rename_i a b
    rcases h with h | h | ⟨v, x, he, hx⟩
    · exact absurd rfl h
    · obtain ⟨v, more, he, hv⟩ := playerArg_refused h
      cases he
      rw [hv]
    · cases he
      rw [slotArg_none hx]
      cases playerArg a <;> rfl
  · rfl

theorem answerPlayerStart_refused (h : (ws.length ≠ 1 ∧ ws.length ≠ 2) ∨ (∃ v more, ws = v :: more ∧ 1 < v.toNat) ∨
    ∃ v x, ws = [v, x] ∧ 31 < x.toNat) : answerPlayerStart ws s = playerRefused ws s := by
  unfold answerPlayerStart
  split
  · rename_i a
    rcases h with h | h | ⟨v, x, he, hx⟩
    · exact absurd rfl h.1
    · obtain ⟨v, more, he, hv⟩ := playerArg_refused h
      cases he
      rw [hv]
    · cases he
  · rename_i a b
    rcases h with h | h | ⟨v, x, he, hx⟩
    · exact absurd rfl h.2
    · obtain ⟨v, more, he, hv⟩ := playerArg_refused h
      cases he
      rw [hv]
    · cases he
      rw [slotArg_none hx]
      cases playerArg a <;> rfl
  · rfl

theorem answerPlayerStop_refused (h : ws.length ≠ 1 ∨ ∃ v more, ws = v :: more ∧ 1 < v.toNat) :
    answerPlayerStop ws s = playerRefused ws s := by
  unfold answerPlayerStop
  split
  · rename_i a
    rcases h with h | h
    · exact absurd rfl h
    · obtain ⟨v, more, he, hv⟩ := playerArg_refused h
      cases he
      rw [hv]
  · rfl

end

/-- Settles O23: the orders of the players, and the ends of their clips in a mix frame. -/
theorem playersCueStartStop : Obligations.PlayersCueStartStop := by
  refine ⟨fun s o rest p n w v hw hv => ?_, fun s o rest p w hw => ?_, fun s p n => ?_⟩
  · intro r held slot moved refused
    refine ⟨fun hrunning hready hkind hheld => ?_, fun hrefuse => exec_cueRefused hw hv hrefuse⟩
    obtain ⟨hcue, hstart⟩ := exec_cueTaken (o := o) (rest := rest) hw hv hrunning hready hkind hheld
    have hhold := s.clips.hold_eq (playerReader (p.castLE (by decide))) n
    refine ⟨fun h => ⟨_, hcue h, ?_, fun m => hold_slots_unstamped ..⟩, fun h => ⟨_, hstart h, ?_, fun m => hold_slots ..⟩⟩
    · conv_lhs => rw [hhold]
      rfl
    · conv_lhs => rw [ClipStore.modSlot, hhold]
      rfl
  · refine ⟨fun h => ⟨fun n hstate hslot => ?_, (exec_startCued hw h).2⟩, fun h => ⟨?_, fun n hstate hheld => ?_⟩, ?_⟩
    · exact (exec_startCued hw h).1 n hstate hslot
    · exact (exec_playerStop hw h).1
    · exact (exec_playerStop hw h).2 n hstate hheld
    · intro ws refused noPlayer noSlot
      have hrefused {code : Byte} {handler : List Word → State → Answer} (h : s.Heads o rest code ws)
          (ha : handler ws (s.taking rest) = playerRefused ws (s.taking rest)) :
          perform (takeCode code handler) s = .next refused := by
        exact (exec_playerRefused h ha).trans
          (congrArg (fun words => Host.Outcome.next (s.answered o rest .refusedArgument words)) (playerRefused_words ws s))
      refine ⟨fun h hws => hrefused h ?_, fun h hws => hrefused h ?_, fun h hws => hrefused h ?_⟩
      · exact answerPlayerCue_refused hws
      · exact answerPlayerStart_refused hws
      · exact answerPlayerStop_refused hws
  · intro q r conf length hrun hslot hhold hi
    obtain ⟨hgoes, hends⟩ := mixFrame_player s.cleared p n r.position ⟨by
      show s.players.get q = _
      rw [← hrun, ← hslot], hhold⟩ hi
    refine ⟨mixWork s.cleared, rfl, ?_⟩
    intro plays stops latches
    have hplays {m : Fin 32} {i : Nat} (h : (mixWork s.cleared).Plays q m i) : plays m i := ⟨h.player, h.hold⟩
    have hstops (h : (mixWork s.cleared).Stopped q) : stops := ⟨h.player, h.hold⟩
    have hlatches {chain continued : Word}
        (h : min (s.clips.counters.ended + 1) 65535 ≤ (mixWork s.cleared).clips.counters.ended ∧
          (q = 0 ∨ (s.players.get 0).state ≠ .running → (mixWork s.cleared).notices.latches.get 13 =
            some ((s.notices.latches.get 13).getD
              [Word.nat q.val, Word.nat n.val, Word.nat conf.endAction.code, chain, continued]))) :
        latches chain continued := ⟨h.1, fun hp => h.2 (hp.imp_left (castPlayer_eq_zero p).mpr)⟩
    refine ⟨fun h => hplays (hgoes h), fun h => ?_⟩
    obtain ⟨hstop, hloop, hchain⟩ := hends h
    refine ⟨fun he => ⟨hstops (hstop he).1, hlatches (hstop he).2⟩, fun he => ⟨hplays (hloop he).1, (hloop he).2⟩,
      fun he hbreak hfill hA => ?_⟩
    obtain ⟨hyes, hno⟩ := hchain he hbreak hfill hA
    intro target
    split
    · rename_i htarget
      obtain ⟨h1, h2, h3⟩ := hyes htarget
      exact ⟨hplays h1, h2, hlatches h3⟩
    · rename_i htarget
      obtain ⟨h1, h2, h3⟩ := hno htarget
      exact ⟨hstops h1, hlatches h2, h3⟩

end Sys2Proof.Machine

/-!
PROOF. The studio feed in a mix frame: a frame used or missed, the loss and the return, the break event, the fill player
(R7 to R12, R114).
-/

namespace Sys2Proof.Machine

/-! ### What the stages after the request leave alone -/

/-- A player's frame changes the clip store, the players, the link unit, the notices and what was sent. -/
theorem playerFrame_frame (p : Fin 3) (s : State) :
    (playerFrame p s).1 =
      { s with
        clips := (playerFrame p s).1.clips, players := (playerFrame p s).1.players, link := (playerFrame p s).1.link
        notices := (playerFrame p s).1.notices, sent := (playerFrame p s).1.sent } := by
  unfold playerFrame
  dsimp only
  split
  · split
    · dsimp only
      split
      · rw [clipEnd_frame]; rfl
      · rfl
    · rfl
    · rfl
  · rfl

theorem State.mixIn_frame (s : State) :
    s.mixIn = { (studioRequest s.stepped).1 with
      clips := s.mixIn.clips, players := s.mixIn.players, link := s.mixIn.link
      notices := s.mixIn.notices, sent := s.mixIn.sent } := by
  set c := adoptClips (studioRequest s.stepped).1 with hc
  have hmixIn : s.mixIn = (playerFrame fillPlayer (playerFrame playerB (playerFrame playerA c).1).1).1 := rfl
  rw [hmixIn, playerFrame_frame, playerFrame_frame, playerFrame_frame]
  rfl

/-- An active frame changes what the selection and a wake change. -/
theorem activity_frame (quiet : Bool) (s : State) :
    activity quiet s =
      { s with
        clips := (activity quiet s).clips, intake := (activity quiet s).intake, air := (activity quiet s).air
        link := (activity quiet s).link, notices := (activity quiet s).notices, sent := (activity quiet s).sent } := by
  unfold activity
  split
  · rfl
  · split
    · split
      · rw [select_frame, wakeOrAbort_frame]
      · rfl
    · split
      · rw [wakeOrAbort_frame]
      · rfl
    all_goals rfl

/-- Beyond the choice, an active frame reaches the wait set only. -/
theorem activity_busy {quiet : Bool} {s : State} (h : s.air.state ∉ [AirState.idle, .waitBreak]) :
    (activity quiet s).intake = s.intake ∧
      (activity quiet s).air = { s.air with waitSet := (activity quiet s).air.waitSet } := by
  have hwake : (wakeOrAbort 2 s).intake = s.intake ∧
      (wakeOrAbort 2 s).air = { s.air with waitSet := (wakeOrAbort 2 s).air.waitSet } := by
    rw [wakeOrAbort_frame]
    exact ⟨rfl, rfl⟩
  unfold activity
  split
  · exact ⟨rfl, rfl⟩
  · split
    · split
      · rw [select_busy]
        · exact hwake
        · rw [hwake.2]; exact h
      · exact ⟨rfl, rfl⟩
    · split
      · exact hwake
      · exact ⟨rfl, rfl⟩
    all_goals exact ⟨rfl, rfl⟩

/-- An active frame leaves the air stage alone but where it aborts a negotiation. -/
theorem activity_air {quiet : Bool} {s : State} (h : s.link.mode ≠ .sleepPending) : (activity quiet s).air = s.air := by
  unfold activity
  split
  · rfl
  · cases hm : s.link.mode with
    | sleepPending => exact absurd hm h
    | asleep =>
      dsimp only
      split
      · rw [wakeOrAbort_frame, hm]; rfl
      · rfl
    | _ => rfl

/-- The state after the hand-off of a mix frame, before the fill player's stop. -/
def State.reached (s : State) : State :=
  activity (s.mixIn.pgmFrame s.mixSources).quiet (s.mixIn.out (readGates (adoptMix s)) s.mixSources)

theorem mixWork_reached (s : State) : mixWork s = fillStop s.mixIn.mix.fillSilent s.reached :=
  (mixWork_eq s).trans (mixOutputs_eq ..)

/-- What an active frame leaves alone. -/
theorem activity_kept (quiet : Bool) (s : State) :
    (activity quiet s).studio = s.studio ∧ (activity quiet s).players = s.players ∧
      ∀ p, (activity quiet s).clips.holds.get (playerReader p) = s.clips.holds.get (playerReader p) :=
  ⟨by rw [activity_frame], by rw [activity_frame], fun p => (State.Inputs.activity quiet s).holds p nofun⟩

/-- The outputs of a mix frame leave the blocks before and behind the mix engine and the lines alone. -/
theorem State.out_kept (g : Gates) (x : Vector Frame 20) (s : State) :
    s.out g x = { s with
      mix := (s.out g x).mix, line := (s.out g x).line, notices := (s.out g x).notices, sent := (s.out g x).sent } := by
  have h := s.out_eq g x
  generalize s.out g x = o at h
  rw [h]

/-- What the outputs and an active frame leave alone. -/
theorem State.reached_kept (s : State) :
    s.reached.studio = s.mixIn.studio ∧ s.reached.players = s.mixIn.players ∧
      ∀ p, s.reached.clips.holds.get (playerReader p) = s.mixIn.clips.holds.get (playerReader p) := by
  have hout := s.mixIn.out_kept (readGates (adoptMix s)) s.mixSources
  have hactivity := activity_kept (s.mixIn.pgmFrame s.mixSources).quiet
    (s.mixIn.out (readGates (adoptMix s)) s.mixSources)
  rw [← State.reached] at hactivity
  generalize s.mixIn.out (readGates (adoptMix s)) s.mixSources = o at hout hactivity
  generalize s.reached = a at hactivity ⊢
  generalize s.mixIn = m at hout ⊢
  obtain ⟨hstudio, hplayers, hholds⟩ := hactivity
  rw [hout] at hstudio hplayers hholds
  exact ⟨hstudio, hplayers, hholds⟩

/-! ### The request (R7 to R12) -/

/-- The studio input once its settings have been adopted (R4). -/
def State.studioAdopted (s : State) : StudioInput := (adoptStudio s).studio

theorem adoptStudio_eq (s : State) : adoptStudio s = { s with studio := s.studioAdopted } := rfl

theorem State.studioAdopted_fields (s : State) :
    s.studioAdopted.width = s.setting Setting.studioWidth ∧ s.studioAdopted.expected = s.studio.expected ∧
      s.studioAdopted.lossLimit = s.setting Setting.studioLossLimit ∧ s.studioAdopted.lost = s.studio.lost ∧
      s.studioAdopted.missingRun = s.studio.missingRun ∧ s.studioAdopted.fillStopMarked = s.studio.fillStopMarked ∧
      s.studioAdopted.queue = (if s.studio.width = s.setting Setting.studioWidth then s.studio.queue else []) := by
  unfold State.studioAdopted adoptStudio
  rw [State.modStudio_studio]
  dsimp only
  split
  · rename_i h
    exact ⟨h, rfl, rfl, rfl, rfl, rfl, rfl⟩
  · exact ⟨rfl, rfl, rfl, rfl, rfl, rfl, rfl⟩

theorem State.studioAdopted_counters (s : State) :
    (s.studio.width = s.setting Setting.studioWidth → s.studioAdopted.counters = s.studio.counters) ∧
    s.studioAdopted.counters.missing = s.studio.counters.missing ∧
    s.studioAdopted.counters.losses = s.studio.counters.losses ∧
    (s.studio.width ≠ s.setting Setting.studioWidth →
      s.studioAdopted.counters.malformed = min (s.studio.counters.malformed + s.studio.queue.length) 65535) := by
  unfold State.studioAdopted adoptStudio
  rw [State.modStudio_studio]
  dsimp only
  split
  · rename_i h
    exact ⟨fun _ => rfl, rfl, rfl, fun hne => absurd h hne⟩
  · rename_i h
    exact ⟨fun he => absurd he h, rfl, rfl, fun _ => rfl⟩

/-- A break event changes what a commit changes. -/
theorem breakEvent_studio (s : State) : (breakEvent s).studio = s.studio := by
  unfold breakEvent
  split
  · rw [commit_frame]
  · rfl

/-- The studio input once a frame has been used, and what the return of the feed latches (R7, R10). -/
def StudioInput.using (f : ProgrammeFrame) (marked : Bool) (i : StudioInput) : StudioInput :=
  { i with
    expected := i.expected.map (· + 1), queue := i.queue.erase f, missingRun := 0, lost := false
    fillStopMarked := if i.lost = true then marked else i.fillStopMarked }

/-- A frame used, before its break event. -/
theorem useFrame_eq (f : ProgrammeFrame) (s : State) :
    ∃ u : State, useFrame f s = (if f.breakFlag = true then breakEvent u else u) ∧
      u = { s with
        studio := s.studio.using f ((s.player fillPlayer).state = .running), notices := u.notices, sent := u.sent } ∧
      s.Latches [1] u ∧
      (s.studio.lost = true →
        u.notices.latches.get 1 = some ((s.notices.latches.get 1).getD [Word.nat s.studio.missingRun])) := by
  unfold useFrame
  dsimp only
  cases hlost : s.studio.lost with
  | true =>
    refine ⟨_, rfl, ?_, ?_, fun _ => ?_⟩
    · rw [if_pos rfl, studioBack, latch_frame]
      simp [StudioInput.using, hlost, State.modStudio]
      rfl
    · rw [if_pos rfl, studioBack]
      refine State.Latches.latched (kind := .studioBack) (ks := [1]) ?_ (by decide) _
      exact .of_eq rfl
    · rw [if_pos rfl, studioBack, latch_get, if_pos (show (1 : Fin 25) = NoticeKind.studioBack.index from rfl)]
      rfl
  | false =>
    refine ⟨_, rfl, ?_, .of_eq rfl, nofun⟩
    simp [StudioInput.using, hlost, State.modStudio]

/-- What a used frame makes of the state. -/
theorem studioRequest_using {s : State} {f : ProgrammeFrame} (h : s.usedFrame = some f) :
    ∃ u : State, (studioRequest s).1 = (if f.breakFlag = true then breakEvent u else u) ∧
      u = { s with
        studio := s.studioAdopted.using f ((s.player fillPlayer).state = .running), notices := u.notices, sent := u.sent } ∧
      s.Latches [1] u ∧
      (s.studio.lost = true →
        u.notices.latches.get 1 = some ((s.notices.latches.get 1).getD [Word.nat s.studio.missingRun])) := by
  obtain ⟨u, hu, hframe, hlatches, hback⟩ := useFrame_eq f (adoptStudio s)
  obtain ⟨-, -, -, hlost, hrun, -, -⟩ := s.studioAdopted_fields
  refine ⟨u, ?_, hframe, State.Latches.trans (t := adoptStudio s) (.of_eq rfl) hlatches, fun hl => ?_⟩
  · rw [studioRequest_used h]; exact hu
  · have hback' := hback (hlost.trans hl)
    rw [show (adoptStudio s).studio.missingRun = s.studio.missingRun from hrun] at hback'
    exact hback'

theorem State.filled_frame (start : Option (Fin 32)) (s : State) :
    s.filled start = { s with clips := (s.filled start).clips, players := (s.filled start).players } := by
  cases start <;> rfl

/-- Whether a request that finds no frame loses the feed (R8). -/
abbrev State.Loses (s : State) : Prop :=
  s.studio.lost = false ∧ s.setting Setting.studioLossLimit ≤ min (s.studio.missingRun + 1) 65535

/-- What a request may change that brings no break event. -/
def State.Requested (s t : State) : Prop :=
  t = { s with studio := t.studio, clips := t.clips, players := t.players, notices := t.notices, sent := t.sent }

theorem State.Requested.latch {s t : State} (h : s.Requested t) (kind : NoticeKind) (detail : List Word) :
    s.Requested (latch kind detail t) := by
  unfold State.Requested at h ⊢
  rw [latch_studio, latch_clips, latch_players]
  conv_lhs => rw [latch_frame]
  generalize (Machine.latch kind detail t).notices = notices
  generalize (Machine.latch kind detail t).sent = frames
  rw [h]

theorem State.Requested.filled (s : State) (i : StudioInput) (start : Option (Fin 32)) :
    s.Requested (State.filled start { s with studio := i }) := by
  cases start <;> rfl

/-- What a missing frame makes of the state (R7 to R9). -/
theorem studioRequest_missing {s : State} (h : s.usedFrame = none) :
    s.Requested (studioRequest s).1 ∧
    (s.Loses → (studioRequest s).1.studio = s.studioAdopted.missed.losing ∧
      (studioRequest s).1.notices.latches.get 0 =
        some ((s.notices.latches.get 0).getD [Word.nat ((s.fillStarts.map Fin.val).getD 255)])) ∧
    (¬ s.Loses → (studioRequest s).1.studio = s.studioAdopted.missed ∧ (studioRequest s).1.notices = s.notices) := by
  obtain ⟨-, -, hlimit, hlost, hrun, -, -⟩ := s.studioAdopted_fields
  have hstarts := fillStarts_eq s
  have hfilled (u : State) (start : Option (Fin 32)) :
      (u.filled start).studio = u.studio ∧ (u.filled start).notices = u.notices := by
    rw [State.filled_frame]
    exact ⟨rfl, rfl⟩
  rw [studioRequest_missed h, missFrame_cases]
  rw [show (adoptStudio s).studio.lost = s.studio.lost from hlost,
    show (adoptStudio s).studio.lossLimit = s.setting Setting.studioLossLimit from hlimit,
    show (adoptStudio s).studio.missingRun = s.studio.missingRun from hrun]
  cases hl : s.studio.lost with
  | true =>
    have hnot : ¬ s.Loses := fun e => by rw [State.Loses, hl] at e; cases e.1
    rw [if_pos rfl]
    exact ⟨.filled s s.studioAdopted.missed _, fun e => absurd e hnot, fun _ => hfilled ..⟩
  | false =>
    rw [if_neg nofun]
    by_cases hloses : s.setting Setting.studioLossLimit ≤ min (s.studio.missingRun + 1) 65535
    · have hyes : s.Loses := ⟨hl, hloses⟩
      rw [if_pos (show _ ≤ bump s.studio.missingRun 1 from hloses)]
      rw [if_pos ⟨h, .inr hloses⟩] at hstarts
      refine ⟨State.Requested.latch (.filled s s.studioAdopted.missed.losing _) .., fun _ => ⟨?_, ?_⟩, fun e => absurd hyes e⟩
      · rw [latch_studio, (hfilled _ _).1]; rfl
      · rw [latch_get, if_pos (show (0 : Fin 25) = NoticeKind.studioLost.index from rfl), (hfilled _ _).2, hstarts]
        rfl
    · have hnot : ¬ s.Loses := fun e => hloses e.2
      rw [if_neg (show ¬ _ ≤ bump s.studio.missingRun 1 from hloses)]
      exact ⟨rfl, fun e => absurd e hnot, fun _ => ⟨rfl, rfl⟩⟩

/-! ### The break event (R11, R151) -/

theorem breakEvent_waits {s : State} {x : Identity} (h : s.air.state = .waitBreak) (hx : s.air.airing = some x) :
    breakEvent s = commit x s := by
  unfold breakEvent
  rw [h, hx]

/-- The air stage and the records after a break event in WAIT_BREAK. -/
structure State.Broke (x : Identity) (asleep : Prop) [Decidable asleep] (t : State) : Prop where
  airing : t.air.airing = some x
  present : t.air.present = true
  state : t.air.state = if asleep then .waitLink else .leadIn
  marked : ∀ q ∈ t.intake.queue, q.identity = x → q.onAir = true

theorem modRecord_onAir (a : AlertIntake) (x : Identity) :
    ∀ q ∈ (a.modRecord x fun r => { r with onAir := true }).queue, q.identity = x → q.onAir = true := by
  intro q hq hid
  obtain ⟨r, -, rfl⟩ := List.mem_map.mp hq
  by_cases h : r.identity = x
  · rw [if_pos h]
  · rw [if_neg h] at hid
    exact absurd hid h

theorem commit_broke (x : Identity) (s : State) :
    (commit x s).Broke x (s.link.mode = .asleep ∨ s.link.mode = .sleepPending) := by
  have h := commit_committed x s
  have hair := h.air
  refine ⟨by rw [hair], by rw [hair], ?_, ?_⟩
  · cases hm : s.link.mode with
    | asleep => rw [if_pos (.inl rfl)]; exact h.waitLink (by rw [hm]; rfl)
    | sleepPending => rw [if_pos (.inr rfl)]; exact h.waitLink (by rw [hm]; rfl)
    | _ => rw [if_neg (by decide)]; exact (h.leadIn (by rw [hm]; rfl)).1
  · rw [congrArg State.intake h.frame]
    exact modRecord_onAir s.intake x

theorem State.Broke.of_kept {x : Identity} {asleep : Prop} [Decidable asleep] {s t : State} (h : s.Broke x asleep)
    (hair : t.air = { s.air with waitSet := t.air.waitSet }) (hintake : t.intake = s.intake) : t.Broke x asleep :=
  ⟨by rw [hair]; exact h.airing, by rw [hair]; exact h.present, by rw [hair]; exact h.state, by rw [hintake]; exact h.marked⟩

end Sys2Proof.Machine

/-!
PROOF. The studio feed and the fill player over a whole mix frame (R7 to R12, R114).
-/

namespace Sys2Proof.Machine

/-! ### From the request to the end of the mix frame -/

theorem MixEngine.fillSilent_iff (m : MixEngine) :
    m.fillSilent = true ↔ ∀ r : Fin 60, 54 ≤ r.val → (m.ramps.get r).current = 0 := by
  have hall : m.fillSilent = true ↔
      ∀ r ∈ ([54, 55, 56, 57, 58, 59] : List (Fin 60)), (m.ramps.get r).current = 0 := by
    unfold MixEngine.fillSilent
    rw [List.all_eq_true]
    exact forall₂_congr fun r _ => decide_eq_true_iff
  have hmem (r : Fin 60) : r ∈ ([54, 55, 56, 57, 58, 59] : List (Fin 60)) ↔ 54 ≤ r.val := by
    revert r
    decide
  rw [hall]
  exact forall_congr' fun r => by rw [hmem]

/-- Where the fill player's stop is due, by the request's mark and the routes of sources 18 and 19 (R10). -/
def State.FillStops (s : State) : Prop :=
  (studioRequest s.stepped).1.studio.fillStopMarked = true ∧
    ∀ r : Fin 60, 54 ≤ r.val → ((mixWork s).mix.ramps.get r).current = 0

theorem fillStop_due {silent : Bool} {s : State} (h : silent = true ∧ s.studio.fillStopMarked = true) :
    fillStop silent s = (idlePlayer fillPlayer s).modStudio fun i => { i with fillStopMarked := false } := by
  unfold fillStop
  rw [h.1, h.2]
  rfl

theorem fillStop_not {silent : Bool} {s : State} (h : ¬ (silent = true ∧ s.studio.fillStopMarked = true)) :
    fillStop silent s = s := by
  unfold fillStop
  rw [if_neg fun e => h (Bool.and_eq_true_iff.mp e)]

/-- The studio input and the fill player at the end of the mix frame. -/
theorem mixWork_fillStop (s : State) :
    (s.FillStops → (mixWork s).studio = { (studioRequest s.stepped).1.studio with fillStopMarked := false } ∧
      (mixWork s).Stopped fillPlayer) ∧
    (¬ s.FillStops → (mixWork s).studio = (studioRequest s.stepped).1.studio ∧
      (mixWork s).players.get fillPlayer = s.mixIn.players.get fillPlayer ∧
      (mixWork s).clips.holds.get (playerReader fillPlayer) = s.mixIn.clips.holds.get (playerReader fillPlayer)) := by
  obtain ⟨hstudio, hplayers, hholds⟩ := s.reached_kept
  have hin : s.mixIn.studio = (studioRequest s.stepped).1.studio := by rw [s.mixIn_frame]
  have hramps : (mixWork s).mix.ramps = s.mixIn.mix.ramps := by rw [(mixWork_routes s).1, s.mixIn_mix]
  have hdue : s.FillStops ↔ s.mixIn.mix.fillSilent = true ∧ s.reached.studio.fillStopMarked = true := by
    rw [State.FillStops, MixEngine.fillSilent_iff, hramps, hstudio, hin, and_comm]
  rw [hin] at hstudio
  have hreached := mixWork_reached s
  generalize s.mixIn.mix.fillSilent = silent at hdue hreached
  generalize s.reached = a at hstudio hplayers hholds hdue hreached
  refine ⟨fun h => ?_, fun h => ?_⟩
  · rw [hreached, fillStop_due (hdue.mp h), ← hstudio]
    have hstopped := idlePlayer_stopped fillPlayer a
    exact ⟨rfl, ⟨hstopped.player, hstopped.hold⟩⟩
  · rw [hreached, fillStop_not fun e => h (hdue.mpr e), ← hstudio, hplayers]
    exact ⟨rfl, rfl, hholds fillPlayer⟩

/-- The latches of the studio input at the end of the mix frame. -/
theorem mixWork_studioLatches (s : State) {k : Fin 25} (hk : k ∉ [2, 3, 13, 21, 23]) :
    (mixWork s).notices.latches.get k = (studioRequest s.stepped).1.notices.latches.get k := by
  have hmixed := mixOutputs_mixed (readGates (adoptMix s)) s.mixSources s.mixIn
  rw [← mixWork_eq] at hmixed
  have hplayers : (studioRequest s.stepped).1.Inputs [13, 21, 23] [playerA, playerB, fillPlayer] s.mixIn :=
    .playerSources _
  simp only [List.mem_cons, List.not_mem_nil, or_false, not_or] at hk
  obtain ⟨h2, h3, h13, h21, h23⟩ := hk
  rw [hmixed.latches k h21 h23, if_neg (fun e => h3 e.2), if_neg (fun e => h3 e.2), if_neg (fun e => h2 e.2),
    Option.or_none, Option.or_none, Option.or_none]
  exact hplayers.latches.stands (by simp [h13, h21, h23])

theorem fillStop_airs (silent : Bool) (s : State) :
    (fillStop silent s).air = s.air ∧ (fillStop silent s).intake = s.intake ∧ (fillStop silent s).link = s.link ∧
      (fillStop silent s).notices = s.notices := by
  unfold fillStop
  split <;> exact ⟨rfl, rfl, rfl, rfl⟩

/-- What an active frame makes of the air stage and the records that the input stage left. -/
theorem activity_after {quiet : Bool} {m o a : State}
    (hout : o = { m with mix := o.mix, line := o.line, notices := o.notices, sent := o.sent })
    (ha : a = activity quiet o) :
    (m.air.state ∉ [AirState.idle, .waitBreak] → a.intake = m.intake ∧
      a.air = { m.air with waitSet := a.air.waitSet }) ∧
    (m.link.mode ≠ .sleepPending → a.air = m.air) := by
  have hair : o.air = m.air := by rw [hout]
  have hintake : o.intake = m.intake := by rw [hout]
  have hlink : o.link = m.link := by rw [hout]
  subst ha
  rw [← hair, ← hintake, ← hlink]
  exact ⟨activity_busy, activity_air⟩

/-- The air stage and the records at the end of the mix frame. -/
theorem mixWork_air (s : State) :
    (s.mixIn.air.state ∉ [AirState.idle, .waitBreak] → (mixWork s).intake = s.mixIn.intake ∧
      (mixWork s).air = { s.mixIn.air with waitSet := (mixWork s).air.waitSet }) ∧
    (s.mixIn.link.mode ≠ .sleepPending → (mixWork s).air = s.mixIn.air) := by
  obtain ⟨hair, hintake, -, -⟩ := fillStop_airs s.mixIn.mix.fillSilent s.reached
  rw [← mixWork_reached] at hair hintake
  rw [hair, hintake]
  exact activity_after (State.out_kept ..) (State.reached.eq_1 s)

/-! ### The fill player (R114) -/

/-- The fill player's frame on a slot that it holds. -/
theorem fillFrame_plays {n : Fin 32} {i : Nat} {u : State} (h : u.Plays fillPlayer n i) :
    (i < (u.clips.slots.get n).length → (playerFrame fillPlayer u).1.Plays fillPlayer n
      (if i + 1 = (u.clips.slots.get n).length then 0 else i + 1)) ∧
    (¬ i < (u.clips.slots.get n).length → (playerFrame fillPlayer u).1.Plays fillPlayer n i) := by
  refine ⟨fun hi => ?_, fun hi => ?_⟩
  · rw [playerFrame_running h hi]
    split
    · rw [clipEnd_fill]
      exact h.moved.moved
    · exact h.moved
  · have hbeyond : (playerFrame fillPlayer u).1 = u := by
      unfold playerFrame State.player
      dsimp only
      simp only [h.player, ClipStore.readFor]
      rw [if_pos (show u.clips.holds.get (playerReader fillPlayer) = some n from h.hold), if_neg hi]
    rw [hbeyond]
    exact h

/-- The fill player and its slot's stamp after the input stage. -/
theorem mixIn_fill (s : State) :
    (∀ n, s.fillStarts = some n →
      s.mixIn.Plays fillPlayer n (if 1 < (s.clips.slots.get n).length then 1 else 0) ∧
        (s.mixIn.clips.slots.get n).stamp = some s.frameCount) ∧
    (s.fillStarts = none → (s.players.get 2).state ≠ .running → s.mixIn.players.get 2 = s.players.get 2) ∧
    ∀ n i, s.Plays fillPlayer n i → i < (s.clips.slots.get n).length →
      s.mixIn.Plays fillPlayer n (if i + 1 = (s.clips.slots.get n).length then 0 else i + 1) := by
  have hplaying := s.beforePlayer_playing fillPlayer
  have hin : s.mixIn = (playerFrame fillPlayer (s.beforePlayer fillPlayer)).1 := rfl
  have hsources : (studioRequest s.stepped).1.Inputs [13, 21, 23] [playerA, playerB, fillPlayer] s.mixIn :=
    .playerSources _
  obtain ⟨hleft, hstarts⟩ := studioRequest_fill s.stepped
  set u := s.beforePlayer fillPlayer with hu
  have hlength (n : Fin 32) : (u.clips.slots.get n).length = (s.clips.slots.get n).length := by
    rw [hplaying.rereads.slots n]
  have hcount : (studioRequest s.stepped).1.frameCount = s.frameCount := by
    rw [(State.Inputs.studioRequest s.stepped).frame]
    rfl
  refine ⟨fun n hn => ?_, fun hnone hstill => ?_, fun n i hplays hi => ?_⟩
  · obtain ⟨hplayers, hclips⟩ := hstarts n hn
    have hrun := runSlot_plays fillPlayer n s.stepped
    rw [runSlot_eq] at hrun
    have hplays : u.Plays fillPlayer n 0 := by
      refine ⟨?_, hplaying.hold.trans ?_⟩
      · rw [hplaying.player, hplayers]; exact hrun.player
      · rw [hclips]; exact hrun.hold
    refine ⟨?_, ?_⟩
    · obtain ⟨hgoes, hstays⟩ := fillFrame_plays hplays
      rw [hlength] at hgoes hstays
      rw [hin]
      by_cases hzero : 0 < (s.clips.slots.get n).length
      · have h := hgoes hzero
        by_cases hone : 1 < (s.clips.slots.get n).length
        · rw [if_pos hone]
          rw [if_neg (by omega)] at h
          exact h
        · rw [if_neg hone]
          rw [if_pos (by omega)] at h
          exact h
      · rw [if_neg (by omega)]
        exact hstays hzero
    · rcases hsources.stamps n with hs | hs
      · rw [hs, hclips]
        exact congrArg Slot.stamp ((ClipStore.modSlot_get ..).trans (if_pos rfl))
      · rw [hs, hcount]
  · have hsame : u.players.get 2 = s.players.get 2 := hplaying.player.trans (hleft hnone).1
    rw [hin, playerFrame_still (by rw [show fillPlayer = 2 from rfl, hsame]; exact hstill)]
    exact hsame
  · have hnone : s.stepped.fillStarts = none := by
      unfold State.fillStarts
      refine if_neg fun e => ?_
      have hidle : (s.players.get fillPlayer).state = .idle := e.2.2
      rw [hplays.player] at hidle
      cases hidle
    have hplaysU : u.Plays fillPlayer n i :=
      ⟨hplaying.player.trans ((hleft hnone).1.trans hplays.player), hplaying.hold.trans ((hleft hnone).2.trans hplays.hold)⟩
    have h := (fillFrame_plays hplaysU).1 (by rw [hlength]; exact hi)
    rw [hlength] at h
    exact h

/-! ### The statement -/

/-- The studio input after a request that uses a frame. -/
theorem request_used_studio {s : State} {f : ProgrammeFrame} (h : s.usedFrame = some f) :
    (studioRequest s).1.studio = s.studioAdopted.using f ((s.player fillPlayer).state = .running) := by
  obtain ⟨u, hu, hframe, -, -⟩ := studioRequest_using h
  rw [hu]
  split
  · rw [breakEvent_studio, hframe]
  · rw [hframe]

/-- What every request makes of the studio input. -/
theorem request_studio (s : State) :
    (studioRequest s).1.studio.width = s.setting Setting.studioWidth ∧
      (studioRequest s).1.studio.expected = s.studio.expected.map (· + 1) ∧
      (studioRequest s).1.studio.lossLimit = s.setting Setting.studioLossLimit := by
  obtain ⟨hw, he, hl, -, -, -, -⟩ := s.studioAdopted_fields
  cases hused : s.usedFrame with
  | some f =>
    rw [request_used_studio hused, ← he]
    exact ⟨hw, rfl, hl⟩
  | none =>
    obtain ⟨-, hloses, hnot⟩ := studioRequest_missing hused
    by_cases h : s.Loses
    · rw [(hloses h).1, ← he]
      exact ⟨hw, rfl, hl⟩
    · rw [(hnot h).1, ← he]
      exact ⟨hw, rfl, hl⟩

/-- The mark for the fill player's stop as the request leaves it. -/
theorem request_marked (s : State) :
    (studioRequest s).1.studio.fillStopMarked = true ↔
      if s.usedFrame.isSome = true ∧ s.studio.lost = true then (s.players.get 2).state = .running
      else if s.usedFrame = none ∧ s.Loses then False
      else s.studio.fillStopMarked = true := by
  obtain ⟨-, -, -, hlost, -, hmarked, -⟩ := s.studioAdopted_fields
  cases hused : s.usedFrame with
  | some f =>
    rw [request_used_studio hused]
    unfold StudioInput.using
    dsimp only
    rw [hlost, hmarked]
    by_cases hl : s.studio.lost = true
    · rw [if_pos hl, if_pos ⟨rfl, hl⟩]
      exact decide_eq_true_iff
    · rw [if_neg hl, if_neg fun e => hl e.2, if_neg fun e => nomatch e.1]
  | none =>
    obtain ⟨-, hloses, hnot⟩ := studioRequest_missing hused
    rw [if_neg fun e => nomatch e.1]
    by_cases h : s.Loses
    · rw [(hloses h).1, if_pos ⟨rfl, h⟩]
      exact ⟨nofun, nofun⟩
    · rw [(hnot h).1, if_neg fun e => h e.2, ← hmarked]
      rfl

/-- A request that brings no break event leaves the air stage, the records and the link alone. -/
theorem studioRequest_calm {s : State} (h : ∀ f, s.usedFrame = some f → f.breakFlag = false) :
    s.Requested (studioRequest s).1 ∧ s.Latches [0, 1] (studioRequest s).1 := by
  cases hused : s.usedFrame with
  | some f =>
    obtain ⟨u, hu, hframe, hlatches, -⟩ := studioRequest_using hused
    rw [hu, if_neg (by rw [h f hused]; nofun)]
    refine ⟨?_, hlatches.mono (by decide)⟩
    unfold State.Requested
    rw [hframe]
  | none =>
    refine ⟨(studioRequest_missing hused).1, ?_⟩
    have hadopt : s.Inputs [0] [fillPlayer] (adoptStudio s) := (State.Inputs.adoptStudio s).mono nofun nofun
    rw [studioRequest_missed hused]
    exact (hadopt.trans (.missFrame _)).latches.mono (by decide)

/-- Where a sign-off changes nothing (R187). -/
def LinkUnit.IgnoresSignOff (l : LinkUnit) : Prop := l.autoSleep = false ∨ l.mode ∈ [LinkMode.sleepPending, .asleep]

theorem signOff_ignored {s : State} (h : s.link.IgnoresSignOff) : signOff s = s := by
  rcases h with h | h
  · exact signOff_off s h
  · unfold signOff
    split
    · rfl
    · cases hm : s.link.mode with
      | sleepPending => rfl
      | asleep => rfl
      | _ => rw [hm] at h; exact absurd h (by decide)

theorem endClip_link (p : Fin 3) (n : Fin 32) (a : EndAction) (x : Option (Option (Fin 32))) (s : State) :
    (endClip p n a x s).link = s.link ∧
      (endClip p n a x s).notices.latches.get 21 = s.notices.latches.get 21 := by
  rw [endClip, latch_link, latch_get, if_neg (show ¬ (21 : Fin 25) = NoticeKind.playerEnd.index by decide)]
  exact ⟨rfl, rfl⟩

/-- Where sign-offs are ignored, a player's frame leaves the link and its notice alone. -/
theorem playerFrame_ignored {p : Fin 3} {s : State} (h : s.link.IgnoresSignOff) :
    (playerFrame p s).1.link = s.link ∧
      (playerFrame p s).1.notices.latches.get 21 = s.notices.latches.get 21 := by
  have hend (n : Fin 32) (a : EndAction) (x : Option (Option (Fin 32))) {u : State} (hu : u.link = s.link)
      (hl : u.notices = s.notices) : (endClip p n a x u).link = s.link ∧
        (endClip p n a x u).notices.latches.get 21 = s.notices.latches.get 21 := by
    rw [← hu, ← hl]
    exact endClip_link ..
  have haction (n : Fin 32) {u : State} (hu : u.link = s.link) (hl : u.notices = s.notices) :
      (endAction p n u).link = s.link ∧
        (endAction p n u).notices.latches.get 21 = s.notices.latches.get 21 := by
    unfold endAction
    dsimp only
    split
    · exact hend _ _ _ hu hl
    · exact ⟨hu, congrArg (fun x => x.latches.get 21) hl⟩
    · split
      · exact hend _ _ _ hu hl
      · exact hend _ _ _ hu hl
    · rw [signOff_ignored (show (idlePlayer p u).link.IgnoresSignOff by rw [show (idlePlayer p u).link = s.link from hu]; exact h)]
      exact hend _ _ _ hu hl
  unfold playerFrame clipEnd
  dsimp only
  split
  · split
    · dsimp only
      split
      · split
        · exact ⟨rfl, rfl⟩
        · exact haction _ rfl rfl
      · exact ⟨rfl, rfl⟩
    · exact ⟨rfl, rfl⟩
    · exact ⟨rfl, rfl⟩
  · exact ⟨rfl, rfl⟩

/-- Where sign-offs are ignored, the players' frames leave the link and its notice alone. -/
theorem mixIn_ignored {s : State} (h : (studioRequest s.stepped).1.link.IgnoresSignOff) :
    s.mixIn.link = (studioRequest s.stepped).1.link ∧
      s.mixIn.notices.latches.get 21 = (studioRequest s.stepped).1.notices.latches.get 21 := by
  set c := adoptClips (studioRequest s.stepped).1 with hc
  have hmixIn : s.mixIn = (playerFrame fillPlayer (playerFrame playerB (playerFrame playerA c).1).1).1 := rfl
  obtain ⟨hA, hA'⟩ : (playerFrame playerA c).1.link = c.link ∧ _ := playerFrame_ignored h
  obtain ⟨hB, hB'⟩ := playerFrame_ignored (p := playerB) (s := (playerFrame playerA c).1) (by rw [hA]; exact h)
  obtain ⟨hF, hF'⟩ := playerFrame_ignored (p := fillPlayer) (s := (playerFrame playerB (playerFrame playerA c).1).1)
    (by rw [hB, hA]; exact h)
  rw [hmixIn, hF, hB, hA, hF', hB', hA']
  exact ⟨rfl, rfl⟩

/-- Settles O37: the request uses or misses a frame, and the rest of the mix frame leaves what it made, but for the fill
player's frame and stop. -/
theorem studioFeedUsedOrMissed : Obligations.StudioFeedUsedOrMissed := by
  intro s
  have hmarked := request_marked s.cleared.stepped
  have hfill := mixWork_fillStop s.cleared
  have hstart := mixIn_fill s.cleared
  have hair := mixWork_air s.cleared
  have hin := s.cleared.mixIn_frame
  obtain ⟨hw, he, hl, hlost, hrun, hmark, hqueue⟩ := s.cleared.stepped.studioAdopted_fields
  obtain ⟨hsame, hmissing, hlosses, hmalformed⟩ := s.cleared.stepped.studioAdopted_counters
  obtain ⟨hwidth, hexpected, hlimit⟩ := request_studio s.cleared.stepped
  refine ⟨mixWork s.cleared, rfl, ?_⟩
  intro i run loses fill start marked stops
  have hstops : stops ↔ s.cleared.FillStops := and_congr_left fun _ => hmarked.symm
  have hstudio : (mixWork s.cleared).studio =
      { (studioRequest s.cleared.stepped).1.studio with fillStopMarked := (mixWork s.cleared).studio.fillStopMarked } := by
    by_cases h : s.cleared.FillStops
    · rw [(hfill.1 h).1]
    · rw [(hfill.2 h).1]
  have hlatch (k : Fin 25) (hk : k ∉ [2, 3, 13, 21, 23]) := mixWork_studioLatches s.cleared hk
  refine ⟨by rw [hstudio]; exact hwidth, by rw [hstudio]; exact hexpected, by rw [hstudio]; exact hlimit, fun f hf => ?_,
    fun hbreak hmode hsleep => ?_, fun hused => ?_, fun h => ?_, fun h => ?_⟩
  · have hadopted := usedFrame_width (u := s.cleared.stepped) hf
    obtain ⟨u, hu, hframe, hlatches, hback⟩ := studioRequest_using (s := s.cleared.stepped) hf
    rw [hstudio, request_used_studio (s := s.cleared.stepped) hf]
    refine ⟨?_, rfl, rfl, hsame hadopted, fun hl => ?_, fun x hflag hwait hx => ?_⟩
    · show s.cleared.stepped.studioAdopted.queue.erase f = _
      rw [hqueue, if_pos hadopted]
      rfl
    · rw [hlatch 1 (by decide), hu]
      split
      · exact (State.Inputs.breakEvent u).latches.kept (hback hl)
      · exact hback hl
    · rw [if_pos hflag, breakEvent_waits (by rw [hframe]; exact hwait) (by rw [hframe]; exact hx)] at hu
      have hbroke := commit_broke x u
      rw [← hu] at hbroke
      have hbusy : s.cleared.mixIn.air.state ∉ [AirState.idle, .waitBreak] := by
        rw [hin, hbroke.state]
        split <;> decide
      obtain ⟨hintake, hairs⟩ := hair.1 hbusy
      rw [hin] at hintake hairs
      have hend := hbroke.of_kept hairs hintake
      have hmode : u.link = s.link := by rw [hframe]; rfl
      refine ⟨hend.airing, hend.present, ?_, hend.marked⟩
      rw [hend.state]
      simp only [hmode]
  · obtain ⟨hreq, -⟩ := studioRequest_calm (s := s.cleared.stepped) hbreak
    have hlink : (studioRequest s.cleared.stepped).1.link = s.link := by rw [hreq]; rfl
    have hlinkIn := (mixIn_ignored (s := s.cleared) (by rw [hlink]; exact .inl hsleep)).1
    rw [hair.2 (by rw [hlinkIn, hlink]; exact hmode), hin]
    show (studioRequest s.cleared.stepped).1.air = _
    rw [hreq]
    rfl
  · obtain ⟨-, hyes, hno⟩ := studioRequest_missing (s := s.cleared.stepped) hused
    have hbase : s.cleared.stepped.studioAdopted.missed.missingRun = run ∧
        s.cleared.stepped.studioAdopted.missed.counters.missing =
          min (i.counters.missing + i.expected.toList.length) 65535 := by
      refine ⟨?_, ?_⟩
      · show bump s.cleared.stepped.studioAdopted.missingRun 1 = _
        rw [hrun]
        rfl
      · show bump s.cleared.stepped.studioAdopted.counters.missing
          (if s.cleared.stepped.studioAdopted.expected.isSome then 1 else 0) = _
        rw [hmissing, he]
        show bump i.counters.missing (if i.expected.isSome then 1 else 0) = _
        cases i.expected <;> rfl
    by_cases hloses : s.cleared.stepped.Loses
    · obtain ⟨hv, hkind⟩ := hyes hloses
      rw [hstudio, hv]
      refine ⟨hqueue, fun hne _ => hmalformed hne, hbase.1, ?_, hbase.2, fun _ => ⟨?_, ?_⟩, fun hno => absurd hloses hno⟩
      · exact ⟨fun _ => .inr hloses, fun _ => rfl⟩
      · rw [hlatch 0 (by decide)]
        exact hkind
      · show bump s.cleared.stepped.studioAdopted.counters.losses 1 = _
        rw [hlosses]
        rfl
    · obtain ⟨hv, hnotices⟩ := hno hloses
      rw [hstudio, hv]
      refine ⟨hqueue, fun hne _ => hmalformed hne, hbase.1, ?_, hbase.2, fun hyes => absurd hyes hloses, fun _ => ⟨hlosses, ?_⟩⟩
      · show s.cleared.stepped.studioAdopted.lost = true ↔ _
        rw [hlost]
        exact ⟨.inl, fun e => e.resolve_right hloses⟩
      · rw [hlatch 0 (by decide), hnotices]
        rfl
  · obtain ⟨hend, hstopped⟩ := hfill.1 (hstops.mp h)
    exact ⟨hstopped.player, hstopped.hold, by rw [hend]⟩
  · obtain ⟨hend, hplayer, hhold⟩ := hfill.2 fun e => h (hstops.mpr e)
    obtain ⟨-, -, -, hstamps⟩ := mixWork_players s.cleared
    have hcount : s.cleared.mixIn.frameCount = s.frameCount := by
      rw [(State.Inputs.mixIn s.cleared).frame]
      rfl
    refine ⟨by rw [hend]; exact hmarked, fun n hn => ?_, fun hnone hstill => ?_, fun n hrunning hslot hheld hi => ?_⟩
    · obtain ⟨hplays, hstamp⟩ := hstart.1 n hn
      refine ⟨hhold.trans hplays.hold, ?_, hplayer.trans hplays.player⟩
      rcases hstamps n with hs | hs
      · rw [hs, hstamp]; rfl
      · rw [hs, hcount]
    · exact hplayer.trans (hstart.2.1 hnone hstill)
    · have hplays : s.cleared.Plays fillPlayer n fill.position := ⟨by
        show fill = _
        rw [← hrunning, ← hslot], hheld⟩
      exact hplayer.trans (hstart.2.2 n fill.position hplays hi).player

end Sys2Proof.Machine

/-!
PROOF. The link's orders, and what a sign-off and an active frame do to the link in a mix frame (R187, R189, R191, R195).
-/

namespace Sys2Proof.Machine

/-! ### The start of a sleep (R187) -/

theorem sleepAllowed_iff (s : State) :
    sleepAllowed s = true ↔ s.link.mode = .run ∧ s.air.state = .idle ∧ chosenRecord s = none := by
  have hnone := (s.air.choice_spec s.intake.queue).2
  rw [← chosenRecord_eq] at hnone
  unfold sleepAllowed anyEligible
  rw [hnone, Bool.and_eq_true, Bool.and_eq_true, decide_eq_true_eq, decide_eq_true_eq, Bool.not_eq_true',
    List.any_eq_false, and_assoc]
  simp only [Bool.not_eq_true]

theorem minuteBytes_eq (m : Option Nat) : minuteBytes m = beBytes 2 (m.getD 65535) := by
  cases m <;> rfl

/-- The state as a negotiation begins, before its request is passed. -/
def State.requesting (s : State) : State :=
  s.modLink fun l =>
    { l with
      mode := .sleepPending, phase := .requesting, requestTimer := 0, requestAcked := false, lateNumber := none }

theorem startSleep_eq (s : State) :
    startSleep s =
      (queueMessage .sleepRequest (beBytes 2 s.link.quietInterval ++ minuteBytes s.intake.minuteOfWeek) s.requesting).1.modLink
        fun l =>
          { l with
            requestNumber := (queueMessage .sleepRequest
              (beBytes 2 s.link.quietInterval ++ minuteBytes s.intake.minuteOfWeek) s.requesting).2
            counters := { l.counters with sleepsRequested := bump l.counters.sleepsRequested 1 } } := rfl

theorem startSleep_room {s : State} (h : s.link.queue.length < 8) :
    startSleep s = { s with link := s.link.sleepStarted s.intake.minuteOfWeek } := by
  rw [startSleep_eq, queueMessage_room _ _ s.requesting h, minuteBytes_eq]
  rfl

/-- With 8 messages waiting the request of a sleep is dropped. -/
theorem startSleep_full {s : State} (h : 8 ≤ s.link.queue.length) :
    (startSleep s).link.mode = .sleepPending ∧ (startSleep s).link.phase = .requesting ∧
      (startSleep s).link.requestNumber = none ∧ (startSleep s).link.queue = s.link.queue ∧
      (startSleep s).link.counters.sleepsRequested = min (s.link.counters.sleepsRequested + 1) 65535 ∧
      (startSleep s).link.counters.messageLost = min (s.link.counters.messageLost + 1) 65535 := by
  rw [startSleep_eq, queueMessage_full _ _ s.requesting h]
  dsimp only
  rw [State.modLink_link, latch_link]
  exact ⟨rfl, rfl, rfl, rfl, rfl, rfl⟩

/-! ### The abort of a negotiation (R189) -/

/-- What has been queued for the far end stays queued. -/
def State.Queues (s t : State) : Prop := ∃ more, t.link.queue = s.link.queue ++ more

theorem State.Queues.of_eq {s t : State} (h : t.link = s.link) : s.Queues t := ⟨[], by rw [h, List.append_nil]⟩

theorem State.Queues.queueMessage (kind : MessageKind) (body : List Byte) (s : State) :
    s.Queues (queueMessage kind body s).1 := by
  rcases Nat.lt_or_ge s.link.queue.length 8 with h | h
  · rw [queueMessage_room kind body s h]; exact ⟨_, rfl⟩
  · rw [queueMessage_full kind body s h]
    exact ⟨[], by rw [latch_link, List.append_nil]⟩

theorem State.Queues.enterLeadIn (s : State) : s.Queues (enterLeadIn s) := by
  have h : (chooseAttention (s.modAir fun a => { a with state := .leadIn, step := 0, position := 0 })).link = s.link := by
    rw [chooseAttention_frame]; rfl
  rw [enterLeadIn_eq, leadInRest]
  split
  · obtain ⟨more, hmore⟩ := State.Queues.queueMessage _ _ _
    exact ⟨more, hmore.trans (by rw [h])⟩
  · exact .of_eq h

theorem State.Queues.commit {s : State} (h : s.link.mode.awake = true) (i : Identity) : s.Queues (commit i s) := by
  rw [commit_awake h]
  exact State.Queues.enterLeadIn (s.marked i)

theorem State.Queues.select {s : State} (h : s.link.mode.awake = true) : s.Queues (select s) := by
  by_cases hstate : s.air.state ∈ [AirState.idle, .waitBreak]
  · cases hc : chosenRecord s with
    | none => rw [select_none hstate hc]; exact .of_eq rfl
    | some r =>
      cases hd : recordDue s r with
      | false => rw [select_waits hstate hc hd]; exact .of_eq rfl
      | true =>
        rw [select_due hstate hc hd]
        exact State.Queues.commit (s := s.modAir _) h r.identity
  · rw [select_busy s hstate]
    exact .of_eq rfl

/-- The end of a negotiation by an abort, with room for its SLEEP_CANCEL. -/
theorem endNegotiation_cancel {s : State} (hmode : s.link.mode = .sleepPending) (cause : Nat)
    (h : (s.link.queue.filter fun m => !m.isRequest s.link.requestNumber).length < 8) :
    (⟨s.link.nextNumber, .sleepCancel, [s.link.requestNumber.getD 255]⟩ : Message) ∈
      (endNegotiation .aborted cause s).link.queue := by
  unfold endNegotiation queueCancel
  dsimp only
  rw [if_pos hmode, queueMessage_room _ _ ((enterRun s).modLink LinkUnit.leavePhase) h]
  dsimp only
  rw [latch_link, State.modLink_link, LinkUnit.markLate_fields]
  exact List.mem_append_right _ (List.mem_singleton.mpr rfl)

theorem endNegotiation_gap {s : State} (hmode : s.link.mode = .sleepPending) (e : Ending) (cause : Nat) :
    (endNegotiation e cause s).link.gapTimer = 0 := by
  unfold endNegotiation
  dsimp only
  rw [if_pos hmode]
  have hpass := queueCancel_passes e ((enterRun s).modLink LinkUnit.leavePhase)
  generalize queueCancel e ((enterRun s).modLink LinkUnit.leavePhase) = q at hpass
  obtain ⟨u, cancel⟩ := q
  dsimp only at hpass ⊢
  rw [latch_link, State.modLink_link, LinkUnit.markLate_fields]
  exact (congrArg LinkUnit.gapTimer hpass).trans rfl

/-- A cause of an abort in SLEEP_PENDING. -/
theorem wakeOrAbort_aborts {s : State} (h : s.link.mode = .sleepPending) (cause : Nat) :
    s.Aborts cause (wakeOrAbort cause s) := by
  have hwake : wakeOrAbort cause s = endNegotiation .aborted cause s := by
    unfold wakeOrAbort
    rw [h]
  obtain ⟨hmode, hphase, hcounters, hlatch⟩ := endNegotiation_pending h .aborted cause
  rw [hwake]
  refine ⟨hmode, hphase, endNegotiation_gap h .aborted cause, ?_, ?_, hlatch, fun hroom => ?_⟩
  · rw [endNegotiation_frame, if_pos h]
  · rw [hcounters]; rfl
  · exact ⟨_, endNegotiation_cancel h cause hroom, rfl, rfl, rfl⟩

/-- The selection leaves what an abort has done. -/
theorem State.Aborts.select {s t : State} {cause : Nat} (h : s.Aborts cause t) : s.Aborts cause (select t) := by
  have hawake : t.link.mode.awake = true := by rw [h.mode]; rfl
  have hselects := select_selects t
  have hpasses := hselects.passes hawake
  obtain ⟨more, hmore⟩ := State.Queues.select hawake
  refine ⟨?_, ?_, ?_, ?_, ?_, hselects.latches.kept h.latched, fun hroom => ?_⟩
  · rw [hpasses]; exact h.mode
  · rw [hpasses]; exact h.phase
  · rw [hpasses]; exact h.gap
  · rw [hselects.waitSet (by rw [h.mode]; decide)]; exact h.waiting
  · rw [hpasses]; exact h.counted
  · obtain ⟨m, hm, hkind⟩ := h.cancel hroom
    exact ⟨m, by rw [hmore]; exact List.mem_append_left _ hm, hkind⟩

theorem State.Aborts.of_eq {s s' t t' : State} {cause : Nat} (h : s.Aborts cause t) (hlink : s'.link = s.link)
    (hlatch : s'.notices.latches.get 21 = s.notices.latches.get 21) (hlink' : t'.link = t.link)
    (hair : t'.air = t.air) (hnotices : t'.notices = t.notices) : s'.Aborts cause t' := by
  refine ⟨?_, ?_, ?_, ?_, ?_, ?_, ?_⟩
  · rw [hlink']; exact h.mode
  · rw [hlink']; exact h.phase
  · rw [hlink']; exact h.gap
  · rw [hair]; exact h.waiting
  · rw [hlink', hlink]; exact h.counted
  · rw [hnotices, hlatch]; exact h.latched
  · rw [hlink', hlink]; exact h.cancel

/-! ### The orders (R195) -/

theorem linkWords_eq (l : LinkUnit) :
    linkWords l =
      [Word.nat l.mode.code, ((l.level.map Level.code).map Word.nat).getD Word.none, Word.nat l.sfc, Word.nat l.rfc,
        Word.nat l.warningLimit, Word.nat l.nextSeq.toNat, Word.nat l.lastSeq.toNat, Word.nat l.judged.toNat,
        Word.nat l.queue.length, Word.nat ((l.inFlight.map fun (f : InFlight) => f.message.number.toNat).getD 255),
        ((l.inFlight.map fun (f : InFlight) => f.message.kind.code).map Word.nat).getD Word.none,
        ((l.inFlight.map InFlight.sends).map Word.nat).getD Word.none,
        ((l.inFlight.map InFlight.timer).map Word.nat).getD Word.none, Word.flag l.capture.isNone,
        ((l.capture.map fun (c : FaultRecord) => c.kind.code).map Word.nat).getD Word.none,
        ((l.capture.map FaultRecord.reference).map Word.nat).getD Word.none] ++
      [((l.capture.map fun (c : FaultRecord) => c.mode.code).map Word.nat).getD Word.none,
        ((l.capture.map FaultRecord.sfc).map Word.nat).getD Word.none,
        ((l.capture.map FaultRecord.rfc).map Word.nat).getD Word.none, Word.nat l.faultsSince, Word.flag l.lockSeen,
        Word.flag l.lockLost, ((l.lastFar.map FarState.code).map Word.nat).getD Word.none,
        ((l.lastAck.map BitVec.toNat).map Word.nat).getD Word.none, Word.nat l.phase.code, Word.nat l.burstNumber] := rfl

section
variable {s : State} {o : QueuedOrder} {rest : List QueuedOrder}

theorem exec_linkSleep (h : s.Heads o rest 0x68 []) :
    (s.link.mode = .run ∧ s.air.state = .idle ∧ chosenRecord s = none → s.link.queue.length < 8 →
      exec .linkSleep s =
        .next ({ s with link := s.link.sleepStarted s.intake.minuteOfWeek }.answered o rest .done
          [Word.nat 1, Word.nat s.link.nextNumber.toNat])) ∧
    (s.link.mode = .run ∧ s.air.state = .idle ∧ chosenRecord s = none → 8 ≤ s.link.queue.length →
      ∃ t, exec .linkSleep s = .next t ∧ t.link = (startSleep (s.taking rest)).link) ∧
    (¬ (s.link.mode = .run ∧ s.air.state = .idle ∧ chosenRecord s = none) →
      exec .linkSleep s = .next (s.answered o rest .refusedState [])) := by
  rw [← sleepAllowed_iff]
  have hanswer (hyes : sleepAllowed s = true) : answerLinkSleep [] (s.taking rest) =
      ⟨startSleep (s.taking rest), .done, [Word.nat (startSleep (s.taking rest)).link.mode.code,
        Word.place ((startSleep (s.taking rest)).link.requestNumber.map BitVec.toNat)]⟩ := if_pos hyes
  refine ⟨fun hyes hroom => ?_, fun hyes hfull => ?_, fun hno => ?_⟩
  · refine order_taking (t := { s with link := s.link.sleepStarted s.intake.minuteOfWeek }) h
      ((hanswer hyes).trans ?_) (by simp)
    rw [startSleep_room (s := s.taking rest) hroom]
    rfl
  · refine ⟨_, perform_takeCode h answerLinkSleep, ?_⟩
    rw [hanswer hyes, reply_single _ _ (by simp)]
  · exact order_refused h _ (if_neg hno)

theorem exec_linkWake (h : s.Heads o rest 0x69 []) :
    (s.link.mode = .asleep →
      exec .linkWake s = .next ({ s with link := s.link.wakeStarted }.answered o rest .done [Word.nat 3])) ∧
    (s.link.mode ∈ [LinkMode.run, .waking, .cut] →
      exec .linkWake s = .next (s.answered o rest .done [Word.nat s.link.mode.code])) ∧
    (s.link.mode = .sleepPending → ∃ t, exec .linkWake s = .next t ∧ s.Aborts 4 t ∧
      t.sent.studio.getLast? = some (replyTo o .done [Word.nat 0])) := by
  refine ⟨fun hm => ?_, fun hm => ?_, fun hm => ?_⟩
  · refine order_taking (t := { s with link := s.link.wakeStarted }) h ?_ (by simp)
    have hmode : (s.taking rest).link.mode = .asleep := hm
    unfold answerLinkWake noArgs wakeOrAbort
    simp only [hmode]
    rfl
  · refine order_taking (t := s) h ?_ (by simp)
    unfold answerLinkWake noArgs
    have hmode : (s.taking rest).link.mode = s.link.mode := rfl
    cases hm' : s.link.mode with
    | asleep => rw [hm'] at hm; exact absurd hm (by decide)
    | sleepPending => rw [hm'] at hm; exact absurd hm (by decide)
    | _ => simp only [hmode, hm']
  · have habort := (wakeOrAbort_aborts (s := s.taking rest) hm 4).select
    have hanswer : answerLinkWake [] (s.taking rest) =
        ⟨select (wakeOrAbort 4 (s.taking rest)), .done, [Word.nat 0]⟩ := by
      have hmode : (s.taking rest).link.mode = .sleepPending := hm
      unfold answerLinkWake noArgs
      simp only [hmode]
      rw [habort.mode]
      rfl
    refine ⟨_, perform_takeCode h answerLinkWake, ?_⟩
    rw [hanswer]
    refine ⟨?_, reply_getLast? _ _ (by simp)⟩
    rw [reply_single _ _ (by simp)]
    exact habort.of_eq rfl rfl rfl rfl rfl

theorem exec_linkStatus (h : s.Heads o rest 0x6A []) :
    exec .linkStatus s =
      .next ({ s with
        link := { s.link with capture := none, faultsSince := 0, lockSeen := false, lockLost := false } }.answered o rest
          .done (linkWords s.link)) :=
  order_taking (t := { s with
    link := { s.link with capture := none, faultsSince := 0, lockSeen := false, lockLost := false } }) h rfl (by
      rw [linkWords_eq]; simp)

end

/-! ### The sign-offs of a mix frame (R112, R187) -/

/-- Player `p` comes to the end of a clip whose end action is SIGN_OFF. -/
def State.SignsOff (p : Fin 3) (s : State) : Prop :=
  ∃ n, s.players.get p = ⟨.running, some n, (s.clips.slots.get n).length - 1⟩ ∧ 0 < (s.clips.slots.get n).length ∧
    s.clips.holds.get p.castSucc = some n ∧ (s.clips.conf.get n).endAction = .signOff

/-- The adoption of the settings leaves what a mix frame keeps of the store. -/
theorem ClipStore.Rereads.adopted {s t : State} (h : s.clips.Rereads t.clips) :
    (adoptClips s).clips.Rereads (adoptClips t).clips :=
  ⟨h.region, h.free, h.fill, h.channelHeld, h.slots, h.ended, h.chainFailure⟩

theorem State.SignsOff.congr {p : Fin 3} {s t : State} (hplayer : t.players.get p = s.players.get p)
    (hhold : t.clips.holds.get p.castSucc = s.clips.holds.get p.castSucc) (hslots : s.clips.Rereads t.clips)
    (hconf : t.clips.conf = s.clips.conf) : t.SignsOff p ↔ s.SignsOff p := by
  unfold State.SignsOff
  refine exists_congr fun n => ?_
  rw [hplayer, hhold, hconf, show (t.clips.slots.get n).length = (s.clips.slots.get n).length by rw [hslots.slots n]]

/-- A player's frame that signs off: what it does to the link is the sign-off's, over the same blocks. -/
theorem playerFrame_signsOff {p : Fin 3} (hp : p ≠ fillPlayer) {s : State} (h : s.SignsOff p) :
    ∃ w : State, (w.link = s.link ∧ w.air = s.air ∧ w.intake = s.intake ∧ w.notices = s.notices) ∧
      (playerFrame p s).1.link = (signOff w).link ∧
      (playerFrame p s).1.notices.latches.get 21 = (signOff w).notices.latches.get 21 := by
  obtain ⟨n, hplayer, hpos, hheld, hconf⟩ := h
  set u := modPlayer p (fun r => { r with position := (s.clips.slots.get n).length - 1 + 1 }) s with hu
  have hframe := playerFrame_running (p := p) ⟨hplayer, hheld⟩ (by omega)
  rw [if_pos (by omega), clipEnd, if_neg hp, ← hu] at hframe
  have haction : endAction p n u = endClip p n .signOff none (signOff (idlePlayer p u)) := by
    unfold endAction
    dsimp only
    rw [show (u.clips.conf.get n).endAction = .signOff from hconf]
  rw [hframe, haction]
  obtain ⟨hlink, hlatch⟩ := endClip_link p n .signOff none (signOff (idlePlayer p u))
  exact ⟨idlePlayer p u, ⟨rfl, rfl, rfl, rfl⟩, hlink, hlatch⟩

/-- A player's frame that does not sign off leaves the link and its notice alone. -/
theorem playerFrame_noSignOff {p : Fin 3} {s : State} (h : p = fillPlayer ∨ ¬ s.SignsOff p) :
    (playerFrame p s).1.link = s.link ∧
      (playerFrame p s).1.notices.latches.get 21 = s.notices.latches.get 21 := by
  by_cases hstill : (s.players.get p).state = .running
  swap
  · rw [playerFrame_still hstill]
    exact ⟨rfl, rfl⟩
  unfold playerFrame clipEnd State.player ClipStore.readFor
  dsimp only
  rw [hstill]
  cases hslot : (s.players.get p).slot with
  | none => exact ⟨rfl, rfl⟩
  | some n =>
    dsimp only
    by_cases hheld : s.clips.holds.get (playerReader p) = some n
    swap
    · rw [if_neg hheld]; exact ⟨rfl, rfl⟩
    by_cases hpos : (s.players.get p).position < (s.clips.slots.get n).length
    swap
    · rw [if_pos hheld, if_neg hpos]; exact ⟨rfl, rfl⟩
    rw [if_pos hheld, if_pos hpos]
    dsimp only
    by_cases hend : (s.players.get p).position + 1 = (s.clips.slots.get n).length
    swap
    · rw [if_neg hend]; exact ⟨rfl, rfl⟩
    rw [if_pos hend]
    by_cases hfill : p = fillPlayer
    · rw [if_pos hfill]; exact ⟨rfl, rfl⟩
    rw [if_neg hfill]
    have haction : (s.clips.conf.get n).endAction ≠ .signOff := fun hsign => by
      refine h.resolve_left hfill ⟨n, ?_, by omega, hheld, hsign⟩
      rw [← hslot, ← hstill, show (s.clips.slots.get n).length - 1 = (s.players.get p).position by omega]
    generalize hu : modPlayer p (fun r => { r with position := r.position + 1 }) s = u
    have hconf : u.clips.conf = s.clips.conf := by rw [← hu]; rfl
    have hlink : u.link = s.link := by rw [← hu]; rfl
    have hnotices : u.notices = s.notices := by rw [← hu]; rfl
    rw [← hlink, ← hnotices]
    rw [← hconf] at haction
    unfold endAction
    dsimp only
    cases ha : (u.clips.conf.get n).endAction with
    | signOff => exact absurd ha haction
    | stop => exact endClip_link ..
    | loop => exact ⟨rfl, rfl⟩
    | chain =>
      dsimp only
      split
      · exact endClip_link ..
      · exact endClip_link ..

theorem signOff_starts {s : State} (hauto : s.link.autoSleep = true)
    (hallowed : s.link.mode = .run ∧ s.air.state = .idle ∧ chosenRecord s = none) (hroom : s.link.queue.length < 8) :
    (signOff s).link = s.link.sleepStarted s.intake.minuteOfWeek := by
  unfold signOff
  rw [hauto, if_neg nofun, hallowed.1]
  dsimp only
  rw [if_pos ((sleepAllowed_iff s).mpr hallowed), startSleep_room hroom]

theorem signOff_defers {s : State} (hauto : s.link.autoSleep = true)
    (hnot : ¬ (s.link.mode = .run ∧ s.air.state = .idle ∧ chosenRecord s = none))
    (hmode : s.link.mode ∈ [LinkMode.run, .waking, .cut]) :
    (signOff s).link = s.link ∧
      (signOff s).notices.latches.get 21 = some ((s.notices.latches.get 21).getD [3, 255]) := by
  have hdefer : (deferSignOff s).link = s.link ∧
      (deferSignOff s).notices.latches.get 21 = some ((s.notices.latches.get 21).getD [3, 255]) := by
    unfold deferSignOff
    rw [latch_link, latch_get, if_pos (show (21 : Fin 25) = NoticeKind.sleepResult.index from rfl)]
    exact ⟨rfl, rfl⟩
  have hsign : signOff s = deferSignOff s := by
    unfold signOff
    rw [hauto, if_neg nofun]
    cases hm : s.link.mode with
    | asleep => rw [hm] at hmode; exact absurd hmode (by decide)
    | sleepPending => rw [hm] at hmode; exact absurd hmode (by decide)
    | run => exact if_neg fun e => hnot ((sleepAllowed_iff s).mp e)
    | _ => rfl
  rw [hsign]
  exact hdefer

/-- What a player's frame makes of the link and of SLEEP_RESULT, by whether it signs off. -/
structure State.Signs (signs : Prop) (s t : State) : Prop where
  kept : t.air = s.air ∧ t.intake = s.intake
  none : ¬ signs → t.link = s.link ∧ t.notices.latches.get 21 = s.notices.latches.get 21
  ignored : s.link.IgnoresSignOff → t.link = s.link ∧ t.notices.latches.get 21 = s.notices.latches.get 21
  starts : signs → s.link.autoSleep = true →
    (s.link.mode = .run ∧ s.air.state = .idle ∧ chosenRecord s = Option.none) → s.link.queue.length < 8 →
      t.link = s.link.sleepStarted s.intake.minuteOfWeek
  defers : signs → s.link.autoSleep = true →
    ¬ (s.link.mode = .run ∧ s.air.state = .idle ∧ chosenRecord s = Option.none) →
      s.link.mode ∈ [LinkMode.run, .waking, .cut] → t.link = s.link ∧
        t.notices.latches.get 21 = some ((s.notices.latches.get 21).getD [3, 255])

theorem chosenRecord_congr {s t : State} (hair : t.air = s.air) (hintake : t.intake = s.intake) :
    chosenRecord t = chosenRecord s := by
  rw [chosenRecord_eq, chosenRecord_eq, hair, hintake]

theorem playerFrame_signs {p : Fin 3} (hp : p ≠ fillPlayer) (s : State) : s.Signs (s.SignsOff p) (playerFrame p s).1 := by
  refine ⟨by rw [playerFrame_frame]; exact ⟨rfl, rfl⟩, fun h => playerFrame_noSignOff (.inr h), playerFrame_ignored,
    fun h hauto hallowed hroom => ?_, fun h hauto hnot hmode => ?_⟩
  · obtain ⟨w, ⟨hlink, hair, hintake, -⟩, hend, -⟩ := playerFrame_signsOff hp h
    have hsign := signOff_starts (s := w) (by rw [hlink]; exact hauto)
      (by rw [hlink, hair, chosenRecord_congr hair hintake]; exact hallowed) (by rw [hlink]; exact hroom)
    rw [hend, hsign, hlink, hintake]
  · obtain ⟨w, ⟨hlink, hair, hintake, hnotices⟩, hend, hlatch⟩ := playerFrame_signsOff hp h
    have hsign := signOff_defers (s := w) (by rw [hlink]; exact hauto)
      (by rw [hlink, hair, chosenRecord_congr hair hintake]; exact hnot) (by rw [hlink]; exact hmode)
    rw [hlink, hnotices] at hsign
    rw [hend, hlatch]
    exact hsign

/-- Two players' frames one after the other: a sign-off of either. -/
theorem State.Signs.trans {a b : Prop} {s t u : State} (h : s.Signs a t) (k : t.Signs b u) : s.Signs (a ∨ b) u := by
  have hchosen := chosenRecord_congr h.kept.1 h.kept.2
  refine ⟨⟨k.kept.1.trans h.kept.1, k.kept.2.trans h.kept.2⟩, fun hno => ?_, fun hig => ?_,
    fun hyes hauto hallowed hroom => ?_, fun hyes hauto hnot hmode => ?_⟩
  · obtain ⟨hlink, hlatch⟩ := h.none fun e => hno (.inl e)
    obtain ⟨hlink', hlatch'⟩ := k.none fun e => hno (.inr e)
    exact ⟨hlink'.trans hlink, hlatch'.trans hlatch⟩
  · obtain ⟨hlink, hlatch⟩ := h.ignored hig
    obtain ⟨hlink', hlatch'⟩ := k.ignored (by rw [hlink]; exact hig)
    exact ⟨hlink'.trans hlink, hlatch'.trans hlatch⟩
  · by_cases ha : a
    · have hlink := h.starts ha hauto hallowed hroom
      rw [(k.ignored (by rw [hlink]; exact .inr (List.mem_cons_self ..))).1, hlink]
    · obtain ⟨hlink, -⟩ := h.none ha
      rw [← hlink, ← h.kept.2]
      exact k.starts (hyes.resolve_left ha) (by rw [hlink]; exact hauto)
        (by rw [hlink, h.kept.1, hchosen]; exact hallowed) (by rw [hlink]; exact hroom)
  · by_cases ha : a
    · obtain ⟨hlink, hlatch⟩ := h.defers ha hauto hnot hmode
      by_cases hb : b
      · obtain ⟨hlink', hlatch'⟩ := k.defers hb (by rw [hlink]; exact hauto)
          (by rw [hlink, h.kept.1, hchosen]; exact hnot) (by rw [hlink]; exact hmode)
        rw [hlatch', hlatch]
        exact ⟨hlink'.trans hlink, rfl⟩
      · obtain ⟨hlink', hlatch'⟩ := k.none hb
        rw [hlatch', hlatch]
        exact ⟨hlink'.trans hlink, rfl⟩
    · obtain ⟨hlink, hlatch⟩ := h.none ha
      obtain ⟨hlink', hlatch'⟩ := k.defers (hyes.resolve_left ha) (by rw [hlink]; exact hauto)
        (by rw [hlink, h.kept.1, hchosen]; exact hnot) (by rw [hlink]; exact hmode)
      rw [hlatch', hlatch]
      exact ⟨hlink'.trans hlink, rfl⟩

/-- The players' frames as the sign-offs of A and B see the state before them. -/
theorem mixIn_signs (s : State) :
    (studioRequest s.stepped).1.Signs
      ((adoptClips (studioRequest s.stepped).1).SignsOff 0 ∨ (adoptClips (studioRequest s.stepped).1).SignsOff 1)
      s.mixIn := by
  set c := adoptClips (studioRequest s.stepped).1 with hc
  have hA : c.Signs (c.SignsOff 0) (playerFrame playerA c).1 := playerFrame_signs (by decide) c
  have hB := playerFrame_signs (p := playerB) (by decide) (playerFrame playerA c).1
  have hinputs := State.Inputs.playerFrame playerA c
  have hB' : (playerFrame playerA c).1.SignsOff playerB ↔ c.SignsOff 1 :=
    State.SignsOff.congr (hinputs.players _ (by decide)) (hinputs.holds playerB (by decide)) hinputs.rereads
      (playerFrame_conf ..)
  rw [hB'] at hB
  have hF : (playerFrame playerB (playerFrame playerA c).1).1.Signs False s.mixIn := by
    set b := (playerFrame playerB (playerFrame playerA c).1).1 with hb
    have hin : s.mixIn = (playerFrame fillPlayer b).1 := rfl
    rw [hin]
    have hnone := playerFrame_noSignOff (p := fillPlayer) (s := b) (.inl rfl)
    exact ⟨by rw [playerFrame_frame]; exact ⟨rfl, rfl⟩, fun _ => hnone, fun _ => hnone, False.elim, False.elim⟩
  have hall := (hA.trans hB).trans hF
  rw [or_false] at hall
  exact ⟨hall.kept, hall.none, hall.ignored, hall.starts, hall.defers⟩

/-! ### The active frame (R189, R191) -/

/-- An active frame acts in SLEEP_PENDING and ASLEEP, by its settings. -/
theorem activity_acts (s : State) :
    (s.link.mode ∈ [LinkMode.run, .waking, .cut] → activity false s = s) ∧
    (s.link.mode = .sleepPending →
      (s.link.abortOnActivity = true → s.Aborts 2 (activity false s)) ∧
      (s.link.abortOnActivity = false → activity false s = s)) ∧
    (s.link.mode = .asleep →
      (s.link.wakeOnActivity = true → (activity false s).link = s.link.wakeStarted) ∧
      (s.link.wakeOnActivity = false → activity false s = s)) := by
  unfold activity
  rw [if_neg nofun]
  refine ⟨fun h => ?_, fun h => ⟨fun ha => ?_, fun ha => ?_⟩, fun h => ⟨fun hw => ?_, fun hw => ?_⟩⟩
  · cases hm : s.link.mode with
    | asleep => rw [hm] at h; exact absurd h (by decide)
    | sleepPending => rw [hm] at h; exact absurd h (by decide)
    | _ => rfl
  · rw [h]
    dsimp only
    rw [if_pos ha]
    exact (wakeOrAbort_aborts h 2).select
  · rw [h]
    dsimp only
    rw [if_neg (by rw [ha]; nofun)]
  · rw [h]
    dsimp only
    rw [if_pos hw]
    unfold wakeOrAbort
    rw [h]
    rfl
  · rw [h]
    dsimp only
    rw [if_neg (by rw [hw]; nofun)]

theorem countClamps_result (left right cue : Nat) (s : State) :
    (countClamps left right cue s).notices.latches.get 21 = s.notices.latches.get 21 := by
  rw [(countClamps_eq left right cue s).2.2 21, if_neg (fun e => nomatch e.2), if_neg (fun e => nomatch e.2),
    if_neg (fun e => nomatch e.2), Option.or_none, Option.or_none, Option.or_none]

theorem MixEngine.outputs_pgm (s : State) (x : Vector Frame 20) (n : Nat) :
    (s.mix.outputs x s.mix.threshold n).pgm = s.pgmFrame x := by
  rw [MixEngine.outputs_eq]

/-- The link and SLEEP_RESULT once the outputs have been handed off. -/
theorem State.out_link (g : Gates) (x : Vector Frame 20) (s : State) :
    (s.out g x).link = s.link ∧ (s.out g x).notices.latches.get 21 = s.notices.latches.get 21 := by
  have hresult : (s.counted x).notices.latches.get 21 = s.notices.latches.get 21 := by
    rw [State.counted, countClamps_result]
  have h := s.out_eq g x
  generalize s.out g x = o at h ⊢
  generalize s.counted x = u at h hresult
  rw [h]
  exact ⟨rfl, hresult⟩

/-- The state that an active frame of a mix frame sees, and what it makes of it. -/
theorem mixWork_activity (s : State) :
    ∃ o a : State, (o.link = s.mixIn.link ∧ o.notices.latches.get 21 = s.mixIn.notices.latches.get 21) ∧
      a = activity (mixWork s).mix.pgm.quiet o ∧
      (mixWork s).link = a.link ∧ (mixWork s).air = a.air ∧ (mixWork s).notices = a.notices := by
  have hmixed := mixOutputs_mixed (readGates (adoptMix s)) s.mixSources s.mixIn
  rw [← mixWork_eq] at hmixed
  have hquiet : (mixWork s).mix.pgm = s.mixIn.pgmFrame s.mixSources := by rw [hmixed.mix, MixEngine.outputs_pgm]
  obtain ⟨hair, -, hlink, hnotices⟩ := fillStop_airs s.mixIn.mix.fillSilent s.reached
  rw [← mixWork_reached] at hair hlink hnotices
  refine ⟨s.mixIn.out (readGates (adoptMix s)) s.mixSources, s.reached, State.out_link .., ?_, hlink, hair, hnotices⟩
  rw [hquiet, State.reached]

/-- Settles O52: the orders by their handlers, the mix frame by its players' frames and its activity. -/
theorem linkOrders : Obligations.LinkOrders := by
  refine ⟨fun s o rest => ⟨fun h => ⟨(exec_linkSleep h).1, fun hallowed hfull => ?_, (exec_linkSleep h).2.2⟩,
    exec_linkWake, fun h => ?_⟩, fun s hbreak => ⟨mixWork s.cleared, rfl, ?_⟩⟩
  · obtain ⟨t, ht, hlink⟩ := (exec_linkSleep h).2.1 hallowed hfull
    refine ⟨t, ht, ?_⟩
    rw [hlink]
    exact startSleep_full (s := s.taking rest) hfull
  · exact (exec_linkStatus h).trans (congrArg (fun words => Host.Outcome.next (State.answered _ o rest .done words))
      (linkWords_eq s.link))
  · intro l allowed active signsOff
    obtain ⟨hreq, hlatches⟩ := studioRequest_calm (s := s.cleared.stepped) hbreak
    have hinputs := State.Inputs.studioRequest s.cleared.stepped
    have hsigns := mixIn_signs s.cleared
    obtain ⟨o, a, ⟨holink, holatch⟩, ha, hlink, hair, hnotices⟩ := mixWork_activity s.cleared
    set v := (studioRequest s.cleared.stepped).1 with hv
    have hvlink : v.link = l := by rw [hreq]; rfl
    have hvair : v.air = s.air := by rw [hreq]; rfl
    have hvintake : v.intake = s.intake := by rw [hreq]; rfl
    have hvtables : v.tables = s.tables := by rw [hreq]; rfl
    have hvlatch : v.notices.latches.get 21 = s.notices.latches.get 21 := hlatches.stands (by decide)
    have hvchosen : chosenRecord v = chosenRecord s := chosenRecord_congr hvair hvintake
    have hsignsOff : (adoptClips v).SignsOff 0 ∨ (adoptClips v).SignsOff 1 ↔ signsOff := by
      have hcongr (p : Fin 2) : (adoptClips v).SignsOff (p.castLE (by decide)) ↔
          (adoptClips s).SignsOff (p.castLE (by decide)) :=
        State.SignsOff.congr (s := adoptClips s) (t := adoptClips v)
          (hinputs.players _ (by simpa using playerAB_ne_fill p))
          (hinputs.holds (p.castLE (by decide)) (by simpa using playerAB_ne_fill p)) (hinputs.rereads.adopted)
          (congrArg Tables.slotConf hvtables)
      exact (Fin.exists_fin_two (p := fun p : Fin 2 => (adoptClips v).SignsOff (p.castLE (by decide)))).symm.trans
        (exists_congr hcongr)
    rw [hsignsOff] at hsigns
    obtain ⟨-, hnone, hignored, hstarts, hdefers⟩ := hsigns
    rw [hvlink, hvlatch] at hnone hignored hdefers
    rw [hvlink, hvair, hvchosen] at hstarts
    rw [hvair, hvchosen] at hdefers
    rw [← holink, ← holatch] at hnone hignored hdefers
    rw [← holink] at hstarts
    have hquiet (h : ¬ active) : a = o := by
      have hq : (mixWork s.cleared).mix.pgm.quiet = true := by simpa [active] using h
      rw [ha, hq]
      rfl
    have hloud (h : active) : a = activity false o := by
      have hq : (mixWork s.cleared).mix.pgm.quiet = false := h
      rw [ha, hq]
    obtain ⟨hawake, hpending, hasleep⟩ := activity_acts o
    refine ⟨fun hs hno => ⟨fun hig => ?_, fun hauto hallowed hroom => ?_, fun hauto hnot hmode => ?_⟩, fun hs hmode => ?_,
      fun hmode => ⟨fun hact hab => ?_, fun hact => ?_⟩, fun hmode => ⟨fun hact hwk => ?_, fun hact => ?_⟩⟩
    · rw [hlink, hnotices, hquiet hno]
      exact hignored hig
    · rw [hlink, hquiet hno, hstarts hs hauto hallowed hroom, hvintake]
    · rw [hlink, hnotices, hquiet hno]
      exact hdefers hs hauto hnot hmode
    · have hol : o.link = l := by
        rcases hs with hs | hs
        · exact (hnone hs).1
        · exact (hignored (.inl hs)).1
      rw [hlink]
      by_cases hact : active
      · rw [hloud hact, hawake (by rw [hol]; exact hmode), hol]
      · rw [hquiet hact, hol]
    · obtain ⟨hol, hol'⟩ := hignored (.inr (by rw [hmode]; decide))
      have habort := (hpending (by rw [hol]; exact hmode)).1 (by rw [hol]; exact hab)
      rw [← hloud hact] at habort
      exact habort.of_eq hol.symm hol'.symm hlink hair hnotices
    · obtain ⟨hol, -⟩ := hignored (.inr (by rw [hmode]; decide))
      rw [hlink]
      by_cases hyes : active
      · rw [hloud hyes, (hpending (by rw [hol]; exact hmode)).2 (by rw [hol]; exact hact.resolve_left fun e => e hyes), hol]
      · rw [hquiet hyes, hol]
    · obtain ⟨hol, -⟩ := hignored (.inr (by rw [hmode]; decide))
      rw [hlink, hloud hact, (hasleep (by rw [hol]; exact hmode)).1 (by rw [hol]; exact hwk), hol]
    · obtain ⟨hol, -⟩ := hignored (.inr (by rw [hmode]; decide))
      rw [hlink]
      by_cases hyes : active
      · rw [hloud hyes, (hasleep (by rw [hol]; exact hmode)).2 (by rw [hol]; exact hact.resolve_left fun e => e hyes), hol]
      · rw [hquiet hyes, hol]

end Sys2Proof.Machine

/-!
PROOF. The orders that reach the alert queue and the air stage: BREAK, ALERT-LIST, ALERT-RELEASE and ALERT-CANCEL (R136 to
R138, R150, R159).
-/

namespace Sys2Proof.Machine

/-! ### Identities in a word (R207) -/

theorem Identity.ofBits_word (i : Identity) : Identity.ofBits (i.word.setWidth 32) = i := by
  obtain ⟨issuer, serial⟩ := i
  unfold Identity.ofBits Identity.word
  congr 1
  · ext k hk
    simp only [BitVec.getElem_extractLsb', BitVec.getLsbD_setWidth, BitVec.getLsbD_append]
    simp [show 16 + k < 32 by omega, show 16 + k < 48 by omega, BitVec.getLsbD_eq_getElem hk]
  · ext k hk
    simp only [BitVec.getElem_extractLsb', BitVec.getLsbD_setWidth, BitVec.getLsbD_append]
    simp [hk, show k < 32 by omega, show k < 48 by omega]

theorem Identity.word_lt (i : Identity) : i.word.toNat < 2 ^ 32 := by
  unfold Identity.word
  rw [BitVec.toNat_setWidth]
  exact lt_of_le_of_lt (Nat.mod_le ..) (i.issuer ++ i.serial).isLt

theorem identityArg_word (i : Identity) : identityArg i.word = some i := by
  unfold identityArg
  rw [if_pos i.word_lt, Identity.ofBits_word]

theorem identityArg_none {w : Word} (h : 2 ^ 32 ≤ w.toNat) : identityArg w = none := by
  unfold identityArg
  rw [if_neg (by omega)]

theorem AlertIntake.find_none {a : AlertIntake} {i : Identity} : a.find i = none ↔ i ∉ a.identities := by
  unfold AlertIntake.find AlertIntake.identities
  rw [List.find?_eq_none, List.mem_map]
  simp only [decide_eq_true_eq, not_exists, not_and]

theorem queueWords_eq (s : State) :
    queueWords s = [Word.nat s.intake.queue.length, Word.nat (192 - storedWords s.intake.queue)] := rfl

/-! ### The selection and the queue -/

theorem State.Selects.identities {s t : State} (h : s.Selects t) : t.intake.identities = s.intake.identities := by
  rcases h.marks with h | ⟨i, h⟩
  · rw [h]
  · rw [h]
    exact AlertIntake.modRecord_identities _ _ _ fun _ => rfl

theorem State.Selects.recording {s t : State} (h : s.Selects t) : t.intake.recording = s.intake.recording := by
  rcases h.marks with h | ⟨i, h⟩
  · rw [h]
  · rw [h]
    rfl

/-- The selection's hold leaves the free pages, and of a slot but its use count, alone. -/
theorem State.Selects.slots {s t : State} (h : s.Selects t) :
    t.clips.free = s.clips.free ∧ ∀ n, (t.clips.slots.get n).state = (s.clips.slots.get n).state := by
  rcases h.clips with h | ⟨i, -, h⟩
  · rw [h]
    exact ⟨rfl, fun _ => rfl⟩
  · rw [h]
    have hreads := ClipStore.Rereads.hold s.clips airReader i
    exact ⟨hreads.free, fun n => by rw [hreads.slots n]⟩

/-! ### BREAK (R150) -/

theorem breakEvent_busy {s : State} (h : s.air.state ≠ .waitBreak) : breakEvent s = s := by
  unfold breakEvent
  split
  · rename_i hstate _
    exact absurd hstate h
  · rfl

theorem answerBreak_eq (s : State) :
    answerBreak [] s = ⟨breakEvent s, .done, [Word.nat (breakEvent s).air.state.code,
      ((breakEvent s).air.airing.map Identity.word).getD Word.none]⟩ := rfl

/-- The link's mode after a commit. -/
theorem commit_mode (i : Identity) (s : State) :
    (commit i s).link.mode =
      match s.link.mode with
      | .asleep => .waking
      | .sleepPending => .run
      | m => m := by
  by_cases h : s.link.mode.awake = true
  · have hmode : (commit i s).link.mode = s.link.mode := by rw [(commit_committed i s).passes h]
    rw [hmode]
    cases hm : s.link.mode with
    | asleep => rw [hm] at h; cases h
    | sleepPending => rw [hm] at h; cases h
    | _ => rfl
  · rw [commit_asleep (by simpa using h), wakeOrAbort_mode]
    rfl

/-- Settles O35: outside WAIT_BREAK the event does nothing; in it the waiting record is committed. -/
theorem breakCommits : Obligations.BreakCommits := by
  intro s o rest h
  refine ⟨fun hstate => ?_, fun i hstate hairing => ?_⟩
  · refine order_taking (t := s) h ?_ (by simp)
    rw [answerBreak_eq, breakEvent_busy (s := s.taking rest) hstate]
    rfl
  · have hcommit := commit_committed i (s.taking rest)
    have hmode := commit_mode i (s.taking rest)
    have hevent : breakEvent (s.taking rest) = commit i (s.taking rest) := breakEvent_waits hstate hairing
    refine ⟨_, perform_takeCode h answerBreak, ?_⟩
    rw [answerBreak_eq, hevent]
    have horders : (commit i (s.taking rest)).orders = (s.taking rest).orders := by rw [hcommit.frame]
    have hair := hcommit.air
    rw [reply_single _ _ (by simp)]
    refine ⟨?_, by rw [hair], by rw [hair], by rw [hair], by rw [hair], by rw [hair], ?_, ?_, ?_⟩
    · rw [← reply_single _ _ (by simp), reply_frame horders (by simp)]
      conv_lhs => rw [hcommit.frame]
      rw [congrArg State.intake hcommit.frame]
      rfl
    · exact congrArg (fun t => t.intake.queue) hcommit.frame
    · split
      · rename_i hm
        have hawake : (s.taking rest).link.mode.awake = true := by
          show s.link.mode.awake = true
          revert hm
          cases s.link.mode <;> decide
        obtain ⟨hlead, hstep, hposition⟩ := hcommit.leadIn hawake
        have hpasses := hcommit.passes hawake
        refine ⟨hlead, hstep, hposition, ?_⟩
        show (commit i (s.taking rest)).link.mode = s.link.mode
        rw [hpasses]
        rfl
      · rename_i hm
        have hasleep : (s.taking rest).link.mode.awake = false := by
          show s.link.mode.awake = false
          revert hm
          cases s.link.mode <;> decide
        refine ⟨hcommit.waitLink hasleep, hmode.trans ?_⟩
        show (match s.link.mode with | .asleep => LinkMode.waking | .sleepPending => .run | m => m) = _
        revert hm
        cases s.link.mode <;> decide
    · rw [List.getLast?_concat, hair]
      rfl

/-! ### ALERT-LIST (R137) -/

theorem AlertRecord.age_eq (r : AlertRecord) (now : BitVec 32) :
    r.age now = if r.ageHeld then 4294967295 else (now - r.stamp).toNat := rfl

theorem answerAlertList_listed {w : Word} {s : State} {r : AlertRecord} (h : s.intake.queue[w.toNat]? = some r)
    (hw : w.toNat < 192) : answerAlertList [w] s = ⟨s, .done, listWords r s⟩ := by
  unfold answerAlertList
  dsimp only
  rw [if_neg (by omega), h]

theorem answerAlertList_beyond {w : Word} {s : State} (h : s.intake.queue.length ≤ w.toNat) (hw : w.toNat < 192) :
    answerAlertList [w] s = ⟨s, .refusedState, [Word.nat s.intake.queue.length]⟩ := by
  unfold answerAlertList
  dsimp only
  rw [if_neg (by omega), List.getElem?_eq_none h]

theorem exec_alertList {s : State} {o : QueuedOrder} {rest : List QueuedOrder} {w : Word} (h : s.Heads o rest 0x60 [w]) :
    (∀ r, s.intake.queue[w.toNat]? = some r → w.toNat < 192 → r.words.length ≤ 192 →
      exec .alertList s = .next (s.answered o rest .done (listWords r s))) ∧
    (s.intake.queue.length ≤ w.toNat → w.toNat < 192 →
      exec .alertList s = .next (s.answered o rest .refusedState [Word.nat s.intake.queue.length])) ∧
    (192 ≤ w.toNat → exec .alertList s = .next (s.answered o rest .refusedArgument [])) := by
  refine ⟨fun r hr hw hlength => ?_, fun hlength hw => ?_, fun hw => ?_⟩
  · refine order_taking (t := s) h (answerAlertList_listed (s := s.taking rest) hr hw) ?_
    rw [listWords, List.length_append, List.length_append, List.length_map, queueWords_eq]
    simp only [List.length_cons, List.length_nil]
    omega
  · exact order_taking (t := s) h (answerAlertList_beyond (s := s.taking rest) hlength hw) (by simp)
  · refine order_refused h _ ?_
    unfold answerAlertList
    dsimp only
    rw [if_pos (by omega)]

/-! ### ALERT-RELEASE (R136, R138) -/

/-- The queue, the recording and the slot after a record has left. -/
theorem recordLeaves_store (i : Identity) (s : State) :
    (recordLeaves i s).intake.identities = s.intake.identities.filter (· ≠ i) ∧
    (recordLeaves i s).intake.recording =
      (if s.intake.recording.identity = some i then Recording.idle else s.intake.recording) ∧
    ∀ r n, s.intake.find i = some r → r.slot = some n →
      (s.clips.slots.get n).state ∈ [SlotState.recording, .alertHeld] →
      ((recordLeaves i s).clips.slots.get n).state = .empty ∧
        (recordLeaves i s).clips.free = s.clips.free ++ (s.clips.slots.get n).chain := by
  have hselects := select_selects (removeRecord i s)
  obtain ⟨hfree, hstate⟩ := hselects.slots
  refine ⟨hselects.identities.trans (removeRecord_identities i s), ?_, fun r n hr hn hslot => ?_⟩
  · rw [recordLeaves, hselects.recording, removeRecord_intake]
  · have halert : (s.clips.slots.get n).state.alert = true := by
      revert hslot
      cases (s.clips.slots.get n).state <;> decide
    have hclips : (removeRecord i s).clips = s.clips.eraseAlert n := by
      rw [removeRecord_clips, hr, Option.bind_some, hn]
    rw [recordLeaves, hstate, hfree, hclips, ClipStore.eraseAlert_state, if_pos ⟨rfl, halert⟩, s.clips.eraseAlert_eq n halert]
    exact ⟨rfl, rfl⟩

theorem answerAlertRelease_word (i : Identity) (s : State) :
    answerAlertRelease [i.word] s =
      match s.intake.find i with
      | some r =>
        if r.onAir then refuse .refusedState s
        else ⟨recordLeaves i s, .done, i.word :: queueWords (recordLeaves i s)⟩
      | none => refuse .refusedState s := by
  unfold answerAlertRelease
  dsimp only
  rw [identityArg_word] <;> rfl

/-- Settles O32: ALERT-LIST by its handler, ALERT-RELEASE by the record's leaving. -/
theorem alertListAndRelease : Obligations.AlertListAndRelease := by
  refine ⟨fun s o rest w h => exec_alertList h, fun s o rest w h => ⟨fun hw => ?_, fun i hi => ?_⟩⟩
  · refine order_refused h _ ?_
    unfold answerAlertRelease
    dsimp only
    rw [identityArg_none hw]
  · subst hi
    have hanswer := answerAlertRelease_word i (s.taking rest)
    refine ⟨fun hno => order_refused h _ ?_, fun r hr => ⟨fun hair => order_refused h _ ?_, fun hair => ?_⟩⟩
    · rw [hanswer, show (s.taking rest).intake.find i = none from AlertIntake.find_none.mpr hno]
    · rw [hanswer, show (s.taking rest).intake.find i = some r from hr]
      dsimp only
      rw [if_pos hair]
    · rw [show (s.taking rest).intake.find i = some r from hr] at hanswer
      dsimp only at hanswer
      rw [if_neg (by rw [hair]; nofun)] at hanswer
      have hframe := recordLeaves_frame i (s.taking rest)
      obtain ⟨hids, hrec, hslot⟩ := recordLeaves_store i (s.taking rest)
      have horders : (recordLeaves i (s.taking rest)).orders = (s.taking rest).orders := by rw [hframe]
      refine ⟨_, perform_takeCode h answerAlertRelease, ?_⟩
      rw [hanswer]
      have hreply := reply_frame (o := o) (r := .done) (ws := i.word :: queueWords (recordLeaves i (s.taking rest)))
        horders (by rw [queueWords_eq]; simp)
      refine ⟨?_, ?_, ?_, fun n hn hstate => ?_, ?_⟩
      · rw [hreply]
        conv_lhs => rw [hframe]
        rfl
      · rw [hreply]; exact hids
      · rw [hreply]; exact hrec
      · rw [hreply]; exact hslot r n hr hn hstate
      · rw [reply_getLast? _ _ (by rw [queueWords_eq]; simp), hreply, queueWords_eq]

/-! ### ALERT-CANCEL (R159) -/

/-- The record out of the queue and the cancel counted. -/
def State.uncounted (i : Identity) (s : State) : State :=
  (removeRecord i s).modAir fun a => { a with counters := { a.counters with cancels := bump a.counters.cancels 1 } }

theorem cancelRecord_eq (i : Identity) (s : State) :
    cancelRecord i s =
      select (if (s.air.present && s.air.airing = some i) = true then cancelOnAir (s.uncounted i) else s.uncounted i) := rfl

theorem uncounted_eq (i : Identity) (s : State) :
    s.uncounted i = { s with
      clips := (removeRecord i s).clips, intake := (removeRecord i s).intake
      air := { s.air with
        waitSet := s.air.waitSet.filter fun j => j ≠ i
        counters := { s.air.counters with cancels := min (s.air.counters.cancels + 1) 65535 } } } := by
  unfold State.uncounted
  conv_lhs => rw [removeRecord_frame]
  rfl

/-- What a cancelled airing may change. -/
def State.Cancels (s t : State) : Prop :=
  t = { s with
    delay := t.delay, clips := t.clips, air := t.air, notices := t.notices, sent := t.sent } ∧
  t.air.waitSet = s.air.waitSet ∧ t.air.counters = s.air.counters

theorem enterLeadOut_cancels (step : Nat) (s : State) :
    s.Cancels (enterLeadOut step s) ∧ (enterLeadOut step s).clips = s.clips ∧
      (enterLeadOut step s).air = { s.air with state := .leadOut, step := step } := by
  unfold enterLeadOut State.Cancels
  rw [releaseRequest_frame]
  exact ⟨⟨rfl, rfl, rfl⟩, rfl, rfl⟩

theorem cancelOnAir_cancels (s : State) : s.Cancels (cancelOnAir s) := by
  unfold cancelOnAir
  dsimp only
  split
  · exact ⟨rfl, rfl, rfl⟩
  · split
    · exact ⟨rfl, rfl, rfl⟩
    · obtain ⟨⟨hframe, hwait, hcounters⟩, -, -⟩ := enterLeadOut_cancels (Config.crossfadeFrames - s.air.step)
        ((s.modAir fun a => { a with present := false }).modClips fun c => c.release airReader)
      exact ⟨hframe, hwait, hcounters⟩
  all_goals exact ⟨rfl, rfl, rfl⟩

theorem release_airReader (c : ClipStore) : (c.release airReader).holds.get 3 = none := by
  rw [ClipStore.release_holds]
  exact if_pos rfl

/-- What a cancel of the record on air leaves, by the air state (R159). -/
theorem cancelOnAir_state (s : State) :
    (s.air.state = .attention ∨ s.air.state = .message →
      (cancelOnAir s).air = { s.air with present := false, state := .closing, position := 0 } ∧
        (cancelOnAir s).clips.holds.get 3 = none) ∧
    (s.air.state = .leadIn → 0 < s.air.step →
      (cancelOnAir s).air = { s.air with present := false, state := .leadOut, step := 16 - s.air.step } ∧
        (cancelOnAir s).clips.holds.get 3 = none) ∧
    (s.air.state = .leadIn → s.air.step = 0 →
      (cancelOnAir s).air = { s.air with present := false, state := .idle, airing := none } ∧
        (cancelOnAir s).clips.holds.get 3 = none) ∧
    (s.air.state = .waitLink → (cancelOnAir s).air = { s.air with present := false, state := .idle, airing := none }) ∧
    (s.air.state ∈ [AirState.idle, .waitBreak, .closing, .leadOut] →
      (cancelOnAir s).air = { s.air with present := false }) := by
  have hstate : (s.modAir fun a => { a with present := false }).air.state = s.air.state := rfl
  have hstep : (s.modAir fun a => { a with present := false }).air.step = s.air.step := rfl
  have hheld := release_airReader s.clips
  unfold cancelOnAir
  dsimp only
  rw [hstate, hstep]
  refine ⟨fun h => ?_, fun h hpos => ?_, fun h hzero => ?_, fun h => ?_, fun h => ?_⟩
  · rcases h with h | h
    all_goals
      rw [h]
      exact ⟨rfl, hheld⟩
  · rw [h]
    dsimp only
    rw [if_neg (by omega)]
    obtain ⟨-, hclips, hair⟩ := enterLeadOut_cancels (Config.crossfadeFrames - s.air.step)
      ((s.modAir fun a => { a with present := false }).modClips fun c => c.release airReader)
    rw [hclips, hair]
    exact ⟨rfl, hheld⟩
  · rw [h]
    dsimp only
    rw [if_pos hzero]
    exact ⟨rfl, hheld⟩
  · rw [h]
    rfl
  · split
    · rename_i hm; rw [hm] at h; exact absurd h (by decide)
    · rename_i hm; rw [hm] at h; exact absurd h (by decide)
    · rename_i hm; rw [hm] at h; exact absurd h (by decide)
    · rename_i hm; rw [hm] at h; exact absurd h (by decide)
    all_goals rfl

/-- The cancel of a record, before the selection. -/
def State.cancelled (i : Identity) (s : State) : State :=
  if (s.air.present && s.air.airing = some i) = true then cancelOnAir (s.uncounted i) else s.uncounted i

theorem cancelled_cancels (i : Identity) (s : State) : (s.uncounted i).Cancels (s.cancelled i) := by
  unfold State.cancelled
  split
  · exact cancelOnAir_cancels _
  · exact ⟨rfl, rfl, rfl⟩

theorem cancelled_onAir {i : Identity} {s : State} (hp : s.air.present = true) (ha : s.air.airing = some i) :
    s.cancelled i = cancelOnAir (s.uncounted i) := by
  unfold State.cancelled
  rw [if_pos (by rw [hp, ha]; simp)]

theorem cancelled_other {i : Identity} {s : State} (h : s.air.present = false ∨ s.air.airing ≠ some i) :
    s.cancelled i = s.uncounted i := by
  unfold State.cancelled
  rw [if_neg]
  rcases h with h | h <;> simp [h]

/-- With no other record eligible, none is once the record has left. -/
theorem cancelled_none {i : Identity} {s : State}
    (h : ∀ q ∈ s.intake.queue, q.identity ≠ i → s.air.eligible q = false) : chosenRecord (s.cancelled i) = none := by
  obtain ⟨hframe, hwait, -⟩ := cancelled_cancels i s
  have hunc := uncounted_eq i s
  have hqueue : (s.cancelled i).intake.queue = s.intake.queue.filter fun r => r.identity ≠ i := by
    rw [hframe, hunc, removeRecord_intake]
  have hwaits : (s.cancelled i).air.waitSet = s.air.waitSet.filter fun j => j ≠ i := by rw [hwait, hunc]
  rw [chosenRecord_eq, ((s.cancelled i).air.choice_spec _).2, hqueue]
  intro q hq
  obtain ⟨hmem, hne⟩ := List.mem_filter.mp hq
  have hne : q.identity ≠ i := of_decide_eq_true hne
  have hold := h q hmem hne
  have hcontains : (s.air.waitSet.filter fun j => j ≠ i).contains q.identity = s.air.waitSet.contains q.identity := by
    rw [Bool.eq_iff_iff, List.contains_iff_mem, List.contains_iff_mem, List.mem_filter]
    exact and_iff_left (decide_eq_true hne)
  unfold AirStage.eligible at hold ⊢
  rw [hwaits, hcontains]
  exact hold

/-- The selection after a cancel: the blocks that either may change. -/
theorem selects_after {s c t : State}
    (hc : c = { s with
      delay := c.delay, clips := c.clips, intake := c.intake, air := c.air, notices := c.notices, sent := c.sent })
    (ht : t = { c with
      clips := t.clips, intake := t.intake, air := t.air, link := t.link, notices := t.notices, sent := t.sent }) :
    t = { s with
      delay := t.delay, clips := t.clips, intake := t.intake, air := t.air, link := t.link, notices := t.notices
      sent := t.sent } := by
  have hdelay : t.delay = c.delay := by rw [ht]
  conv_lhs => rw [ht, hc]
  rw [hdelay]

/-- Settles O34: the record leaves, the airing turns to its end by the air state, and the selection runs. -/
theorem alertCancelEnds : Obligations.AlertCancelEnds := by
  refine ⟨fun s o rest w h hw => order_refused h _ ?_, fun s o rest i h => ⟨fun hno => order_refused h _ ?_, fun hyes => ?_⟩⟩
  · unfold answerAlertCancel
    dsimp only
    rw [identityArg_none hw]
  · unfold answerAlertCancel
    dsimp only
    rw [identityArg_word]
    dsimp only
    rw [show (s.taking rest).intake.find i = none from AlertIntake.find_none.mpr hno]
  · set u := s.taking rest with hu
    have hanswer : answerAlertCancel [i.word] u =
        ⟨select (u.cancelled i), .done,
          i.word :: Word.nat (select (u.cancelled i)).air.state.code :: queueWords (select (u.cancelled i))⟩ := by
      unfold answerAlertCancel
      dsimp only
      rw [identityArg_word]
      dsimp only
      cases hfind : u.intake.find i with
      | none => exact absurd hyes (AlertIntake.find_none.mp hfind)
      | some r => rfl
    have hselects := select_selects (u.cancelled i)
    obtain ⟨hcancels, hwait, hcounters⟩ := cancelled_cancels i u
    have hunc := uncounted_eq i u
    have horders : (select (u.cancelled i)).orders = u.orders := by rw [hselects.frame, hcancels, hunc]
    refine ⟨_, perform_takeCode h answerAlertCancel, ?_⟩
    rw [hanswer]
    have hreply := reply_frame (o := o) (r := .done) (s := s) (rest := rest)
      (ws := i.word :: Word.nat (select (u.cancelled i)).air.state.code :: queueWords (select (u.cancelled i)))
      horders (by rw [queueWords_eq]; simp)
    have hlast := reply_getLast? o (⟨select (u.cancelled i), .done,
      i.word :: Word.nat (select (u.cancelled i)).air.state.code :: queueWords (select (u.cancelled i))⟩ : Answer)
      (by rw [queueWords_eq]; simp)
    rw [hreply] at hlast ⊢
    have hair : (u.uncounted i).air = { s.air with
        waitSet := s.air.waitSet.filter fun j => j ≠ i
        counters := { s.air.counters with cancels := min (s.air.counters.cancels + 1) 65535 } } := by rw [hunc]; rfl
    have hintake : (u.cancelled i).intake = (removeRecord i u).intake := by rw [hcancels, hunc]
    have hbusy (hstate : (u.cancelled i).air.state ∉ [AirState.idle, .waitBreak]) :
        select (u.cancelled i) = u.cancelled i := select_busy _ hstate
    obtain ⟨hphases, hleadIn, hleadIn0, hwaitLink, hothers⟩ := cancelOnAir_state (u.uncounted i)
    rw [hair] at hphases hleadIn hleadIn0 hwaitLink hothers
    refine ⟨?_, ?_, ?_, ?_, fun hpresent hairing => ?_, fun hnone hstate => ?_, fun hnot hstate => ?_⟩
    · have hframe : u.cancelled i = { u with
          delay := (u.cancelled i).delay, clips := (u.cancelled i).clips, intake := (u.cancelled i).intake
          air := (u.cancelled i).air, notices := (u.cancelled i).notices, sent := (u.cancelled i).sent } := by
        conv_lhs => rw [hcancels, hunc]
        rw [hintake]
      conv_lhs => rw [selects_after hframe hselects.frame]
      rfl
    · refine hselects.identities.trans ?_
      rw [hintake]
      exact removeRecord_identities i u
    · show (select (u.cancelled i)).air.counters.cancels = _
      rw [hselects.counters, hcounters, hair]
    · rw [hlast, queueWords_eq]
    · have hcancelled := cancelled_onAir (i := i) (s := u) hpresent hairing
      rw [← hcancelled] at hphases hleadIn hleadIn0 hwaitLink hothers
      refine ⟨fun hstate => ?_, fun hstate hpos => ?_, fun hstate => ?_⟩
      · obtain ⟨hend, hheld⟩ := hphases hstate
        rw [hbusy (by rw [hend]; simp), hend]
        exact ⟨rfl, rfl, rfl, hheld⟩
      · obtain ⟨hend, hheld⟩ := hleadIn hstate hpos
        rw [hbusy (by rw [hend]; simp), hend]
        exact ⟨rfl, rfl, rfl, hheld⟩
      · have hend := hothers (by rcases hstate with h | h <;> simp [h])
        rw [hbusy (by rw [hend]; rcases hstate with h | h <;> simp [h]), hend]
    · have hchosen := cancelled_none (i := i) (s := u) hnone
      have hidle : (u.cancelled i).air.state ∈ [AirState.idle, .waitBreak] ∧
          (s.air.state = .leadIn → (u.cancelled i).clips.holds.get 3 = none) := by
        by_cases honAir : s.air.present = true ∧ s.air.airing = some i
        · have hcancelled := cancelled_onAir (i := i) (s := u) honAir.1 honAir.2
          rw [← hcancelled] at hphases hleadIn hleadIn0 hwaitLink hothers
          rcases hstate with h | h | ⟨-, -, h | ⟨h, h0⟩⟩
          · rw [hothers (by simp [h])]
            exact ⟨by simp [h], fun e => by rw [e] at h; cases h⟩
          · rw [hothers (by simp [h])]
            exact ⟨by simp [h], fun e => by rw [e] at h; cases h⟩
          · rw [hwaitLink h]
            exact ⟨by simp, fun e => by rw [e] at h; cases h⟩
          · obtain ⟨hend, hheld⟩ := hleadIn0 h h0
            rw [hend]
            exact ⟨by simp, fun _ => hheld⟩
        · have hother : u.cancelled i = u.uncounted i := cancelled_other (by
            by_contra hcon
            rw [not_or, Bool.not_eq_false, not_not] at hcon
            exact honAir hcon)
          rw [hother, hair]
          rcases hstate with h | h | ⟨hp, ha, -⟩
          · exact ⟨by simp [h], fun e => by rw [e] at h; cases h⟩
          · exact ⟨by simp [h], fun e => by rw [e] at h; cases h⟩
          · exact absurd ⟨hp, ha⟩ honAir
      rw [select_none hidle.1 hchosen]
      exact ⟨rfl, rfl, hidle.2⟩
    · have hother : u.cancelled i = u.uncounted i := cancelled_other hnot
      have hstays : (u.cancelled i).air.state ∉ [AirState.idle, .waitBreak] := by
        rw [hother, hair]
        show s.air.state ∉ _
        revert hstate
        cases s.air.state <;> decide
      rw [hbusy hstays, hother, hair]

end Sys2Proof.Machine

/-!
PROOF. The FILL frames of a cart's page (R97, R98, R103).
-/

namespace Sys2Proof.Machine

/-! ### The bytes of a FILL frame (R209) -/

theorem blockAt_drop (bytes : List Byte) (k i : Nat) : blockAt bytes (k + i) = blockAt (bytes.drop k) i := by
  unfold blockAt
  rw [List.drop_drop]

/-- The bytes of a FILL frame: slot, page index, frame index, three bytes, audio. -/
def fillBytes (n : Fin 32) (pageIndex index : Nat) (data : List Byte) : List Byte :=
  [BitVec.ofNat 8 n.val] ++ beBytes 2 pageIndex ++ [BitVec.ofNat 8 index, 0, 0, 0] ++ data

section
variable {n : Fin 32} {pageIndex index : Nat} {data : List Byte}

theorem fillBytes_drop : (0x03 :: fillBytes n pageIndex index data).drop 8 = data := rfl

theorem fillBytes_blocks :
    blockAt (0x03 :: fillBytes n pageIndex index data) 8 = blockAt data 0 ∧
      blockAt (0x03 :: fillBytes n pageIndex index data) 152 = blockAt data 144 :=
  ⟨blockAt_drop (0x03 :: fillBytes n pageIndex index data) 8 0, blockAt_drop (0x03 :: fillBytes n pageIndex index data) 8 144⟩

theorem fillBytes_pageIndex (h : pageIndex < 65536) : beAt (0x03 :: fillBytes n pageIndex index data) 2 2 = pageIndex :=
  beAt_beBytes 2 pageIndex h

theorem fillBytes_index (h : index < 256) : (byteAt (0x03 :: fillBytes n pageIndex index data) 4).toNat = index := by
  show (BitVec.ofNat 8 index).toNat = index
  rw [BitVec.toNat_ofNat, Nat.mod_eq_of_lt (by omega)]

theorem fillBytes_slot : finOf 32 (byteAt (0x03 :: fillBytes n pageIndex index data) 1).toNat = some n := by
  rw [finOf_eq_some]
  show (BitVec.ofNat 8 n.val).toNat = n.val
  rw [BitVec.toNat_ofNat, Nat.mod_eq_of_lt (by omega)]

theorem fillBytes_length (h : data.length = 288) : (0x03 :: fillBytes n pageIndex index data).length = 296 := by
  simp [fillBytes, h]

/-- A well-formed FILL frame that names a slot and a page. -/
theorem takeFill_bytes (c : ClipStore) (hp : pageIndex < 768) (hi : index < 256) :
    takeFill (0x03 :: fillBytes n pageIndex index data) c =
      if c.channelHeld = true then (if index = 0 then c.replaceFill (.cut n pageIndex) else c)
      else if index = 0 then beginBurst n pageIndex (0x03 :: fillBytes n pageIndex index data) c
      else continueBurst n pageIndex index (0x03 :: fillBytes n pageIndex index data) c := by
  unfold takeFill
  dsimp only
  rw [fillBytes_pageIndex (by omega), fillBytes_index hi, fillBytes_slot, if_pos (show pageIndex < Config.clipPages from hp)]

end

theorem exec_fill (body : List Byte) (s : State) :
    exec (.fill body) s = .next { s with
      clips := if (0x03 :: body).length = 296 then takeFill (0x03 :: body) s.clips else countStray s.clips
      sent := ⟨[], [], []⟩ } := rfl

theorem exec_fillBytes {n : Fin 32} {pageIndex index : Nat} {data : List Byte} (s : State) (h : data.length = 288) :
    exec (.fill (fillBytes n pageIndex index data)) s = .next { s with
      clips := takeFill (0x03 :: fillBytes n pageIndex index data) s.clips, sent := ⟨[], [], []⟩ } := by
  rw [exec_fill, if_pos (fillBytes_length h)]

/-! ### A frame begins a burst (R97) -/

/-- The region after a block has been written. -/
theorem region_write (m : List (Nat × StereoFrame)) (a : Nat) (f : StereoFrame) :
    Memory.read StereoFrame.silence (Memory.write StereoFrame.silence m a f) a = f ∧
      ∀ b, b ≠ a → Memory.read StereoFrame.silence (Memory.write StereoFrame.silence m a f) b =
        Memory.read StereoFrame.silence m b :=
  ⟨(Memory.read_write ..).trans (if_pos rfl), fun _ hb => (Memory.read_write ..).trans (if_neg hb)⟩

/-- The pages free once a burst in flight has been abandoned. -/
theorem replaceFill_free (c : ClipStore) (next : FillRecord) : c.replaceFill next =
    { c with free := c.free ++ c.fill.burstPages, fill := next } := by
  rw [ClipStore.replaceFill_eq]
  cases c.fill <;> rfl

theorem abandonBurst_eq (c : ClipStore) : c.abandonBurst =
    { c with
      free := c.free ++ c.fill.burstPages
      fill := .nothing
      counters := { c.counters with abandoned := min (c.counters.abandoned + c.fill.burstPages.length) 65535 } } := by
  unfold ClipStore.abandonBurst
  rw [replaceFill_free]
  cases c.fill <;> rfl

/-- A burst refused, full or opened, with no burst in flight. -/
theorem openBurst_cases (n : Fin 32) (pageIndex : Nat) (payload : List Byte) (c : ClipStore) :
    ((c.slots.get n).state ≠ .filling ∨ pageIndex ≠ (c.slots.get n).length / 256 →
      c.openBurst n pageIndex payload = { c with fill := .refused n pageIndex .refused }) ∧
    ((c.slots.get n).state = .filling → pageIndex = (c.slots.get n).length / 256 →
      (c.free.length ≤ c.reserve ∨ c.free = [] →
        c.openBurst n pageIndex payload = { c with fill := .refused n pageIndex .full }) ∧
      ∀ page left, c.free = page :: left → c.reserve < c.free.length →
        c.openBurst n pageIndex payload = { c with
          free := left
          region := Memory.write StereoFrame.silence c.region (page * 256) ⟨blockAt payload 8, blockAt payload 152⟩
          fill := .opened ⟨n, pageIndex, page, 1, min 256 ((c.slots.get n).declared - 256 * pageIndex),
            crc16 (payload.drop 8), false⟩ }) := by
  unfold ClipStore.openBurst
  refine ⟨fun h => ?_, fun hstate hpage => ⟨fun h => ?_, fun page left hfree hroom => ?_⟩⟩
  · rw [if_pos]
    rw [Bool.or_eq_true, decide_eq_true_eq, decide_eq_true_eq]
    exact h
  all_goals
    rw [if_neg (by
      rw [Bool.or_eq_true, decide_eq_true_eq, decide_eq_true_eq, not_or, not_not, not_not]
      exact ⟨hstate, hpage⟩)]
  · rcases h with h | h
    · rw [if_pos (show c.freeCount ≤ c.reserve from h)]
    · rw [if_pos (show c.freeCount ≤ c.reserve by rw [ClipStore.freeCount, h]; exact Nat.zero_le _)]
  · rw [if_neg (show ¬ c.freeCount ≤ c.reserve from by rw [ClipStore.freeCount]; omega), hfree]
    simp only [ClipStore.writeBlock, expectedCount, crc16, Config.pageBlocks]

/-- A frame with index 0 under a held channel cuts the record (R103). -/
theorem takeFill_cut {n : Fin 32} {pageIndex : Nat} {data : List Byte} {c : ClipStore} (hp : pageIndex < 768)
    (h : c.channelHeld = true) : takeFill (0x03 :: fillBytes n pageIndex 0 data) c =
      { c with free := c.free ++ c.fill.burstPages, fill := .cut n pageIndex } := by
  rw [takeFill_bytes c hp (by omega), if_pos h, if_pos rfl, replaceFill_free]

theorem takeFill_begins {n : Fin 32} {pageIndex : Nat} {data : List Byte} {c : ClipStore} (hp : pageIndex < 768)
    (h : c.channelHeld = false) : takeFill (0x03 :: fillBytes n pageIndex 0 data) c =
      c.abandonBurst.openBurst n pageIndex (0x03 :: fillBytes n pageIndex 0 data) := by
  rw [takeFill_bytes c hp (by omega), if_neg (by rw [h]; nofun), if_pos rfl, beginBurst_eq]

/-- A frame that is not looked at further (R97, R98, log entry 23). -/
theorem takeFill_stray {body : List Byte} {c : ClipStore} (h : c.channelHeld = false)
    (hbad : 31 < (byteAt body 0).toNat ∨ 768 ≤ (byteAt body 1 ++ byteAt body 2).toNat) (hlength : body.length = 295) :
    takeFill (0x03 :: body) c = countStray c := by
  have hpage : beAt (0x03 :: body) 2 2 = (byteAt body 1 ++ byteAt body 2).toNat := by
    have htwo := ofNat_beAt_two (0x03 :: body) 2 (by simp; omega)
    have hlt : beAt (0x03 :: body) 2 2 < 65536 := by
      have hbytes : ((0x03 :: body).drop 2).take 2 = [byteAt body 1, byteAt body 2] := by
        match body, hlength with
        | _ :: _ :: _ :: _, _ => rfl
      rw [beAt, hbytes]
      have h1 := (byteAt body 1).isLt
      have h2 := (byteAt body 2).isLt
      simp only [List.foldl_cons, List.foldl_nil]
      omega
    have hval := congrArg BitVec.toNat htwo
    rw [BitVec.toNat_ofNat, Nat.mod_eq_of_lt hlt] at hval
    exact hval
  unfold takeFill
  dsimp only
  rw [h, if_neg nofun, hpage]
  rcases hbad with hslot | hindex
  · have hnone : finOf 32 (byteAt (0x03 :: body) 1).toNat = none := finOf_eq_none.mpr hslot
    rw [hnone, ite_self]
  · rw [if_neg (show ¬ _ < Config.clipPages from by rw [Config.clipPages]; omega)]

/-! ### A frame goes on with a burst (R98) -/

theorem takeFill_continues {n : Fin 32} {pageIndex index : Nat} {data : List Byte} {c : ClipStore} (hp : pageIndex < 768)
    (h1 : 1 ≤ index) (hi : index < 256) (h : c.channelHeld = false) :
    takeFill (0x03 :: fillBytes n pageIndex index data) c =
      continueBurst n pageIndex index (0x03 :: fillBytes n pageIndex index data) c := by
  rw [takeFill_bytes c hp hi, if_neg (by rw [h]; nofun), if_neg (by omega)]

theorem continueBurst_nothing {n : Fin 32} {pageIndex index : Nat} {payload : List Byte} {c : ClipStore}
    (h : c.fill = .nothing) : continueBurst n pageIndex index payload c = countStray c := by
  unfold continueBurst
  split
  all_goals
    rename_i hfill
    rw [h] at hfill
  · cases hfill
  · cases hfill
  · cases hfill
  · rfl

theorem continueBurst_opened {n : Fin 32} {pageIndex index : Nat} {payload : List Byte} {c : ClipStore} {b : OpenBurst}
    (h : c.fill = .opened b) (hb : b.spoiled = false) :
    (b.slot = n → b.pageIndex = pageIndex → b.nextFrame = index → index < b.expected →
      continueBurst n pageIndex index payload c = { c with
        region := Memory.write StereoFrame.silence c.region (b.page * 256 + index)
          ⟨blockAt payload 8, blockAt payload 152⟩
        fill := .opened { b with nextFrame := index + 1, crc := crc16More b.crc (payload.drop 8) } }) ∧
    (b.slot ≠ n ∨ b.pageIndex ≠ pageIndex ∨ b.nextFrame ≠ index ∨ b.expected ≤ index →
      continueBurst n pageIndex index payload c = { c with fill := .opened { b with spoiled := true } }) := by
  have htest : (b.slot = n && b.pageIndex = pageIndex && b.nextFrame = index && index < b.expected) = true ↔
      b.slot = n ∧ b.pageIndex = pageIndex ∧ b.nextFrame = index ∧ index < b.expected := by
    simp only [Bool.and_eq_true, decide_eq_true_eq, and_assoc]
  unfold continueBurst
  rw [h]
  dsimp only
  rw [hb, if_neg nofun]
  refine ⟨fun hs hp hn hi => ?_, fun hno => ?_⟩
  · rw [if_pos (htest.mpr ⟨hs, hp, hn, hi⟩)]
    simp only [ClipStore.writeBlock, Config.pageBlocks]
  · rw [if_neg]
    rw [htest]
    rintro ⟨hs, hp, hn, hi⟩
    rcases hno with e | e | e | e
    · exact e hs
    · exact e hp
    · exact e hn
    · omega

/-- Settles O21: by the frame's index, the channel and the record. -/
theorem fillFramesTaken : Obligations.FillFramesTaken := by
  refine ⟨fun s n pageIndex data hp hdata => ?_, fun s body h => ?_, fun s n pageIndex index data hp hdata h1 hi hfree => ?_⟩
  · intro body slot burst pages
    have hpages : pages = s.clips.free ++ s.clips.fill.burstPages := by
      show s.clips.free ++ burst = _
      congr 1
    have hcount : burst.length = s.clips.fill.burstPages.length := by
      simpa [pages] using congrArg List.length hpages
    refine ⟨_, exec_fillBytes s hdata, rfl, ?_⟩
    cases hheld : s.clips.channelHeld with
    | true =>
      rw [takeFill_cut hp hheld]
      exact ⟨rfl, fun _ => ⟨rfl, hpages.symm, rfl, rfl⟩, nofun⟩
    | false =>
      rw [takeFill_begins hp hheld]
      have hab := abandonBurst_eq s.clips
      obtain ⟨hrefused, hopens⟩ := openBurst_cases n pageIndex (0x03 :: fillBytes n pageIndex 0 data) s.clips.abandonBurst
      rw [fillBytes_blocks.1, fillBytes_blocks.2, fillBytes_drop] at hopens
      rw [hab] at hrefused hopens ⊢
      dsimp only at hrefused hopens
      rw [← hpages, ← hcount] at hrefused hopens ⊢
      by_cases hno : slot.state ≠ .filling ∨ pageIndex ≠ slot.length / 256
      · rw [hrefused hno]
        refine ⟨rfl, nofun, fun _ => ⟨rfl, fun _ => ⟨rfl, rfl, rfl⟩, fun hstate hpage => ?_⟩⟩
        exact absurd hno (by rw [not_or, not_not, not_not]; exact ⟨hstate, hpage⟩)
      · obtain ⟨hstate, hpage⟩ := not_or.mp hno
        rw [not_not] at hstate hpage
        obtain ⟨hfull, htakes⟩ := hopens hstate hpage
        by_cases hroom : pages.length ≤ s.clips.reserve ∨ pages = []
        · rw [hfull hroom]
          refine ⟨rfl, nofun, fun _ => ⟨rfl, fun e => absurd e hno, fun _ _ => ⟨fun _ => ⟨rfl, rfl, rfl⟩, ?_⟩⟩⟩
          intro page left he hlt
          rcases hroom with h | h
          · omega
          · rw [h] at he; cases he
        · obtain ⟨hlt, hne⟩ := not_or.mp hroom
          obtain ⟨page, left, he⟩ := List.exists_cons_of_ne_nil hne
          rw [htakes page left he (by omega)]
          dsimp only
          refine ⟨rfl, nofun, fun _ => ⟨rfl, fun e => absurd e hno, fun _ _ => ⟨fun e => absurd e hroom, ?_⟩⟩⟩
          intro page' left' he' _
          obtain ⟨rfl, rfl⟩ := List.cons.inj (he.symm.trans he')
          exact ⟨rfl, rfl, region_write ..⟩
  · rw [exec_fill]
    by_cases hlength : (0x03 :: body).length = 296
    · have hlength' : body.length = 295 := by simpa using hlength
      obtain ⟨hfree, hbad⟩ := h.resolve_left fun e => e hlength'
      rw [if_pos hlength, takeFill_stray hfree hbad hlength']
      rfl
    · rw [if_neg hlength]
      rfl
  · intro body
    have hexec : exec (.fill body) s = .next { s with
        clips := continueBurst n pageIndex index (0x03 :: fillBytes n pageIndex index data) s.clips
        sent := ⟨[], [], []⟩ } := by
      rw [← takeFill_continues hp h1 hi hfree]
      exact exec_fillBytes s hdata
    refine ⟨fun b hopen hspoiled => ?_, fun hnone => ?_⟩
    · obtain ⟨hgoes, hspoils⟩ := continueBurst_opened (n := n) (pageIndex := pageIndex) (index := index)
        (payload := 0x03 :: fillBytes n pageIndex index data) hopen hspoiled
      refine ⟨fun hs hpg hn hx => ?_, fun hno => ?_⟩
      · rw [hgoes hs hpg hn hx, fillBytes_blocks.1, fillBytes_blocks.2, fillBytes_drop] at hexec
        refine ⟨_, hexec, ?_⟩
        dsimp only
        exact ⟨rfl, region_write ..⟩
      · rw [hexec, hspoils hno]
    · rw [hexec, continueBurst_nothing hnone]
      rfl

end Sys2Proof.Machine

/-!
PROOF. FILL-CHECK: the burst judged, or the answer of the fill record (R99, R100).
-/

namespace Sys2Proof.Machine

/-! ### The bytes of a FILL-CHECK frame (R209) -/

/-- The bytes of a FILL-CHECK frame: type, slot, page index, tag, frame count, CRC. -/
def checkBytes (slot : Byte) (pageIndex tag count crc : Nat) : List Byte :=
  [0x04, slot] ++ beBytes 2 pageIndex ++ beBytes 2 tag ++ beBytes 2 count ++ beBytes 2 crc

section
variable (slot : Byte) {pageIndex tag count crc : Nat}

theorem checkBytes_length : (checkBytes slot pageIndex tag count crc).length = 10 := rfl

/-- A check, padded or not, is read with its own layout. -/
theorem unpadded_checkBytes {frame : List Byte}
    (h : frame = checkBytes slot pageIndex tag count crc ∨ frame = padded (checkBytes slot pageIndex tag count crc)) :
    unpadded 10 frame = checkBytes slot pageIndex tag count crc := by
  rcases h with rfl | rfl
  · exact unpadded_whole fun e => nomatch e.1
  · exact unpadded_padded (checkBytes slot pageIndex tag count crc) (by rw [checkBytes_length]; omega)

theorem checkBytes_fields (hp : pageIndex < 65536) (ht : tag < 65536) (hc : count < 65536) (hx : crc < 65536) :
    byteAt (checkBytes slot pageIndex tag count crc) 1 = slot ∧
      beAt (checkBytes slot pageIndex tag count crc) 2 2 = pageIndex ∧
      beAt (checkBytes slot pageIndex tag count crc) 4 2 = tag ∧
      beAt (checkBytes slot pageIndex tag count crc) 6 2 = count ∧
      beAt (checkBytes slot pageIndex tag count crc) 8 2 = crc :=
  ⟨rfl, beAt_of_take rfl hp, beAt_of_take rfl ht, beAt_of_take rfl hc, beAt_of_take rfl hx⟩

end

/-! ### The check (R99, R100) -/

/-- What a check leaves that finds no open burst of its own. -/
def ClipStore.unmatched (n : Option (Fin 32)) (pageIndex : Nat) (c : ClipStore) : ClipStore :=
  { c with
    fill := (checkUnmatched n pageIndex c).2
    counters := countBurst (checkUnmatched n pageIndex c).1 c.counters }

/-- The store with a bad burst's page returned. -/
def ClipStore.rejectBurst (b : OpenBurst) (c : ClipStore) : ClipStore :=
  { c with free := c.free ++ [b.page], fill := .nothing, counters := countBurst .bad c.counters }

theorem rejectBurst_eq {b : OpenBurst} {c : ClipStore} (h : c.fill = .opened b) :
    ({ c.replaceFill .nothing with counters := countBurst .bad c.counters } : ClipStore) = c.rejectBurst b := by
  rw [replaceFill_free, h]
  rfl

section
variable (src : MacAddress) (slot : Byte) {pageIndex count : Nat} (tag crc : BitVec 16) (s : State)

/-- A check of its layout, by the fill record. -/
theorem takeCheck_bytes (hp : pageIndex < 65536) (hc : count < 65536) :
    takeCheck src (checkBytes slot pageIndex tag.toNat count crc.toNat) s =
      match s.clips.fill with
      | .opened b =>
        if finOf 32 slot.toNat = some b.slot ∧ b.pageIndex = pageIndex then
          if b.good count crc then replyCheck src tag slot.toNat pageIndex .ok (acceptBurst b s)
          else replyCheck src tag slot.toNat pageIndex .bad (s.modClips fun c => c.rejectBurst b)
        else replyCheck src tag slot.toNat pageIndex (checkUnmatched (finOf 32 slot.toNat) pageIndex s.clips).1
          (s.modClips fun c => c.unmatched (finOf 32 slot.toNat) pageIndex)
      | _ => replyCheck src tag slot.toNat pageIndex (checkUnmatched (finOf 32 slot.toNat) pageIndex s.clips).1
          (s.modClips fun c => c.unmatched (finOf 32 slot.toNat) pageIndex) := by
  obtain ⟨hslot, hpage, htag, hcount, hcrc⟩ := checkBytes_fields slot hp tag.isLt hc crc.isLt
  unfold takeCheck
  dsimp only
  rw [hslot, hpage, htag, hcount, hcrc, BitVec.ofNat_toNat, BitVec.ofNat_toNat, BitVec.setWidth_eq, BitVec.setWidth_eq]
  cases hfill : s.clips.fill with
  | opened b =>
    dsimp only
    have htest : (decide (finOf 32 slot.toNat = some b.slot) && decide (b.pageIndex = pageIndex)) = true ↔
        finOf 32 slot.toNat = some b.slot ∧ b.pageIndex = pageIndex := by
      rw [Bool.and_eq_true, decide_eq_true_eq, decide_eq_true_eq]
    have hreject : (s.modClips fun c => { c.replaceFill .nothing with counters := countBurst .bad c.counters }) =
        s.modClips fun c => c.rejectBurst b := congrArg (fun c => { s with clips := c }) (rejectBurst_eq hfill)
    simp only [htest, hreject]
    rfl
  | _ => rfl

end

/-- The reply to a check, as an equation. -/
theorem replyCheck_eq (src : MacAddress) (tag : BitVec 16) (slot pageIndex : Nat) (r : BurstResult) (s : State) :
    replyCheck src tag slot pageIndex r s =
      { s with sent := { s.sent with studio := s.sent.studio ++ [studioFrame (some src) (replyFrame tag 0xFF r.code 0 true
        [Word.nat slot, Word.nat pageIndex, Word.option ((finOf 32 slot).map fun n => (s.clips.slots.get n).length),
          Word.option ((finOf 32 slot).map fun n => (s.clips.slots.get n).state.code),
          Word.nat s.clips.free.length])] } } := by
  unfold replyCheck
  dsimp only
  rw [sendReply_single _ _ _ _ _ _ (by simp)]
  rfl

/-- The slot of a good burst once its page has joined the chain. -/
def Slot.joined (b : OpenBurst) (t : Slot) : Slot :=
  let full := t.length + b.expected = t.declared
  { t with
    chain := t.chain ++ [b.page]
    length := t.length + b.expected
    state := if full then .ready else t.state
    stamp := if full then none else t.stamp }

theorem acceptBurst_full {b : OpenBurst} {s : State}
    (h : (s.clips.slots.get b.slot).length + b.expected = (s.clips.slots.get b.slot).declared) :
    acceptBurst b s = latch .slotReady [Word.nat b.slot.val, Word.nat (s.clips.slots.get b.slot).declared]
      (s.modClips fun c => (c.joinBurst b).modSlot b.slot Slot.readied) := by
  have hjoin := s.clips.joinBurst_get b b.slot
  rw [if_pos rfl] at hjoin
  rw [acceptBurst_eq, hjoin]
  dsimp only
  rw [if_pos h, h]

theorem acceptBurst_part {b : OpenBurst} {s : State}
    (h : ¬ (s.clips.slots.get b.slot).length + b.expected = (s.clips.slots.get b.slot).declared) :
    acceptBurst b s = s.modClips (ClipStore.joinBurst b) := by
  have hjoin := s.clips.joinBurst_get b b.slot
  rw [if_pos rfl] at hjoin
  rw [acceptBurst_eq, hjoin]
  dsimp only
  rw [if_neg h]

/-- What a good burst leaves of the store and the notices. -/
structure State.Accepts (b : OpenBurst) (s t : State) : Prop where
  frame : t = { s with clips := t.clips, notices := t.notices, sent := t.sent }
  region : t.clips.region = s.clips.region
  free : t.clips.free = s.clips.free
  fill : t.clips.fill = .nothing
  slots : ∀ m, t.clips.slots.get m = if m = b.slot then (s.clips.slots.get m).joined b else s.clips.slots.get m
  full : (s.clips.slots.get b.slot).length + b.expected = (s.clips.slots.get b.slot).declared →
    t.notices.latches.get 11 = some ((s.notices.latches.get 11).getD
      [Word.nat b.slot.val, Word.nat (s.clips.slots.get b.slot).declared])
  part : ¬ (s.clips.slots.get b.slot).length + b.expected = (s.clips.slots.get b.slot).declared → t.notices = s.notices

theorem acceptBurst_accepts (b : OpenBurst) (s : State) : s.Accepts b (acceptBurst b s) := by
  by_cases h : (s.clips.slots.get b.slot).length + b.expected = (s.clips.slots.get b.slot).declared
  · rw [acceptBurst_full h]
    refine ⟨?_, ?_, ?_, ?_, fun m => ?_, fun _ => ?_, fun hno => absurd h hno⟩
    · rw [latch_clips]; exact latch_frame ..
    · rw [latch_clips]; rfl
    · rw [latch_clips]; rfl
    · rw [latch_clips]; rfl
    · rw [latch_clips]
      refine (ClipStore.modSlot_get ..).trans ?_
      rw [ClipStore.joinBurst_get]
      by_cases hm : m = b.slot
      · subst hm
        simp only [if_true, Slot.joined, Slot.readied, h]
      · rw [if_neg hm, if_neg hm, if_neg hm]
    · rw [latch_get, if_pos (show (11 : Fin 25) = NoticeKind.slotReady.index from rfl)]
      rfl
  · rw [acceptBurst_part h]
    refine ⟨rfl, rfl, rfl, rfl, fun m => ?_, fun hyes => absurd hyes h, fun _ => rfl⟩
    refine (s.clips.joinBurst_get b m).trans ?_
    by_cases hm : m = b.slot
    · subst hm
      simp only [if_true, Slot.joined, h, if_false]
    · rw [if_neg hm, if_neg hm]

/-- A check of a slot that does not exist (log entry 28). -/
theorem checkUnmatched_none (pageIndex : Nat) (c : ClipStore) :
    checkUnmatched none pageIndex c = (if c.channelHeld = true then .cut else .refused, c.fill) := by
  unfold checkUnmatched
  cases c.fill with
  | cut m p => cases c.channelHeld <;> simp
  | refused m p r => cases c.channelHeld <;> simp
  | _ => cases c.channelHeld <;> simp

theorem exec_fillCheck (src : MacAddress) (body : List Byte) (s : State) (h : (unpadded 10 (0x04 :: body)).length = 10) :
    exec (.fillCheck src body) s = .next (takeCheck src (unpadded 10 (0x04 :: body)) s.cleared) :=
  congrArg Host.Outcome.next (if_pos h)

theorem OpenBurst.good_iff (b : OpenBurst) (count : Nat) (crc : BitVec 16) :
    b.good count crc = true ↔ b.spoiled = false ∧ count = b.nextFrame ∧ count = b.expected ∧ crc = b.crc := by
  unfold OpenBurst.good
  rw [Bool.and_eq_true, Bool.and_eq_true, Bool.and_eq_true, Bool.not_eq_true', decide_eq_true_eq, decide_eq_true_eq,
    decide_eq_true_eq, and_assoc, and_assoc]
  refine and_congr_right fun _ => and_congr_right fun h => ?_
  rw [h]

/-- The reply to a check of a slot, over the store that it finds. -/
theorem replyCheck_answers (src : MacAddress) (tag : BitVec 16) (n : Fin 32) (pageIndex : Nat) (r : BurstResult) (u : State) :
    replyCheck src tag n.val pageIndex r u = { u with sent := (replyCheck src tag n.val pageIndex r u).sent } ∧
      (replyCheck src tag n.val pageIndex r u).clips = u.clips ∧
      (replyCheck src tag n.val pageIndex r u).notices = u.notices ∧
      (replyCheck src tag n.val pageIndex r u).sent.studio.getLast? = some ⟨some src, 0x88B5, padded (replyFrame tag 0xFF
        r.code 0 true [Word.nat n.val, Word.nat pageIndex, Word.nat (u.clips.slots.get n).length,
          Word.nat (u.clips.slots.get n).state.code, Word.nat u.clips.free.length])⟩ := by
  rw [replyCheck_eq, finOf_val]
  exact ⟨rfl, rfl, rfl, List.getLast?_concat⟩

/-- Settles O22: by the fill record that the check finds. -/
theorem fillCheckJudges : Obligations.FillCheckJudges := by
  refine ⟨fun s src n pageIndex count tag crc hp hc => ?_, fun s src slot pageIndex tag count crc hslot hp => ?_⟩
  · intro payload slot body hbody
    have hread : unpadded 10 (0x04 :: body) = checkBytes (BitVec.ofNat 8 n.val) pageIndex tag.toNat count crc.toNat :=
      unpadded_checkBytes _ hbody
    have hn : (BitVec.ofNat 8 n.val : Byte).toNat = n.val := by
      rw [BitVec.toNat_ofNat, Nat.mod_eq_of_lt (by omega)]
    have htake := takeCheck_bytes src (BitVec.ofNat 8 n.val) tag crc s.cleared hp hc
    rw [hn, finOf_val] at htake
    have hexec := exec_fillCheck src body s (by rw [hread]; rfl)
    rw [hread, htake] at hexec
    have hunmatched (t : State)
        (ht : t = replyCheck src tag n.val pageIndex (checkUnmatched (some n) pageIndex s.clips).1
          (s.cleared.modClips fun c => c.unmatched (some n) pageIndex)) :
        (t = { s with clips := t.clips, notices := t.notices, sent := t.sent } ∧ t.clips.region = s.clips.region) ∧
        t.sent.studio.getLast? = some ⟨some src, 0x88B5, padded (replyFrame tag 0xFF
          (checkUnmatched (some n) pageIndex s.clips).1.code 0 true
          [Word.nat n.val, Word.nat pageIndex, Word.nat (t.clips.slots.get n).length,
            Word.nat (t.clips.slots.get n).state.code, Word.nat t.clips.free.length])⟩ ∧
        t.notices = s.notices ∧ t.clips = s.clips.unmatched (some n) pageIndex := by
      obtain ⟨hframe, hclips, hnotices, hlast⟩ := replyCheck_answers src tag n pageIndex
        (checkUnmatched (some n) pageIndex s.clips).1 (s.cleared.modClips fun c => c.unmatched (some n) pageIndex)
      rw [← ht] at hframe hclips hnotices hlast
      rw [← hclips] at hlast
      refine ⟨⟨?_, by rw [hclips]; rfl⟩, hlast, hnotices, hclips⟩
      rw [hclips, hnotices]
      exact hframe
    cases hfill : s.clips.fill with
    | opened b =>
      rw [show s.cleared.clips.fill = .opened b from hfill] at hexec
      dsimp only at hexec
      by_cases hown : b.slot = n ∧ b.pageIndex = pageIndex
      · obtain ⟨rfl, rfl⟩ := hown
        rw [if_pos ⟨rfl, rfl⟩] at hexec
        have hself : ¬ ∀ c, FillRecord.opened b = .opened c → c.slot ≠ b.slot ∨ c.pageIndex ≠ b.pageIndex := fun h => by
          rcases h b rfl with e | e <;> exact e rfl
        by_cases hgood : b.good count crc = true
        · rw [if_pos hgood] at hexec
          have haccepts := acceptBurst_accepts b s.cleared
          obtain ⟨hframe, hclips, hnotices, hlast⟩ := replyCheck_answers src tag b.slot b.pageIndex .ok (acceptBurst b s.cleared)
          rw [← hclips] at hlast
          have hslot := haccepts.slots b.slot
          rw [if_pos rfl] at hslot
          refine ⟨_, hexec, ?_, by rw [hclips]; exact haccepts.region, fun c hc hs hpg => ?_, fun h => absurd h hself⟩
          · rw [hclips, hnotices]
            conv_lhs => rw [hframe, haccepts.frame]
            rfl
          · cases hc
            refine ⟨by rw [hclips]; exact haccepts.fill, fun m hm => ?_, fun _ => ⟨hlast, ?_, ?_, fun hfull => ?_, fun hpart => ?_⟩,
              fun hno => absurd ((b.good_iff count crc).mp hgood) hno⟩
            · rw [hclips, haccepts.slots m, if_neg hm]
              rfl
            · rw [hclips]; exact haccepts.free
            · rw [hclips]; exact hslot
            · rw [hnotices]; exact haccepts.full hfull
            · rw [hnotices]; exact haccepts.part hpart
        · rw [if_neg hgood] at hexec
          obtain ⟨hframe, hclips, hnotices, hlast⟩ := replyCheck_answers src tag b.slot b.pageIndex .bad
            (s.cleared.modClips fun c => c.rejectBurst b)
          rw [← hclips] at hlast
          refine ⟨_, hexec, ?_, by rw [hclips]; rfl, fun c hc hs hpg => ?_, fun h => absurd h hself⟩
          · rw [hclips, hnotices]
            conv_lhs => rw [hframe]
            rfl
          · cases hc
            refine ⟨by rw [hclips]; rfl, fun m hm => by rw [hclips]; rfl,
              fun hyes => absurd ((b.good_iff count crc).mpr hyes) hgood, fun _ => ⟨hlast, ?_, ?_, ?_, ?_⟩⟩
            · rw [hclips]; rfl
            · rw [hclips]; rfl
            · rw [hnotices]; rfl
            · rw [hclips]; rfl
      · rw [if_neg fun e => hown ⟨(Option.some.inj e.1).symm, e.2⟩] at hexec
        generalize ht : replyCheck src tag n.val pageIndex _ _ = t at hexec
        obtain ⟨hframe, hlast, hnotices, hclips⟩ := hunmatched t ht.symm
        have hresult : checkUnmatched (some n) pageIndex s.clips =
            (if s.clips.channelHeld = true then .cut else .refused, .opened b) := by
          unfold checkUnmatched
          rw [hfill]
          cases s.clips.channelHeld <;> simp
        refine ⟨_, hexec, hframe.1, hframe.2, fun c hc hs hpg => ?_, fun _ => ?_⟩
        · cases hc
          exact absurd ⟨hs, hpg⟩ hown
        · rw [hresult] at hlast
          refine ⟨hlast, hnotices, hclips.trans ?_⟩
          rw [ClipStore.unmatched, hresult]
    | nothing =>
      rw [show s.cleared.clips.fill = .nothing from hfill] at hexec
      dsimp only at hexec
      generalize ht : replyCheck src tag n.val pageIndex _ _ = t at hexec
      obtain ⟨hframe, hlast, hnotices, hclips⟩ := hunmatched t ht.symm
      have hresult : checkUnmatched (some n) pageIndex s.clips =
          (if s.clips.channelHeld = true then .cut else .refused, .nothing) := by
        unfold checkUnmatched
        rw [hfill]
        cases s.clips.channelHeld <;> simp
      refine ⟨_, hexec, hframe.1, hframe.2, nofun, fun _ => ?_⟩
      rw [hresult] at hlast
      refine ⟨hlast, hnotices, hclips.trans ?_⟩
      rw [ClipStore.unmatched, hresult]
    | refused m p x =>
      rw [show s.cleared.clips.fill = .refused m p x from hfill] at hexec
      dsimp only at hexec
      generalize ht : replyCheck src tag n.val pageIndex _ _ = t at hexec
      obtain ⟨hframe, hlast, hnotices, hclips⟩ := hunmatched t ht.symm
      have hresult : checkUnmatched (some n) pageIndex s.clips =
          if s.clips.channelHeld = true then (.cut, .refused m p x)
          else if m = n ∧ p = pageIndex then (x, .nothing) else (.refused, .refused m p x) := by
        unfold checkUnmatched
        rw [hfill]
        by_cases hown : m = n ∧ p = pageIndex
        · obtain ⟨rfl, rfl⟩ := hown
          cases s.clips.channelHeld <;> simp
        · have hown' : ¬ (n = m ∧ p = pageIndex) := fun e => hown ⟨e.1.symm, e.2⟩
          cases s.clips.channelHeld <;> simp [hown, hown']
      refine ⟨_, hexec, hframe.1, hframe.2, nofun, fun _ => ?_⟩
      rw [ClipStore.unmatched] at hclips
      rw [hresult] at hlast hclips
      exact ⟨hlast, hnotices, hclips⟩
    | cut m p =>
      rw [show s.cleared.clips.fill = .cut m p from hfill] at hexec
      dsimp only at hexec
      generalize ht : replyCheck src tag n.val pageIndex _ _ = t at hexec
      obtain ⟨hframe, hlast, hnotices, hclips⟩ := hunmatched t ht.symm
      have hresult : checkUnmatched (some n) pageIndex s.clips =
          if m = n ∧ p = pageIndex then (.cut, .nothing)
          else (if s.clips.channelHeld = true then .cut else .refused, .cut m p) := by
        unfold checkUnmatched
        rw [hfill]
        by_cases hown : m = n ∧ p = pageIndex
        · obtain ⟨rfl, rfl⟩ := hown
          cases s.clips.channelHeld <;> simp
        · have hown' : ¬ (n = m ∧ p = pageIndex) := fun e => hown ⟨e.1.symm, e.2⟩
          cases s.clips.channelHeld <;> simp [hown, hown']
      refine ⟨_, hexec, hframe.1, hframe.2, nofun, fun _ => ?_⟩
      rw [ClipStore.unmatched] at hclips
      rw [hresult] at hlast hclips
      exact ⟨hlast, hnotices, hclips⟩
  · intro held k
    have hread := unpadded_checkBytes (frame := checkBytes slot pageIndex tag.toNat count.toNat crc.toNat) slot (.inl rfl)
    have hexec := exec_fillCheck src (checkBytes slot pageIndex tag.toNat count.toNat crc.toNat).tail s (by
      exact congrArg List.length hread)
    have hbody : unpadded 10 (0x04 :: (checkBytes slot pageIndex tag.toNat count.toNat crc.toNat).tail) =
        checkBytes slot pageIndex tag.toNat count.toNat crc.toNat := hread
    have htake := takeCheck_bytes src slot tag crc s.cleared hp count.isLt
    rw [finOf_eq_none.mpr hslot] at htake
    have hanswer : takeCheck src (checkBytes slot pageIndex tag.toNat count.toNat crc.toNat) s.cleared =
        replyCheck src tag slot.toNat pageIndex (checkUnmatched none pageIndex s.clips).1
          (s.cleared.modClips fun c => c.unmatched none pageIndex) := by
      rw [htake]
      split
      · exact if_neg fun e => nomatch e.1
      · rfl
    rw [hbody, hanswer, replyCheck_eq, finOf_eq_none.mpr hslot, checkUnmatched_none] at hexec
    have hunmatched : s.clips.unmatched none pageIndex = { s.clips with
        counters := countBurst (if held = true then .cut else .refused) k } := by
      unfold ClipStore.unmatched
      rw [checkUnmatched_none]
    have hmod : (s.cleared.modClips fun c => c.unmatched none pageIndex) = { s.cleared with
        clips := { s.clips with counters := countBurst (if held = true then .cut else .refused) k } } :=
      congrArg (fun c => { s.cleared with clips := c }) hunmatched
    rw [hmod] at hexec
    have hheld : held = s.clips.channelHeld := rfl
    rw [hheld] at hexec ⊢
    cases hh : s.clips.channelHeld with
    | true => rw [hh] at hexec; exact hexec
    | false => rw [hh] at hexec; exact hexec

end Sys2Proof.Machine

/-!
PROOF. A frame of alert intake: the recording waits, writes or ends (R105, R106, R134, R135).
-/

namespace Sys2Proof.Machine

/-! ### Eviction (R106) -/

theorem ClipStore.candidate_iff (c : ClipStore) (n : Fin 32) : c.candidate n = true ↔ c.evictable n := by
  unfold ClipStore.candidate ClipStore.playable ClipStore.evictable
  rw [Bool.and_eq_true, Bool.and_eq_true, Bool.and_eq_true, decide_eq_true_eq, decide_eq_true_eq, decide_eq_true_eq,
    Bool.not_eq_true', and_assoc, and_assoc]

theorem stampAge_none (now : BitVec 32) : stampAge now none = 2 ^ 32 := by
  unfold stampAge
  with_reducible rfl

theorem stampAge_some (now t : BitVec 32) : stampAge now (some t) = (now - t).toNat := by
  unfold stampAge frameAge
  with_reducible rfl

theorem stampAge_getD {now : BitVec 32} {never : Nat} (h : stampAge now none = never) (stamp : Option (BitVec 32)) :
    stampAge now stamp = (stamp.map fun t => (now - t).toNat).getD never := by
  cases stamp with
  | none => rw [h, Option.map_none, Option.getD_none]
  | some t => rw [stampAge_some, Option.map_some, Option.getD_some]

theorem stampAge_eq (now : BitVec 32) (stamp : Option (BitVec 32)) :
    stampAge now stamp = (stamp.map fun t => (now - t).toNat).getD (2 ^ 32) := stampAge_getD (stampAge_none now) stamp

/-- The victim of an eviction is the slot that R106 names. -/
theorem ClipStore.Evicts.victim {c : ClipStore} {now : BitVec 32} {n : Fin 32} (h : c.Evicts now n) :
    c.victim now = some n := by
  obtain ⟨hn, hold⟩ := h
  have hcases := c.victim_cases now
  cases hv : c.victim now with
  | none =>
    rw [hv] at hcases
    rw [← c.candidate_iff, hcases n] at hn
    cases hn
  | some v =>
    rw [hv] at hcases
    obtain ⟨hcandidate, hbest⟩ := hcases
    have h1 := hbest n ((c.candidate_iff n).mpr hn)
    have h2 := hold v ((c.candidate_iff v).mp hcandidate)
    rw [stampAge_eq, stampAge_eq] at h1
    dsimp only at h2
    congr 1
    rcases h1 with h1 | ⟨h1, h1'⟩ <;> rcases h2 with h2 | ⟨h2, h2'⟩
    · omega
    · omega
    · omega
    · exact le_antisymm h1' h2'

theorem ClipStore.victim_none {c : ClipStore} {now : BitVec 32} (h : ∀ m, ¬ c.evictable m) : c.victim now = none := by
  have hcases := c.victim_cases now
  cases hv : c.victim now with
  | none => rfl
  | some v =>
    rw [hv] at hcases
    exact absurd ((c.candidate_iff v).mp hcases.1) (h v)

/-! ### The frame up to the recording (R120, R127) -/

/-- Alert intake at a frame without a minute event. -/
def State.ticked (s : State) : AlertIntake :=
  { s.intake with
    minuteTimer := s.intake.minuteTimer + 1
    filter := s.tables.filter
    defaultVerdict := Verdict.ofCode (s.setting Setting.defaultVerdict)
    defaultMode := AirMode.ofCode (s.setting Setting.defaultMode)
    defaultPriority := priorityOf (s.setting Setting.defaultPriority) }

theorem alertBegin_ticks {s : State} (h : s.intake.minuteTimer + 1 < 60000) :
    alertBegin s = { s with intake := s.ticked } := by
  unfold alertBegin tickMinute
  rw [if_neg]
  · rfl
  · show ¬ decide (60000 ≤ s.intake.minuteTimer + 1) = true
    rw [decide_eq_true_eq]
    omega

/-- The state as the recording has its frame. -/
def State.begun (s : State) : State := { s with intake := s.ticked, sent := ⟨[], [], []⟩ }

theorem exec_alertFrame {s : State} (audio : AudioInput) (h : s.intake.minuteTimer + 1 < 60000) :
    exec (.alertFrame audio) s = .next (recordingWork audio s.begun) := by
  have hbegin : alertBegin s.cleared = s.begun := alertBegin_ticks (s := s.cleared) h
  show Host.Outcome.next (recordingWork audio (alertBegin s.cleared)) = _
  rw [hbegin]

theorem alertBegin_cleared {s : State} (h : s.intake.minuteTimer + 1 < 60000) : alertBegin s.cleared = s.begun :=
  alertBegin_ticks (s := s.cleared) h

/-! ### A frame written (R105, R134) -/

theorem recordingWork_writes {audio : AudioInput} {s : State} {n : Fin 32} {i : Identity}
    (hstate : s.intake.recording.state = .writing) (hfresh : s.intake.recording.fresh = false)
    (hn : s.intake.recording.slot = some n) (hi : s.intake.recording.identity = some i) :
    recordingWork audio s = writeFrame audio n i s := by
  unfold recordingWork
  dsimp only
  rw [hstate]
  dsimp only
  rw [hfresh, if_neg nofun, hn, hi]

theorem takePage_cons {c : ClipStore} {n : Fin 32} {page : Nat} {left : List Nat} (h : c.free = page :: left) :
    c.takePage n = some { c with
      free := left, slots := c.slots.set n { c.slots.get n with chain := (c.slots.get n).chain ++ [page] } } := by
  unfold ClipStore.takePage
  rw [h]
  rfl

/-- The store once a frame has been written at position `p` of slot `n`. -/
def ClipStore.recorded (n : Fin 32) (p : Nat) (f : StereoFrame) (c : ClipStore) : ClipStore :=
  { c with
    region := Memory.write StereoFrame.silence c.region ((c.slots.get n).chain.getD (p / 256) 0 * 256 + p % 256) f
    slots := c.slots.set n { c.slots.get n with length := p + 1 } }

theorem writeRecording_eq (c : ClipStore) (n : Fin 32) (p : Nat) (f : StereoFrame) :
    c.writeRecording n p f = c.recorded n p f := rfl

/-- Alert intake once a frame has been written. -/
def AlertIntake.recorded (n : Fin 32) (i : Identity) (p : Nat) (a : AlertIntake) : AlertIntake :=
  { a with
    queue := a.queue.map fun q =>
      if q.identity = i then { q with words := q.words.modify 5 fun _ => audioWord n.val (p + 1) } else q
    recording := { a.recording with position := p + 1 } }

/-- A frame written, the page for it being there. -/
theorem writeFrame_paged {audio : AudioInput} {n : Fin 32} {i : Identity} {s t : State}
    (h : (if s.intake.recording.position % 256 = 0 then recordingPage n s else some s) = some t) :
    writeFrame audio n i s =
      let w := { t with
        clips := t.clips.recorded n s.intake.recording.position (audioFrame audio)
        intake := t.intake.recorded n i s.intake.recording.position }
      if 60000 ≤ s.intake.recording.position + 1 then endRecording (some .limit) w else w := by
  unfold writeFrame
  dsimp only
  rw [show Config.pageBlocks = 256 from rfl, h]
  rfl

theorem recordingPage_free {n : Fin 32} {s : State} {page : Nat} {left : List Nat} (h : s.clips.free = page :: left) :
    recordingPage n s = some { s with clips := { s.clips with
      free := left
      slots := s.clips.slots.set n { s.clips.slots.get n with chain := (s.clips.slots.get n).chain ++ [page] } } } := by
  unfold recordingPage
  rw [takePage_cons h]
  rfl

theorem takePage_nil {c : ClipStore} (n : Fin 32) (h : c.free = []) : c.takePage n = none := by
  unfold ClipStore.takePage
  rw [h]

/-- No page: the list is empty and no cart can be evicted. -/
theorem recordingPage_none {n : Fin 32} {s : State} (h : s.clips.free = []) (hv : ∀ m, ¬ s.clips.evictable m) :
    recordingPage n s = none := by
  unfold recordingPage
  rw [takePage_nil n h]
  dsimp only
  unfold evict
  rw [ClipStore.victim_none hv]

/-- The store once slot `v` has been evicted. -/
def ClipStore.evicted (v : Fin 32) (c : ClipStore) : ClipStore :=
  { c with
    free := c.free ++ (c.slots.get v).chain
    slots := c.slots.set v { c.slots.get v with state := .empty, length := 0, chain := [], useCount := 0 }
    counters := { c.counters with eviction := min (c.counters.eviction + 1) 65535 } }

theorem evict_eq {s : State} {v : Fin 32} (h : s.clips.Evicts s.frameCount v) :
    evict s = some (v, latch .slotEvicted [Word.nat v.val, Word.nat (s.clips.slots.get v).chain.length]
      { s with clips := s.clips.evicted v }) := by
  unfold evict
  rw [h.victim]
  rfl

/-! ### A recording ended for a cause (R134, R135) -/

theorem AlertRecord.setFlag_flag {r : AlertRecord} {bit : Nat} (h : 5 ≤ r.words.length) (hbit : bit < 32) :
    (r.setFlag bit).flag bit = true := by
  have hw : r.words[4]? = some r.words[4] := List.getElem?_eq_getElem (by omega)
  unfold AlertRecord.setFlag AlertRecord.modWord AlertRecord.flag AlertRecord.word
  rw [List.getD_eq_getElem?_getD, List.getElem?_modify, hw, Option.map_eq_map, Option.map_some, if_pos rfl,
    Option.getD_some, BitVec.getLsbD_or, BitVec.getLsbD_twoPow, decide_eq_true hbit, decide_eq_true rfl]
  exact Bool.or_true _

theorem AlertRecord.setFlag_length (r : AlertRecord) (bit : Nat) : (r.setFlag bit).words.length = r.words.length :=
  List.length_modify ..

/-- What a recording that ends for a cause leaves: its slot is ALERT_HELD, the channel free, its record flagged. -/
structure State.EndedShort (s : State) (n : Fin 32) (i : Identity) (c : EndCause) (t : State) : Prop where
  held : (t.clips.slots.get n).state = .alertHeld
  free : t.clips.channelHeld = false
  idle : t.intake.recording = ⟨.none, none, none, 0, 0, false⟩
  counted : t.intake.counters.audioShort = min (s.intake.counters.audioShort + 1) 65535
  identities : t.intake.identities = s.intake.identities
  flagged : ∀ q ∈ t.intake.queue, q.identity = i → 5 ≤ q.words.length → q.flag flagAudioShort = true
  latched : t.notices.latches.get 17 = some ((s.notices.latches.get 17).getD
    [i.word, Word.nat s.intake.recording.position, Word.nat c.code])
  length : (t.clips.slots.get n).length = (s.clips.slots.get n).length

theorem audioShort_flagged {queue : List AlertRecord} {i : Identity} {q : AlertRecord}
    (hq : q ∈ queue.map fun q => if q.identity = i then q.setFlag flagAudioShort else q) (hi : q.identity = i)
    (hlength : 5 ≤ q.words.length) : q.flag flagAudioShort = true := by
  obtain ⟨r, _, rfl⟩ := List.mem_map.mp hq
  split at hi
  · next h =>
    rw [if_pos h] at hlength ⊢
    exact AlertRecord.setFlag_flag (r.setFlag_length _ ▸ hlength) (by decide)
  · next h => exact absurd hi h

theorem endRecording_short {s : State} {n : Fin 32} {i : Identity} (c : EndCause)
    (hn : s.intake.recording.slot = some n) (hi : s.intake.recording.identity = some i) :
    s.EndedShort n i c (endRecording (some c) s) := by
  rw [endRecording_cause c hn hi]
  refine ⟨?_, ?_, ?_, ?_, ?_, fun q hq => ?_, ?_, ?_⟩
  · rw [latch_clips]
    exact congrArg Slot.state (get_set_self ..)
  · rw [latch_clips]
    rfl
  · rw [latch_intake]
    rfl
  · rw [latch_intake]
    rfl
  · rw [latch_intake]
    exact s.intake.modRecord_identities i _ fun q => q.setFlag_identity _
  · rw [latch_intake] at hq
    exact audioShort_flagged hq
  · exact (latch_get ..).trans (if_pos rfl)
  · rw [latch_clips]
    exact (congrArg Slot.length (get_set_self (x := { s.clips.slots.get n with state := .alertHeld }) ..)).trans rfl

/-! ### The rows of a frame of alert intake -/

theorem whenDue_eq (due : State → Bool) (f : State → State) (g : State → State) (s : State) :
    whenDue (fun s => due (g s)) (fun s => f (g s)) s = if due (g s) then f (g s) else s := rfl

theorem exec_beginWaitReached {s : State} (audio : AudioInput) (h : s.intake.minuteTimer + 1 < 60000) :
    exec (.beginWaitReached audio) s =
      .next (if beginWaitOver s.intake.recording then recordingWork audio s.begun else s.cleared) := by
  have hbegin : alertBegin s.cleared = s.begun := alertBegin_cleared h
  show Host.Outcome.next (whenDue (fun s => beginWaitOver (alertBegin s).intake.recording)
    (fun s => recordingWork audio (alertBegin s)) s.cleared) = _
  rw [whenDue_eq (fun s => beginWaitOver s.intake.recording), hbegin]
  rfl

theorem exec_recordingLimit {s : State} (audio : AudioInput) (h : s.intake.minuteTimer + 1 < 60000) :
    exec (.recordingLimit audio) s =
      .next (if (s.intake.recording.state = .writing && !s.intake.recording.fresh &&
        60000 ≤ s.intake.recording.position + 1 : Bool) then recordingWork audio s.begun else s.cleared) := by
  have hbegin : alertBegin s.cleared = s.begun := alertBegin_cleared h
  show Host.Outcome.next (whenDue (fun s => (fun s : State => s.intake.recording.state = .writing &&
    !s.intake.recording.fresh && 60000 ≤ s.intake.recording.position + 1) (alertBegin s))
    (fun s => recordingWork audio (alertBegin s)) s.cleared) = _
  rw [whenDue_eq (fun s : State => s.intake.recording.state = .writing && !s.intake.recording.fresh &&
    60000 ≤ s.intake.recording.position + 1), hbegin]
  rfl

theorem recordingWork_waits {audio : AudioInput} {s : State} (h : s.intake.recording.state = .waiting) :
    recordingWork audio s =
      let waited : State := { s with intake := { s.intake with
        recording := { s.intake.recording with beginWait := s.intake.recording.beginWait + 1 } } }
      if 10000 ≤ s.intake.recording.beginWait + 1 then endRecording (some .noBegin) waited else waited := by
  have hover : beginWaitOver s.intake.recording = decide (10000 ≤ s.intake.recording.beginWait + 1) := by
    unfold beginWaitOver
    rw [h]
    rfl
  unfold recordingWork
  dsimp only
  split
  · next hnone => rw [h] at hnone; cases hnone
  · rw [hover]
    by_cases hw : 10000 ≤ s.intake.recording.beginWait + 1
    · rw [if_pos hw, if_pos (decide_eq_true hw)]
      rfl
    · rw [if_neg hw, if_neg (by simpa using hw)]
      rfl
  · next hwriting => rw [h] at hwriting; cases hwriting

/-! ### The written frame -/

theorem get_set_other {α : Type} {m : Nat} (v : Vector α m) {k j : Fin m} (x : α) (h : j ≠ k) :
    (v.set k x).get j = v.get j := (get_set ..).trans (if_neg fun e => h (Fin.ext e.symm))

/-- The store once a frame has been written at position `p` of slot `n`, whose chain is then `chain`, the list `free`. -/
def ClipStore.wrote (n : Fin 32) (p : Nat) (f : StereoFrame) (chain free : List Nat) (c : ClipStore) : ClipStore :=
  { c with
    region := Memory.write StereoFrame.silence c.region (chain.getD (p / 256) 0 * 256 + p % 256) f
    free := free
    slots := c.slots.set n { c.slots.get n with chain := chain, length := p + 1 } }

theorem Vector.set_self_set {α : Type} {m : Nat} (v : Vector α m) (k : Fin m) (x y : α) :
    (v.set k x).set k y = v.set k y := Vector.set_set ..

theorem ClipStore.recorded_same (c : ClipStore) (n : Fin 32) (p : Nat) (f : StereoFrame) :
    c.recorded n p f = c.wrote n p f (c.slots.get n).chain c.free := rfl

theorem ClipStore.recorded_taken (c : ClipStore) (n : Fin 32) (p : Nat) (f : StereoFrame) (page : Nat) (left : List Nat) :
    ({ c with
      free := left
      slots := c.slots.set n { c.slots.get n with chain := (c.slots.get n).chain ++ [page] } } : ClipStore).recorded n p f =
      c.wrote n p f ((c.slots.get n).chain ++ [page]) left := by
  unfold ClipStore.recorded ClipStore.wrote
  dsimp only
  rw [get_set_self, Vector.set_self_set]

/-- A frame written that is not the last. -/
theorem recordingWork_wrote {audio : AudioInput} {s : State} {n : Fin 32} {i : Identity}
    (hstate : s.intake.recording.state = .writing) (hfresh : s.intake.recording.fresh = false)
    (hn : s.intake.recording.slot = some n) (hi : s.intake.recording.identity = some i)
    (hp : s.intake.recording.position % 256 = 0 → s.clips.free ≠ []) :
    let p := s.intake.recording.position
    let page := if p % 256 = 0 then s.clips.free.take 1 else []
    let w : State := { s with
      clips := s.clips.wrote n p (audioFrame audio) ((s.clips.slots.get n).chain ++ page) (s.clips.free.drop page.length)
      intake := s.intake.recorded n i p }
    recordingWork audio s = if 60000 ≤ p + 1 then endRecording (some .limit) w else w := by
  intro p page w
  rw [recordingWork_writes hstate hfresh hn hi]
  by_cases hpage : p % 256 = 0
  · obtain ⟨first, left, hfree⟩ := List.exists_cons_of_ne_nil (hp hpage)
    rw [writeFrame_paged ((if_pos hpage).trans (recordingPage_free hfree))]
    dsimp only
    rw [ClipStore.recorded_taken]
    simp only [w, page, if_pos hpage, hfree, List.take_succ_cons, List.take_zero, List.length_singleton, List.drop_one,
      List.tail_cons]
    rfl
  · rw [writeFrame_paged (if_neg hpage)]
    dsimp only
    rw [ClipStore.recorded_same]
    simp only [w, page, if_neg hpage, List.append_nil, List.length_nil, List.drop_zero]
    rfl

/-- The page of an evicted slot that a recording takes. -/
theorem recordingPage_evicts {s : State} {n v : Fin 32} {page : Nat} {left : List Nat} (hfree : s.clips.free = [])
    (hv : s.clips.Evicts s.frameCount v) (hchain : (s.clips.slots.get v).chain = page :: left) :
    recordingPage n s =
      some { latch .slotEvicted [Word.nat v.val, Word.nat (left.length + 1)] { s with clips := s.clips.evicted v } with
        clips := { s.clips.evicted v with
          free := left
          slots := (s.clips.evicted v).slots.set n
            { (s.clips.evicted v).slots.get n with chain := ((s.clips.evicted v).slots.get n).chain ++ [page] } } } := by
  have htaken : (s.clips.evicted v).free = page :: left := by
    show s.clips.free ++ (s.clips.slots.get v).chain = _
    rw [hfree, hchain]
    rfl
  unfold recordingPage
  rw [takePage_nil n hfree, evict_eq hv, hchain]
  dsimp only
  rw [latch_clips, takePage_cons htaken]
  rfl

/-- A frame written on the first page of an evicted slot. -/
theorem recordingWork_evicts {audio : AudioInput} {s : State} {n v : Fin 32} {i : Identity} {page : Nat}
    {left : List Nat} (hstate : s.intake.recording.state = .writing) (hfresh : s.intake.recording.fresh = false)
    (hn : s.intake.recording.slot = some n) (hi : s.intake.recording.identity = some i)
    (hlimit : s.intake.recording.position + 1 < 60000) (hp : s.intake.recording.position % 256 = 0)
    (hfree : s.clips.free = []) (hv : s.clips.Evicts s.frameCount v)
    (hchain : (s.clips.slots.get v).chain = page :: left) :
    recordingWork audio s =
      { latch .slotEvicted [Word.nat v.val, Word.nat (left.length + 1)] { s with clips := s.clips.evicted v } with
        clips := (s.clips.evicted v).wrote n s.intake.recording.position (audioFrame audio)
          (((s.clips.evicted v).slots.get n).chain ++ [page]) left
        intake := s.intake.recorded n i s.intake.recording.position } := by
  rw [recordingWork_writes hstate hfresh hn hi, writeFrame_paged ((if_pos hp).trans (recordingPage_evicts hfree hv hchain))]
  dsimp only
  rw [if_neg (by omega), ClipStore.recorded_taken, latch_intake]

/-- No page for the frame: the recording ends. -/
theorem recordingWork_noPage {audio : AudioInput} {s : State} {n : Fin 32} {i : Identity}
    (hstate : s.intake.recording.state = .writing) (hfresh : s.intake.recording.fresh = false)
    (hn : s.intake.recording.slot = some n) (hi : s.intake.recording.identity = some i)
    (hp : s.intake.recording.position % 256 = 0) (hfree : s.clips.free = []) (hv : ∀ m, ¬ s.clips.evictable m) :
    recordingWork audio s = endRecording (some .noPage) s := by
  rw [recordingWork_writes hstate hfresh hn hi]
  unfold writeFrame
  dsimp only
  rw [if_pos (show s.intake.recording.position % Config.pageBlocks = 0 from hp), recordingPage_none hfree hv]

theorem recordingWork_none {audio : AudioInput} {s : State} (h : s.intake.recording.state = .none) :
    recordingWork audio s = s := by
  unfold recordingWork
  dsimp only
  rw [h]

theorem recordingWork_fresh {audio : AudioInput} {s : State} (h : s.intake.recording.state = .writing)
    (hfresh : s.intake.recording.fresh = true) :
    recordingWork audio s =
      { s with intake := { s.intake with recording := { s.intake.recording with fresh := false } } } := by
  unfold recordingWork
  dsimp only
  split
  · next hnone => rw [h] at hnone; cases hnone
  · next hwaiting => rw [h] at hwaiting; cases hwaiting
  · rw [if_pos hfresh]
    rfl

/-- Settles O30: the recording's frame by its state, each end by what `endRecording` leaves. -/
theorem alertFrameRecords : Obligations.AlertFrameRecords := by
  refine ⟨fun s audio hminute => ?_, fun s audio n v i page left hminute => ?_, fun s audio n i hminute => ?_⟩
  · intro r p adopted
    refine ⟨fun h => ?_, fun h hwait => ?_, fun h hfresh => ?_, fun n i h hfresh hn hi hlimit hp => ?_⟩
    · rw [exec_alertFrame audio hminute, recordingWork_none (s := s.begun) h]
      rfl
    · rw [exec_alertFrame audio hminute, recordingWork_waits (s := s.begun) h]
      dsimp only
      rw [if_neg (show ¬ 10000 ≤ s.begun.intake.recording.beginWait + 1 from Nat.not_le.mpr hwait)]
      rfl
    · rw [exec_alertFrame audio hminute, recordingWork_fresh (s := s.begun) h hfresh]
      rfl
    · intro page chain
      have hwork := recordingWork_wrote (audio := audio) (s := s.begun) h hfresh hn hi hp
      dsimp only at hwork
      rw [if_neg (show ¬ 60000 ≤ s.begun.intake.recording.position + 1 from Nat.not_le.mpr hlimit)] at hwork
      exact ⟨_, (exec_alertFrame audio hminute).trans (congrArg Host.Outcome.next hwork), rfl, region_write ..⟩
  · intro r p h hfresh hn hi hlimit hp hfree hv hvn hchain chain
    have hwork := recordingWork_evicts (audio := audio) (s := s.begun) h hfresh hn hi hlimit hp hfree hv hchain
    have hother : ∀ m, m ≠ v → (s.clips.evicted v).slots.get m = s.clips.slots.get m := fun m hm => get_set_other _ _ hm
    have hself : (s.clips.evicted v).slots.get v = _ := get_set_self ..
    have hslots : ∀ m, m ≠ n → ((s.clips.evicted v).wrote n p (audioFrame audio)
        (((s.clips.evicted v).slots.get n).chain ++ [page]) left).slots.get m = (s.clips.evicted v).slots.get m :=
      fun m hm => get_set_other _ _ hm
    refine ⟨_, (exec_alertFrame audio hminute).trans (congrArg Host.Outcome.next hwork), ?_, rfl, ?_, ?_, ?_, ?_, ?_, rfl,
      ?_, ?_⟩
    · conv_lhs => rw [latch_frame]
      rfl
    · exact congrArg Slot.state ((hslots v hvn).trans hself)
    · exact congrArg Slot.chain ((hslots v hvn).trans hself)
    · exact congrArg Slot.length ((hslots v hvn).trans hself)
    · refine (get_set_self ..).trans ?_
      rw [show s.begun.clips = s.clips from rfl, hother n hvn.symm]
      rfl
    · exact fun m hmv hmn => (hslots m hmn).trans (hother m hmv)
    · exact (latch_get ..).trans (if_pos rfl)
    · intro block
      have hblock : (((s.clips.evicted v).slots.get n).chain ++ [page]).getD (p / 256) 0 * 256 + p % 256 = block := by
        rw [hother n hvn.symm, hp, Nat.add_zero]
      have hwritten := region_write s.clips.region block (audioFrame audio)
      rw [← hblock] at hwritten ⊢
      exact hwritten
  · intro r ended
    have hended : ∀ {c : EndCause} {length : Nat} {s' t : State}, s'.EndedShort n i c t →
        exec (.alertFrame audio) s = .next t → s'.intake.counters = s.intake.counters →
        s'.intake.identities = s.intake.identities → s'.notices.latches = s.notices.latches →
        s'.intake.recording.position = length → ended length c.code t := by
      intro c length s' t h hexec hcounters hidentities hlatches hlength
      refine ⟨hexec, h.held, h.free, h.idle, hcounters ▸ h.counted, h.identities.trans hidentities, h.flagged, ?_⟩
      rw [h.latched, hlatches, hlength]
    refine ⟨fun hn hi => ⟨fun h hwait => ?_, fun h hfresh hp hfree hv => ?_, fun h hfresh hp => ?_⟩, fun h => ?_, fun h => ?_⟩
    · have hwork := recordingWork_waits (audio := audio) (s := s.begun) h
      dsimp only at hwork
      rw [if_pos (show 10000 ≤ s.begun.intake.recording.beginWait + 1 from hwait)] at hwork
      have hover : beginWaitOver s.intake.recording = true := by
        unfold beginWaitOver
        rw [show s.intake.recording.state = .waiting from h, decide_eq_true rfl,
          decide_eq_true (show Config.beginWaitLimit ≤ s.intake.recording.beginWait + 1 from hwait)]
        rfl
      refine ⟨recordingWork audio s.begun, ?_, ?_⟩
      · rw [exec_beginWaitReached audio hminute, if_pos hover]
      · have hexec := exec_alertFrame audio hminute
        rw [hwork] at hexec ⊢
        refine hended (endRecording_short .noBegin ?_ ?_) hexec ?_ ?_ ?_ ?_
        · exact hn
        · exact hi
        all_goals rfl
    · have hexec := exec_alertFrame audio hminute
      rw [recordingWork_noPage (s := s.begun) h hfresh hn hi hp hfree hv] at hexec
      exact ⟨_, hexec, hended (endRecording_short (s := s.begun) .noPage hn hi) hexec rfl rfl rfl rfl⟩
    · have hp' : s.begun.intake.recording.position = 59999 := hp
      have hwork := recordingWork_wrote (audio := audio) (s := s.begun) h hfresh hn hi (by rw [hp']; nofun)
      dsimp only at hwork
      rw [hp', if_pos (by omega)] at hwork
      generalize hwrote : ClipStore.wrote n 59999 _ _ _ _ = w at hwork
      have hlength : (w.slots.get n).length = 60000 := hwrote ▸ congrArg Slot.length (get_set_self ..)
      have hdue : (s.intake.recording.state = .writing && !s.intake.recording.fresh &&
          60000 ≤ s.intake.recording.position + 1 : Bool) = true := by
        rw [show s.intake.recording.state = .writing from h, show s.intake.recording.fresh = false from hfresh,
          show s.intake.recording.position = 59999 from hp]
        rfl
      have hexec := exec_alertFrame audio hminute
      rw [hwork] at hexec
      have hshort := endRecording_short (s := { s.begun with clips := w, intake := s.begun.intake.recorded n i 59999 })
        .limit hn hi
      refine ⟨_, ?_, hended hshort hexec rfl ?_ rfl rfl, hshort.length.trans hlength⟩
      · rw [exec_recordingLimit audio hminute, if_pos hdue, hwork]
      · exact s.intake.modRecord_identities i _ fun q => q.modWord_identity 6 _ (by omega)
    · have hover : ¬ beginWaitOver s.intake.recording = true := by
        unfold beginWaitOver
        rw [decide_eq_false h]
        nofun
      rw [exec_beginWaitReached audio hminute, if_neg hover]
      rfl
    · rw [exec_recordingLimit audio hminute, if_neg]
      · rfl
      · rw [decide_eq_false h]
        nofun

end Sys2Proof.Machine

/-!
PROOF. The minute event: what it counts down, and which records leave (R120, R126, R136).
-/

namespace Sys2Proof.Machine

/-! ### What only the minute event changes -/

/-- The identity and the remaining minutes of a record. -/
def AlertRecord.tally (r : AlertRecord) : Identity × Nat := (r.identity, r.remaining)

/-- The time base, the recent-alert table, the expiry counter and the records' identities and minutes stand. -/
structure AlertIntake.SameMinute (a b : AlertIntake) : Prop where
  timer : b.minuteTimer = a.minuteTimer
  week : b.minuteOfWeek = a.minuteOfWeek
  recent : b.recent = a.recent
  expiry : b.counters.expiry = a.counters.expiry
  records : b.queue.map AlertRecord.tally = a.queue.map AlertRecord.tally

theorem AlertIntake.SameMinute.refl (a : AlertIntake) : a.SameMinute a := ⟨rfl, rfl, rfl, rfl, rfl⟩

theorem AlertIntake.SameMinute.trans {a b c : AlertIntake} (h : a.SameMinute b) (h' : b.SameMinute c) :
    a.SameMinute c :=
  ⟨h'.timer.trans h.timer, h'.week.trans h.week, h'.recent.trans h.recent, h'.expiry.trans h.expiry,
    h'.records.trans h.records⟩

/-- A record changed in neither its identity nor its minutes. -/
theorem AlertIntake.SameMinute.record {a b : AlertIntake} (i : Identity) {f : AlertRecord → AlertRecord}
    (hf : ∀ r, (f r).tally = r.tally) (hqueue : b.queue = (a.modRecord i f).queue) (htimer : b.minuteTimer = a.minuteTimer)
    (hweek : b.minuteOfWeek = a.minuteOfWeek) (hrecent : b.recent = a.recent)
    (hexpiry : b.counters.expiry = a.counters.expiry) : a.SameMinute b := by
  refine ⟨htimer, hweek, hrecent, hexpiry, ?_⟩
  rw [hqueue, AlertIntake.modRecord, List.map_map]
  refine List.map_congr_left fun r _ => ?_
  show (if r.identity = i then f r else r).tally = r.tally
  split
  · exact hf r
  · rfl

theorem AlertRecord.modWord_tally (r : AlertRecord) {k : Nat} (f : StoreWord → StoreWord) (h : 2 ≤ k) :
    (r.modWord k f).tally = r.tally := Prod.ext (r.modWord_identity k f h) rfl

theorem endRecording_minute (cause : Option EndCause) (s : State) :
    s.intake.SameMinute (endRecording cause s).intake := by
  by_cases h : s.intake.recording.slot = none ∨ s.intake.recording.identity = none
  · rw [endRecording_idle h]
    exact .refl _
  · obtain ⟨hn, hi⟩ := not_or.mp h
    obtain ⟨n, hn⟩ := Option.ne_none_iff_exists'.mp hn
    obtain ⟨i, hi⟩ := Option.ne_none_iff_exists'.mp hi
    cases cause with
    | none =>
      rw [endRecording_quiet hn hi]
      exact ⟨rfl, rfl, rfl, rfl, rfl⟩
    | some c =>
      rw [endRecording_cause c hn hi, latch_intake]
      exact .record i (fun r => r.modWord_tally _ (by decide)) rfl rfl rfl rfl rfl

theorem evict_intake {s t : State} {n : Fin 32} (h : evict s = some (n, t)) : t.intake = s.intake := by
  unfold evict at h
  split at h
  · cases h
  · cases h
    exact latch_intake ..

theorem recordingPage_intake {s t : State} {n : Fin 32} (h : recordingPage n s = some t) : t.intake = s.intake := by
  unfold recordingPage at h
  split at h
  · cases h
    rfl
  · split at h
    · cases h
    · rename_i hevict
      obtain ⟨c, -, rfl⟩ := Option.map_eq_some_iff.mp h
      exact (evict_intake hevict :)

theorem writeFrame_minute (audio : AudioInput) (n : Fin 32) (i : Identity) (s : State) :
    s.intake.SameMinute (writeFrame audio n i s).intake := by
  cases hpaged : if s.intake.recording.position % 256 = 0 then recordingPage n s else some s with
  | none =>
    unfold writeFrame
    dsimp only
    rw [show Config.pageBlocks = 256 from rfl, hpaged]
    exact endRecording_minute _ s
  | some t =>
    have ht : t.intake = s.intake := by
      split at hpaged
      · exact recordingPage_intake hpaged
      · cases hpaged
        rfl
    have hrecorded : s.intake.SameMinute (s.intake.recorded n i s.intake.recording.position) :=
      .record i (fun r => r.modWord_tally (k := 6) _ (by decide)) rfl rfl rfl rfl rfl
    rw [writeFrame_paged hpaged]
    dsimp only
    rw [ht]
    split
    · refine hrecorded.trans ?_
      refine AlertIntake.SameMinute.trans ?_ (endRecording_minute _ _)
      exact .refl _
    · exact hrecorded

theorem recordingWork_minute (audio : AudioInput) (s : State) :
    s.intake.SameMinute (recordingWork audio s).intake := by
  cases hstate : s.intake.recording.state with
  | none =>
    rw [recordingWork_none hstate]
    exact .refl _
  | waiting =>
    rw [recordingWork_waits hstate]
    dsimp only
    split
    · refine AlertIntake.SameMinute.trans ?_ (endRecording_minute _ _)
      exact ⟨rfl, rfl, rfl, rfl, rfl⟩
    · exact ⟨rfl, rfl, rfl, rfl, rfl⟩
  | writing =>
    cases hfresh : s.intake.recording.fresh with
    | true =>
      rw [recordingWork_fresh hstate hfresh]
      exact ⟨rfl, rfl, rfl, rfl, rfl⟩
    | false =>
      unfold recordingWork
      dsimp only
      rw [hstate]
      dsimp only
      rw [hfresh, if_neg nofun]
      split
      · exact writeFrame_minute ..
      · exact .refl _

theorem State.Selects.minute {s t : State} (h : s.Selects t) : s.intake.SameMinute t.intake := by
  rcases h.marks with h | ⟨i, h⟩
  · rw [h]
    exact .refl _
  · rw [h]
    exact .record i (f := fun r => { r with onAir := true }) (fun _ => rfl) rfl rfl rfl rfl rfl

/-! ### The records that expire -/

/-- The records of the identities `l` have left, each counted. -/
structure AlertIntake.Expires (a : AlertIntake) (l : List Identity) (b : AlertIntake) : Prop where
  timer : b.minuteTimer = a.minuteTimer
  week : b.minuteOfWeek = a.minuteOfWeek
  recent : b.recent = a.recent
  queue : b.queue = a.queue.filter fun r => r.identity ∉ l
  expiry : b.counters.expiry =
    if l = [] then a.counters.expiry else min (a.counters.expiry + l.length) 65535

theorem expireRecord_expires (i : Identity) (s : State) : s.intake.Expires [i] (expireRecord i s).intake := by
  unfold expireRecord
  rw [removeRecord_intake]
  refine ⟨rfl, rfl, rfl, ?_, rfl⟩
  refine List.filter_congr fun r _ => ?_
  exact decide_eq_decide.mpr (not_congr List.mem_singleton.symm)

theorem foldl_expires (l : List Identity) (s : State) :
    s.intake.Expires l (l.foldl (fun s i => expireRecord i s) s).intake := by
  induction l generalizing s with
  | nil => exact ⟨rfl, rfl, rfl, (List.filter_eq_self.mpr fun _ _ => by simp).symm, rfl⟩
  | cons i l ih =>
    have hone := expireRecord_expires i s
    have hrest := ih (expireRecord i s)
    refine ⟨hrest.timer.trans hone.timer, hrest.week.trans hone.week, hrest.recent.trans hone.recent, ?_, ?_⟩
    · rw [List.foldl_cons, hrest.queue, hone.queue, List.filter_filter]
      refine List.filter_congr fun r _ => ?_
      simp only [List.mem_cons, List.not_mem_nil, or_false, not_or, Bool.decide_and, Bool.and_comm]
    · rw [List.foldl_cons, hrest.expiry, hone.expiry]
      simp only [if_neg (List.cons_ne_nil _ _), List.length_cons, List.length_nil]
      split
      · next hl => rw [hl]; rfl
      · omega

/-- Among distinct keys, those outside the keys of the elements with `p` are the keys of the elements without it. -/
theorem filter_not_mem_keys {α β : Type} [DecidableEq β] (key : α → β) (p : α → Bool) {l : List α}
    (h : (l.map key).Nodup) : (l.filter fun a => key a ∉ (l.filter p).map key) = l.filter fun a => !p a := by
  refine List.filter_congr fun a ha => ?_
  cases hp : p a with
  | true =>
    rw [decide_eq_false]
    · rfl
    · exact not_not.mpr (List.mem_map_of_mem (List.mem_filter.mpr ⟨ha, hp⟩))
  | false =>
    rw [decide_eq_true]
    · rfl
    · intro hmem
      obtain ⟨b, hb, hkey⟩ := List.mem_map.mp hmem
      obtain ⟨hb, hpb⟩ := List.mem_filter.mp hb
      rw [List.inj_on_of_nodup_map h hb ha hkey, hp] at hpb
      cases hpb

/-- A record that stays at a minute event. -/
def AlertRecord.stays (r : AlertRecord) : Bool := 1 < r.remaining || r.onAir

theorem AlertRecord.countDown_expired (r : AlertRecord) : r.countDown.expired = !r.stays := by
  show (decide (r.remaining - 1 = 0) && !r.onAir) = !(decide (1 < r.remaining) || r.onAir)
  rw [Bool.not_or, ← decide_not, decide_eq_decide.mpr (show r.remaining - 1 = 0 ↔ ¬ 1 < r.remaining by omega)]

theorem AlertRecord.countDown_tally (r : AlertRecord) : r.countDown.tally = (r.identity, r.remaining - 1) :=
  Prod.ext r.countDown_identity rfl

/-- What a minute event leaves of alert intake. -/
structure AlertIntake.PassesMinute (a b : AlertIntake) : Prop where
  timer : b.minuteTimer = a.minuteTimer
  week : b.minuteOfWeek = a.minuteOfWeek.map nextMinute
  recent : b.recent = a.recent.map fun e => e.bind RecentEntry.countDown
  records : b.queue.map AlertRecord.tally = (a.queue.filter AlertRecord.stays).map fun r => (r.identity, r.remaining - 1)
  expiry : b.counters.expiry =
    if (a.queue.filter fun r => !r.stays) = [] then a.counters.expiry
    else min (a.counters.expiry + (a.queue.filter fun r => !r.stays).length) 65535

theorem AlertIntake.PassesMinute.same {a b c : AlertIntake} (h : a.PassesMinute b) (h' : b.SameMinute c) :
    a.PassesMinute c :=
  ⟨h'.timer.trans h.timer, h'.week.trans h.week, h'.recent.trans h.recent, h'.records.trans h.records,
    h'.expiry.trans h.expiry⟩

theorem minuteWork_passes {s : State} (h : s.intake.identities.Nodup) :
    s.intake.PassesMinute (minuteWork s).intake := by
  set a := s.intake.passMinute with ha
  set l := (a.queue.filter AlertRecord.expired).map AlertRecord.identity with hl
  have hqueue : a.queue.filter AlertRecord.expired = (s.intake.queue.filter fun r => !r.stays).map AlertRecord.countDown := by
    show (s.intake.queue.map AlertRecord.countDown).filter _ = _
    rw [List.filter_map]
    exact congrArg _ (List.filter_congr fun r _ => r.countDown_expired)
  have hkept : (a.queue.filter fun r => r.identity ∉ l) =
      (s.intake.queue.filter AlertRecord.stays).map AlertRecord.countDown := by
    have hnodup : (a.queue.map AlertRecord.identity).Nodup := by
      show ((s.intake.queue.map AlertRecord.countDown).map AlertRecord.identity).Nodup
      have hids : s.intake.queue.map (AlertRecord.identity ∘ AlertRecord.countDown) = s.intake.identities :=
        List.map_congr_left fun r _ => r.countDown_identity
      rw [List.map_map, hids]
      exact h
    rw [hl, filter_not_mem_keys AlertRecord.identity AlertRecord.expired hnodup]
    show (s.intake.queue.map AlertRecord.countDown).filter _ = _
    rw [List.filter_map]
    refine congrArg _ (List.filter_congr fun r _ => ?_)
    show (!r.countDown.expired) = _
    rw [r.countDown_expired, Bool.not_not]
  have hfold := foldl_expires l (s.modIntake AlertIntake.passMinute)
  have hlength : l.length = (s.intake.queue.filter fun r => !r.stays).length := by
    rw [hl, hqueue, List.length_map, List.length_map]
  have hpasses : s.intake.PassesMinute
      (l.foldl (fun s i => expireRecord i s) (s.modIntake AlertIntake.passMinute)).intake := by
    refine ⟨hfold.timer, hfold.week, hfold.recent, ?_, ?_⟩
    · rw [hfold.queue]
      show ((a.queue.filter fun r => r.identity ∉ l)).map _ = _
      rw [hkept, List.map_map]
      exact List.map_congr_left fun r _ => r.countDown_tally
    · rw [hfold.expiry, hlength]
      simp only [← List.length_eq_zero_iff, hlength]
      rfl
  unfold minuteWork
  dsimp only
  split
  · exact hpasses
  · exact hpasses.same (select_selects _).minute

/-! ### The frame of a minute event -/

/-- The state as the minute event finds it. -/
def State.minuteBegun (s : State) : State :=
  { s with
    intake := { s.intake with
      minuteTimer := 0
      filter := s.tables.filter
      defaultVerdict := Verdict.ofCode (s.setting Setting.defaultVerdict)
      defaultMode := AirMode.ofCode (s.setting Setting.defaultMode)
      defaultPriority := priorityOf (s.setting Setting.defaultPriority) }
    sent := ⟨[], [], []⟩ }

theorem alertBegin_minute {s : State} (h : 60000 ≤ s.intake.minuteTimer + 1) :
    alertBegin s.cleared = minuteWork s.minuteBegun := by
  unfold alertBegin tickMinute
  rw [if_pos]
  · rfl
  · show decide (60000 ≤ s.intake.minuteTimer + 1) = true
    rw [decide_eq_true_eq]
    exact h

theorem exec_minuteEvent (audio : AudioInput) (s : State) :
    exec (.minuteEvent audio) s =
      .next (if 60000 ≤ s.intake.minuteTimer + 1 then recordingWork audio (alertBegin s.cleared) else s.cleared) := by
  show Host.Outcome.next (if decide (60000 ≤ s.intake.minuteTimer + 1) = true then _ else _) = _
  simp only [decide_eq_true_eq]
  rfl

/-- Settles O31: the minute event by what it counts down; the rest of the frame keeps it. -/
theorem minuteEventCountsDown : Obligations.MinuteEventCountsDown := by
  refine fun s audio => ⟨fun h => ?_, fun h hnodup => ?_⟩
  · rw [exec_minuteEvent, if_neg (Nat.not_le.mpr h)]
    rfl
  · intro stays leaving
    have hpasses := (minuteWork_passes (s := s.minuteBegun) hnodup).same (recordingWork_minute audio _)
    have hidentities := congrArg (List.map Prod.fst) hpasses.records
    have hremaining := congrArg (List.map Prod.snd) hpasses.records
    rw [List.map_map, List.map_map] at hidentities hremaining
    refine ⟨recordingWork audio (minuteWork s.minuteBegun), ?_, ?_, hpasses.timer, hpasses.week, fun k => ?_, hidentities,
      hremaining, hpasses.expiry⟩
    · rw [exec_minuteEvent, if_pos h, alertBegin_minute h]
    · show Host.Outcome.next (recordingWork audio (alertBegin s.cleared)) = _
      rw [alertBegin_minute h]
    · rw [hpasses.recent]
      show (s.intake.recent.map fun e => e.bind RecentEntry.countDown).get k = _
      rw [Vector.get_map]
      cases s.intake.recent.get k <;> rfl

end Sys2Proof.Machine

/-!
PROOF. The preparation of a recording: the record it changes, and the slot it claims (R103, R104, R106, R132).
-/

namespace Sys2Proof.Machine

/-! ### The record as the recording changes it -/

/-- A record of which only word 6 and the two audio flags of word 5 have changed, and the "no audio" mark. -/
structure AlertRecord.Rerecorded (q r : AlertRecord) : Prop where
  length : r.words.length = q.words.length
  words : ∀ k, k ≠ 4 → k ≠ 5 → r.words[k]? = q.words[k]?
  bits : ∀ b, b ≠ flagNoAudio → b ≠ flagAudioShort → (r.word 5).getLsbD b = (q.word 5).getLsbD b
  rest : r = { q with words := r.words, noAudio := r.noAudio }

theorem AlertRecord.Rerecorded.refl (q : AlertRecord) : q.Rerecorded q :=
  ⟨rfl, fun _ _ _ => rfl, fun _ _ _ => rfl, rfl⟩

theorem AlertRecord.Rerecorded.trans {q r u : AlertRecord} (h : q.Rerecorded r) (k : r.Rerecorded u) : q.Rerecorded u where
  length := k.length.trans h.length
  words i h4 h5 := (k.words i h4 h5).trans (h.words i h4 h5)
  bits b h9 h10 := (k.bits b h9 h10).trans (h.bits b h9 h10)
  rest := by conv_lhs => rw [k.rest, h.rest]

theorem AlertRecord.word_modWord (r : AlertRecord) {i k : Nat} (f : StoreWord → StoreWord) (h : i - 1 ≠ k - 1) :
    (r.modWord i f).word k = r.word k := by
  simp [AlertRecord.word, AlertRecord.modWord, List.getD_eq_getElem?_getD, h]

theorem AlertRecord.words_modWord (r : AlertRecord) {i k : Nat} (f : StoreWord → StoreWord) (h : i - 1 ≠ k) :
    (r.modWord i f).words[k]? = r.words[k]? := by
  simp [AlertRecord.modWord, h]

/-- Word 5 with a flag set keeps its other bits. -/
theorem AlertRecord.setFlag_bits (r : AlertRecord) {bit b : Nat} (h : b ≠ bit) :
    ((r.setFlag bit).word 5).getLsbD b = (r.word 5).getLsbD b := by
  unfold AlertRecord.setFlag AlertRecord.modWord AlertRecord.word
  rw [List.getD_eq_getElem?_getD, List.getD_eq_getElem?_getD, List.getElem?_modify, Option.map_eq_map]
  cases r.words[5 - 1]? with
  | none => rfl
  | some w =>
    rw [Option.map_some, if_pos rfl, Option.getD_some, Option.getD_some, BitVec.getLsbD_or, BitVec.getLsbD_twoPow,
      decide_eq_false (Ne.symm h), Bool.and_false, Bool.or_false]

theorem AlertRecord.Rerecorded.setFlag (r : AlertRecord) {bit : Nat} (h : bit = flagNoAudio ∨ bit = flagAudioShort) :
    r.Rerecorded (r.setFlag bit) := by
  refine ⟨r.setFlag_length bit, fun k h4 _ => r.words_modWord (i := 5) _ (Ne.symm h4), fun b h9 h10 => r.setFlag_bits ?_, rfl⟩
  rcases h with rfl | rfl
  · exact h9
  · exact h10

theorem AlertRecord.Rerecorded.silent (r : AlertRecord) :
    r.Rerecorded { r.setFlag flagNoAudio with noAudio := true } := by
  obtain ⟨hlength, hwords, hbits, -⟩ := AlertRecord.Rerecorded.setFlag r (.inl rfl)
  exact ⟨hlength, hwords, hbits, rfl⟩

theorem AlertRecord.Rerecorded.slot (r : AlertRecord) (n p : Nat) :
    r.Rerecorded (r.modWord 6 fun _ => audioWord n p) :=
  ⟨r.modWord_length .., fun _ _ h5 => r.words_modWord _ (Ne.symm h5),
    fun _ _ _ => by rw [r.word_modWord _ (by decide)], rfl⟩

section
variable {q r : AlertRecord} (h : q.Rerecorded r)
include h

theorem AlertRecord.Rerecorded.word1 : r.word 1 = q.word 1 := by
  unfold AlertRecord.word
  rw [List.getD_eq_getElem?_getD, List.getD_eq_getElem?_getD, h.words _ (by decide) (by decide)]

theorem AlertRecord.Rerecorded.identity : r.identity = q.identity := congrArg Identity.ofBits h.word1

theorem AlertRecord.Rerecorded.field {i n : Nat} (hi : i + n ≤ 9) :
    (r.word 5).extractLsb' i n = (q.word 5).extractLsb' i n := by
  refine BitVec.eq_of_getLsbD_eq fun b hb => ?_
  rw [BitVec.getLsbD_extractLsb', BitVec.getLsbD_extractLsb', h.bits (i + b) (by unfold flagNoAudio; omega)
    (by unfold flagAudioShort; omega)]

theorem AlertRecord.Rerecorded.airMode : r.airMode = q.airMode := by
  unfold AlertRecord.airMode
  rw [h.field (by decide)]

theorem AlertRecord.Rerecorded.priority : r.priority = q.priority := by
  unfold AlertRecord.priority
  rw [h.field (by decide)]

theorem AlertRecord.Rerecorded.areas : r.words.drop 6 = q.words.drop 6 := by
  refine List.ext_getElem? fun k => ?_
  rw [List.getElem?_drop, List.getElem?_drop, h.words (6 + k) (by omega) (by omega)]

theorem AlertRecord.Rerecorded.torn : r.torn = q.torn := by rw [h.rest]
theorem AlertRecord.Rerecorded.onAir : r.onAir = q.onAir := by rw [h.rest]
theorem AlertRecord.Rerecorded.stamp : r.stamp = q.stamp := by rw [h.rest]
theorem AlertRecord.Rerecorded.remaining : r.remaining = q.remaining := by rw [h.rest]
theorem AlertRecord.Rerecorded.timeUnknown : r.timeUnknown = q.timeUnknown := by rw [h.rest]

theorem AlertRecord.Rerecorded.eligible (a : AirStage) : a.eligible r = a.eligible q := by
  unfold AirStage.eligible
  rw [h.torn, h.airMode, h.onAir, h.identity]

end

/-! ### What the preparation may change -/

/-- What a recording's end and its preparation may change (R132, R135). -/
structure State.Prepares (s t : State) : Prop where
  frame : t = { s with clips := t.clips, intake := t.intake, notices := t.notices, sent := t.sent }
  intake : t.intake = { s.intake with
    queue := t.intake.queue
    recording := t.intake.recording
    counters := { s.intake.counters with audioShort := t.intake.counters.audioShort } }
  queue : ∃ f : AlertRecord → AlertRecord, t.intake.queue = s.intake.queue.map f ∧ ∀ q : AlertRecord, q.Rerecorded (f q)
  latches : s.Latches [12, 17] t

theorem State.Prepares.refl (s : State) : s.Prepares s :=
  ⟨rfl, rfl, ⟨id, (List.map_id _).symm, .refl⟩, .refl _ s⟩

theorem State.Prepares.trans {s t u : State} (h : s.Prepares t) (k : t.Prepares u) : s.Prepares u := by
  obtain ⟨f, hf, hfs⟩ := h.queue
  obtain ⟨g, hg, hgs⟩ := k.queue
  refine ⟨by conv_lhs => rw [k.frame, h.frame], by conv_lhs => rw [k.intake, h.intake],
    ⟨g ∘ f, by rw [hg, hf, List.map_map], fun q => (hfs q).trans (hgs _)⟩, h.latches.trans k.latches⟩

/-- A change of the clip store, with the notices it latches. -/
theorem State.Prepares.clips {s t : State} (hframe : t = { s with clips := t.clips, notices := t.notices, sent := t.sent })
    (hlatches : s.Latches [12, 17] t) : s.Prepares t := by
  have hintake : t.intake = s.intake := by rw [hframe]
  refine ⟨?_, by rw [hintake], ⟨id, by rw [hintake, List.map_id], .refl⟩, hlatches⟩
  conv_lhs => rw [hframe]
  rw [hintake]

/-- A change of one record, and of the recording. -/
theorem State.Prepares.record {s t : State} (i : Identity) {f : AlertRecord → AlertRecord} (hf : ∀ q : AlertRecord, q.Rerecorded (f q))
    (hframe : t = { s with intake := t.intake })
    (hintake : t.intake = { s.intake with
      queue := (s.intake.modRecord i f).queue
      recording := t.intake.recording
      counters := { s.intake.counters with audioShort := t.intake.counters.audioShort } }) : s.Prepares t := by
  have hqueue : t.intake.queue = (s.intake.modRecord i f).queue := by rw [hintake]
  have hclips : t.clips = s.clips := by rw [hframe]
  have hnotices : t.notices = s.notices := by rw [hframe]
  have hsent : t.sent = s.sent := by rw [hframe]
  refine ⟨?_, ?_, ⟨fun q => if q.identity = i then f q else q, ?_, fun q => ?_⟩, .of_eq hnotices⟩
  · conv_lhs => rw [hframe]
    rw [hclips, hnotices, hsent]
  · conv_lhs => rw [hintake]
    rw [hqueue]
  · rw [hqueue]
    rfl
  · dsimp only
    split
    · exact hf q
    · exact .refl q

theorem latch_prepares {kind : NoticeKind} (h : kind.index ∈ [(12 : Fin 25), 17]) (detail : List Word) (s : State) :
    s.Prepares (latch kind detail s) := by
  refine .clips ?_ (.of_mem h ..)
  conv_lhs => rw [latch_frame]
  rw [latch_clips]

theorem flagSilent_prepares (i : Identity) (s : State) : s.Prepares (flagSilent i s) :=
  .record i AlertRecord.Rerecorded.silent rfl rfl

theorem evict_prepares {s t : State} {n : Fin 32} (h : evict s = some (n, t)) : s.Prepares t := by
  unfold evict at h
  split at h
  · cases h
  · cases h
    refine State.Prepares.trans ?_ (latch_prepares (by decide) ..)
    exact .clips rfl (.of_eq rfl)

theorem claimSlot_prepares {s t : State} {n : Fin 32} (h : claimSlot s = some (n, t)) : s.Prepares t := by
  unfold claimSlot at h
  split at h
  · cases h
    exact .clips rfl (.of_eq rfl)
  · split at h
    · cases h
    · rename_i hevict
      cases h
      exact (evict_prepares hevict).trans (.clips rfl (.of_eq rfl))

theorem claimSlot_intake {s t : State} {n : Fin 32} (h : claimSlot s = some (n, t)) : t.intake = s.intake := by
  unfold claimSlot at h
  split at h
  · cases h
    rfl
  · split at h
    · cases h
    · rename_i hevict
      cases h
      exact (evict_intake hevict :)

/-! ### The recording before it ends (R135) -/

/-- What the end of a recording in progress may change: its slot becomes ALERT_HELD. -/
structure State.Supersedes (s t : State) : Prop where
  prepares : s.Prepares t
  clips : t.clips = { s.clips with slots := t.clips.slots, channelHeld := t.clips.channelHeld }
  slots : ∀ m, t.clips.slots.get m = s.clips.slots.get m ∨
    (s.intake.recording.slot = some m ∧ (t.clips.slots.get m).state = .alertHeld)
  latches : s.Latches [17] t
  noAudio : t.intake.queue.map AlertRecord.noAudio = s.intake.queue.map AlertRecord.noAudio
  idle : s.intake.recording.state = .none → t = s

theorem State.Supersedes.of_eq {s t : State} (h : t = s) : s.Supersedes t := by
  subst h
  exact ⟨.refl t, rfl, fun _ => .inl rfl, .refl _ t, rfl, fun _ => rfl⟩

theorem endRecording_supersedes {s : State} (c : EndCause) (hstate : s.intake.recording.state ≠ .none) :
    s.Supersedes (endRecording (some c) s) := by
  by_cases h : s.intake.recording.slot = none ∨ s.intake.recording.identity = none
  · exact .of_eq (endRecording_idle h _)
  · obtain ⟨hn, hi⟩ := not_or.mp h
    obtain ⟨n, hn⟩ := Option.ne_none_iff_exists'.mp hn
    obtain ⟨i, hi⟩ := Option.ne_none_iff_exists'.mp hi
    rw [endRecording_cause c hn hi]
    have hended : s.Prepares ((s.endedRecording n).audioShort i) := by
      have hclips : s.Prepares { s with clips := (s.endedRecording n).clips } := .clips rfl (.of_eq rfl)
      refine hclips.trans ?_
      refine .record i (f := fun q => q.setFlag flagAudioShort) (fun q => .setFlag q (.inr rfl)) rfl rfl
    have hlatched : s.Latches [17] (latch .alertAudioShort
        [i.word, Word.nat s.intake.recording.position, Word.nat c.code] ((s.endedRecording n).audioShort i)) :=
      State.Latches.trans (t := (s.endedRecording n).audioShort i) (.of_eq rfl) (.of_mem (by decide) ..)
    refine ⟨hended.trans (latch_prepares (by decide) ..), ?_, fun m => ?_, hlatched, ?_, fun h => absurd h hstate⟩
    · rw [latch_clips]
      rfl
    · rw [latch_clips]
      by_cases hm : m = n
      · subst hm
        exact .inr ⟨hn, congrArg Slot.state (get_set_self ..)⟩
      · exact .inl (get_set_other _ _ hm)
    · rw [latch_intake]
      show (s.intake.queue.map fun q => if q.identity = i then q.setFlag flagAudioShort else q).map _ = _
      rw [List.map_map]
      refine List.map_congr_left fun q _ => ?_
      show (if q.identity = i then q.setFlag flagAudioShort else q).noAudio = q.noAudio
      split <;> rfl

theorem endIfRecording_supersedes (c : EndCause) (s : State) : s.Supersedes (endIfRecording c s) := by
  unfold endIfRecording
  split
  · exact .of_eq rfl
  all_goals
    next h => exact endRecording_supersedes c (by rw [h]; nofun)

section
variable {s t : State} (h : s.Supersedes t)
include h

theorem State.Supersedes.slot {n : Fin 32} (hn : s.intake.recording.slot ≠ some n) :
    t.clips.slots.get n = s.clips.slots.get n := (h.slots n).resolve_right fun hno => hn hno.1

theorem State.Supersedes.empty {n : Fin 32} (hn : (s.clips.slots.get n).state ≠ .empty) :
    (t.clips.slots.get n).state ≠ .empty := by
  rcases h.slots n with hs | ⟨-, hs⟩
  · rw [hs]
    exact hn
  · rw [hs]
    nofun

theorem State.Supersedes.conf : t.clips.conf = s.clips.conf := by rw [h.clips]
theorem State.Supersedes.frameCount : t.frameCount = s.frameCount := by rw [h.prepares.frame]

theorem State.Supersedes.evictable {n : Fin 32} (hn : t.clips.evictable n) :
    s.clips.evictable n ∧ t.clips.slots.get n = s.clips.slots.get n := by
  rcases h.slots n with hs | ⟨-, hs⟩
  · unfold ClipStore.evictable at hn
    rw [hs, h.conf] at hn
    exact ⟨hn, hs⟩
  · exact absurd hn.1 (by rw [hs]; nofun)

/-- The victim of an eviction stays the victim, its slot not being the recording's. -/
theorem State.Supersedes.evicts {n : Fin 32} (hn : s.clips.Evicts s.frameCount n)
    (hslot : s.intake.recording.slot ≠ some n) : t.clips.Evicts t.frameCount n := by
  obtain ⟨hcan, hold⟩ := hn
  have hget := h.slot hslot
  refine ⟨?_, fun m hm => ?_⟩
  · unfold ClipStore.evictable
    rw [hget, h.conf]
    exact hcan
  · obtain ⟨hm, hsame⟩ := h.evictable hm
    have := hold m hm
    dsimp only at this ⊢
    rw [hget, hsame, h.frameCount]
    exact this

end

/-! ### The claim of a slot (R104) -/

theorem ClipStore.firstEmpty_of {c : ClipStore} {n : Fin 32} (hn : (c.slots.get n).state = .empty)
    (hlow : ∀ m, m < n → (c.slots.get m).state ≠ .empty) : c.firstEmpty = some n := by
  unfold ClipStore.firstEmpty
  refine List.find?_eq_some_iff_getElem.mpr ⟨decide_eq_true hn, n.val, by simp, by simp, fun j hj => ?_⟩
  simp only [List.getElem_finRange]
  have := hlow ⟨j, by omega⟩ hj
  simpa using this

theorem ClipStore.firstEmpty_none {c : ClipStore} (h : ∀ m, (c.slots.get m).state ≠ .empty) : c.firstEmpty = none :=
  List.find?_eq_none.mpr fun m _ => by simpa using h m

theorem claimSlot_empty {s : State} {n : Fin 32} (hn : (s.clips.slots.get n).state = .empty)
    (hlow : ∀ m, m < n → (s.clips.slots.get m).state ≠ .empty) :
    claimSlot s = some (n, { s with clips := s.clips.giveSlot n }) := by
  unfold claimSlot
  rw [ClipStore.firstEmpty_of hn hlow]
  rfl

theorem claimSlot_evicts {s : State} {n : Fin 32} (hfull : ∀ m, (s.clips.slots.get m).state ≠ .empty)
    (hn : s.clips.Evicts s.frameCount n) :
    claimSlot s = some (n, { latch .slotEvicted [Word.nat n.val, Word.nat (s.clips.slots.get n).chain.length]
      { s with clips := s.clips.evicted n } with clips := (s.clips.evicted n).giveSlot n }) := by
  unfold claimSlot
  rw [ClipStore.firstEmpty_none hfull, evict_eq hn]
  dsimp only [State.modClips]
  rw [latch_clips]

theorem claimSlot_none {s : State} (hfull : ∀ m, (s.clips.slots.get m).state ≠ .empty)
    (hn : ∀ m, ¬ s.clips.evictable m) : claimSlot s = none := by
  unfold claimSlot
  rw [ClipStore.firstEmpty_none hfull]
  dsimp only
  unfold evict
  rw [ClipStore.victim_none hn]

/-! ### Step 6 of a header (R132) -/

/-- The queue's record of an identity names slot `n`, its recording waiting. -/
def State.awaits (i : Identity) (n : Fin 32) (s : State) : State :=
  { s with intake := { s.intake with
    queue := (s.intake.modRecord i fun r => r.modWord 6 fun _ => audioWord n.val 0).queue
    recording := ⟨.waiting, some i, some n, 0, 0, false⟩ } }

theorem awaits_prepares (i : Identity) (n : Fin 32) (s : State) : s.Prepares (s.awaits i n) :=
  .record i (fun r => AlertRecord.Rerecorded.slot r n.val 0) rfl rfl

theorem prepareRecording_silent {h : Header} {s : State}
    (hno : (h.audio && (s.intake.find h.identity).any fun r => 6 ≤ r.words.length) = false) :
    prepareRecording h s = flagSilent h.identity s := by
  unfold prepareRecording
  dsimp only
  rw [hno, if_neg nofun]

theorem prepareRecording_claims {h : Header} {s t : State} {n : Fin 32}
    (hdue : (h.audio && (s.intake.find h.identity).any fun r => 6 ≤ r.words.length) = true)
    (hclaim : claimSlot (endIfRecording .superseded s) = some (n, t)) :
    prepareRecording h s = t.awaits h.identity n := by
  unfold prepareRecording
  dsimp only
  rw [hdue, if_pos rfl, hclaim]
  rfl

theorem prepareRecording_refused {h : Header} {s : State}
    (hdue : (h.audio && (s.intake.find h.identity).any fun r => 6 ≤ r.words.length) = true)
    (hclaim : claimSlot (endIfRecording .superseded s) = none) :
    prepareRecording h s = flagSilent h.identity (endIfRecording .superseded s) := by
  unfold prepareRecording
  dsimp only
  rw [hdue, if_pos rfl, hclaim]

theorem prepareRecording_prepares (h : Header) (s : State) : s.Prepares (prepareRecording h s) := by
  have hended := (endIfRecording_supersedes .superseded s).prepares
  cases hdue : h.audio && (s.intake.find h.identity).any fun r => 6 ≤ r.words.length with
  | false =>
    rw [prepareRecording_silent hdue]
    exact flagSilent_prepares ..
  | true =>
    cases hclaim : claimSlot (endIfRecording .superseded s) with
    | none =>
      rw [prepareRecording_refused hdue hclaim]
      exact hended.trans (flagSilent_prepares ..)
    | some claimed =>
      rw [prepareRecording_claims hdue hclaim]
      exact (hended.trans (claimSlot_prepares hclaim)).trans (awaits_prepares ..)

end Sys2Proof.Machine

/-!
PROOF. A header that is stored: the record at the queue's tail, its acceptance, and the selection after it (R129 to R132,
R149, R151).
-/

namespace Sys2Proof.Machine

/-! ### The acceptance (R131) -/

/-- An accepted record counted. -/
def State.accepting (s : State) : State :=
  { s with intake := { s.intake with
    counters := { s.intake.counters with accepted := min (s.intake.counters.accepted + 1) 65535 } } }

/-- The state as the selection after an acceptance finds it. -/
def State.told (h : Header) (d : Decision) (r : AlertRecord) (s : State) : State :=
  passAcceptance d r (latch .alertAccepted (acceptedDetail h d r) s.accepting)

theorem accept_found {h : Header} {d : Decision} {s : State} {r : AlertRecord} (hr : s.intake.find h.identity = some r) :
    accept h d s = select (s.told h d r) := by
  unfold accept
  rw [hr]
  rfl

theorem passAcceptance_frame (d : Decision) (r : AlertRecord) (s : State) :
    passAcceptance d r s =
      { s with
        air := { s.air with waitSet := (passAcceptance d r s).air.waitSet }
        link := (passAcceptance d r s).link
        notices := (passAcceptance d r s).notices
        sent := (passAcceptance d r s).sent } := by
  unfold passAcceptance
  split
  · rfl
  · conv_lhs => rw [wakeOrAbort_frame]
    conv_rhs => rw [wakeOrAbort_frame]

theorem passAcceptance_after (d : Decision) (r : AlertRecord) {s u : State} {a : AlertIntake} {n : NoticeUnit} {e : Sent}
    (hu : u = { s with intake := a, notices := n, sent := e }) :
    passAcceptance d r u =
      { s with
        intake := a
        air := { s.air with waitSet := (passAcceptance d r u).air.waitSet }
        link := (passAcceptance d r u).link
        notices := (passAcceptance d r u).notices
        sent := (passAcceptance d r u).sent } := by
  subst hu
  exact passAcceptance_frame ..

theorem passAcceptance_waitSet (d : Decision) (r : AlertRecord) {s : State}
    (h : s.link.mode = .sleepPending → s.air.waitSet = []) : (passAcceptance d r s).air.waitSet = s.air.waitSet := by
  unfold passAcceptance
  split
  · rfl
  · rw [wakeOrAbort_frame]
    dsimp only
    split
    · next hmode => exact (h hmode).symm
    · rfl

theorem passAcceptance_latches (d : Decision) (r : AlertRecord) (s : State) :
    s.Latches [21, 23] (passAcceptance d r s) := by
  unfold passAcceptance
  split
  · exact .refl _ s
  · exact wakeOrAbort_latches ..

theorem passAcceptance_wakes {d : Decision} {r : AlertRecord} (ht : r.torn = false) (hd : d.airMode ≠ .logOnly)
    (s : State) : passAcceptance d r s = wakeOrAbort 3 s := by
  unfold passAcceptance
  rw [ht, decide_eq_false hd]
  rfl

section
variable (h : Header) (d : Decision) (r : AlertRecord) (s : State)

theorem State.told_frame :
    s.told h d r =
      { s with
        intake := { s.intake with
          counters := { s.intake.counters with accepted := min (s.intake.counters.accepted + 1) 65535 } }
        air := { s.air with waitSet := (s.told h d r).air.waitSet }
        link := (s.told h d r).link
        notices := (s.told h d r).notices
        sent := (s.told h d r).sent } :=
  passAcceptance_after d r (latch_frame ..)

theorem State.told_intake : (s.told h d r).intake = { s.intake with
    counters := { s.intake.counters with accepted := min (s.intake.counters.accepted + 1) 65535 } } := by
  rw [State.told_frame]

theorem State.told_clips : (s.told h d r).clips = s.clips := by rw [State.told_frame]
theorem State.told_frameCount : (s.told h d r).frameCount = s.frameCount := by rw [State.told_frame]

theorem State.told_air : (s.told h d r).air = { s.air with waitSet := (s.told h d r).air.waitSet } := by
  conv_lhs => rw [State.told_frame]

theorem State.told_waitSet (hwait : s.link.mode = .sleepPending → s.air.waitSet = []) :
    (s.told h d r).air.waitSet = s.air.waitSet := by
  unfold State.told
  rw [passAcceptance_waitSet]
  · rw [latch_air]
    rfl
  · rw [latch_link, latch_air]
    exact hwait

theorem State.told_latches : s.Latches [14, 21, 23] (s.told h d r) :=
  have hlatched : s.Latches [14, 21, 23] (latch .alertAccepted (acceptedDetail h d r) s.accepting) :=
    (State.Latches.of_eq (s := s) (t := s.accepting) rfl).latched (by decide) _
  hlatched.trans ((passAcceptance_latches d r _).mono (ks := [21, 23]) (by decide))

theorem State.told_accepted : ((s.told h d r).notices.latches.get 14).isSome = true := by
  have hlatched := (latch_get .alertAccepted (acceptedDetail h d r) s.accepting 14).trans (if_pos rfl)
  unfold State.told
  rw [(passAcceptance_latches ..).kept hlatched]
  rfl

theorem State.told_awake (ht : r.torn = false) (hd : d.airMode ≠ .logOnly) :
    (s.told h d r).link.mode = match s.link.mode with
      | .asleep => .waking
      | .sleepPending => .run
      | m => m := by
  unfold State.told
  rw [passAcceptance_wakes ht hd, wakeOrAbort_mode, latch_link]
  rfl

theorem State.told_aborts (ht : r.torn = false) (hd : d.airMode ≠ .logOnly) (hmode : s.link.mode = .sleepPending) :
    s.Aborts 3 (s.told h d r) := by
  unfold State.told
  rw [passAcceptance_wakes ht hd]
  have hother := (latch_get .alertAccepted (acceptedDetail h d r) s.accepting 21).trans (if_neg (by decide))
  exact (wakeOrAbort_aborts (s := latch .alertAccepted (acceptedDetail h d r) s.accepting)
    (by rw [latch_link]; exact hmode) 3).of_eq (by rw [latch_link]; rfl) hother.symm rfl rfl rfl

end

/-! ### The record at the tail of the queue -/

theorem AlertIntake.find_last {a : AlertIntake} {front : List AlertRecord} {r : AlertRecord} {i : Identity}
    (hqueue : a.queue = front ++ [r]) (hfront : ∀ q ∈ front, q.identity ≠ i) (hr : r.identity = i) :
    a.find i = some r := by
  unfold AlertIntake.find
  rw [hqueue, List.find?_append, List.find?_eq_none.mpr fun q hq => by simpa using hfront q hq, Option.none_or,
    List.find?_cons_of_pos (by simpa using hr)]

/-- The selection leaves the last record of the queue last, perhaps with its on-air mark set. -/
theorem State.Selects.last {s t : State} (h : s.Selects t) {r : AlertRecord} (hr : s.intake.queue.getLast? = some r) :
    ∃ b, t.intake.queue.getLast? = some { r with onAir := b } := by
  rcases h.marks with h | ⟨i, h⟩
  · exact ⟨r.onAir, by rw [h]; exact hr⟩
  · rw [h, AlertIntake.modRecord]
    dsimp only
    rw [List.getLast?_map, hr]
    by_cases hi : r.identity = i
    · exact ⟨true, by rw [Option.map_some, if_pos hi]⟩
    · exact ⟨r.onAir, by rw [Option.map_some, if_neg hi]⟩

/-- The selection's choice where the last record alone can be eligible. -/
theorem chosenRecord_last {s : State} {front : List AlertRecord} {r : AlertRecord}
    (hqueue : s.intake.queue = front ++ [r]) (hfront : ∀ q ∈ front, s.air.eligible q = false) :
    chosenRecord s = if s.air.eligible r then some r else none := by
  rw [chosenRecord_eq, hqueue, List.foldl_append, (s.air.choice_spec front).2.mpr hfront]
  rfl

/-! ### The store (R129, R130) -/

/-- The state with a record at the tail of the queue. -/
def State.stored (r : AlertRecord) (s : State) : State :=
  { s with intake := { s.intake with queue := s.intake.queue ++ [r] } }

theorem storeHeader_whole {h : Header} {d : Decision} {remaining : Nat} {s : State} (hfit : h.size ≤ s.intake.freeWords) :
    storeHeader h d remaining s =
      (s.stored (newRecord h d remaining s.intake.freeWords s.intake.minuteOfWeek.isNone s.frameCount), true) := by
  have hpos : s.intake.freeWords ≠ 0 := by
    have : 6 ≤ h.size := Nat.le_add_right ..
    omega
  unfold storeHeader
  dsimp only
  rw [if_neg hpos, if_pos hfit]
  rfl

/-- A header that does not fit, counted and noticed. -/
def State.overrun (h : Header) (free : Nat) (torn : Bool) (s : State) : State :=
  let lost : State := { s with intake := { s.intake with
    counters := { s.intake.counters with lost := min (s.intake.counters.lost + 1) 65535 } } }
  if torn then lost else latch .alertOverrun [h.identity.word, Word.nat h.size, Word.nat free] lost

theorem storeHeader_torn {h : Header} {d : Decision} {remaining : Nat} {s : State} (hfit : s.intake.freeWords < h.size) :
    storeHeader h d remaining s =
      if s.intake.freeWords = 0 then (s.overrun h 0 s.intake.tornHeld, false)
      else ((s.stored (newRecord h d remaining s.intake.freeWords s.intake.minuteOfWeek.isNone s.frameCount)).overrun h
        s.intake.freeWords s.intake.tornHeld, true) := by
  unfold storeHeader
  dsimp only
  rw [if_neg (Nat.not_le.mpr hfit)]
  by_cases hfree : s.intake.freeWords = 0
  · rw [if_pos hfree, if_pos hfree, hfree]
    rfl
  · rw [if_neg hfree, if_neg hfree, decide_eq_true hfree]
    rfl

/-! ### A header taken in -/

/-- How a stored record goes on: prepared, told of, and the selection run. -/
structure State.TakesIn (h : Header) (d : Decision) (new : AlertRecord) (s p : State) (r : AlertRecord) (t : State) :
    Prop where
  tail : s.intake.queue.getLast? = some new
  found : s.intake.find h.identity = some new
  prepared : p = prepareRecording h s
  prepared_tail : p.intake.queue.getLast? = some r
  prepares : s.Prepares p
  front : ∃ f : AlertRecord → AlertRecord, (∀ q : AlertRecord, q.Rerecorded (f q)) ∧
    p.intake.queue = (s.intake.queue.dropLast.map f) ++ [r]
  recorded : new.Rerecorded r
  selected : t = select (p.told h d r)

theorem accept_takesIn {h : Header} {d : Decision} {s : State} {front : List AlertRecord} {new : AlertRecord}
    (hqueue : s.intake.queue = front ++ [new]) (hfront : ∀ q ∈ front, q.identity ≠ h.identity)
    (hnew : new.identity = h.identity) :
    ∃ p r, s.TakesIn h d new p r (accept h d (prepareRecording h s)) := by
  have hprepares := prepareRecording_prepares h s
  obtain ⟨f, hf, hfs⟩ := hprepares.queue
  rw [hqueue, List.map_append, List.map_singleton] at hf
  have hfind : (prepareRecording h s).intake.find h.identity = some (f new) := by
    refine AlertIntake.find_last hf (fun q hq => ?_) ((hfs new).identity.trans hnew)
    obtain ⟨x, hx, rfl⟩ := List.mem_map.mp hq
    rw [(hfs x).identity]
    exact hfront x hx
  exact ⟨_, f new, by rw [hqueue, List.getLast?_concat], AlertIntake.find_last hqueue hfront hnew, rfl,
    by rw [hf, List.getLast?_concat], hprepares, ⟨f, hfs, by rw [hf, hqueue, List.dropLast_concat]⟩, hfs new, accept_found hfind⟩

section
variable {h : Header} {d : Decision} {new r : AlertRecord} {s p t : State} (k : s.TakesIn h d new p r t)
include k

theorem State.TakesIn.selects : (p.told h d r).Selects t := k.selected ▸ select_selects _

theorem State.TakesIn.last : ∃ b, t.intake.queue.getLast? = some { r with onAir := b } := by
  refine k.selects.last ?_
  rw [State.told_intake]
  exact k.prepared_tail

theorem State.TakesIn.identities : t.intake.identities = s.intake.identities := by
  rw [k.selects.identities, State.told_intake]
  obtain ⟨f, hf, hfs⟩ := k.prepares.queue
  show p.intake.queue.map _ = _
  rw [hf, List.map_map]
  exact List.map_congr_left fun q _ => (hfs q).identity

theorem State.TakesIn.recording : t.intake.recording = p.intake.recording := by
  rw [k.selects.recording, State.told_intake]

theorem State.TakesIn.counters : t.intake.counters =
    { s.intake.counters with
      accepted := min (s.intake.counters.accepted + 1) 65535, audioShort := t.intake.counters.audioShort } := by
  have hcounters : t.intake.counters = (p.told h d r).intake.counters := by
    rcases k.selects.marks with h | ⟨i, h⟩
    · rw [h]
    · rw [h]
      rfl
  rw [hcounters, State.told_intake]
  dsimp only
  conv_lhs => rw [k.prepares.intake]

theorem State.TakesIn.recent : t.intake.recent = s.intake.recent := by
  rw [k.selects.minute.recent, State.told_intake]
  dsimp only
  rw [k.prepares.intake]

theorem State.TakesIn.frame : t = { s with
    clips := t.clips, intake := t.intake, air := t.air, link := t.link, notices := t.notices, sent := t.sent } := by
  conv_lhs => rw [k.selects.frame, State.told_frame, k.prepares.frame]

theorem State.TakesIn.latches : p.Latches [14, 21, 23] t :=
  (State.told_latches h d r p).trans (k.selects.latches.mono (by decide))

theorem State.TakesIn.accepted : (t.notices.latches.get 14).isSome = true := by
  obtain ⟨x, hx⟩ := Option.isSome_iff_exists.mp (State.told_accepted h d r p)
  rw [k.selects.latches.kept hx]
  rfl

theorem State.TakesIn.link : p.link = s.link := by rw [k.prepares.frame]
theorem State.TakesIn.air : p.air = s.air := by rw [k.prepares.frame]

/-- The selection after the acceptance leaves a slot that alert recording holds, and the store's other items, alone. -/
theorem State.TakesIn.clips : p.clips.Rereads t.clips ∧ t.clips.counters = p.clips.counters := by
  rcases k.selects.clips with h | ⟨i, -, h⟩
  · rw [h, State.told_clips]
    exact ⟨.refl _, rfl⟩
  · rw [h, State.told_clips]
    exact ⟨.hold .., by rw [ClipStore.hold_frame]⟩

theorem State.TakesIn.wakes (ht : new.torn = false) (hd : d.airMode ≠ .logOnly) (hmode : s.link.mode = .asleep) :
    t.link.mode = .waking := by
  have hwaking : (p.told h d r).link.mode = .waking := by
    rw [State.told_awake h d r p (k.recorded.torn.trans ht) hd, k.link, hmode]
  rw [k.selects.passes (by rw [hwaking]; rfl)]
  exact hwaking

theorem State.TakesIn.aborts (ht : new.torn = false) (hd : d.airMode ≠ .logOnly) (hmode : s.link.mode = .sleepPending) :
    p.Aborts 3 t := by
  rw [k.selected]
  exact (State.told_aborts h d r p (k.recorded.torn.trans ht) hd (k.link ▸ hmode)).select

/-- The selection after the acceptance, no other record being eligible. -/
theorem State.TakesIn.choice (hidle : s.air.state = .idle)
    (hother : ∀ q ∈ s.intake.queue.dropLast, s.air.eligible q = false)
    (hwait : s.link.mode = .sleepPending → s.air.waitSet = []) :
    (p.told h d r).air.state = .idle ∧
      chosenRecord (p.told h d r) = if s.air.eligible r then some r else none := by
  have hair : (p.told h d r).air = s.air := by
    rw [State.told_air, State.told_waitSet h d r p (by rw [k.link, k.air]; exact hwait), k.air]
  obtain ⟨f, hfs, hqueue⟩ := k.front
  have hqueue' : (p.told h d r).intake.queue = _ := (congrArg AlertIntake.queue (State.told_intake h d r p)).trans hqueue
  refine ⟨by rw [hair, hidle], ?_⟩
  rw [chosenRecord_last hqueue', hair]
  intro q hq
  obtain ⟨x, hx, rfl⟩ := List.mem_map.mp hq
  rw [hair, (hfs x).eligible]
  exact hother x hx

theorem State.TakesIn.eligible (ht : new.torn = false) (hon : new.onAir = false) (hwait : new.identity ∉ s.air.waitSet) :
    s.air.eligible r = decide (new.airMode ≠ .logOnly) := by
  rw [k.recorded.eligible]
  unfold AirStage.eligible
  rw [ht, hon, show s.air.waitSet.contains new.identity = false by simpa using hwait]
  simp

theorem State.TakesIn.identity : new.identity = h.identity := by
  have hfound := List.find?_some k.found
  simpa using hfound

theorem State.TakesIn.due (hlength : 6 ≤ new.words.length) :
    (h.audio && (s.intake.find h.identity).any fun q => 6 ≤ q.words.length) = h.audio := by
  rw [k.found, Option.any_some, decide_eq_true hlength, Bool.and_true]

/-- Without audio the record is flagged "no audio", and nothing else. -/
theorem State.TakesIn.silent (haudio : h.audio = false) :
    r.noAudio = true ∧ p.intake.recording = s.intake.recording := by
  have hprepared : p = flagSilent h.identity s :=
    k.prepared.trans (prepareRecording_silent (by rw [haudio, Bool.false_and]))
  refine ⟨?_, by rw [hprepared]; rfl⟩
  have htail := k.prepared_tail
  rw [hprepared] at htail
  change (s.intake.queue.map _).getLast? = some r at htail
  rw [List.getLast?_map, k.tail, Option.map_some, if_pos k.identity] at htail
  cases htail
  rfl

/-- With audio and no slot, the recording in progress ends and the record is flagged "no audio". -/
theorem State.TakesIn.refused (haudio : h.audio = true) (hlength : 6 ≤ new.words.length)
    (hclaim : claimSlot (endIfRecording .superseded s) = none) :
    r.noAudio = true ∧ p = flagSilent h.identity (endIfRecording .superseded s) := by
  have hprepared : p = flagSilent h.identity (endIfRecording .superseded s) :=
    k.prepared.trans (prepareRecording_refused ((k.due hlength).trans haudio) hclaim)
  refine ⟨?_, hprepared⟩
  obtain ⟨f, hf, hfs⟩ := (endIfRecording_supersedes .superseded s).prepares.queue
  have htail := k.prepared_tail
  rw [hprepared] at htail
  change ((endIfRecording .superseded s).intake.queue.map _).getLast? = some r at htail
  rw [hf, List.getLast?_map, List.getLast?_map, k.tail, Option.map_some, Option.map_some,
    if_pos ((hfs new).identity.trans k.identity)] at htail
  cases htail
  rfl

/-- With audio and a slot, the record names the slot. -/
theorem State.TakesIn.claims {n : Fin 32} {u : State} (haudio : h.audio = true) (hlength : 6 ≤ new.words.length)
    (hclaim : claimSlot (endIfRecording .superseded s) = some (n, u)) :
    r.slot = some n ∧ r.noAudio = new.noAudio ∧ p = u.awaits h.identity n := by
  have hprepared : p = u.awaits h.identity n :=
    k.prepared.trans (prepareRecording_claims ((k.due hlength).trans haudio) hclaim)
  have hended := endIfRecording_supersedes .superseded s
  obtain ⟨f, hf, hfs⟩ := hended.prepares.queue
  have hnoAudio : (f new).noAudio = new.noAudio := by
    have hlast := congrArg List.getLast? hended.noAudio
    rw [hf, List.getLast?_map, List.getLast?_map, List.getLast?_map, k.tail] at hlast
    exact Option.some.inj hlast
  have htail := k.prepared_tail
  rw [hprepared] at htail
  change (u.intake.queue.map _).getLast? = some r at htail
  rw [claimSlot_intake hclaim, hf, List.getLast?_map, List.getLast?_map, k.tail, Option.map_some, Option.map_some,
    if_pos ((hfs new).identity.trans k.identity)] at htail
  cases htail
  exact ⟨(f new).slot_audioWord ((hfs new).length ▸ hlength) n 0 (by decide), hnoAudio, hprepared⟩

/-- The slot given to alert recording, as the selection leaves it. -/
theorem State.TakesIn.given {n : Fin 32} (hslot : p.clips.slots.get n = ⟨.recording, .alert, 60000, 0, [], 0, none⟩) :
    t.clips.slots.get n = ⟨.recording, .alert, 60000, 0, [], 0, none⟩ := by
  rcases k.selects.clips with h | ⟨m, hm, h⟩
  · rw [h, State.told_clips, hslot]
  · rw [State.told_clips] at hm h
    have hother : n ≠ m := by
      rintro rfl
      unfold ClipStore.playable at hm
      rw [hslot] at hm
      cases hm
    rw [h, ClipStore.hold_get, hslot, if_neg hother]
    split
    · rfl
    · split <;> rfl

end

end Sys2Proof.Machine

/-!
PROOF. HEADER and ALERT-TEST: what is stored, and what the orders of intake leave (R104, R106, R122, R129 to R132, R139).
-/

namespace Sys2Proof.Machine

/-! ### The words of a new record (R129) -/

theorem AirMode.code_lt (m : AirMode) : m.code < 4 := by cases m <;> decide

theorem AirMode.ofCode_code (m : AirMode) : AirMode.ofCode m.code = m := by cases m <;> rfl

section
variable (h : Header) (d : Decision) (torn timeUnknown : Bool)

/-- The verdict word as a number. -/
theorem verdictWord_toNat : (verdictWord h d torn timeUnknown).toNat =
    d.airMode.code + d.priority.val * 16 + (if torn then 256 else 0) + (if timeUnknown then 2048 else 0) +
      if h.test then 16384 else 0 := by
  have hcode := d.airMode.code_lt
  have hpriority := d.priority.isLt
  show (BitVec.ofNat 32 _).toNat = _
  rw [BitVec.toNat_ofNat, Nat.mod_eq_of_lt]
  · rfl
  · show d.airMode.code + d.priority.val * 16 + (if torn then 256 else 0) + (if timeUnknown then 2048 else 0) +
      (if h.test then 16384 else 0) < 4294967296
    cases torn <;> cases timeUnknown <;> cases h.test <;> simp <;> omega

theorem verdictWord_airMode : ((verdictWord h d torn timeUnknown).extractLsb' 0 2).toNat = d.airMode.code := by
  have hcode := d.airMode.code_lt
  rw [BitVec.extractLsb'_toNat, verdictWord_toNat]
  cases torn <;> cases timeUnknown <;> cases h.test <;> simp <;> omega

theorem verdictWord_priority : ((verdictWord h d torn timeUnknown).extractLsb' 4 2).toNat = d.priority.val := by
  have hcode := d.airMode.code_lt
  have hpriority := d.priority.isLt
  rw [BitVec.extractLsb'_toNat, verdictWord_toNat]
  cases torn <;> cases timeUnknown <;> cases h.test <;> simp [Nat.shiftRight_eq_div_pow] <;> omega

theorem verdictWord_test : (verdictWord h d torn timeUnknown).getLsbD flagTest = h.test := by
  have hcode := d.airMode.code_lt
  have hpriority := d.priority.isLt
  rw [BitVec.getLsbD, verdictWord_toNat, Nat.testBit_eq_decide_div_mod_eq]
  cases torn <;> cases timeUnknown <;> cases h.test <;> simp [flagTest] <;> omega

end

section
variable {h : Header} {d : Decision} {remaining free : Nat} {timeUnknown : Bool} {stamp : BitVec 32} (hfit : h.size ≤ free)
include hfit

theorem newRecord_words : (newRecord h d remaining free timeUnknown stamp).words =
    wholeWords h d remaining false timeUnknown := by
  unfold newRecord
  dsimp only
  rw [decide_eq_false (Nat.not_lt.mpr hfit), List.take_of_length_le (by rw [wholeWords_length]; exact hfit)]

theorem newRecord_torn : (newRecord h d remaining free timeUnknown stamp).torn = false :=
  decide_eq_false (Nat.not_lt.mpr hfit)

theorem newRecord_word1 : (newRecord h d remaining free timeUnknown stamp).word 1 =
    h.identity.issuer ++ h.identity.serial := by
  unfold AlertRecord.word
  rw [newRecord_words hfit]
  rfl

theorem newRecord_word5 : (newRecord h d remaining free timeUnknown stamp).word 5 = verdictWord h d false timeUnknown := by
  unfold AlertRecord.word
  rw [newRecord_words hfit]
  rfl

theorem newRecord_airMode : (newRecord h d remaining free timeUnknown stamp).airMode = d.airMode := by
  unfold AlertRecord.airMode
  rw [newRecord_word5 hfit, verdictWord_airMode, AirMode.ofCode_code]

theorem newRecord_priority : (newRecord h d remaining free timeUnknown stamp).priority = d.priority.val := by
  unfold AlertRecord.priority
  rw [newRecord_word5 hfit, verdictWord_priority]

theorem newRecord_areas : (newRecord h d remaining free timeUnknown stamp).words.drop 6 =
    h.areas.map fun a => a.setWidth 32 := by
  rw [newRecord_words hfit]
  rfl

end

/-! ### The steps of intake, from the store (R130 to R132) -/

/-- The record that a header leaves in a state that has remembered it. -/
def State.newRecord (h : Header) (s : State) : AlertRecord :=
  Machine.newRecord h (s.intake.filterDecision h) (s.intake.remainingOf h) s.intake.freeWords
    s.intake.minuteOfWeek.isNone s.frameCount

section
variable {h : Header} {s : State} (hr : 0 < s.intake.remainingOf h) (hk : s.intake.knows h.identity = false)
  (hd : (s.intake.filterDecision h).verdict = .accept)
include hr hk hd

theorem intakeHeader_accepts :
    intakeHeader h s =
      ((storeAndAccept h (s.intake.filterDecision h) (s.intake.remainingOf h) (s.remembering h)).1,
        (storeAndAccept h (s.intake.filterDecision h) (s.intake.remainingOf h) (s.remembering h)).2,
        some (s.intake.filterDecision h).matched) := by
  rw [intakeHeader_new hr hk, hd]

/-- A header that fits is stored whole. -/
theorem intakeHeader_stored (hfit : h.size ≤ s.intake.freeWords) :
    ∃ p r t, intakeHeader h s = (t, .whole, some (s.intake.filterDecision h).matched) ∧
      ((s.remembering h).stored (s.newRecord h)).TakesIn h (s.intake.filterDecision h) (s.newRecord h) p r t := by
  have hpos : 0 < s.intake.freeWords := Nat.lt_of_lt_of_le (Nat.lt_of_lt_of_le (by decide) (Nat.le_add_right 6 _)) hfit
  obtain ⟨p, r, htakes⟩ := accept_takesIn (d := s.intake.filterDecision h)
    (s := (s.remembering h).stored (s.newRecord h)) rfl (s.intake.knows_false hk) (newRecord_identity _ _ _ _ _ _ hpos)
  refine ⟨p, r, _, ?_, htakes⟩
  rw [intakeHeader_accepts hr hk hd]
  unfold storeAndAccept
  rw [storeHeader_whole (s := s.remembering h) hfit]
  dsimp only
  rw [if_pos rfl, decide_eq_true (show h.size ≤ (s.remembering h).intake.freeWords from hfit), if_pos rfl]
  rfl

/-- A header that fits in part is stored torn. -/
theorem intakeHeader_torn (hpos : 0 < s.intake.freeWords) (hfit : s.intake.freeWords < h.size) :
    ∃ p r t, intakeHeader h s = (t, .torn, some (s.intake.filterDecision h).matched) ∧
      (((s.remembering h).stored (s.newRecord h)).overrun h s.intake.freeWords s.intake.tornHeld).TakesIn h
        (s.intake.filterDecision h) (s.newRecord h) p r t := by
  have hqueue : (((s.remembering h).stored (s.newRecord h)).overrun h s.intake.freeWords s.intake.tornHeld).intake.queue =
      s.intake.queue ++ [s.newRecord h] := by
    unfold State.overrun
    dsimp only
    split
    · rfl
    · rw [latch_intake]
      rfl
  obtain ⟨p, r, htakes⟩ := accept_takesIn (d := s.intake.filterDecision h) hqueue (s.intake.knows_false hk)
    (newRecord_identity _ _ _ _ _ _ hpos)
  refine ⟨p, r, _, ?_, htakes⟩
  rw [intakeHeader_accepts hr hk hd]
  unfold storeAndAccept
  rw [storeHeader_torn (s := s.remembering h) hfit, if_neg (show (s.remembering h).intake.freeWords ≠ 0 from hpos.ne')]
  dsimp only
  rw [if_pos rfl, decide_eq_false (show ¬ h.size ≤ (s.remembering h).intake.freeWords from Nat.not_le.mpr hfit), if_neg nofun]
  rfl

/-- A header for which no word is free is lost. -/
theorem intakeHeader_lost (hfree : s.intake.freeWords = 0) :
    intakeHeader h s = ((s.remembering h).overrun h 0 s.intake.tornHeld, .lost,
      some (s.intake.filterDecision h).matched) := by
  have hfit : (s.remembering h).intake.freeWords < h.size := by
    rw [show (s.remembering h).intake.freeWords = 0 from hfree]
    exact Nat.lt_of_lt_of_le (by decide) (Nat.le_add_right 6 _)
  rw [intakeHeader_accepts hr hk hd]
  unfold storeAndAccept
  rw [storeHeader_torn hfit, if_pos (show (s.remembering h).intake.freeWords = 0 from hfree)]
  rfl

end

end Sys2Proof.Machine

/-!
PROOF. HEADER stored (R104, R106, R130 to R132, R149, R151): the claim, the selection, and the three outcomes.
-/

namespace Sys2Proof.Machine

/-! ### The claim of a slot, in the state stored -/

theorem ClipStore.giveSlot_counters (c : ClipStore) (n : Fin 32) : (c.giveSlot n).counters = c.counters := by
  rw [ClipStore.giveSlot_eq]
  show c.cutBurst.counters = _
  unfold ClipStore.cutBurst
  split
  · rw [ClipStore.replaceFill_eq]
  · rfl

theorem ClipStore.cutBurst_opened {c : ClipStore} {b : OpenBurst} (h : c.fill = .opened b) :
    c.cutBurst = c.replaceFill (.cut b.slot b.pageIndex) := by
  unfold ClipStore.cutBurst
  rw [h]

theorem ClipStore.cutBurst_other {c : ClipStore} (h : ∀ b, c.fill ≠ .opened b) : c.cutBurst = c := by
  unfold ClipStore.cutBurst
  split
  · next b hb => exact absurd hb (h b)
  · rfl

/-- The pages that a claim returns to the list: that of a burst it cuts. -/
def FillRecord.pages : FillRecord → List Nat
  | .opened b => [b.page]
  | .nothing | .cut .. | .refused .. => []

/-- The fill record that a claim leaves. -/
def FillRecord.afterClaim : FillRecord → FillRecord
  | .opened b => .cut b.slot b.pageIndex
  | .nothing => .nothing
  | .cut n p => .cut n p
  | .refused n p r => .refused n p r

theorem ClipStore.giveSlot_free (c : ClipStore) (n : Fin 32) : (c.giveSlot n).free = c.free ++ c.fill.pages := by
  rw [ClipStore.giveSlot_eq]
  show c.cutBurst.free = _
  cases hf : c.fill with
  | opened b =>
    rw [ClipStore.cutBurst_opened hf, ClipStore.replaceFill_eq, hf]
    exact Eq.refl _
  | _ =>
    rw [ClipStore.cutBurst_other fun b hb => by rw [hf] at hb; cases hb]
    exact (List.append_nil _).symm

theorem ClipStore.giveSlot_fill (c : ClipStore) (n : Fin 32) : (c.giveSlot n).fill = c.fill.afterClaim := by
  rw [ClipStore.giveSlot_eq]
  show c.cutBurst.fill = _
  cases hf : c.fill with
  | opened b =>
    rw [ClipStore.cutBurst_opened hf, ClipStore.replaceFill_eq]
    exact Eq.refl _
  | _ =>
    rw [ClipStore.cutBurst_other fun b hb => (by rw [hf] at hb; cases hb), hf]
    exact Eq.refl _

section
variable {h : Header} {d : Decision} {new r : AlertRecord} {s p t : State} (k : s.TakesIn h d new p r t)
  (haudio : h.audio = true) (hlength : 6 ≤ new.words.length)
include k haudio hlength

/-- The lowest EMPTY slot is given to the recording. -/
theorem State.TakesIn.takesEmpty {n : Fin 32} (hempty : (s.clips.slots.get n).state = .empty)
    (hslot : s.intake.recording.slot ≠ some n) (hlow : ∀ m, m < n → (s.clips.slots.get m).state ≠ .empty) :
    r.slot = some n ∧ r.noAudio = new.noAudio ∧
      t.intake.recording = ⟨.waiting, some h.identity, some n, 0, 0, false⟩ ∧
      t.clips.slots.get n = ⟨.recording, .alert, 60000, 0, [], 0, none⟩ ∧ t.clips.channelHeld = true := by
  have hended := endIfRecording_supersedes .superseded s
  obtain ⟨hr, hnoAudio, hp⟩ := k.claims haudio hlength
    (claimSlot_empty (by rw [hended.slot hslot]; exact hempty) fun m hm => hended.empty (hlow m hm))
  refine ⟨hr, hnoAudio, by rw [k.recording, hp]; rfl, k.given ?_, ?_⟩
  · rw [hp]
    exact (ClipStore.giveSlot_get ..).trans (if_pos rfl)
  · rw [k.clips.1.channelHeld, hp]
    rfl

/-- With no EMPTY slot, that of the victim is. -/
theorem State.TakesIn.takesEvicted {n : Fin 32} (hfull : ∀ m, (s.clips.slots.get m).state ≠ .empty)
    (hslot : s.intake.recording.slot ≠ some n) (hn : s.clips.Evicts s.frameCount n) :
    r.slot = some n ∧ r.noAudio = new.noAudio ∧
      t.intake.recording = ⟨.waiting, some h.identity, some n, 0, 0, false⟩ ∧
      t.clips.slots.get n = ⟨.recording, .alert, 60000, 0, [], 0, none⟩ ∧ t.clips.channelHeld = true ∧
      t.clips.free = s.clips.free ++ (s.clips.slots.get n).chain ++ s.clips.fill.pages ∧
      t.clips.fill = s.clips.fill.afterClaim ∧
      t.clips.counters = { s.clips.counters with eviction := min (s.clips.counters.eviction + 1) 65535 } ∧
      t.notices.latches.get 12 =
        some ((s.notices.latches.get 12).getD [Word.nat n.val, Word.nat (s.clips.slots.get n).chain.length]) := by
  have hended := endIfRecording_supersedes .superseded s
  have hget := hended.slot hslot
  obtain ⟨hr, hnoAudio, hp⟩ := k.claims haudio hlength
    (claimSlot_evicts (fun m => hended.empty (hfull m)) (hended.evicts hn hslot))
  have hclips : p.clips = ((endIfRecording .superseded s).clips.evicted n).giveSlot n := by
    rw [hp]
    rfl
  have hnotices : p.notices.latches.get 12 =
      some ((s.notices.latches.get 12).getD [Word.nat n.val, Word.nat (s.clips.slots.get n).chain.length]) := by
    rw [hp, ← hget, ← hended.latches.stands (k := 12) (by decide)]
    exact (latch_get ..).trans (if_pos rfl)
  have hevicted : ((endIfRecording .superseded s).clips.evicted n) = { s.clips.evicted n with
      slots := ((endIfRecording .superseded s).clips.evicted n).slots
      channelHeld := (endIfRecording .superseded s).clips.channelHeld } := by
    unfold ClipStore.evicted
    rw [hget]
    dsimp only
    conv_lhs => rw [hended.clips]
  refine ⟨hr, hnoAudio, by rw [k.recording, hp]; rfl, k.given ?_, ?_, ?_, ?_, ?_, k.latches.kept hnotices⟩
  · rw [hclips]
    exact (ClipStore.giveSlot_get ..).trans (if_pos rfl)
  · rw [k.clips.1.channelHeld, hclips]
    rfl
  · rw [k.clips.1.free, hclips, ClipStore.giveSlot_free, hevicted]
    rfl
  · rw [k.clips.1.fill, hclips, ClipStore.giveSlot_fill, hevicted]
    rfl
  · rw [k.clips.2, hclips, ClipStore.giveSlot_counters, hevicted]
    rfl

/-- With no slot and no victim the record has no audio. -/
theorem State.TakesIn.takesNone (hfull : ∀ m, (s.clips.slots.get m).state ≠ .empty) (hn : ∀ m, ¬ s.clips.evictable m) :
    r.noAudio = true ∧ t.clips.free = s.clips.free ∧ t.clips.fill = s.clips.fill ∧
      t.notices.latches.get 12 = s.notices.latches.get 12 ∧
      (s.intake.recording.state = .none → t.intake.recording = s.intake.recording) := by
  have hended := endIfRecording_supersedes .superseded s
  obtain ⟨hnoAudio, hp⟩ := k.refused haudio hlength
    (claimSlot_none (fun m => hended.empty (hfull m)) fun m hm => hn m (hended.evictable hm).1)
  have hclips : p.clips = (endIfRecording .superseded s).clips := by
    rw [hp]
    rfl
  have hlatches : s.Latches [17] p := by
    rw [hp]
    exact hended.latches.trans (.of_eq rfl)
  refine ⟨hnoAudio, ?_, ?_, ?_, fun hidle => ?_⟩
  · rw [k.clips.1.free, hclips, hended.clips]
  · rw [k.clips.1.fill, hclips, hended.clips]
  · rw [k.latches.stands (by decide), hlatches.stands (by decide)]
  · rw [k.recording, hp, hended.idle hidle]
    rfl

end

/-! ### The header stored whole -/

/-- The words of a header's record are free. -/
theorem Header.fits_of {h : Header} {a : AlertIntake} (hfit : storedWords a.queue + (6 + h.areas.length) ≤ 192) :
    h.capped.size ≤ a.freeWords := by
  show 6 + h.areas.length ≤ 192 - storedWords a.queue
  omega

/-- With no record chosen, none before a stored one is eligible. -/
theorem stored_ineligible {new : AlertRecord} {s u : State} (hair : u.air = s.air)
    (hqueue : u.intake.queue = s.intake.queue) (hnone : chosenRecord s = none) :
    ∀ q ∈ (u.stored new).intake.queue.dropLast, (u.stored new).air.eligible q = false := by
  intro q hq
  rw [show (u.stored new).intake.queue = s.intake.queue ++ [new] from congrArg (· ++ [new]) hqueue,
    List.dropLast_concat] at hq
  rw [show (u.stored new).air = s.air from hair]
  rw [chosenRecord_eq] at hnone
  exact (s.air.choice_spec s.intake.queue).2.mp hnone q hq

/-- The selection after an acceptance, by the air mode of the one record that can be eligible. -/
theorem State.TakesIn.airs {h : Header} {d : Decision} {new r : AlertRecord} {s p t : State}
    (k : s.TakesIn h d new p r t) (ht : new.torn = false) (hon : new.onAir = false) (hstamp : new.stamp = s.frameCount)
    (hmode : new.airMode = d.airMode) (hidle : s.air.state = .idle)
    (hother : ∀ q ∈ s.intake.queue.dropLast, s.air.eligible q = false) (hwait : h.identity ∉ s.air.waitSet)
    (hpending : s.link.mode = .sleepPending → s.air.waitSet = []) :
    (d.airMode = .immediate → t.air.state = .leadIn ∧ t.air.step = 0 ∧ t.air.airing = some h.identity ∧
      t.air.present = true ∧ t.intake.queue.getLast? = some { r with onAir := true }) ∧
    (d.airMode = .nextBreak → 0 < s.air.breakDeadline →
      t.air.state = .waitBreak ∧ t.air.airing = some h.identity ∧ t.intake.queue.getLast? = some r) ∧
    (d.airMode = .logOnly → t.air.state = .idle ∧ t.air.airing = none ∧ t.intake.queue.getLast? = some r) := by
  obtain ⟨hstate, hchoice⟩ := k.choice hidle hother hpending
  rw [k.eligible ht hon (by rw [k.identity]; exact hwait), hmode] at hchoice
  have hmem : (p.told h d r).air.state ∈ [AirState.idle, .waitBreak] := by rw [hstate]; decide
  have hrmode : r.airMode = d.airMode := k.recorded.airMode.trans hmode
  have hrid : r.identity = h.identity := k.recorded.identity.trans k.identity
  have htail : (p.told h d r).intake.queue.getLast? = some r := by
    rw [State.told_intake]
    exact k.prepared_tail
  refine ⟨fun hd => ?_, fun hd hdeadline => ?_, fun hd => ?_⟩
  · rw [if_pos (by rw [hd]; rfl)] at hchoice
    have hdue : recordDue (p.told h d r) r = true := by
      unfold recordDue
      rw [hrmode, hd]
      rfl
    have hawake : (p.told h d r).link.mode.awake = true := by
      rw [State.told_awake h d r p (k.recorded.torn.trans ht) (by rw [hd]; nofun)]
      cases p.link.mode <;> rfl
    rw [k.selected, select_due hmem hchoice hdue]
    have hcommit := commit_committed r.identity ((p.told h d r).modAir fun a =>
      { a with counters := { a.counters with
        deadline := bump a.counters.deadline (if r.airMode = .nextBreak then 1 else 0) } })
    obtain ⟨hlead, hstep, -⟩ := hcommit.leadIn hawake
    refine ⟨hlead, hstep, ?_, ?_, ?_⟩
    · rw [hcommit.air, hrid]
    · rw [hcommit.air]
    · rw [hcommit.frame]
      show ((p.told h d r).intake.queue.map _).getLast? = _
      rw [List.getLast?_map, htail, Option.map_some, if_pos rfl]
  · rw [if_pos (by rw [hd]; rfl)] at hchoice
    have hdue : recordDue (p.told h d r) r = false := by
      have hage : frameAge (p.told h d r).frameCount r.stamp = 0 := by
        rw [State.told_frameCount, k.recorded.stamp, hstamp, k.prepares.frame]
        unfold frameAge
        rw [BitVec.sub_self]
        rfl
      have hlimit : (p.told h d r).air.breakDeadline = s.air.breakDeadline := by rw [State.told_air, k.air]
      unfold recordDue dueByAge
      rw [hrmode, hd, hage, hlimit, decide_eq_false (by omega : ¬ s.air.breakDeadline ≤ 0)]
      rfl
    rw [k.selected, select_waits hmem hchoice hdue]
    exact ⟨rfl, congrArg some hrid, htail⟩
  · rw [if_neg (by rw [hd]; nofun)] at hchoice
    rw [k.selected, select_none hmem hchoice]
    exact ⟨rfl, rfl, htail⟩

/-- The record that a header leaves, as it was when stored. -/
def State.headerRecord (h : Header) (s : State) : AlertRecord := s.cleared.newRecord h.capped

/-- A header's arrival, stored whole. -/
theorem header_takesIn {s : State} {h : Header} (hs : h.Sound) (ht : h.test = false)
    (hr : 0 < s.intake.remainingOf h.capped) (hk : s.intake.knows h.identity = false)
    (hd : (s.intake.filterDecision h.capped).verdict = .accept)
    (hfit : storedWords s.intake.queue + (6 + h.areas.length) ≤ 192) :
    ∃ p r t, exec (.header (recordRest 1 h.body)) s = .next t ∧
      ((s.cleared.remembering h.capped).stored (s.headerRecord h)).TakesIn h.capped (s.intake.filterDecision h.capped)
        (s.headerRecord h) p r t := by
  obtain ⟨p, r, t, hintake, htakes⟩ := intakeHeader_stored (h := h.capped) (s := s.cleared) hr hk hd (Header.fits_of hfit)
  exact ⟨p, r, t, by rw [exec_header_sound hs ht, hintake], htakes⟩

theorem headerRecord_length {s : State} {h : Header}
    (hfit : storedWords s.intake.queue + (6 + h.areas.length) ≤ 192) : 6 ≤ (s.headerRecord h).words.length := by
  have hwords : (s.headerRecord h).words = _ := newRecord_words (Header.fits_of hfit)
  rw [hwords, wholeWords_length]
  exact Nat.le_add_right ..

theorem headerStored_whole (s : State) (h : Header) (hs : h.Sound) (ht : h.test = false) :
    let remaining := s.intake.remainingOf h.capped
    let d := s.intake.filterDecision h.capped
    0 < remaining → s.intake.knows h.identity = false → d.verdict = .accept →
    storedWords s.intake.queue + (6 + h.areas.length) ≤ 192 →
    ∃ t r, exec (.header (recordRest 1 h.body)) s = .next t ∧
      t = { s with clips := t.clips, intake := t.intake, air := t.air, link := t.link, notices := t.notices
                   sent := t.sent } ∧
      t.intake.identities = s.intake.identities ++ [h.identity] ∧ t.intake.queue.getLast? = some r ∧
      r.word 1 = h.identity.issuer ++ h.identity.serial ∧ r.remaining = remaining ∧ r.stamp = s.frameCount ∧
      r.torn = false ∧ r.timeUnknown = s.intake.minuteOfWeek.isNone ∧ r.airMode = d.airMode ∧
      r.priority = d.priority.val ∧ r.words.drop 6 = (h.areas.map fun a => a.setWidth 32) ∧
      t.intake.counters.accepted = min (s.intake.counters.accepted + 1) 65535 ∧
      t.intake.recent = s.intake.recent.set (recentPlace s.intake.recent) (some ⟨h.identity, remaining⟩) ∧
      (t.notices.latches.get 14).isSome ∧
      (d.airMode ≠ .logOnly → s.link.mode = .asleep → t.link.mode = .waking) ∧
      (s.air.state = .idle → chosenRecord s = none → h.identity ∉ s.air.waitSet →
        (s.link.mode = .sleepPending → s.air.waitSet = []) →
        (d.airMode = .immediate → t.air.state = .leadIn ∧ t.air.step = 0 ∧ t.air.airing = some h.identity ∧
          t.air.present = true ∧ r.onAir = true) ∧
        (d.airMode = .nextBreak → 0 < s.air.breakDeadline →
          t.air.state = .waitBreak ∧ t.air.airing = some h.identity ∧ r.onAir = false) ∧
        (d.airMode = .logOnly → t.air.state = .idle ∧ t.air.airing = none ∧ r.onAir = false)) ∧
      (h.audio = false → r.noAudio = true ∧ t.intake.recording = s.intake.recording) ∧
      ∀ n : Fin 32, h.audio = true → (s.clips.slots.get n).state = .empty → s.intake.recording.slot ≠ some n →
        (∀ m, m < n → (s.clips.slots.get m).state ≠ .empty) →
        r.slot = some n ∧ r.noAudio = false ∧
        t.intake.recording = ⟨.waiting, some h.identity, some n, 0, 0, false⟩ ∧
        t.clips.slots.get n = ⟨.recording, .alert, 60000, 0, [], 0, none⟩ ∧ t.clips.channelHeld = true := by
  intro remaining d hr hk hd hfit
  obtain ⟨p, r, t, hexec, htakes⟩ := header_takesIn hs ht hr hk hd hfit
  obtain ⟨b, hlast⟩ := htakes.last
  have hfits : h.capped.size ≤ s.cleared.intake.freeWords := Header.fits_of hfit
  have hnew := htakes.recorded
  have htorn : (s.headerRecord h).torn = false := newRecord_torn hfits
  have hron : r.onAir = false := hnew.onAir.trans rfl
  refine ⟨t, { r with onAir := b }, hexec, htakes.frame, ?_, hlast, ?_, hnew.remaining, hnew.stamp, hnew.torn.trans htorn,
    hnew.timeUnknown, ?_, ?_, ?_, ?_, htakes.recent, htakes.accepted, htakes.wakes htorn, fun hidle hnone hno hpending => ?_,
    fun haudio => ⟨(htakes.silent haudio).1, htakes.recording.trans (htakes.silent haudio).2⟩, fun n haudio hempty hslot hlow => htakes.takesEmpty haudio (headerRecord_length hfit) hempty hslot hlow⟩
  · rw [htakes.identities]
    show (s.intake.queue ++ [s.headerRecord h]).map _ = _
    rw [List.map_append, List.map_singleton, htakes.identity]
    rfl
  · exact hnew.word1.trans (newRecord_word1 hfits)
  · exact hnew.airMode.trans (newRecord_airMode hfits)
  · exact hnew.priority.trans (newRecord_priority hfits)
  · exact hnew.areas.trans (newRecord_areas hfits)
  · rw [htakes.counters]
    rfl
  · obtain ⟨himmediate, hbreak, hlog⟩ := htakes.airs htorn rfl rfl (newRecord_airMode hfits) hidle
      (stored_ineligible rfl rfl hnone) hno hpending
    have hmark : ∀ {x : AlertRecord}, t.intake.queue.getLast? = some x → b = x.onAir := fun hx =>
      congrArg AlertRecord.onAir (Option.some.inj (hlast.symm.trans hx))
    refine ⟨fun hmode => ?_, fun hmode hdeadline => ?_, fun hmode => ?_⟩
    · obtain ⟨hstate, hstep, hairing, hpresent, hx⟩ := himmediate hmode
      exact ⟨hstate, hstep, hairing, hpresent, hmark hx⟩
    · obtain ⟨hstate, hairing, hx⟩ := hbreak hmode hdeadline
      exact ⟨hstate, hairing, (hmark hx).trans hron⟩
    · obtain ⟨hstate, hairing, hx⟩ := hlog hmode
      exact ⟨hstate, hairing, (hmark hx).trans hron⟩

/-! ### The header that does not fit -/

theorem overrun_counts (h : Header) (free : Nat) (torn : Bool) (s : State) :
    s.overrun h free torn = { s with
      intake := { s.intake with
        counters := { s.intake.counters with lost := min (s.intake.counters.lost + 1) 65535 } }
      notices := (s.overrun h free torn).notices
      sent := (s.overrun h free torn).sent } := by
  unfold State.overrun
  dsimp only
  split
  · rfl
  · conv_lhs => rw [latch_frame]

theorem overrun_latched (h : Header) (free : Nat) (s : State) :
    ∃ x, (s.overrun h free false).notices.latches.get 15 = some x := by
  unfold State.overrun
  dsimp only
  rw [if_neg nofun]
  exact ⟨_, (latch_get ..).trans (if_pos rfl)⟩

theorem AlertIntake.tornHeld_false {a : AlertIntake} (h : ∀ r ∈ a.queue, r.torn = false) : a.tornHeld = false := by
  unfold AlertIntake.tornHeld
  rw [List.any_eq_false]
  intro r hr
  rw [h r hr]
  nofun

/-- Settles O27: the header stored whole, the claim by eviction and the abort it may bring, and the header that does not
fit. -/
theorem headerStored : Obligations.HeaderStored := by
  refine ⟨headerStored_whole, fun s h hs ht => ?_, fun s h hs ht => ?_⟩
  · intro remaining d hr hk hd hfit
    obtain ⟨p, r, t, hexec, htakes⟩ := header_takesIn hs ht hr hk hd hfit
    obtain ⟨b, hlast⟩ := htakes.last
    have htorn : (s.headerRecord h).torn = false := newRecord_torn (Header.fits_of hfit)
    have hlength := headerRecord_length hfit
    refine ⟨t, { r with onAir := b }, hexec, hlast, fun hmode hpending => ?_, fun haudio hfull => ?_⟩
    · have haborts := htakes.aborts htorn hmode hpending
      refine ⟨haborts.mode, haborts.phase, haborts.counted.trans ?_, haborts.latched.trans ?_⟩
      · rw [htakes.link]
        rfl
      · rw [htakes.prepares.latches.stands (by decide)]
        rfl
    · have hnone := htakes.takesNone haudio hlength hfull
      have hevicts := fun n => htakes.takesEvicted (n := n) haudio hlength hfull
      intro freed
      split
      next burst record hpair =>
      have hsplit : burst = s.clips.fill.pages ∧ record = s.clips.fill.afterClaim := by
        revert hpair
        cases s.clips.fill <;> exact fun hpair => ⟨(congrArg Prod.fst hpair).symm, (congrArg Prod.snd hpair).symm⟩
      rw [hsplit.1, hsplit.2]
      exact ⟨fun n hn hslot => hevicts n hslot hn, hnone⟩
  · intro remaining free hr hk hd hfit
    have htorn : (∀ r ∈ s.intake.queue, r.torn = false) → s.cleared.intake.tornHeld = false :=
      AlertIntake.tornHeld_false (a := s.intake)
    rcases Nat.eq_zero_or_pos free with hfree | hfree
    · have hlost := intakeHeader_lost (h := h.capped) (s := s.cleared) hr hk hd hfree
      have hcounts := overrun_counts h.capped 0 s.cleared.intake.tornHeld (s.cleared.remembering h.capped)
      refine ⟨_, (exec_header_sound hs ht s).trans (by rw [hlost]), ?_, ?_, fun hno => ?_, fun _ => ?_, fun hpos => ?_⟩
      · conv_lhs => rw [hcounts]
        conv_rhs => rw [hcounts]
        rfl
      · rw [hcounts]
        rfl
      · rw [htorn hno]
        obtain ⟨x, hx⟩ := overrun_latched h.capped 0 (s.cleared.remembering h.capped)
        rw [hx]
        rfl
      · rw [hcounts]
        exact ⟨rfl, rfl, rfl⟩
      · exact absurd hfree hpos.ne'
    · obtain ⟨p, r, t, hintake, htakes⟩ := intakeHeader_torn (h := h.capped) (s := s.cleared) hr hk hd hfree hfit
      obtain ⟨b, hlast⟩ := htakes.last
      have hcounts := overrun_counts h.capped s.cleared.intake.freeWords s.cleared.intake.tornHeld
        ((s.cleared.remembering h.capped).stored (s.cleared.newRecord h.capped))
      have hnew := htakes.recorded
      refine ⟨t, (exec_header_sound hs ht s).trans (by rw [hintake]), ?_, ?_, fun hno => ?_, fun hzero => ?_, fun _ =>
        ⟨_, hlast, ?_, ?_, ?_, ?_, hnew.remaining, ?_⟩⟩
      · have hframe := htakes.frame
        rw [hcounts] at hframe
        exact hframe
      · rw [htakes.counters, hcounts]
        rfl
      · rw [htorn hno] at htakes
        obtain ⟨x, hx⟩ := overrun_latched h.capped s.cleared.intake.freeWords
          ((s.cleared.remembering h.capped).stored (s.cleared.newRecord h.capped))
        rw [htakes.latches.kept (htakes.prepares.latches.kept hx)]
        rfl
      · exact absurd hzero hfree.ne'
      · have hlength := congrArg List.length htakes.identities
        rw [hcounts] at hlength
        show _ = (s.cleared.remembering h.capped).intake.queue.length + 1
        simpa [AlertIntake.identities, State.stored] using hlength
      · exact (hnew.length.trans (newRecord_length ..)).trans (Nat.min_eq_left hfit.le)
      · exact hnew.identity.trans htakes.identity
      · exact hnew.torn.trans (decide_eq_true hfit)
      · rw [htakes.counters, hcounts]
        rfl

end Sys2Proof.Machine

/-!
PROOF. ALERT-TEST (R139): the header that its words give, and the outcome of its intake.
-/

namespace Sys2Proof.Machine

/-! ### The header in the argument words -/

theorem Word.nat_getLsbD (n i : Nat) (hi : i < 48) : (Word.nat n).getLsbD i = decide (n / 2 ^ i % 2 = 1) := by
  rw [Word.nat, BitVec.getLsbD_ofNat, decide_eq_true hi, Bool.true_and, Nat.testBit_eq_decide_div_mod_eq]

/-- The word of event, issuer class and severity uses no other bit. -/
theorem testFields_used {event issuerClass severity : Nat} (he : event < 4096) (hc : issuerClass < 8)
    (hs : severity < 4) :
    Word.nat (event + issuerClass * 2 ^ 16 + severity * 2 ^ 24) &&& ~~~(0x3070FFF : Word) = 0 := by
  refine BitVec.eq_of_getLsbD_eq fun i hi => ?_
  rw [BitVec.getLsbD_and, BitVec.getLsbD_not, Word.nat_getLsbD _ i hi]
  interval_cases i <;> simp <;> omega

theorem Word.nat_extract {n : Nat} (h : n < 2 ^ 48) (i len : Nat) :
    ((Word.nat n).extractLsb' i len).toNat = n / 2 ^ i % 2 ^ len := by
  rw [BitVec.extractLsb'_toNat, Word.nat_toNat h, Nat.shiftRight_eq_div_pow]

/-- The argument words of an ALERT-TEST for a header. -/
def Header.testWords (h : Header) : List Word :=
  [h.identity.word, Word.nat (h.event.toNat + h.issuerClass * 2 ^ 16 + h.severity * 2 ^ 24),
    Word.nat (h.issuedAt + h.duration * 2 ^ 16)] ++ h.areas.map fun a => a.setWidth 48

theorem areas_setWidth (areas : List (BitVec 20)) :
    ((areas.map fun a => a.setWidth 48).map fun a : Word => a.setWidth 20) = areas := by
  rw [List.map_map]
  refine (List.map_congr_left fun a _ => ?_).trans (List.map_id _)
  exact BitVec.setWidth_setWidth_of_le a (by decide) |>.trans (BitVec.setWidth_eq a)

/-- The words give back the header. -/
theorem testHeader_words {h : Header} (hs : h.Sound) (haudio : h.audio = false) (htest : h.test = true) :
    testHeader h.identity.word (Word.nat (h.event.toNat + h.issuerClass * 2 ^ 16 + h.severity * 2 ^ 24))
      (Word.nat (h.issuedAt + h.duration * 2 ^ 16)) (h.areas.map fun a => a.setWidth 48) = some h := by
  have hevent := h.event.isLt
  obtain ⟨hclass, hseverity, hissued, ⟨hduration, hdurationlt⟩, hareas, hareas'⟩ := hs
  have hfields : h.event.toNat + h.issuerClass * 2 ^ 16 + h.severity * 2 ^ 24 < 2 ^ 48 := by omega
  have htimes : h.issuedAt + h.duration * 2 ^ 16 < 2 ^ 48 := by omega
  have hissued' : ((Word.nat (h.issuedAt + h.duration * 2 ^ 16)).extractLsb' 0 14).toNat = h.issuedAt := by
    rw [Word.nat_extract htimes]
    omega
  have hbits : (Word.nat (h.issuedAt + h.duration * 2 ^ 16)).extractLsb' 14 2 = 0 := by
    refine BitVec.eq_of_toNat_eq ?_
    rw [Word.nat_extract htimes]
    show _ = 0
    omega
  have hall : (h.areas.map fun a => a.setWidth 48).all (fun a : Word => a.toNat < 2 ^ 20) = true := by
    rw [List.all_map, List.all_eq_true]
    intro a _
    refine decide_eq_true ?_
    rw [BitVec.toNat_setWidth_of_le (by decide)]
    exact a.isLt
  have hevent' : (Word.nat (h.event.toNat + h.issuerClass * 2 ^ 16 + h.severity * 2 ^ 24)).extractLsb' 0 12 = h.event := by
    refine BitVec.eq_of_toNat_eq ?_
    rw [Word.nat_extract hfields]
    omega
  have hinRange : (decide (h.identity.word.toNat < 2 ^ 32) &&
      decide (Word.nat (h.event.toNat + h.issuerClass * 2 ^ 16 + h.severity * 2 ^ 24) &&& ~~~(0x3070FFF : Word) = 0) &&
      decide (((Word.nat (h.issuedAt + h.duration * 2 ^ 16)).extractLsb' 0 14).toNat < Config.weekMinutes) &&
      decide ((Word.nat (h.issuedAt + h.duration * 2 ^ 16)).extractLsb' 14 2 = 0) &&
      decide ((Word.nat (h.issuedAt + h.duration * 2 ^ 16)).toNat < 2 ^ 32) &&
      decide (1 ≤ (h.areas.map fun a => a.setWidth 48 : List Word).length) &&
      decide ((h.areas.map fun a => a.setWidth 48 : List Word).length ≤ 12) &&
      (h.areas.map fun a => a.setWidth 48).all fun a : Word => a.toNat < 2 ^ 20) = true := by
    rw [hall, hissued', List.length_map, Word.nat_toNat htimes]
    simp only [Bool.and_eq_true, decide_eq_true_eq, and_true]
    exact ⟨⟨⟨⟨⟨⟨h.identity.word_lt, testFields_used hevent (by omega) (by omega)⟩, hissued⟩, hbits⟩, by omega⟩, hareas⟩,
      hareas'⟩
  unfold testHeader
  dsimp only
  rw [if_pos hinRange, hissued', hevent', Identity.ofBits_word, areas_setWidth, Word.nat_extract hfields,
    Word.nat_extract hfields, Word.nat_extract htimes,
    show (h.event.toNat + h.issuerClass * 2 ^ 16 + h.severity * 2 ^ 24) / 2 ^ 16 % 2 ^ 3 = h.issuerClass by omega,
    show (h.event.toNat + h.issuerClass * 2 ^ 16 + h.severity * 2 ^ 24) / 2 ^ 24 % 2 ^ 2 = h.severity by omega,
    show (h.issuedAt + h.duration * 2 ^ 16) / 2 ^ 16 % 2 ^ 16 = h.duration by omega, ← haudio, ← htest]

/-- A number of words that no ALERT-TEST has. -/
theorem answerAlertTest_count {ws : List Word} (h : ws.length < 4 ∨ 15 < ws.length) (s : State) :
    answerAlertTest ws s = refuse .refusedArgument s := by
  match ws, h with
  | [], _ => rfl
  | [_], _ => rfl
  | [_, _], _ => rfl
  | identity :: fields :: times :: areas, h =>
    have hno : testHeader identity fields times areas = none := by
      have hcount : (decide (1 ≤ areas.length) && decide (areas.length ≤ 12)) = false := by
        simp only [List.length_cons] at h
        rw [Bool.and_eq_false_iff, decide_eq_false_iff_not, decide_eq_false_iff_not]
        omega
      unfold testHeader
      dsimp only
      rw [if_neg]
      intro hall
      simp only [Bool.and_eq_true, decide_eq_true_eq] at hall
      simp only [Bool.and_eq_false_iff, decide_eq_false_iff_not] at hcount
      omega
    unfold answerAlertTest
    dsimp only
    rw [hno]

theorem answerAlertTest_words {h : Header} (hs : h.Sound) (haudio : h.audio = false) (htest : h.test = true) (s : State) :
    answerAlertTest h.testWords s = testAnswer (1440 < h.duration) (intakeHeader h.capped s) := by
  unfold answerAlertTest Header.testWords
  dsimp only [List.cons_append, List.nil_append]
  rw [testHeader_words hs haudio htest]
  dsimp only
  have hcapped : max 1 (min h.duration 1440) = h.capped.duration := by
    show _ = min h.duration 1440
    have := hs.duration.1
    omega
  have hclamped : decide (h.capped.duration ≠ h.duration) = decide (1440 < h.duration) := by
    rw [decide_eq_decide]
    show min h.duration 1440 ≠ h.duration ↔ _
    omega
  rw [hcapped, hclamped]
  rfl

/-! ### The outcomes -/

theorem testResult (n : Nat) : (if decide (1440 < n) = true then Result.doneClamped else .done) =
    if n ≤ 1440 then Result.done else .doneClamped := by
  by_cases h : n ≤ 1440
  · rw [if_pos h, if_neg (by simpa using h)]
  · rw [if_neg h, if_pos (by simpa using h)]

/-- What an answered order of intake may change. -/
theorem replied_frame {h : Header} {new : AlertRecord} {s t u : State} {orders : OrderUnit} {rest : List QueuedOrder}
    (ht : t = { ((s.taking rest).remembering h).stored new with
      clips := t.clips, intake := t.intake, air := t.air, link := t.link, notices := t.notices, sent := t.sent })
    (hu : u = { t with orders := orders, sent := u.sent }) :
    u = { s with
      intake := u.intake, air := u.air, clips := u.clips, link := u.link, orders := orders
      notices := u.notices, sent := u.sent } := by
  conv_lhs => rw [hu, ht]
  conv_rhs => rw [hu]
  rfl

theorem Word.option_some (n : Nat) : Word.option (some n) = Word.nat n := rfl

theorem Word.option_none : Word.option none = Word.none := rfl

section
variable {s : State} {o : QueuedOrder} {rest : List QueuedOrder} {h : Header} (hs : h.Sound) (haudio : h.audio = false)
  (htest : h.test = true) (hheads : s.Heads o rest 0x63 h.testWords)
include hs haudio htest hheads

/-- ALERT-TEST whose header leaves no record. -/
theorem exec_alertTest_ends {t : State} {outcome : HeaderOutcome} {found : Option Nat} {code : Nat} {w : Word}
    (hcode : outcome.code = code) (hw : Word.option found = w)
    (hintake : intakeHeader h.capped (s.taking rest) = (t.taking rest, outcome, found)) :
    exec .alertTest s =
      .next (t.answered o rest (if h.duration ≤ 1440 then .done else .doneClamped) [Word.nat code, w]) := by
  refine order_taking hheads (handler := answerAlertTest) ?_ (by simp)
  rw [answerAlertTest_words hs haudio htest, hintake, ← testResult, ← hcode, ← hw]
  rfl

/-- ALERT-TEST whose header is stored or lost. -/
theorem exec_alertTest {t : State} {outcome : HeaderOutcome} {matched code : Nat} (hcode : outcome.code = code)
    (hintake : intakeHeader h.capped (s.taking rest) = (t, outcome, some matched)) :
    exec .alertTest s =
      .next (reply o ⟨t, if h.duration ≤ 1440 then .done else .doneClamped, [Word.nat code, Word.nat matched]⟩) := by
  show perform (takeCode 0x63 answerAlertTest) s = _
  rw [perform_takeCode hheads, answerAlertTest_words hs haudio htest, hintake, ← testResult, ← hcode,
    ← Word.option_some matched]
  rfl

/-- ALERT-TEST whose header is stored whole. -/
theorem exec_alertTest_stored (hr : 0 < s.intake.remainingOf h.capped) (hk : s.intake.knows h.identity = false)
    (hd : (s.intake.filterDecision h.capped).verdict = .accept)
    (hfit : storedWords s.intake.queue + (6 + h.areas.length) ≤ 192) :
    let r : Result := if h.duration ≤ 1440 then .done else .doneClamped
    let d := s.intake.filterDecision h.capped
    ∃ t q, exec .alertTest s = .next t ∧
      t = { s with
        intake := t.intake, air := t.air, clips := t.clips, link := t.link, orders := s.orders.took rest r
        notices := t.notices, sent := t.sent } ∧
      t.sent.studio.getLast? = some (replyTo o r [Word.nat 0, Word.nat d.matched]) ∧
      t.intake.identities = s.intake.identities ++ [h.identity] ∧ t.intake.queue.getLast? = some q ∧
      q.flag flagTest = true ∧ q.noAudio = true ∧ t.intake.recording = s.intake.recording := by
  intro r d
  obtain ⟨p, q, t, hintake, htakes⟩ :=
    intakeHeader_stored (h := h.capped) (s := s.taking rest) hr hk hd (Header.fits_of hfit)
  obtain ⟨b, hlast⟩ := htakes.last
  obtain ⟨hnoAudio, hrecording⟩ := htakes.silent haudio
  have horders : t.orders = (s.taking rest).orders := by
    rw [htakes.frame]
    rfl
  have hreply := reply_frame (o := o) (r := r) (ws := [Word.nat 0, Word.nat d.matched]) horders (by simp)
  have hexec : exec .alertTest s = .next (reply o ⟨t, r, [Word.nat 0, Word.nat d.matched]⟩) :=
    exec_alertTest hs haudio htest hheads rfl hintake
  refine ⟨_, { q with onAir := b }, hexec, ?_, reply_getLast? _ _ (by simp), ?_, ?_, ?_,
    hnoAudio, ?_⟩
  · exact replied_frame htakes.frame hreply
  · rw [hreply]
    refine htakes.identities.trans ?_
    show (s.intake.queue ++ [_]).map _ = _
    rw [List.map_append, List.map_singleton, htakes.identity]
    rfl
  · rw [hreply]
    exact hlast
  · show (q.word 5).getLsbD flagTest = true
    rw [htakes.recorded.bits _ (by decide) (by decide)]
    refine (congrArg (fun w : StoreWord => w.getLsbD flagTest) (newRecord_word5 (Header.fits_of hfit))).trans ?_
    exact (verdictWord_test ..).trans htest
  · rw [hreply]
    exact htakes.recording.trans hrecording

/-- ALERT-TEST whose header does not fit. -/
theorem exec_alertTest_overrun (hr : 0 < s.intake.remainingOf h.capped) (hk : s.intake.knows h.identity = false)
    (hd : (s.intake.filterDecision h.capped).verdict = .accept)
    (hfit : 192 < storedWords s.intake.queue + (6 + h.areas.length)) :
    let r : Result := if h.duration ≤ 1440 then .done else .doneClamped
    let d := s.intake.filterDecision h.capped
    ∃ t, exec .alertTest s = .next t ∧
      t.intake.counters.lost = min (s.intake.counters.lost + 1) 65535 ∧ t.intake.recording = s.intake.recording ∧
      t.sent.studio.getLast? =
        some (replyTo o r [Word.nat (if storedWords s.intake.queue < 192 then 1 else 2), Word.nat d.matched]) := by
  intro r d
  have hfree : (s.taking rest).intake.freeWords = 192 - storedWords s.intake.queue := rfl
  by_cases hroom : storedWords s.intake.queue < 192
  · obtain ⟨p, q, t, hintake, htakes⟩ := intakeHeader_torn (h := h.capped) (s := s.taking rest) hr hk hd
      (by rw [hfree]; omega) (by rw [hfree]; show _ < 6 + h.areas.length; omega)
    obtain ⟨-, hrecording⟩ := htakes.silent haudio
    have hcounts := overrun_counts h.capped (s.taking rest).intake.freeWords (s.taking rest).intake.tornHeld
      (((s.taking rest).remembering h.capped).stored ((s.taking rest).newRecord h.capped))
    refine ⟨_, exec_alertTest hs haudio htest hheads rfl hintake, ?_, ?_, ?_⟩
    · rw [reply_single _ _ (by simp)]
      show t.intake.counters.lost = _
      rw [htakes.counters, hcounts]
      rfl
    · rw [reply_single _ _ (by simp)]
      show t.intake.recording = _
      rw [htakes.recording, hrecording, hcounts]
      rfl
    · rw [if_pos hroom]
      exact reply_getLast? _ _ (by simp)
  · have hlost := intakeHeader_lost (h := h.capped) (s := s.taking rest) hr hk hd (by rw [hfree]; omega)
    have hcounts := overrun_counts h.capped 0 (s.taking rest).intake.tornHeld ((s.taking rest).remembering h.capped)
    refine ⟨_, exec_alertTest hs haudio htest hheads rfl hlost, ?_, ?_, ?_⟩
    · rw [reply_single _ _ (by simp)]
      dsimp only
      rw [hcounts]
      rfl
    · rw [reply_single _ _ (by simp)]
      dsimp only
      rw [hcounts]
      rfl
    · rw [if_neg hroom]
      exact reply_getLast? _ _ (by simp)

end

/-- Settles O28: the header read back from the words, then the outcomes of its intake. -/
theorem alertTestTaken : Obligations.AlertTestTaken := by
  refine ⟨fun s o rest ws hcount hheads => order_refused hheads _ (answerAlertTest_count hcount _), ?_⟩
  intro s o rest h hs haudio htest hheads r k remaining d
  refine ⟨fun hzero => ?_, fun hpos hknown => ?_, fun hpos hnew hdiscard => ?_, fun hpos hnew haccept hfit => ?_,
    fun hpos hnew haccept hfit => ?_⟩
  · exact exec_alertTest_ends hs haudio htest hheads (t := { s with intake := _ }) rfl Word.option_none
      (intakeHeader_stale (s := s.taking rest) hzero)
  · exact exec_alertTest_ends hs haudio htest hheads (t := { s with intake := _ }) rfl Word.option_none
      (intakeHeader_duplicate (s := s.taking rest) hpos hknown)
  · have hintake := intakeHeader_new (h := h.capped) (s := s.taking rest) hpos hnew
    rw [show ((s.taking rest).intake.filterDecision h.capped).verdict = .discard from hdiscard] at hintake
    have hexec := exec_alertTest_ends hs haudio htest hheads (t := { s with
      intake := { s.intake with
        recent := s.intake.recent.set (recentPlace s.intake.recent) (some ⟨h.identity, remaining⟩)
        counters := { k with filterDiscard := min (k.filterDiscard + 1) 65535 } } }) rfl (Word.option_some _) hintake
    exact hexec
  · exact exec_alertTest_stored hs haudio htest hheads hpos hnew haccept hfit
  · exact exec_alertTest_overrun hs haudio htest hheads hpos hnew haccept hfit

end Sys2Proof.Machine

/-!
PROOF. An air frame (R145, R147, R152 to R157): its start, the frame formed for each state, and the impaired mark.
-/

namespace Sys2Proof.Machine

/-! ### The frames (R145, R152, R154) -/

theorem fade_eq (w : Int) (p a : StereoFrame) : fade w p a = crossfade w p a := by
  have hmixed (x y : Frame) : x.zipWith (fadeSample w) y =
      Vector.ofFn fun i => (x.get i * (16384 - w) + y.get i * w + 8192) / 16384 := by
    refine Vector.ext fun i hi => ?_
    rw [Vector.getElem_zipWith, Vector.getElem_ofFn]
    rfl
  unfold fade crossfade
  dsimp only
  rw [hmixed, hmixed]

theorem programmeFrame_eq (s : State) : programmeFrame s = s.programme := rfl

theorem readFor_eq (c : ClipStore) (r : Reader) (n : Fin 32) (p : Nat) :
    c.readFor r n p =
      if c.holds.get r = some n then
        match c.frameAt r n p with
        | some f => .frame f
        | none => .beyond
      else .dropped := by
  unfold ClipStore.readFor ClipStore.frameAt
  by_cases hn : c.holds.get r = some n
  · rw [if_pos hn, if_pos hn]
    by_cases hp : p < (c.slots.get n).length
    · rw [if_pos hp, if_pos ⟨hn, hp⟩]
      rfl
    · rw [if_neg hp, if_neg fun h => hp h.2]
  · rw [if_neg hn, if_neg hn]

theorem attentionFrame_eq (s : State) : attentionFrame s = s.attention := by
  unfold attentionFrame State.attention
  cases s.air.attention with
  | tone => rfl
  | slot n =>
    dsimp only
    rw [readFor_eq]
    by_cases hn : s.clips.holds.get airReader = some n
    · rw [if_pos hn]
      cases s.clips.frameAt airReader n s.air.position <;> rfl
    · have hnone : s.clips.frameAt airReader n s.air.position = none := if_neg fun h => hn h.1
      rw [if_neg hn, hnone]
      rfl

/-! ### The start of a frame (R147, R149, R151, R155) -/

/-- The air stage's own settings adopted, the queue's records and the impaired mark as they are. -/
def State.aired (queue : List AlertRecord) (impaired : Bool) (s : State) : State :=
  { s with
    intake := { s.intake with queue := queue }
    air := { s.air with
      attentionSlot := s.slotSetting Setting.attentionSlot
      attentionLength := s.setting Setting.attentionLength
      breakDeadline := s.setting Setting.breakDeadline
      impaired := impaired } }

theorem adoptAir_eq (s : State) : adoptAir s = s.aired s.intake.queue s.air.impaired := rfl

theorem checkMessage_other {s : State} (h : s.air.state ≠ .message) : checkMessage s = s := by
  unfold checkMessage messageEnded
  rw [decide_eq_false h]
  rfl

theorem airStart_busy {s : State} (h : s.air.state ∈ [AirState.leadIn, .attention, .closing, .leadOut]) :
    airStart s = adoptAir s := by
  have hselect : (adoptAir s).air.state ∉ [AirState.idle, .waitBreak] := by
    show s.air.state ∉ _
    revert h
    cases s.air.state <;> decide
  have hlink : (adoptAir s).air.state ≠ .waitLink := by
    show s.air.state ≠ _
    rintro e
    rw [e] at h
    revert h
    decide
  have hmessage : (adoptAir s).air.state ≠ .message := by
    show s.air.state ≠ _
    rintro e
    rw [e] at h
    revert h
    decide
  unfold airStart
  rw [select_busy _ hselect, checkLink_busy hlink, checkMessage_other hmessage]

theorem airStart_message {s : State} (h : s.air.state = .message) : airStart s = checkMessage (adoptAir s) := by
  have hstate : (adoptAir s).air.state = .message := h
  unfold airStart
  rw [select_busy _ (by rw [hstate]; decide), checkLink_busy (by rw [hstate]; nofun)]

theorem airStart_waitLink {s : State} (h : s.air.state = .waitLink) : airStart s = checkMessage (checkLink (adoptAir s)) := by
  have hstate : (adoptAir s).air.state = .waitLink := h
  unfold airStart
  rw [select_busy _ (by rw [hstate]; decide)]

/-! ### The impaired mark (R157) -/

/-- What the reading of the link mode makes of the queue's records and of the impaired mark. -/
structure State.Impairs (s : State) (queue : List AlertRecord) (impaired : Bool) : Prop where
  identities : queue.map AlertRecord.identity = s.intake.identities
  calm : s.air.state.readsLink = false → queue = s.intake.queue ∧ impaired = s.air.impaired
  run : s.link.mode = .run → impaired = s.air.impaired
  impaired : s.air.state.readsLink = true → s.link.mode ≠ .run → impaired = true ∧
    ∀ i r, s.air.present = true → s.air.airing = some i → r ∈ queue → r.identity = i → 5 ≤ r.words.length →
      r.flag flagImpaired = true
  slots : ∀ i, (queue.find? fun r => r.identity = i).bind AlertRecord.slot = (s.intake.find i).bind AlertRecord.slot

theorem State.Impairs.same {s : State} (h : s.air.state.readsLink = false ∨ s.link.mode = .run) :
    s.Impairs s.intake.queue s.air.impaired :=
  ⟨rfl, fun _ => ⟨rfl, rfl⟩, fun _ => rfl, fun hreads hmode => by
    rcases h with h | h
    · rw [h] at hreads
      cases hreads
    · exact absurd h hmode, fun _ => rfl⟩

theorem AlertRecord.setFlag_slot (r : AlertRecord) (bit : Nat) : (r.setFlag bit).slot = r.slot := by
  unfold AlertRecord.slot
  rw [r.setFlag_length]
  unfold AlertRecord.setFlag
  rw [r.word_modWord _ (by decide)]

/-- A record's identity found in a queue of which one record has been flagged. -/
theorem find_flagged (queue : List AlertRecord) (i j : Identity) (bit : Nat) :
    ((queue.map fun r => if r.identity = i then r.setFlag bit else r).find? fun r => r.identity = j).bind AlertRecord.slot =
      (queue.find? fun r => r.identity = j).bind AlertRecord.slot := by
  have hidentity (r : AlertRecord) : (if r.identity = i then r.setFlag bit else r).identity = r.identity := by
    split
    · exact r.setFlag_identity bit
    · rfl
  have hslot (r : AlertRecord) : (if r.identity = i then r.setFlag bit else r).slot = r.slot := by
    split
    · exact r.setFlag_slot bit
    · rfl
  rw [List.find?_map]
  simp only [Function.comp_def, hidentity]
  cases queue.find? fun r => decide (r.identity = j) with
  | none => rfl
  | some r => exact hslot r

theorem markImpaired_adopted (s : State) :
    ∃ queue impaired, markImpaired (adoptAir s) = s.aired queue impaired ∧ s.Impairs queue impaired := by
  by_cases h : s.air.state.readsLink = true ∧ s.link.mode ≠ .run
  · obtain ⟨hreads, hmode⟩ := h
    have hdue : ((adoptAir s).air.state.readsLink && decide ((adoptAir s).link.mode ≠ .run)) = true := by
      show (s.air.state.readsLink && decide (s.link.mode ≠ .run)) = true
      rw [hreads, decide_eq_true hmode]
      rfl
    unfold markImpaired
    rw [if_pos hdue]
    dsimp only
    split
    · next i hpresent hairing =>
      refine ⟨s.intake.queue.map fun r => if r.identity = i then r.setFlag flagImpaired else r, true, rfl, ?_, ?_,
        fun h => absurd h hmode, fun _ _ => ⟨rfl, fun j r _ hj hr hid hlength => ?_⟩, fun j => find_flagged _ i j _⟩
      · exact s.intake.modRecord_identities i (fun r => r.setFlag flagImpaired) fun r => r.setFlag_identity _
      · intro hcalm
        rw [hreads] at hcalm
        cases hcalm
      · have hij : i = j := Option.some.inj ((show s.air.airing = some i from hairing).symm.trans hj)
        subst hij
        obtain ⟨q, -, rfl⟩ := List.mem_map.mp hr
        split at hid
        · next hq =>
          rw [if_pos hq] at hlength ⊢
          exact AlertRecord.setFlag_flag (q.setFlag_length _ ▸ hlength) (by decide)
        · next hq => exact absurd hid hq
    · next hno =>
      refine ⟨s.intake.queue, true, rfl, rfl, ?_, fun h => absurd h hmode, fun _ _ => ⟨rfl, fun j r hp hj => ?_⟩, fun _ => rfl⟩
      · intro hcalm
        rw [hreads] at hcalm
        cases hcalm
      · exact absurd hj (hno j hp)
  · have hcalm : s.air.state.readsLink = false ∨ s.link.mode = .run := by
      rw [not_and_or, not_not, Bool.not_eq_true] at h
      exact h
    refine ⟨_, _, ?_, State.Impairs.same hcalm⟩
    unfold markImpaired
    rw [if_neg]
    · rfl
    · show ¬ (s.air.state.readsLink && decide (s.link.mode ≠ .run)) = true
      rcases hcalm with h | h
      · rw [h]
        nofun
      · rw [h, Bool.and_eq_true, decide_eq_true_eq]
        exact fun hno => hno.2 rfl

theorem markImpaired_calm {s : State} (h : s.air.state.readsLink = false) : markImpaired s = s := by
  unfold markImpaired
  rw [h]
  rfl

/-! ### The frame formed (R145, R152 to R156) -/

section
variable {s : State}

theorem airForm_passes (h : s.air.state ∈ [AirState.idle, .waitBreak, .waitLink]) : airForm s = (s, s.programme) := by
  unfold airForm
  dsimp only
  have hcases : s.air.state = .idle ∨ s.air.state = .waitBreak ∨ s.air.state = .waitLink := by simpa using h
  rcases hcases with h | h | h
  all_goals
    rw [h]
    rfl

theorem airForm_leadIn (h : s.air.state = .leadIn) :
    airForm s = ({ s with air := { s.air with step := s.air.step + 1, position := s.air.position + 1 } },
      crossfade (1024 * (s.air.step + 1 : Nat)) s.programme s.attention) := by
  unfold airForm
  dsimp only
  conv_lhs => rw [h]
  dsimp only
  rw [fade_eq, attentionFrame_eq]
  rfl

theorem airForm_attention (h : s.air.state = .attention) :
    airForm s = ({ s with air := { s.air with position := s.air.position + 1 } }, s.attention) := by
  unfold airForm
  dsimp only
  conv_lhs => rw [h]
  dsimp only
  rw [attentionFrame_eq]
  rfl

theorem airForm_message (h : s.air.state = .message) : airForm s = messageFrame s := by
  unfold airForm
  dsimp only
  conv_lhs => rw [h]

theorem airForm_closing (h : s.air.state = .closing) :
    airForm s = ({ s with air := { s.air with position := s.air.position + 1 } }, toneFrame) := by
  unfold airForm
  dsimp only
  conv_lhs => rw [h]
  rfl

theorem airForm_leadOut (h : s.air.state = .leadOut) :
    airForm s = ({ s with air := { s.air with step := s.air.step + 1 } },
      crossfade (16384 - 1024 * (s.air.step + 1 : Nat)) s.programme toneFrame) := by
  unfold airForm
  dsimp only
  conv_lhs => rw [h]
  dsimp only
  rw [fade_eq]
  rfl

end

end Sys2Proof.Machine

/-!
PROOF. The forms of the air frame (R145, R152 to R157) and the entry to LEAD_IN (R151, R152).
-/

namespace Sys2Proof.Machine

/-! ### The entry to LEAD_IN (R152) -/

theorem attends_iff (s : State) (n : Fin 32) :
    (s.clips.playable n && s.clips.canHold airReader n) = true ↔ s.attends n := by
  unfold ClipStore.playable ClipStore.canHold State.attends
  rw [Bool.and_eq_true, Bool.and_eq_true, Bool.or_eq_true, decide_eq_true_eq, decide_eq_true_eq, decide_eq_true_eq,
    decide_eq_true_eq, and_assoc]
  rfl

theorem chooseAttention_slot {s : State} {n : Fin 32} (hn : s.air.attentionSlot = some n) (h : s.attends n) :
    chooseAttention s = { s with
      clips := s.clips.hold airReader n
      air := { s.air with attention := .slot n, attentionFrames := (s.clips.slots.get n).length } } := by
  unfold chooseAttention
  dsimp only
  conv_lhs => rw [hn]
  dsimp only
  rw [if_pos ((attends_iff s n).mpr h)]
  rfl

theorem chooseAttention_tone {s : State} (h : ∀ n, s.air.attentionSlot = some n → ¬ s.attends n) :
    chooseAttention s = { s with air := { s.air with attention := .tone, attentionFrames := s.air.attentionLength } } := by
  unfold chooseAttention
  dsimp only
  split
  · rfl
  · next n hn =>
    rw [if_neg fun hattends => h n hn ((attends_iff s n).mp hattends)]
    rfl

theorem leadInRest_frame (s : State) :
    leadInRest s = { chooseAttention s with
      link := (leadInRest s).link, notices := (leadInRest s).notices, sent := (leadInRest s).sent } := by
  unfold leadInRest
  split
  · exact queueMessage_frame ..
  · rfl

/-- What the entry to LEAD_IN makes of a state. -/
structure State.Enters (v u : State) : Prop where
  frame : u = { v with clips := u.clips, air := u.air, link := u.link, notices := u.notices, sent := u.sent }
  air : u.air = { v.air with
    state := .leadIn, step := 0, position := 0, attention := u.air.attention, attentionFrames := u.air.attentionFrames }
  slot : ∀ n, v.air.attentionSlot = some n → v.attends n →
    u.air.attention = .slot n ∧ u.air.attentionFrames = (v.clips.slots.get n).length ∧
      u.clips.holds.get airReader = some n
  tone : (∀ n, v.air.attentionSlot = some n → ¬ v.attends n) →
    u.air.attention = .tone ∧ u.air.attentionFrames = v.air.attentionLength
  note : v.link.queue.length < 8 → ∀ r, v.air.airing.bind v.intake.find = some r →
    ∃ m ∈ u.link.queue, m.kind = .alertNote ∧ m.body = alertNoteBody r
  mode : u.link.mode = v.link.mode

theorem enterLeadIn_enters (v : State) : v.Enters (enterLeadIn v) := by
  set w := v.modAir fun a => { a with state := .leadIn, step := 0, position := 0 } with hw
  have hrest := leadInRest_frame w
  have heq : enterLeadIn v = leadInRest w := enterLeadIn_eq v
  have hair : (enterLeadIn v).air = (chooseAttention w).air := by rw [heq, hrest]
  have hclips : (enterLeadIn v).clips = (chooseAttention w).clips := by rw [heq, hrest]
  refine ⟨?_, enterLeadIn_air v, fun n hn hattends => ?_, fun hno => ?_, fun hroom r hr => ?_, ?_⟩
  · conv_lhs => rw [enterLeadIn_frame]
  · have hchoose := chooseAttention_slot (s := w) hn hattends
    rw [hair, hclips, hchoose]
    exact ⟨rfl, rfl, (ClipStore.hold_holds ..).trans (if_pos rfl)⟩
  · rw [hair, chooseAttention_tone (s := w) hno]
    exact ⟨rfl, rfl⟩
  · have hlink : (chooseAttention w).link = v.link := by
      rw [chooseAttention_frame]
      rfl
    have hfound : (chooseAttention w).air.airing.bind (chooseAttention w).intake.find = some r := by
      rw [chooseAttention_frame]
      exact hr
    rw [heq]
    unfold leadInRest
    rw [hfound]
    dsimp only
    rw [queueMessage_room _ _ _ (by rw [hlink]; exact hroom)]
    exact ⟨_, List.mem_append_right _ (List.mem_singleton.mpr rfl), rfl, rfl⟩
  · rw [enterLeadIn_passes v]

/-! ### The frame handed on (R145) -/

theorem airMiddle_eq (s : State) :
    airMiddle s = handAirFrame (airStart s).air.state.onAir (airForm (markImpaired (airStart s))).2
      (airForm (markImpaired (airStart s))).1 := rfl

/-- The frame formed and handed on, from what the start of the frame and its form are. -/
theorem airMiddle_of {s u m : State} {a : AirStage} {f : StereoFrame} (hstart : airStart s = u)
    (hmark : markImpaired u = m) (hform : airForm m = ({ m with air := a }, f)) :
    airMiddle s = { m with air := { a with lastAir := f, onAirFlag := u.air.state.onAir } } := by
  rw [airMiddle_eq, hstart, hmark, hform]
  rfl

/-- No phase ends with a frame that is not its last. -/
theorem airEnd_within {t : State} (hleadIn : t.air.state = .leadIn → t.air.step < 16)
    (hattention : t.air.state = .attention → t.air.position < max t.air.attentionFrames 17)
    (hclosing : t.air.state = .closing → t.air.position < 1000) (hleadOut : t.air.state = .leadOut → t.air.step < 16) :
    airEnd t = t := by
  have h1 : ¬ leadInOver t = true := by
    unfold leadInOver
    rw [Bool.and_eq_true, decide_eq_true_eq, decide_eq_true_eq]
    exact fun h => absurd h.2 (Nat.not_le.mpr (hleadIn h.1))
  have h2 : ¬ attentionOver t = true := by
    unfold attentionOver
    rw [Bool.and_eq_true, decide_eq_true_eq, decide_eq_true_eq]
    exact fun h => absurd h.2 (Nat.not_le.mpr (hattention h.1))
  have h3 : ¬ closingOver t = true := by
    unfold closingOver
    rw [Bool.and_eq_true, decide_eq_true_eq, decide_eq_true_eq]
    exact fun h => absurd h.2 (Nat.not_le.mpr (hclosing h.1))
  have h4 : ¬ leadOutOver t = true := by
    unfold leadOutOver
    rw [Bool.and_eq_true, decide_eq_true_eq, decide_eq_true_eq]
    exact fun h => absurd h.2 (Nat.not_le.mpr (hleadOut h.1))
  unfold airEnd
  rw [if_neg h1, if_neg h2, if_neg h3, if_neg h4]

theorem State.attention_congr {s t : State} (hattention : t.air.attention = s.air.attention)
    (hposition : t.air.position = s.air.position) (hclips : t.clips = s.clips) (hmix : t.mix = s.mix) :
    t.attention = s.attention := by
  unfold State.attention
  rw [hattention, hposition, hclips, hmix]

/-! ### LEAD_IN begun in this frame (R151, R152) -/

/-- What an air frame makes of a LEAD_IN entered at its start. -/
theorem beginsLeadIn {s s' v : State} (hstart : airStart s' = enterLeadIn v)
    (hclips : v.clips = s.clips) (hprogramme : v.programme = s.programme)
    (hslot : v.air.attentionSlot = s.slotSetting Setting.attentionSlot)
    (hlength : v.air.attentionLength = s.setting Setting.attentionLength)
    (hnote : s.link.queue.length < 7 → v.link.queue.length < 8)
    (hfind : ∀ i r, s.intake.find i = some r → ∃ q, v.intake.find i = some q ∧ alertNoteBody q = alertNoteBody r) :
    s.BeginsLeadIn (airWork s') ∧ airWork s' = { enterLeadIn v with air := (airWork s').air } ∧
      (airWork s').air = { (enterLeadIn v).air with
        step := 1, position := 1, lastAir := (airWork s').air.lastAir, onAirFlag := true } := by
  have henters := enterLeadIn_enters v
  set u := enterLeadIn v with hu
  have hstate : u.air.state = .leadIn := by rw [henters.air]
  have hstep : u.air.step = 0 := by rw [henters.air]
  have hposition : u.air.position = 0 := by rw [henters.air]
  have hmiddle := airMiddle_of hstart (markImpaired_calm (by rw [hstate]; rfl)) (airForm_leadIn hstate)
  rw [hstep, hposition, show u.air.state.onAir = true by rw [hstate]; rfl] at hmiddle
  have hlead : (airMiddle s').air.state = .leadIn := by
    rw [hmiddle]
    exact hstate
  have hwork : airWork s' = airMiddle s' := by
    refine airEnd_within (fun _ => ?_) (fun h => ?_) (fun h => ?_) fun h => ?_
    · rw [hmiddle]
      show 0 + 1 < 16
      decide
    all_goals
      rw [hlead] at h
      cases h
  have hattends : ∀ n, v.attends n ↔ s.attends n := fun n => by
    unfold State.attends
    rw [hclips]
  have hprogramme' : u.programme = s.programme := by
    rw [← hprogramme]
    unfold State.programme
    rw [henters.air, henters.frame]
  rw [hwork, hmiddle]
  refine ⟨⟨hstate, rfl, rfl, fun n hn h => ?_, fun h => ?_, ?_, rfl, fun hroom i r hi hr => ?_⟩, rfl, rfl⟩
  · rw [← hclips]
    exact henters.slot n (hslot.trans hn) ((hattends n).mpr h)
  · rw [← hlength]
    exact henters.tone fun n hn hattend => h n (hslot.symm.trans hn) ((hattends n).mp hattend)
  · rw [← hprogramme']
    refine congrArg (crossfade 1024 u.programme) ?_
    refine (State.attention_congr (s := u) ?_ ?_ ?_ ?_).symm
    · rfl
    · exact hposition.symm
    · rfl
    · rfl
  · have hairing : v.air.airing = some i := by
      have hair : u.air.airing = v.air.airing := by rw [henters.air]
      exact hair.symm.trans hi
    obtain ⟨q, hq, hbody⟩ := hfind i r hr
    obtain ⟨m, hm, hkind, hmbody⟩ := henters.note (hnote hroom) q (by rw [hairing]; exact hq)
    exact ⟨m, hm, hkind, hmbody.trans hbody⟩

end Sys2Proof.Machine

/-!
PROOF. The air frame by the air state (R145, R147, R149, R152 to R157).
-/

namespace Sys2Proof.Machine

/-! ### The settings in force (R147) -/

/-- The settings adopted by the air stage stand. -/
structure AirStage.SameSettings (a b : AirStage) : Prop where
  slot : b.attentionSlot = a.attentionSlot
  length : b.attentionLength = a.attentionLength
  deadline : b.breakDeadline = a.breakDeadline

theorem AirStage.SameSettings.refl (a : AirStage) : a.SameSettings a := ⟨rfl, rfl, rfl⟩

theorem AirStage.SameSettings.trans {a b c : AirStage} (h : a.SameSettings b) (k : b.SameSettings c) : a.SameSettings c :=
  ⟨k.slot.trans h.slot, k.length.trans h.length, k.deadline.trans h.deadline⟩

theorem enterLeadIn_settings (s : State) : s.air.SameSettings (enterLeadIn s).air := by
  rw [enterLeadIn_air]
  exact ⟨rfl, rfl, rfl⟩

theorem commit_settings (i : Identity) (s : State) : s.air.SameSettings (commit i s).air := by
  rw [(commit_committed i s).air]
  exact ⟨rfl, rfl, rfl⟩

theorem select_settings (s : State) : s.air.SameSettings (select s).air := by
  by_cases h : s.air.state ∈ [AirState.idle, .waitBreak]
  · cases hc : chosenRecord s with
    | none =>
      rw [select_none h hc]
      exact ⟨rfl, rfl, rfl⟩
    | some r =>
      cases hd : recordDue s r with
      | false =>
        rw [select_waits h hc hd]
        exact ⟨rfl, rfl, rfl⟩
      | true =>
        rw [select_due h hc hd]
        refine AirStage.SameSettings.trans ?_ (commit_settings r.identity _)
        exact ⟨rfl, rfl, rfl⟩
  · rw [select_busy s h]
    exact .refl _

theorem checkLink_settings (s : State) : s.air.SameSettings (checkLink s).air := by
  unfold checkLink
  split
  · exact enterLeadIn_settings s
  · exact .refl _

theorem checkMessage_settings (s : State) : s.air.SameSettings (checkMessage s).air := by
  unfold checkMessage
  split
  · exact ⟨rfl, rfl, rfl⟩
  · exact .refl _

theorem airStart_settings (s : State) : (adoptAir s).air.SameSettings (airStart s).air :=
  ((select_settings _).trans (checkLink_settings _)).trans (checkMessage_settings _)

theorem markImpaired_settings (s : State) : s.air.SameSettings (markImpaired s).air := by
  unfold markImpaired
  split
  · dsimp only
    split
    · exact ⟨rfl, rfl, rfl⟩
    · exact ⟨rfl, rfl, rfl⟩
  · exact .refl _

theorem messageFrame_settings (s : State) : s.air.SameSettings (messageFrame s).1.air := by
  unfold messageFrame
  split
  · exact .refl _
  · split
    · exact ⟨rfl, rfl, rfl⟩
    · exact ⟨rfl, rfl, rfl⟩
    · exact .refl _

theorem airForm_settings (s : State) : s.air.SameSettings (airForm s).1.air := by
  cases h : s.air.state with
  | idle | waitBreak | waitLink =>
    rw [airForm_passes (by rw [h]; decide)]
    exact .refl _
  | leadIn =>
    rw [airForm_leadIn h]
    exact ⟨rfl, rfl, rfl⟩
  | attention =>
    rw [airForm_attention h]
    exact ⟨rfl, rfl, rfl⟩
  | message =>
    rw [airForm_message h]
    exact messageFrame_settings s
  | closing =>
    rw [airForm_closing h]
    exact ⟨rfl, rfl, rfl⟩
  | leadOut =>
    rw [airForm_leadOut h]
    exact ⟨rfl, rfl, rfl⟩

theorem settleRecord_settings (s : State) : s.air.SameSettings (settleRecord s).air := by
  unfold settleRecord
  split
  · dsimp only
    split
    · exact ⟨rfl, rfl, rfl⟩
    · rw [removeRecord_frame]
      exact ⟨rfl, rfl, rfl⟩
  · exact .refl _

theorem completeAiring_settings (s : State) : s.air.SameSettings (completeAiring s).air := by
  unfold completeAiring
  dsimp only
  refine AirStage.SameSettings.trans ?_ (select_settings _)
  refine AirStage.SameSettings.trans ?_ (AirStage.SameSettings.trans (settleRecord_settings _) ⟨rfl, rfl, rfl⟩)
  rw [State.modAir_air, latch_air]
  exact ⟨rfl, rfl, rfl⟩

theorem airEnd_settings (s : State) : s.air.SameSettings (airEnd s).air := by
  unfold airEnd
  split
  · rw [holdRequest_frame]
    exact ⟨rfl, rfl, rfl⟩
  · split
    · unfold enterMessage
      split
      · exact ⟨rfl, rfl, rfl⟩
      · exact ⟨rfl, rfl, rfl⟩
    · split
      · unfold enterLeadOut
        rw [releaseRequest_frame]
        exact ⟨rfl, rfl, rfl⟩
      · split
        · exact completeAiring_settings s
        · exact .refl _

theorem airWork_settings (s : State) : (adoptAir s).air.SameSettings (airWork s).air := by
  refine AirStage.SameSettings.trans ?_ (airEnd_settings _)
  rw [airMiddle_eq]
  refine AirStage.SameSettings.trans (b := (airForm (markImpaired (airStart s))).1.air) ?_ ⟨rfl, rfl, rfl⟩
  exact ((airStart_settings s).trans (markImpaired_settings _)).trans (airForm_settings _)

/-! ### The impaired mark, to the end of the frame -/

/-- The ends of ATTENTION and CLOSING leave the impaired mark and the records alone. -/
theorem airEnd_impaired {s : State} (h : s.air.state ∈ [AirState.attention, .message, .closing]) :
    (airEnd s).air.impaired = s.air.impaired ∧ (airEnd s).intake = s.intake := by
  have hleadIn : ¬ leadInOver s = true := by
    unfold leadInOver
    revert h
    cases s.air.state <;> simp
  have hleadOut : ¬ leadOutOver s = true := by
    unfold leadOutOver
    revert h
    cases s.air.state <;> simp
  unfold airEnd
  rw [if_neg hleadIn, if_neg hleadOut]
  split
  · unfold enterMessage
    split
    · exact ⟨rfl, rfl⟩
    · exact ⟨rfl, rfl⟩
  · split
    · unfold enterLeadOut
      rw [releaseRequest_frame]
      exact ⟨rfl, rfl⟩
    · exact ⟨rfl, rfl⟩

theorem messageFrame_keeps (s : State) : (messageFrame s).1.air.impaired = s.air.impaired ∧
    (messageFrame s).1.air.state = s.air.state ∧ (messageFrame s).1.intake = s.intake := by
  unfold messageFrame
  split
  · exact ⟨rfl, rfl, rfl⟩
  · split
    · exact ⟨rfl, rfl, rfl⟩
    · exact ⟨rfl, rfl, rfl⟩
    · exact ⟨rfl, rfl, rfl⟩

theorem airForm_keeps (s : State) : (airForm s).1.air.impaired = s.air.impaired ∧
    (airForm s).1.air.state = s.air.state ∧ (airForm s).1.intake = s.intake := by
  cases h : s.air.state with
  | idle | waitBreak | waitLink =>
    rw [airForm_passes (by rw [h]; decide)]
    exact ⟨rfl, h, rfl⟩
  | leadIn =>
    rw [airForm_leadIn h]
    exact ⟨rfl, h, rfl⟩
  | attention =>
    rw [airForm_attention h]
    exact ⟨rfl, h, rfl⟩
  | message =>
    rw [airForm_message h, ← h]
    exact messageFrame_keeps s
  | closing =>
    rw [airForm_closing h]
    exact ⟨rfl, h, rfl⟩
  | leadOut =>
    rw [airForm_leadOut h]
    exact ⟨rfl, h, rfl⟩

/-- A message that has ended, its hold dropped and CLOSING entered. -/
def State.messageOver (s : State) : State :=
  { s with clips := s.clips.release airReader, air := { s.air with state := .closing, position := 0 } }

theorem airStart_messageOver {s : State} (h : messageEnded s = true) : airStart s = adoptAir s.messageOver := by
  have hstate : s.air.state = .message := by
    unfold messageEnded at h
    rw [Bool.and_eq_true, decide_eq_true_eq] at h
    exact h.1
  rw [airStart_message hstate]
  unfold checkMessage
  rw [show messageEnded (adoptAir s) = true from h]
  rfl

theorem airStart_messageOn {s : State} (hstate : s.air.state = .message) (h : messageEnded s = false) :
    airStart s = adoptAir s := by
  rw [airStart_message hstate]
  unfold checkMessage
  rw [show messageEnded (adoptAir s) = false from h]
  rfl

/-- The impaired mark and the records after a frame that reads the link mode. -/
theorem airWork_impaired {s : State} (h : s.air.state ∈ [AirState.attention, .message, .closing]) :
    ∃ queue impaired, s.Impairs queue impaired ∧ (airWork s).air.impaired = impaired ∧
      (airWork s).intake.queue = queue := by
  obtain ⟨u, hstart, hu, hintake, hlink, hair⟩ : ∃ u : State, airStart s = adoptAir u ∧
      u.air.state ∈ [AirState.attention, .message, .closing] ∧ u.intake = s.intake ∧ u.link = s.link ∧
      u.air.present = s.air.present ∧ u.air.airing = s.air.airing ∧ u.air.impaired = s.air.impaired := by
    by_cases hended : messageEnded s = true
    · exact ⟨_, airStart_messageOver hended, .tail _ (.tail _ (.head _)), rfl, rfl, rfl, rfl, rfl⟩
    · refine ⟨s, ?_, h, rfl, rfl, rfl, rfl, rfl⟩
      by_cases hstate : s.air.state = .message
      · exact airStart_messageOn hstate (by simpa using hended)
      · refine airStart_busy ?_
        revert h hstate
        cases s.air.state <;> simp
  obtain ⟨queue, impaired, hmark, himpairs⟩ := markImpaired_adopted u
  obtain ⟨hpresent, hairing, himpaired⟩ := hair
  obtain ⟨hkeepsImpaired, hkeepsState, hkeepsIntake⟩ := airForm_keeps (u.aired queue impaired)
  have hreads : ∀ {x : AirState}, x ∈ [AirState.attention, .message, .closing] → x.readsLink = true := fun {x} hx => by
    revert hx
    cases x <;> simp [AirState.readsLink]
  have hmiddle : (airMiddle s).air.state = u.air.state ∧ (airMiddle s).air.impaired = impaired ∧
      (airMiddle s).intake.queue = queue := by
    rw [airMiddle_eq, hstart, hmark]
    refine ⟨hkeepsState, hkeepsImpaired, ?_⟩
    show (airForm (u.aired queue impaired)).1.intake.queue = queue
    rw [hkeepsIntake]
    rfl
  obtain ⟨hstate, hmiddleImpaired, hmiddleQueue⟩ := hmiddle
  obtain ⟨hend, hendIntake⟩ := airEnd_impaired (s := airMiddle s) (by rw [hstate]; exact hu)
  refine ⟨queue, impaired, ⟨himpairs.identities.trans ?_, fun hcalm => ?_, fun hrun => ?_, fun _ hmode => ?_, fun i => ?_⟩,
    hend.trans hmiddleImpaired, ?_⟩
  · unfold AlertIntake.identities
    rw [hintake]
  · rw [hreads h] at hcalm
    cases hcalm
  · exact (himpairs.run (by rw [hlink]; exact hrun)).trans himpaired
  · rw [← hpresent, ← hairing]
    exact himpairs.impaired (hreads hu) (by rw [hlink]; exact hmode)
  · rw [himpairs.slots i, hintake]
  · show (airEnd (airMiddle s)).intake.queue = queue
    rw [hendIntake, hmiddleQueue]

/-! ### The forms of the frame (R145) -/

theorem exec_airFrame (s : State) : exec .airFrame s = .next (airWork s.cleared) := rfl

/-- A frame at which no phase ends, from its start and its form. -/
theorem airWork_formed {s m : State} {a : AirStage} {f : StereoFrame} {on : Bool} (hstart : markImpaired (airStart s) = m)
    (hon : (airStart s).air.state.onAir = on) (hform : airForm m = ({ m with air := a }, f))
    (hleadIn : a.state = .leadIn → a.step < 16) (hattention : a.state = .attention → a.position < max a.attentionFrames 17)
    (hclosing : a.state = .closing → a.position < 1000) (hleadOut : a.state = .leadOut → a.step < 16) :
    airWork s = { m with air := { a with lastAir := f, onAirFlag := on } } := by
  have hmiddle := airMiddle_of rfl hstart hform
  rw [hon] at hmiddle
  show airEnd (airMiddle s) = _
  rw [hmiddle]
  exact airEnd_within hleadIn hattention hclosing hleadOut

/-- A frame of the programme alone. -/
theorem airWork_passes {s u : State} (hstart : airStart s = u)
    (hstate : u.air.state ∈ [AirState.idle, .waitBreak, .waitLink]) :
    airWork s = { u with air := { u.air with lastAir := u.programme, onAirFlag := false } } := by
  have hcases : u.air.state = .idle ∨ u.air.state = .waitBreak ∨ u.air.state = .waitLink := by simpa using hstate
  have hreads : u.air.state.readsLink = false := by rcases hcases with h | h | h <;> rw [h] <;> rfl
  have hon : (airStart s).air.state.onAir = false := by
    rw [hstart]
    rcases hcases with h | h | h <;> rw [h] <;> rfl
  refine airWork_formed (m := u) (a := u.air) ?_ hon (airForm_passes hstate) ?_ ?_ ?_ ?_
  · rw [hstart]
    exact markImpaired_calm hreads
  all_goals
    intro h
    rw [h] at hcases
    simp at hcases

theorem airStart_idle {s : State} (hstate : s.air.state ∈ [AirState.idle, .waitBreak]) (hnone : chosenRecord s = none) :
    airStart s = (adoptAir s).modAir fun a => { a with state := .idle, airing := none } := by
  unfold airStart
  rw [select_none (s := adoptAir s) hstate hnone, checkLink_busy (by nofun), checkMessage_other (by nofun)]

theorem airStart_waits {s : State} {r : AlertRecord} (hstate : s.air.state ∈ [AirState.idle, .waitBreak])
    (hr : chosenRecord s = some r) (hdue : recordDue (adoptAir s) r = false) :
    airStart s = (adoptAir s).modAir fun a => { a with state := .waitBreak, airing := some r.identity } := by
  unfold airStart
  rw [select_waits (s := adoptAir s) hstate hr hdue, checkLink_busy (by nofun), checkMessage_other (by nofun)]

/-- Whether a record is due at an air frame. -/
theorem recordDue_adopted (s : State) (r : AlertRecord) :
    recordDue (adoptAir s) r = true ↔ r.airMode = .immediate ∨
      (r.airMode = .nextBreak ∧ s.setting Setting.breakDeadline ≤ (s.frameCount - r.stamp).toNat) := by
  unfold recordDue dueByAge
  rw [Bool.or_eq_true, Bool.and_eq_true, decide_eq_true_eq, decide_eq_true_eq, decide_eq_true_eq]
  rfl

theorem airStart_waitLink_asleep {s : State} (hstate : s.air.state = .waitLink) (hrun : s.link.mode ≠ .run)
    (hcut : s.link.mode ≠ .cut) : airStart s = adoptAir s := by
  rw [airStart_waitLink hstate]
  have hlink : checkLink (adoptAir s) = adoptAir s := by
    unfold checkLink
    rw [if_neg]
    rw [Bool.and_eq_true, Bool.or_eq_true, decide_eq_true_eq, decide_eq_true_eq, decide_eq_true_eq]
    exact fun h => h.2.elim hrun hcut
  rw [hlink, checkMessage_other]
  rw [show (adoptAir s).air.state = .waitLink from hstate]
  nofun

theorem airStart_waitLink_awake {s : State} (hstate : s.air.state = .waitLink)
    (hmode : s.link.mode = .run ∨ s.link.mode = .cut) : airStart s = enterLeadIn (adoptAir s) := by
  rw [airStart_waitLink hstate, checkLink_enters (s := adoptAir s) hstate hmode, checkMessage_other]
  rw [enterLeadIn_state]
  nofun

/-- LEAD_IN entered from WAIT_LINK. -/
theorem waitLink_begins {s : State} (hstate : s.air.state = .waitLink) (hmode : s.link.mode = .run ∨ s.link.mode = .cut) :
    s.BeginsLeadIn (airWork s.cleared) ∧ (airWork s.cleared).air.airing = s.air.airing ∧
      (airWork s.cleared).air.present = s.air.present ∧ (airWork s.cleared).intake = s.intake ∧
      (airWork s.cleared).link.mode = s.link.mode := by
  obtain ⟨hbegins, hframe, hair⟩ := beginsLeadIn (s := s) (airStart_waitLink_awake (s := s.cleared) hstate hmode)
    rfl rfl rfl rfl (fun h => Nat.lt_succ_of_lt h) fun i r hr => ⟨r, hr, rfl⟩
  have henters := enterLeadIn_enters (adoptAir s.cleared)
  refine ⟨hbegins, ?_, ?_, ?_, ?_⟩
  · rw [hair, henters.air]
    rfl
  · rw [hair, henters.air]
    rfl
  · rw [hframe]
    show (enterLeadIn (adoptAir s.cleared)).intake = _
    rw [henters.frame]
    rfl
  · rw [hframe]
    exact henters.mode

/-- A message's frame, or none at its position. -/
theorem messageFrame_gives {s : State} {n : Fin 32} {f : StereoFrame} (hn : s.clips.holds.get airReader = some n)
    (hf : s.clips.frameAt airReader n s.air.position = some f) :
    messageFrame s = ({ s with air := { s.air with
      position := s.air.position + 1, messageFrames := s.air.messageFrames + 1 } }, f) := by
  unfold messageFrame
  rw [hn]
  dsimp only
  rw [readFor_eq, if_pos hn, hf]
  rfl

theorem messageFrame_beyond {s : State} {n : Fin 32} (hn : s.clips.holds.get airReader = some n)
    (hlength : (s.clips.slots.get n).length ≤ s.air.position) :
    messageFrame s = ({ s with air := { s.air with
      underruns := min (s.air.underruns + 1) 65535
      counters := { s.air.counters with underrun := min (s.air.counters.underrun + 1) 65535 } } },
      StereoFrame.silence) := by
  have hnone : s.clips.frameAt airReader n s.air.position = none := if_neg fun h => absurd h.2 (Nat.not_lt.mpr hlength)
  unfold messageFrame
  rw [hn]
  dsimp only
  rw [readFor_eq, if_pos hn, hnone]
  rfl

theorem messageFrame_dropped {s : State} (hn : s.clips.holds.get airReader = none) :
    messageFrame s = ({ s with air := s.air }, StereoFrame.silence) := by
  unfold messageFrame
  rw [hn]

theorem messageEnded_iff {s : State} (hstate : s.air.state = .message) :
    messageEnded s = match s.clips.holds.get airReader with
      | some n => decide ((s.clips.slots.get n).state = .alertHeld) && decide ((s.clips.slots.get n).length ≤ s.air.position)
      | none => false := by
  unfold messageEnded
  rw [decide_eq_true hstate, Bool.true_and] <;> rfl

/-- A frame of MESSAGE that does not end it. -/
theorem airWork_message {s : State} (hstate : s.air.state = .message) (hended : messageEnded s = false) {f : StereoFrame}
    {g : AirStage → AirStage} (hg : ∀ a : AirStage, (g a).state = a.state)
    (hform : ∀ queue impaired, messageFrame (s.aired queue impaired) =
      ({ s.aired queue impaired with air := g (s.aired queue impaired).air }, f)) :
    ∃ queue impaired, s.Impairs queue impaired ∧ airWork s =
      { s.aired queue impaired with air := { g (s.aired queue impaired).air with lastAir := f, onAirFlag := true } } := by
  obtain ⟨queue, impaired, hmark, himpairs⟩ := markImpaired_adopted s
  have hstart := airStart_messageOn hstate hended
  have hstate' : (s.aired queue impaired).air.state = .message := hstate
  have hgstate : (g (s.aired queue impaired).air).state = .message := (hg _).trans hstate'
  refine ⟨queue, impaired, himpairs, airWork_formed (hstart ▸ hmark) ?_ ((airForm_message hstate').trans (hform ..)) ?_ ?_ ?_ ?_⟩
  · rw [hstart, show (adoptAir s).air.state = .message from hstate]
    rfl
  all_goals
    rw [hgstate]
    nofun

/-- A frame of LEAD_IN, ATTENTION, CLOSING or LEAD_OUT, before what ends at it. -/
theorem airMiddle_busy {s : State} (hstate : s.air.state ∈ [AirState.leadIn, .attention, .closing, .leadOut])
    {f : StereoFrame} {g : AirStage → AirStage} (hform : ∀ queue impaired, airForm (s.aired queue impaired) =
      ({ s.aired queue impaired with air := g (s.aired queue impaired).air }, f)) :
    ∃ queue impaired, s.Impairs queue impaired ∧ airMiddle s =
      { s.aired queue impaired with air := { g (s.aired queue impaired).air with lastAir := f, onAirFlag := true } } := by
  obtain ⟨queue, impaired, hmark, himpairs⟩ := markImpaired_adopted s
  have hon : s.air.state.onAir = true := by
    revert hstate
    cases s.air.state <;> simp [AirState.onAir]
  have hmiddle := airMiddle_of (airStart_busy hstate) hmark (hform ..)
  rw [show (adoptAir s).air.state.onAir = true from hon] at hmiddle
  exact ⟨queue, impaired, himpairs, hmiddle⟩

/-- The frame just formed is not the last of phase `x`. -/
def AirStage.goesOn (a : AirStage) : AirState → Prop
  | .leadIn | .leadOut => a.step < 16
  | .attention => a.position < max a.attentionFrames 17
  | .closing => a.position < 1000
  | .idle | .waitBreak | .waitLink | .message => True

theorem airWork_goes {s m : State} (hmiddle : airMiddle s = m) {x : AirState} (hstate : m.air.state = x)
    (hwithin : m.air.goesOn x) : airWork s = m := by
  show airEnd (airMiddle s) = m
  rw [hmiddle]
  subst hstate
  refine airEnd_within (fun h => ?_) (fun h => ?_) (fun h => ?_) fun h => ?_
  all_goals
    rw [h] at hwithin
    exact hwithin

theorem airMiddle_leadIn {s : State} (h : s.air.state = .leadIn) :
    ∃ queue impaired, s.Impairs queue impaired ∧ airMiddle s = { s.aired queue impaired with air :=
      { (s.aired queue impaired).air with
        step := s.air.step + 1, position := s.air.position + 1
        lastAir := crossfade (1024 * (s.air.step + 1 : Nat)) s.programme s.attention, onAirFlag := true } } :=
  airMiddle_busy (g := fun a => { a with step := a.step + 1, position := a.position + 1 }) (by rw [h]; decide)
    fun queue impaired => airForm_leadIn (s := s.aired queue impaired) h

theorem airMiddle_attention {s : State} (h : s.air.state = .attention) :
    ∃ queue impaired, s.Impairs queue impaired ∧ airMiddle s = { s.aired queue impaired with air :=
      { (s.aired queue impaired).air with
        position := s.air.position + 1, lastAir := s.attention, onAirFlag := true } } :=
  airMiddle_busy (g := fun a => { a with position := a.position + 1 }) (by rw [h]; decide)
    fun queue impaired => airForm_attention (s := s.aired queue impaired) h

theorem airMiddle_closing {s : State} (h : s.air.state = .closing) :
    ∃ queue impaired, s.Impairs queue impaired ∧ airMiddle s = { s.aired queue impaired with air :=
      { (s.aired queue impaired).air with
        position := s.air.position + 1, lastAir := toneFrame, onAirFlag := true } } :=
  airMiddle_busy (g := fun a => { a with position := a.position + 1 }) (by rw [h]; decide)
    fun queue impaired => airForm_closing (s := s.aired queue impaired) h

theorem airMiddle_leadOut {s : State} (h : s.air.state = .leadOut) :
    airMiddle s = { adoptAir s with air := { (adoptAir s).air with
      step := s.air.step + 1
      lastAir := crossfade (16384 - 1024 * (s.air.step + 1 : Nat)) s.programme toneFrame, onAirFlag := true } } := by
  obtain ⟨queue, impaired, himpairs, hmiddle⟩ := airMiddle_busy (s := s) (g := fun a => { a with step := a.step + 1 })
    (f := crossfade (16384 - 1024 * (s.air.step + 1 : Nat)) s.programme toneFrame)
    (by rw [h]; decide) fun queue impaired => airForm_leadOut (s := s.aired queue impaired) h
  obtain ⟨rfl, rfl⟩ := himpairs.calm (by rw [h]; rfl)
  exact hmiddle

/-- Settles O43: the frame by the state in which it is formed. -/
theorem airFrameForms : Obligations.AirFrameForms := by
  intro s a j
  obtain ⟨hslot, hlength, hdeadline⟩ := airWork_settings s.cleared
  refine ⟨airWork s.cleared, rfl, hslot, hlength, hdeadline, ?_⟩
  intro forms
  have hforms : ∀ {queue : List AlertRecord} {impaired : Bool} {b : AirStage} {f : StereoFrame} {on : Bool},
      airWork s.cleared = { s.cleared.aired queue impaired with air := b } →
      queue.map AlertRecord.identity = s.intake.identities → b.state = a.state → b.lastAir = f → b.onAirFlag = on →
      forms f on := by
    intro queue impaired b f on hwork hidentities hstate hf hon
    refine ⟨?_, ?_, ?_, ?_, ?_⟩
    all_goals rw [hwork]
    · rfl
    · exact hidentities
    · exact hstate
    · exact hf
    · exact hon
  refine ⟨fun hstate hnone => ?_, fun r hstate hr hmode hage => ?_, fun hstate hrun hcut => ?_,
    fun hstate hmode => waitLink_begins hstate hmode, fun hstate hstep => ?_, fun hstate hposition => ?_,
    fun n hstate hn => ⟨fun f hf => ?_, fun hlength halert => ?_⟩, fun hstate hn => ?_, fun hstate hposition => ?_,
    fun hstate hstep => ?_, fun hstate => ?_⟩
  · have hmem : s.air.state ∈ [AirState.idle, .waitBreak] := by rw [hstate]; decide
    have hwork := airWork_passes (airStart_idle (s := s.cleared) hmem hnone) (.head _)
    exact hforms (queue := s.intake.queue) (impaired := s.air.impaired) hwork rfl hstate.symm rfl rfl
  · have hmem : s.air.state ∈ [AirState.idle, .waitBreak] := by rw [hstate]; decide
    have hdue : recordDue (adoptAir s.cleared) r = false := by
      rw [← Bool.not_eq_true, recordDue_adopted s.cleared r, hmode]
      exact fun h => h.elim nofun fun h => absurd h.2 (Nat.not_le.mpr hage)
    have hwork := airWork_passes (airStart_waits (s := s.cleared) hmem hr hdue) (.tail _ (.head _))
    exact ⟨hforms (queue := s.intake.queue) (impaired := s.air.impaired) hwork rfl hstate.symm rfl rfl,
      by rw [hwork]; rfl⟩
  · have hmem : s.air.state ∈ [AirState.idle, .waitBreak, .waitLink] := by rw [hstate]; decide
    have hwork := airWork_passes (airStart_waitLink_asleep (s := s.cleared) hstate hrun hcut) hmem
    exact hforms (queue := s.intake.queue) (impaired := s.air.impaired) hwork rfl rfl rfl rfl
  · obtain ⟨queue, impaired, himpairs, hmiddle⟩ := airMiddle_leadIn (s := s.cleared) hstate
    have hwork := airWork_goes hmiddle (x := .leadIn) hstate hstep
    exact ⟨hforms hwork himpairs.identities rfl rfl rfl, by rw [hwork]; rfl, by rw [hwork]; rfl⟩
  · obtain ⟨queue, impaired, himpairs, hmiddle⟩ := airMiddle_attention (s := s.cleared) hstate
    have hwork := airWork_goes hmiddle (x := .attention) hstate hposition
    exact ⟨hforms hwork himpairs.identities rfl rfl rfl, by rw [hwork]; rfl⟩
  · have hlt : a.position < (s.clips.slots.get n).length := by
      unfold ClipStore.frameAt at hf
      split at hf
      · next h => exact h.2
      · cases hf
    have hended : messageEnded s.cleared = false := by
      rw [messageEnded_iff (s := s.cleared) hstate, show s.cleared.clips.holds.get airReader = some n from hn]
      dsimp only
      rw [Bool.and_eq_false_iff, decide_eq_false_iff_not, decide_eq_false_iff_not]
      exact .inr (Nat.not_le.mpr hlt)
    obtain ⟨queue, impaired, himpairs, hwork⟩ := airWork_message (s := s.cleared) hstate hended
      (g := fun a => { a with position := a.position + 1, messageFrames := a.messageFrames + 1 }) (fun _ => rfl)
      fun queue impaired => messageFrame_gives (s := s.cleared.aired queue impaired) hn hf
    exact ⟨hforms hwork himpairs.identities rfl rfl rfl, by rw [hwork]; rfl, by rw [hwork]; rfl⟩
  · have hended : messageEnded s.cleared = false := by
      rw [messageEnded_iff (s := s.cleared) hstate, show s.cleared.clips.holds.get airReader = some n from hn]
      dsimp only
      rw [Bool.and_eq_false_iff, decide_eq_false_iff_not, decide_eq_false_iff_not]
      exact .inl halert
    obtain ⟨queue, impaired, himpairs, hwork⟩ := airWork_message (s := s.cleared) hstate hended
      (g := fun a => { a with
        underruns := min (a.underruns + 1) 65535
        counters := { a.counters with underrun := min (a.counters.underrun + 1) 65535 } }) (fun _ => rfl)
      fun queue impaired => messageFrame_beyond (s := s.cleared.aired queue impaired) hn hlength
    exact ⟨hforms hwork himpairs.identities rfl rfl rfl, by rw [hwork]; rfl, by rw [hwork]; rfl, by rw [hwork]; rfl⟩
  · have hended : messageEnded s.cleared = false := by
      rw [messageEnded_iff (s := s.cleared) hstate, show s.cleared.clips.holds.get airReader = none from hn]
    obtain ⟨queue, impaired, himpairs, hwork⟩ := airWork_message (s := s.cleared) hstate hended
      (g := fun a => a) (fun _ => rfl) fun queue impaired => messageFrame_dropped (s := s.cleared.aired queue impaired) hn
    exact ⟨hforms hwork himpairs.identities rfl rfl rfl, by rw [hwork]; rfl, by rw [hwork]; rfl, by rw [hwork]; rfl,
      by rw [hwork]; rfl⟩
  · obtain ⟨queue, impaired, himpairs, hmiddle⟩ := airMiddle_closing (s := s.cleared) hstate
    have hwork := airWork_goes hmiddle (x := .closing) hstate hposition
    exact ⟨hforms hwork himpairs.identities rfl rfl rfl, by rw [hwork]; rfl⟩
  · have hwork := airWork_goes (airMiddle_leadOut (s := s.cleared) hstate) (x := .leadOut) hstate hstep
    exact ⟨hforms hwork rfl rfl rfl rfl, by rw [hwork]; rfl⟩
  · obtain ⟨queue, impaired, himpairs, himpaired, hqueue⟩ := airWork_impaired (s := s.cleared) hstate
    rw [himpaired, hqueue]
    refine ⟨himpairs.run, fun hmode => himpairs.impaired ?_ hmode⟩
    revert hstate
    show a.state ∈ _ → a.state.readsLink = true
    cases a.state <;> simp [AirState.readsLink]

end Sys2Proof.Machine

/-!
PROOF. The ends of the phases of an airing (R152, R154 to R156), with the hold and the release of the delay line (R55 to
R57).
-/

namespace Sys2Proof.Machine

/-! ### The phase that a frame is the last of -/

/-- A state change at the start of an air frame begins a phase anew, or leads to a state without a phase. -/
def AirStage.Fresh (a : AirStage) : Prop :=
  a.state ∈ [AirState.idle, .waitBreak, .waitLink] ∨ (a.state = .leadIn ∧ a.step = 0) ∨
    (a.state = .closing ∧ a.position = 0)

theorem enterLeadIn_fresh (s : State) : (enterLeadIn s).air.Fresh := by
  rw [enterLeadIn_air]
  exact .inr (.inl ⟨rfl, rfl⟩)

theorem commit_fresh (i : Identity) (s : State) : (commit i s).air.Fresh := by
  by_cases h : s.link.mode.awake = true
  · rw [commit_awake h]
    exact enterLeadIn_fresh _
  · rw [commit_asleep (by simpa using h), wakeOrAbort_frame]
    exact .inl (.tail _ (.tail _ (.head _)))

theorem select_begins (s : State) : select s = s ∨ (select s).air.Fresh := by
  by_cases h : s.air.state ∈ [AirState.idle, .waitBreak]
  · refine .inr ?_
    cases hc : chosenRecord s with
    | none =>
      rw [select_none h hc]
      exact .inl (.head _)
    | some r =>
      cases hd : recordDue s r with
      | false =>
        rw [select_waits h hc hd]
        exact .inl (.tail _ (.head _))
      | true =>
        rw [select_due h hc hd]
        exact commit_fresh ..
  · exact .inl (select_busy s h)

theorem checkLink_begins (s : State) : checkLink s = s ∨ (checkLink s).air.Fresh := by
  unfold checkLink
  split
  · exact .inr (enterLeadIn_fresh s)
  · exact .inl rfl

theorem checkMessage_begins (s : State) : checkMessage s = s ∨ (checkMessage s).air.Fresh := by
  unfold checkMessage
  split
  · exact .inr (.inr (.inr ⟨rfl, rfl⟩))
  · exact .inl rfl

theorem airStart_begins (s : State) : airStart s = adoptAir s ∨ (airStart s).air.Fresh := by
  unfold airStart
  rcases checkMessage_begins (checkLink (select (adoptAir s))) with h | h
  · rw [h]
    rcases checkLink_begins (select (adoptAir s)) with h | h
    · rw [h]
      exact select_begins _
    · exact .inr h
  · exact .inr h

theorem markImpaired_counts (s : State) : (markImpaired s).air = { s.air with impaired := (markImpaired s).air.impaired } := by
  unfold markImpaired
  split
  · dsimp only
    split <;> rfl
  · rfl

theorem airForm_counts (s : State) :
    (airForm s).1.air.step ≤ s.air.step + 1 ∧ (airForm s).1.air.position ≤ s.air.position + 1 := by
  cases h : s.air.state with
  | idle | waitBreak | waitLink =>
    rw [airForm_passes (by rw [h]; decide)]
    exact ⟨Nat.le_succ _, Nat.le_succ _⟩
  | leadIn =>
    rw [airForm_leadIn h]
    exact ⟨Nat.le_refl _, Nat.le_refl _⟩
  | attention =>
    rw [airForm_attention h]
    exact ⟨Nat.le_succ _, Nat.le_refl _⟩
  | message =>
    rw [airForm_message h]
    unfold messageFrame
    split
    · exact ⟨Nat.le_succ _, Nat.le_succ _⟩
    · split
      · exact ⟨Nat.le_succ _, Nat.le_refl _⟩
      · exact ⟨Nat.le_succ _, Nat.le_succ _⟩
      · exact ⟨Nat.le_succ _, Nat.le_succ _⟩
  | closing =>
    rw [airForm_closing h]
    exact ⟨Nat.le_succ _, Nat.le_refl _⟩
  | leadOut =>
    rw [airForm_leadOut h]
    exact ⟨Nat.le_refl _, Nat.le_succ _⟩

/-- A frame formed is of the phase in which it began, or is one of a phase begun with it. -/
theorem airMiddle_phase (s : State) :
    (airMiddle s).air.state = s.air.state ∨ (airMiddle s).air.state ∈ [AirState.idle, .waitBreak, .waitLink] ∨
      ((airMiddle s).air.state = .leadIn ∧ (airMiddle s).air.step ≤ 1) ∨
      ((airMiddle s).air.state = .closing ∧ (airMiddle s).air.position ≤ 1) := by
  have hstate : (airMiddle s).air.state = (airStart s).air.state := by
    rw [airMiddle_eq]
    show (airForm (markImpaired (airStart s))).1.air.state = _
    rw [(airForm_keeps _).2.1, markImpaired_counts]
  obtain ⟨hstep, hposition⟩ := airForm_counts (markImpaired (airStart s))
  have hcounts := markImpaired_counts (airStart s)
  rw [show (markImpaired (airStart s)).air.step = (airStart s).air.step by rw [hcounts]] at hstep
  rw [show (markImpaired (airStart s)).air.position = (airStart s).air.position by rw [hcounts]] at hposition
  rw [hstate]
  rcases airStart_begins s with h | hfresh
  · rw [h]
    exact .inl rfl
  · rcases hfresh with h | ⟨h, hzero⟩ | ⟨h, hzero⟩
    · exact .inr (.inl h)
    · rw [hzero] at hstep
      exact .inr (.inr (.inl ⟨h, hstep⟩))
    · rw [hzero] at hposition
      exact .inr (.inr (.inr ⟨h, hposition⟩))

section
variable {s : State}

theorem leadInOver_iff (t : State) : leadInOver t = true ↔ t.air.state = .leadIn ∧ 16 ≤ t.air.step := by
  unfold leadInOver
  rw [Bool.and_eq_true, decide_eq_true_eq, decide_eq_true_eq]
  rfl

theorem attentionOver_iff (t : State) :
    attentionOver t = true ↔ t.air.state = .attention ∧ max t.air.attentionFrames 17 ≤ t.air.position := by
  unfold attentionOver
  rw [Bool.and_eq_true, decide_eq_true_eq, decide_eq_true_eq]

theorem closingOver_iff (t : State) : closingOver t = true ↔ t.air.state = .closing ∧ 1000 ≤ t.air.position := by
  unfold closingOver
  rw [Bool.and_eq_true, decide_eq_true_eq, decide_eq_true_eq]
  rfl

theorem leadOutOver_iff (t : State) : leadOutOver t = true ↔ t.air.state = .leadOut ∧ 16 ≤ t.air.step := by
  unfold leadOutOver
  rw [Bool.and_eq_true, decide_eq_true_eq, decide_eq_true_eq]
  rfl

theorem leadIn_of_over (h : leadInOver (airMiddle s) = true) : s.air.state = .leadIn := by
  obtain ⟨hstate, hstep⟩ := (leadInOver_iff _).mp h
  rcases airMiddle_phase s with hp | hp | ⟨-, hp⟩ | ⟨hp, -⟩
  · exact hp ▸ hstate
  · rw [hstate] at hp
    exact absurd hp (by decide)
  · exact absurd (Nat.le_trans hstep hp) (by decide)
  · rw [hstate] at hp
    cases hp

theorem attention_of_over (h : attentionOver (airMiddle s) = true) : s.air.state = .attention := by
  obtain ⟨hstate, -⟩ := (attentionOver_iff _).mp h
  rcases airMiddle_phase s with hp | hp | ⟨hp, -⟩ | ⟨hp, -⟩
  · exact hp ▸ hstate
  all_goals
    rw [hstate] at hp
    exact absurd hp (by decide)

theorem closing_of_over (h : closingOver (airMiddle s) = true) : s.air.state = .closing := by
  obtain ⟨hstate, hposition⟩ := (closingOver_iff _).mp h
  rcases airMiddle_phase s with hp | hp | ⟨hp, -⟩ | ⟨-, hp⟩
  · exact hp ▸ hstate
  · rw [hstate] at hp
    exact absurd hp (by decide)
  · rw [hstate] at hp
    cases hp
  · exact absurd (Nat.le_trans hposition hp) (by decide)

theorem leadOut_of_over (h : leadOutOver (airMiddle s) = true) : s.air.state = .leadOut := by
  obtain ⟨hstate, -⟩ := (leadOutOver_iff _).mp h
  rcases airMiddle_phase s with hp | hp | ⟨hp, -⟩ | ⟨hp, -⟩
  · exact hp ▸ hstate
  all_goals
    rw [hstate] at hp
    exact absurd hp (by decide)

end

/-! ### The rows that a phase's end guards -/

theorem exec_leadInEnd (s : State) : exec .leadInEnd s =
    .next (if leadInOver (airMiddle s.cleared) = true then airWork s.cleared else s.cleared) := rfl

theorem exec_attentionEnd (s : State) : exec .attentionEnd s =
    .next (if attentionOver (airMiddle s.cleared) = true then airWork s.cleared else s.cleared) := rfl

theorem exec_closingEnd (s : State) : exec .closingEnd s =
    .next (if closingOver (airMiddle s.cleared) = true then airWork s.cleared else s.cleared) := rfl

theorem exec_completion (s : State) : exec .completion s =
    .next (if leadOutOver (airMiddle s.cleared) = true then airWork s.cleared else s.cleared) := rfl

/-! ### What ends with a frame (R152, R154, R156) -/

section
variable {s m : State}

theorem airWork_leadInOver (hmiddle : airMiddle s = m) (h : leadInOver m = true) :
    airWork s = holdRequest (m.modAir fun a => { a with state := .attention }) := by
  show airEnd (airMiddle s) = _
  rw [hmiddle]
  exact if_pos h

theorem airWork_attentionOver (hmiddle : airMiddle s = m) (h : attentionOver m = true) :
    airWork s = enterMessage (m.modClips fun c => c.release airReader) := by
  have hstate := ((attentionOver_iff m).mp h).1
  have hleadIn : ¬ leadInOver m = true := fun hl => by
    have hl' := ((leadInOver_iff m).mp hl).1
    rw [hstate] at hl'
    cases hl'
  show airEnd (airMiddle s) = _
  unfold airEnd
  rw [hmiddle, if_neg hleadIn, if_pos h]

theorem airWork_closingOver (hmiddle : airMiddle s = m) (h : closingOver m = true) : airWork s = enterLeadOut 0 m := by
  have hstate := ((closingOver_iff m).mp h).1
  have hleadIn : ¬ leadInOver m = true := fun hl => by
    have hl' := ((leadInOver_iff m).mp hl).1
    rw [hstate] at hl'
    cases hl'
  have hattention : ¬ attentionOver m = true := fun hl => by
    have hl' := ((attentionOver_iff m).mp hl).1
    rw [hstate] at hl'
    cases hl'
  show airEnd (airMiddle s) = _
  unfold airEnd
  rw [hmiddle, if_neg hleadIn, if_neg hattention, if_pos h]

theorem airWork_leadOutOver (hmiddle : airMiddle s = m) (h : leadOutOver m = true) : airWork s = completeAiring m := by
  have hstate := ((leadOutOver_iff m).mp h).1
  have hleadIn : ¬ leadInOver m = true := fun hl => by
    have hl' := ((leadInOver_iff m).mp hl).1
    rw [hstate] at hl'
    cases hl'
  have hattention : ¬ attentionOver m = true := fun hl => by
    have hl' := ((attentionOver_iff m).mp hl).1
    rw [hstate] at hl'
    cases hl'
  have hclosing : ¬ closingOver m = true := fun hl => by
    have hl' := ((closingOver_iff m).mp hl).1
    rw [hstate] at hl'
    cases hl'
  show airEnd (airMiddle s) = _
  unfold airEnd
  rw [hmiddle, if_neg hleadIn, if_neg hattention, if_neg hclosing, if_pos h]

end

/-! ### Hold and release (R55 to R57) -/

theorem holdRequest_holds (s : State) :
    (holdRequest s).delay.hold = true ∧
      (s.delay.hold = false → (holdRequest s).delay.state = .held ∧ (holdRequest s).delay.overflowMark = false ∧
        (holdRequest s).delay.holdExchanges = 0) := by
  unfold holdRequest
  split
  · next h => exact ⟨h, fun hno => absurd (h.symm.trans hno) (by decide)⟩
  · rw [deriveDelay_delay]
    exact ⟨rfl, fun _ => ⟨rfl, rfl, rfl⟩⟩

/-- The frames discarded at a release. -/
theorem rejoinExcess_eq (d : DelayLine) :
    d.rejoinExcess = if d.policy = .rejoin then d.held - d.target else 0 := by
  unfold DelayLine.rejoinExcess
  cases d.policy <;> rfl

/-- The delay line of a release, before its state is derived. -/
def DelayLine.released (d : DelayLine) (gone : Nat) : DelayLine :=
  { d.dropOldest gone with hold := false, counters := { d.counters with rejoin := min (d.counters.rejoin + gone) 65535 } }

theorem releaseRequest_held {s : State} (h : s.delay.hold = true) :
    releaseRequest s = deriveDelay (s.modDelay fun d => d.released d.rejoinExcess) := if_pos h

theorem releaseRequest_free {s : State} (h : s.delay.hold = false) : releaseRequest s = s :=
  if_neg (by rw [h]; nofun)

theorem releaseRequest_hold (s : State) : (releaseRequest s).delay.hold = false := by
  cases h : s.delay.hold with
  | true =>
    rw [releaseRequest_held h, deriveDelay_delay]
    rfl
  | false =>
    rw [releaseRequest_free h]
    exact h

/-- The delay state of a release decides the spacing count anew (R45). -/
theorem DelayLine.derive_eq (d : DelayLine) (b : Bool) :
    d.derive b = { d with
      state := d.derived b
      spacing := if d.derived b ≠ d.state ∧ d.derived b ∈ [DelayState.building, .shrinking] then 0 else d.spacing } := by
  have hmoving (x : DelayState) : (x.moving && decide (x ≠ d.state)) = true ↔
      x ≠ d.state ∧ x ∈ [DelayState.building, .shrinking] := by
    rw [Bool.and_eq_true, decide_eq_true_eq, and_comm]
    cases x <;> simp [DelayState.moving]
  unfold DelayLine.derive
  dsimp only
  rw [if_congr (hmoving _) rfl rfl]

theorem reachesTarget_held (x : DelayState) :
    reachesTarget .held x = true ↔ x ∈ [DelayState.safe, .live] := by
  cases x <;> simp [reachesTarget]

/-- What a release of a held delay line leaves. -/
theorem releaseRequest_releases {s : State} (h : s.delay.hold = true) :
    let t := releaseRequest s
    let d := s.delay
    let gone := if d.policy = .rejoin then d.held - d.target else 0
    t.delay.heldFrames = d.heldFrames.drop gone ∧
    t.delay = { d with
      hold := false
      held := d.held - gone
      readPos := d.block gone
      state := t.delay.derived s.air.bypass
      spacing := if t.delay.state ≠ d.state ∧ t.delay.state ∈ [DelayState.building, .shrinking] then 0 else d.spacing
      counters := { d.counters with rejoin := min (d.counters.rejoin + gone) 65535 } } ∧
    (d.state = .held → t.notices.latches.get 10 = (s.notices.latches.get 10).or
      (if t.delay.state ∈ [DelayState.safe, .live] then some [Word.nat d.target] else none)) := by
  intro t d gone
  have hgone : d.rejoinExcess = gone := rejoinExcess_eq d
  have ht : t = deriveDelay (s.modDelay fun d => d.released gone) := hgone ▸ releaseRequest_held h
  have hdelay : t.delay = (d.released gone).derive s.air.bypass := by
    rw [ht, deriveDelay_delay]
    rfl
  refine ⟨?_, ?_, fun hheld => ?_⟩
  · rw [hdelay, DelayLine.derive_heldFrames]
    exact DelayLine.dropOldest_heldFrames d gone
  · rw [hdelay, DelayLine.derive_eq]
    rfl
  · rw [ht, deriveDelay_get_or, deriveDelay_delay]
    refine congrArg _ (if_congr ?_ rfl rfl)
    rw [show (s.modDelay fun d => d.released gone).delay.state = .held from hheld, reachesTarget_held]
    exact ⟨fun h => h.2, fun h => ⟨rfl, h⟩⟩

/-! ### The entry to MESSAGE (R155) -/

theorem enterMessage_slot {s : State} {n : Fin 32} (h : messageSlot s = some n) :
    enterMessage s = { s with
      clips := s.clips.hold airReader n, air := { s.air with state := .message, position := 0 } } := by
  unfold enterMessage
  rw [h]
  rfl

theorem enterMessage_none {s : State} (h : messageSlot s = none) :
    enterMessage s = { s with air := { s.air with state := .closing, position := 0 } } := by
  unfold enterMessage
  rw [h]
  rfl

/-- The slot of the message does not change with the marks of the frame. -/
theorem messageSlot_impaired {s v : State} {queue : List AlertRecord} {impaired : Bool} (h : s.Impairs queue impaired)
    (hqueue : v.intake.queue = queue) (hpresent : v.air.present = s.air.present) (hairing : v.air.airing = s.air.airing) :
    messageSlot v = messageSlot s := by
  unfold messageSlot recordOnAir
  rw [hpresent, hairing]
  cases s.air.present with
  | false => rfl
  | true =>
    cases s.air.airing with
    | none => rfl
    | some i =>
      show (v.intake.find i).bind AlertRecord.slot = (s.intake.find i).bind AlertRecord.slot
      rw [← h.slots i, ← hqueue]
      rfl

theorem messageSlot_some {s : State} {i : Identity} {r : AlertRecord} (hpresent : s.air.present = true)
    (hairing : s.air.airing = some i) (hr : s.intake.find i = some r) : messageSlot s = r.slot := by
  unfold messageSlot recordOnAir
  rw [hpresent, hairing, if_pos rfl, Option.bind_some, hr, Option.bind_some]

theorem messageSlot_eq_none {s : State}
    (h : s.air.present = true → ∀ i r, s.air.airing = some i → s.intake.find i = some r → r.slot = none) :
    messageSlot s = none := by
  unfold messageSlot recordOnAir
  split
  · next hpresent =>
    cases hairing : s.air.airing with
    | none => rfl
    | some i =>
      rw [Option.bind_some]
      cases hr : s.intake.find i with
      | none => rfl
      | some r => exact h hpresent i r hairing hr
  · rfl

/-- A release of a reader's hold, in full. -/
theorem ClipStore.release_some {c : ClipStore} {r : Reader} {n : Fin 32} (h : c.holds.get r = some n) :
    c.release r = { c with
      slots := c.slots.set n { c.slots.get n with useCount := (c.slots.get n).useCount - 1 }
      holds := c.holds.set r none } := by
  unfold ClipStore.release
  rw [h]
  rfl

/-- Settles O44: the end of each phase of an airing. -/
theorem airPhasesEnd : Obligations.AirPhasesEnd := by
  intro s a nothing
  refine ⟨fun hstate hstep => ?_, fun hstate => ?_, fun hstate hposition => ?_, fun hstate => ?_,
    fun n hstate hn halert hlength => ?_, fun hstate hposition => ?_, fun hstate => ?_⟩
  · obtain ⟨queue, impaired, -, hmiddle⟩ := airMiddle_leadIn (s := s.cleared) hstate
    have hover : leadInOver (airMiddle s.cleared) = true := by
      rw [hmiddle]
      exact (leadInOver_iff _).mpr ⟨hstate, hstep⟩
    have hexec := exec_leadInEnd s
    rw [if_pos hover] at hexec
    refine ⟨_, hexec, rfl, ?_⟩
    rw [airWork_leadInOver hmiddle (hmiddle ▸ hover)]
    obtain ⟨hhold, hfirst⟩ := holdRequest_holds (((({ s.cleared.aired queue impaired with air :=
      { (s.cleared.aired queue impaired).air with
        step := s.air.step + 1, position := s.air.position + 1
        lastAir := crossfade (1024 * (s.air.step + 1 : Nat)) s.programme s.attention, onAirFlag := true } } : State).modAir
          fun a => { a with state := .attention })))
    refine ⟨?_, ?_, hhold, hfirst, ?_⟩
    all_goals
      rw [holdRequest_frame]
      rfl
  · exact (exec_leadInEnd s).trans (congrArg Host.Outcome.next (if_neg fun h => hstate (leadIn_of_over (s := s.cleared) h)))
  · obtain ⟨queue, impaired, himpairs, hmiddle⟩ := airMiddle_attention (s := s.cleared) hstate
    have hover : attentionOver (airMiddle s.cleared) = true := by
      rw [hmiddle]
      exact (attentionOver_iff _).mpr ⟨hstate, hposition⟩
    have hexec := exec_attentionEnd s
    rw [if_pos hover] at hexec
    refine ⟨_, hexec, rfl, ?_⟩
    rw [airWork_attentionOver rfl hover]
    have hlast : (airMiddle s.cleared).air.lastAir = s.attention := by
      rw [hmiddle]
      rfl
    have hslot := messageSlot_impaired (v := (airMiddle s.cleared).modClips fun c => c.release airReader) himpairs
      (by rw [hmiddle]; rfl) (by rw [hmiddle]; rfl) (by rw [hmiddle]; rfl)
    cases hm : messageSlot s.cleared with
    | some n =>
      rw [enterMessage_slot (hslot.trans hm)]
      refine ⟨rfl, hlast, fun i r k hpresent hairing hr hk => ⟨rfl, ?_⟩, fun hno => ?_⟩
      · have hkn := (messageSlot_some (s := s.cleared) hpresent hairing hr).symm.trans hm
        rw [hk] at hkn
        rw [hkn]
        exact (ClipStore.hold_holds ..).trans (if_pos rfl)
      · exact absurd ((messageSlot_eq_none (s := s.cleared) hno).symm.trans hm) nofun
    | none =>
      rw [enterMessage_none (hslot.trans hm)]
      refine ⟨rfl, hlast, fun i r k hpresent hairing hr hk => ?_, fun _ => ⟨rfl, ?_⟩⟩
      · have hkn := (messageSlot_some (s := s.cleared) hpresent hairing hr).symm.trans hm
        rw [hk] at hkn
        cases hkn
      · exact (ClipStore.release_holds ..).trans (if_pos rfl)
  · exact (exec_attentionEnd s).trans (congrArg Host.Outcome.next (if_neg fun h => hstate (attention_of_over (s := s.cleared) h)))
  · have hended : messageEnded s.cleared = true := by
      rw [messageEnded_iff (s := s.cleared) hstate, show s.cleared.clips.holds.get airReader = some n from hn]
      dsimp only
      rw [Bool.and_eq_true, decide_eq_true_eq, decide_eq_true_eq]
      exact ⟨halert, hlength⟩
    obtain ⟨queue, impaired, -, hmiddle⟩ := airMiddle_closing (s := s.cleared.messageOver) rfl
    have hsame : airMiddle s.cleared = airMiddle s.cleared.messageOver := by
      rw [airMiddle_eq, airMiddle_eq, airStart_messageOver hended,
        airStart_busy (s := s.cleared.messageOver) (.tail _ (.tail _ (.head _)))]
    have hwork := airWork_goes (hsame.trans hmiddle) (x := .closing) rfl
      (show 0 + 1 < 1000 by decide)
    refine ⟨_, exec_airFrame s, ?_⟩
    rw [hwork]
    exact ⟨rfl, rfl, rfl, rfl, rfl, rfl, ClipStore.release_some hn⟩
  · obtain ⟨queue, impaired, -, hmiddle⟩ := airMiddle_closing (s := s.cleared) hstate
    have hover : closingOver (airMiddle s.cleared) = true := by
      rw [hmiddle]
      exact (closingOver_iff _).mpr ⟨hstate, hposition⟩
    have hexec := exec_closingEnd s
    rw [if_pos hover] at hexec
    refine ⟨_, hexec, rfl, ?_⟩
    rw [airWork_closingOver hmiddle (hmiddle ▸ hover)]
    unfold enterLeadOut
    refine ⟨?_, ?_, ?_, ?_, fun hfree => ?_, fun hheld => ?_⟩
    · rw [releaseRequest_frame]
      rfl
    · rw [releaseRequest_frame]
      rfl
    · exact releaseRequest_hold _
    · rw [releaseRequest_frame]
      rfl
    · rw [releaseRequest_free]
      · exact ⟨rfl, rfl⟩
      · exact hfree
    · exact releaseRequest_releases hheld
  · exact (exec_closingEnd s).trans (congrArg Host.Outcome.next (if_neg fun h => hstate (closing_of_over (s := s.cleared) h)))

end Sys2Proof.Machine

/-!
PROOF. The completion of an airing (R158) and the selection at the start of an air frame (R149, R151).
-/

namespace Sys2Proof.Machine

/-! ### The messages of an abort (R189) -/

theorem queueMessage_length (kind : MessageKind) (body : List Byte) (s : State) :
    (queueMessage kind body s).1.link.queue.length ≤ s.link.queue.length + 1 := by
  by_cases h : s.link.queue.length < 8
  · rw [queueMessage_room _ _ _ h]
    exact Nat.le_of_eq (List.length_append ..)
  · rw [queueMessage_full kind body s (Nat.not_lt.mp h), latch_link]
    exact Nat.le_succ _

theorem endNegotiation_length (e : Ending) (cause : Nat) (s : State) :
    (endNegotiation e cause s).link.queue.length ≤ s.link.queue.length + 1 := by
  have hleft (u : State) (hu : u.link.queue = s.link.queue) :
      (queueCancel e (u.modLink LinkUnit.leavePhase)).1.link.queue.length ≤ s.link.queue.length + 1 := by
    have hfilter : (u.modLink LinkUnit.leavePhase).link.queue.length ≤ s.link.queue.length := by
      rw [← hu]
      exact List.length_filter_le ..
    cases e with
    | refused => exact Nat.le_succ_of_le hfilter
    | aborted => exact Nat.le_trans (queueMessage_length ..) (Nat.succ_le_succ hfilter)
  unfold endNegotiation
  dsimp only
  rw [latch_link, State.modLink_link, LinkUnit.markLate_fields]
  refine hleft _ ?_
  split <;> rfl

theorem wakeOrAbort_length (cause : Nat) (s : State) :
    (wakeOrAbort cause s).link.queue.length ≤ s.link.queue.length + 1 := by
  cases h : s.link.mode with
  | asleep =>
    unfold wakeOrAbort
    rw [h]
    exact Nat.le_succ _
  | sleepPending =>
    unfold wakeOrAbort
    rw [h]
    exact endNegotiation_length ..
  | run | waking | cut =>
    rw [wakeOrAbort_awake _ _ (by rw [h]; decide)]
    exact Nat.le_succ _

/-! ### The selection at the start of an air frame (R149, R151) -/

/-- A mark on a record leaves its note. -/
theorem marked_find (s : State) (i j : Identity) (r : AlertRecord) (h : s.intake.find j = some r) :
    ∃ q, (s.marked i).intake.find j = some q ∧ alertNoteBody q = alertNoteBody r := by
  have hidentity (r : AlertRecord) : (if r.identity = i then { r with onAir := true } else r).identity = r.identity := by
    split <;> rfl
  refine ⟨if r.identity = i then { r with onAir := true } else r, ?_, ?_⟩
  · show (s.intake.queue.map fun r => if r.identity = i then { r with onAir := true } else r).find?
      (fun r => r.identity = j) = _
    rw [List.find?_map]
    simp only [Function.comp_def, hidentity]
    exact congrArg _ h
  · split <;> rfl

/-- The state that commits a record due, its deadline counted. -/
def State.overdue (r : AlertRecord) (s : State) : State :=
  s.modAir fun a => { a with counters := { a.counters with
    deadline := min (a.counters.deadline + if r.airMode = .nextBreak then 1 else 0) 65535 } }

/-- Only the counters of the air stage change. -/
theorem overdue_counts (s : State) (r : AlertRecord) :
    ∃ c : AirCounters, s.overdue r = s.modAir (fun a => { a with counters := c }) ∧
      c.deadline = min (s.air.counters.deadline + if r.airMode = .nextBreak then 1 else 0) 65535 := ⟨_, rfl, rfl⟩

section
variable {s : State} {r : AlertRecord}

theorem airStart_due (hstate : s.air.state ∈ [AirState.idle, .waitBreak]) (hr : chosenRecord s = some r)
    (hdue : recordDue (adoptAir s) r = true) :
    airStart s = checkMessage (checkLink (commit r.identity ((adoptAir s).overdue r))) := by
  unfold airStart
  rw [select_due (s := adoptAir s) hstate hr hdue]
  rfl

theorem airStart_commits (hstate : s.air.state ∈ [AirState.idle, .waitBreak]) (hr : chosenRecord s = some r)
    (hdue : recordDue (adoptAir s) r = true) (hmode : s.link.mode.awake = true) :
    airStart s = enterLeadIn (((adoptAir s).overdue r).marked r.identity) := by
  have hlead := enterLeadIn_state (((adoptAir s).overdue r).marked r.identity)
  rw [airStart_due hstate hr hdue, commit_awake (s := (adoptAir s).overdue r) hmode,
    checkLink_busy (by rw [hlead]; nofun), checkMessage_other (by rw [hlead]; nofun)]

/-- The record marked, and the stage waiting for the link. -/
def State.awaitsLink (r : AlertRecord) (s : State) : State :=
  (((adoptAir s).overdue r).marked r.identity).modAir fun a => { a with state := .waitLink }

theorem wakeOrAbort_waits (s : State) (r : AlertRecord) : (wakeOrAbort 4 (s.awaitsLink r)).air.state = .waitLink := by
  rw [wakeOrAbort_frame]
  rfl

theorem airStart_aborts (hstate : s.air.state ∈ [AirState.idle, .waitBreak]) (hr : chosenRecord s = some r)
    (hdue : recordDue (adoptAir s) r = true) (hmode : s.link.mode = .sleepPending) :
    airStart s = enterLeadIn (wakeOrAbort 4 (s.awaitsLink r)) := by
  have hmode' : ((adoptAir s).overdue r).link.mode = .sleepPending := hmode
  have hrun : (wakeOrAbort 4 (s.awaitsLink r)).link.mode = .run := by
    rw [wakeOrAbort_mode, show (s.awaitsLink r).link.mode = .sleepPending from hmode]
  have hlead := enterLeadIn_state (wakeOrAbort 4 (s.awaitsLink r))
  rw [airStart_due hstate hr hdue, commit_asleep (by rw [hmode']; rfl)]
  show checkMessage (checkLink (wakeOrAbort 4 (s.awaitsLink r))) = _
  rw [checkLink_enters (wakeOrAbort_waits s r) (.inl hrun), checkMessage_other (by rw [hlead]; nofun)]

theorem airStart_wakes (hstate : s.air.state ∈ [AirState.idle, .waitBreak]) (hr : chosenRecord s = some r)
    (hdue : recordDue (adoptAir s) r = true) (hmode : s.link.mode = .asleep) :
    airStart s = wakeOrAbort 4 (s.awaitsLink r) := by
  have hmode' : ((adoptAir s).overdue r).link.mode = .asleep := hmode
  have hwaking : (wakeOrAbort 4 (s.awaitsLink r)).link.mode = .waking := by
    rw [wakeOrAbort_mode, show (s.awaitsLink r).link.mode = .asleep from hmode]
  have hcheck : checkLink (wakeOrAbort 4 (s.awaitsLink r)) = wakeOrAbort 4 (s.awaitsLink r) := by
    unfold checkLink
    rw [if_neg]
    rw [hwaking, Bool.and_eq_true]
    exact fun h => absurd h.2 (by decide)
  rw [airStart_due hstate hr hdue, commit_asleep (by rw [hmode']; rfl)]
  show checkMessage (checkLink (wakeOrAbort 4 (s.awaitsLink r))) = _
  rw [hcheck, checkMessage_other (by rw [wakeOrAbort_waits s r]; nofun)]

/-- A record committed at the start of a frame, all but the air state, the wait set and the link. -/
structure State.MarksFor (s : State) (r : AlertRecord) (w : State) : Prop where
  clips : w.clips = s.clips
  mix : w.mix = s.mix
  delay : w.delay = s.delay
  intake : w.intake = (s.marked r.identity).intake
  slot : w.air.attentionSlot = s.slotSetting Setting.attentionSlot
  length : w.air.attentionLength = s.setting Setting.attentionLength
  bypass : w.air.bypass = s.air.bypass
  airing : w.air.airing = some r.identity
  present : w.air.present = true
  cleared : w.air.impaired = false ∧ w.air.underruns = 0 ∧ w.air.messageFrames = 0
  counters : w.air.counters.deadline =
    min (s.air.counters.deadline + if r.airMode = .nextBreak then 1 else 0) 65535

theorem marksFor_awake (s : State) (r : AlertRecord) :
    s.MarksFor r (((adoptAir s.cleared).overdue r).marked r.identity) := by
  obtain ⟨c, hc, hdeadline⟩ := overdue_counts (adoptAir s.cleared) r
  rw [hc]
  refine ⟨?_, ?_, ?_, rfl, rfl, rfl, rfl, rfl, rfl, ⟨rfl, rfl, rfl⟩, hdeadline⟩
  all_goals simp only [State.marked, adoptAir, State.modAir, State.modIntake, State.cleared]

theorem marksFor_asleep (s : State) (r : AlertRecord) : s.MarksFor r (wakeOrAbort 4 (s.cleared.awaitsLink r)) := by
  obtain ⟨c, hc, hdeadline⟩ := overdue_counts (adoptAir s.cleared) r
  unfold State.awaitsLink
  rw [wakeOrAbort_frame, hc]
  refine ⟨?_, ?_, ?_, rfl, rfl, rfl, rfl, rfl, rfl, ⟨rfl, rfl, rfl⟩, hdeadline⟩
  all_goals simp only [State.marked, adoptAir, State.modAir, State.modIntake, State.cleared]

theorem State.MarksFor.programme {w : State} (h : s.MarksFor r w) : w.programme = s.programme := by
  unfold State.programme
  rw [h.mix, h.delay, h.bypass]

/-- LEAD_IN entered at the start of an air frame for a record committed there. -/
theorem commits_of_enters {w : State} (hstart : airStart s.cleared = enterLeadIn w) (hw : s.MarksFor r w)
    (hqueue : s.link.queue.length < 7 → w.link.queue.length < 8)
    (hmode : w.link.mode = if s.link.mode = .sleepPending then .run else s.link.mode) (hawake : s.link.mode ≠ .asleep) :
    s.Commits r (airWork s.cleared) ∧ (airWork s.cleared).air.counters.deadline =
      min (s.air.counters.deadline + if r.airMode = .nextBreak then 1 else 0) 65535 := by
  obtain ⟨hbegins, hframe, hair⟩ := beginsLeadIn (s := s) hstart hw.clips hw.programme hw.slot hw.length hqueue
    fun i q hq => by
      rw [hw.intake]
      exact marked_find _ _ _ _ hq
  have henters := enterLeadIn_enters w
  refine ⟨⟨?_, ?_, ?_, ?_, fun _ => ⟨hbegins, ?_⟩, fun h => absurd h hawake⟩, ?_⟩
  · rw [hair, henters.air]
    exact hw.airing
  · rw [hair, henters.air]
    exact hw.present
  · rw [hair, henters.air]
    exact hw.cleared
  · rw [hframe]
    show (enterLeadIn w).intake.queue = _
    rw [henters.frame]
    exact congrArg AlertIntake.queue hw.intake
  · rw [hframe]
    exact henters.mode.trans hmode
  · rw [hair, henters.air]
    exact hw.counters

/-- A record committed at the start of an air frame, with the deadline counted. -/
theorem airWork_commits (hstate : s.air.state ∈ [AirState.idle, .waitBreak]) (hr : chosenRecord s = some r)
    (hdue : recordDue (adoptAir s) r = true) :
    s.Commits r (airWork s.cleared) ∧ (airWork s.cleared).air.counters.deadline =
      min (s.air.counters.deadline + if r.airMode = .nextBreak then 1 else 0) 65535 := by
  cases hmode : s.link.mode with
  | asleep =>
    have hwork := airWork_passes (airStart_wakes (s := s.cleared) hstate hr hdue hmode)
      (by rw [wakeOrAbort_waits]; decide)
    have hlink : (wakeOrAbort 4 (s.cleared.awaitsLink r)).link.mode = .waking := by
      rw [wakeOrAbort_mode, show (s.cleared.awaitsLink r).link.mode = .asleep from hmode]
    have hwaits := wakeOrAbort_waits s.cleared r
    have hmarks := marksFor_asleep s r
    rw [hwork]
    exact ⟨⟨hmarks.airing, hmarks.present, hmarks.cleared, congrArg AlertIntake.queue hmarks.intake,
      fun h => absurd hmode h, fun _ => ⟨hwaits, hlink, hmarks.programme, rfl⟩⟩, hmarks.counters⟩
  | sleepPending =>
    have hlink : (wakeOrAbort 4 (s.cleared.awaitsLink r)).link.mode = .run := by
      rw [wakeOrAbort_mode, show (s.cleared.awaitsLink r).link.mode = .sleepPending from hmode]
    refine commits_of_enters (airStart_aborts (s := s.cleared) hstate hr hdue hmode) (marksFor_asleep s r)
      (fun h => Nat.lt_of_le_of_lt (wakeOrAbort_length ..) (Nat.succ_lt_succ h)) ?_ (by rw [hmode]; nofun)
    rw [hlink, if_pos hmode]
  | run | waking | cut =>
    have hawake : s.cleared.link.mode.awake = true := by
      show s.link.mode.awake = true
      rw [hmode]
      rfl
    refine commits_of_enters (airStart_commits (s := s.cleared) hstate hr hdue hawake) (marksFor_awake s r)
      (fun h => Nat.lt_succ_of_lt h) ?_ (by rw [hmode]; nofun)
    rw [if_neg (by rw [hmode]; nofun)]
    rfl

end

/-! ### The completion (R158) -/

theorem settleRecord_frame (s : State) :
    settleRecord s = { s with
      clips := (settleRecord s).clips, intake := (settleRecord s).intake
      air := { s.air with
        waitSet := (settleRecord s).air.waitSet
        counters := { s.air.counters with reAir := (settleRecord s).air.counters.reAir } } } := by
  unfold settleRecord
  split
  · dsimp only
    split
    · rfl
    · conv_lhs => rw [removeRecord_frame]
      rw [removeRecord_frame]
      rfl
  · rfl

theorem settleRecord_absent {s : State} (h : s.air.present = false) : settleRecord s = s := by
  unfold settleRecord
  rw [h]

/-- The record on air settled, where it is in the queue: kept for a re-air, or out of the queue. -/
theorem settleRecord_present {s : State} {i : Identity} (hpresent : s.air.present = true)
    (hairing : s.air.airing = some i) :
    settleRecord s =
      if reAirWanted s then scheduleReAir i (s.modIntake fun q => q.modRecord i fun r => { r with onAir := false })
      else removeRecord i (s.modIntake fun q => q.modRecord i fun r => { r with onAir := false }) := by
  unfold settleRecord
  rw [hpresent, hairing]

theorem reAirWanted_iff {s : State} {i : Identity} {r : AlertRecord} (hpresent : s.air.present = true)
    (hairing : s.air.airing = some i) (hr : s.intake.find i = some r) :
    reAirWanted s = true ↔ s.air.impaired = true ∧ 0 < r.remaining ∧ r.flag flagReAirDone = false := by
  unfold reAirWanted recordOnAir
  rw [if_pos hpresent, hairing, Option.bind_some, hr]
  dsimp only
  rw [Bool.and_eq_true, Bool.and_eq_true, decide_eq_true_eq, Bool.not_eq_true', and_assoc]

/-- The airing counted and its notice latched, before the record is settled. -/
def State.airedOnce (s : State) : State :=
  (latch .alertAired (airedDetail s) s).modAir fun a =>
    { a with counters := { a.counters with airings := min (a.counters.airings + 1) 65535 } }

/-- The record settled and the stage back in IDLE, before the selection. -/
def State.settled (s : State) : State :=
  (settleRecord s.airedOnce).modAir fun a => { a with state := .idle, airing := none, present := false }

theorem completeAiring_eq (s : State) : completeAiring s = select s.settled := rfl

theorem airedOnce_air (s : State) : s.airedOnce.air =
    { s.air with counters := { s.air.counters with airings := min (s.air.counters.airings + 1) 65535 } } := by
  unfold State.airedOnce
  rw [State.modAir_air, latch_air]

theorem airedOnce_intake (s : State) : s.airedOnce.intake = s.intake := by
  unfold State.airedOnce
  rw [State.modAir_intake, latch_intake]

theorem airedOnce_link (s : State) : s.airedOnce.link = s.link := by
  unfold State.airedOnce
  rw [State.modAir_link, latch_link]

/-- What a completion leaves, whatever the record. -/
theorem completeAiring_leaves (s : State) :
    ((completeAiring s).notices.latches.get 16).isSome ∧
      (completeAiring s).air.counters.airings = min (s.air.counters.airings + 1) 65535 ∧
      (completeAiring s).air.lastAir = s.air.lastAir ∧ (completeAiring s).air.state ≠ .leadOut ∧
      (completeAiring s).air.counters.reAir = (settleRecord s.airedOnce).air.counters.reAir ∧
      (completeAiring s).intake.identities = (settleRecord s.airedOnce).intake.identities ∧
      (s.link.mode ≠ .sleepPending → (completeAiring s).air.waitSet = (settleRecord s.airedOnce).air.waitSet) := by
  have hsettled := settleRecord_frame s.airedOnce
  have hselects := select_selects s.settled
  have hcounters : (settleRecord s.airedOnce).air.counters =
      { s.airedOnce.air.counters with reAir := (settleRecord s.airedOnce).air.counters.reAir } := by
    conv_lhs => rw [hsettled]
  have hlast : (settleRecord s.airedOnce).air.lastAir = s.airedOnce.air.lastAir := by
    rw [hsettled]
  have hnotices : (settleRecord s.airedOnce).notices = s.airedOnce.notices := by
    rw [hsettled]
  have hlink : (settleRecord s.airedOnce).link = s.airedOnce.link := by
    rw [hsettled]
  rw [completeAiring_eq]
  refine ⟨?_, ?_, ?_, ?_, ?_, ?_, fun hmode => ?_⟩
  · rw [hselects.latches.stands (k := 16) (by decide)]
    show ((settleRecord s.airedOnce).notices.latches.get 16).isSome = true
    rw [hnotices]
    show ((latch .alertAired (airedDetail s) s).notices.latches.get 16).isSome = true
    rw [latch_get, if_pos (show (16 : Fin 25) = NoticeKind.alertAired.index from rfl)]
    rfl
  · rw [hselects.counters]
    show (settleRecord s.airedOnce).air.counters.airings = _
    rw [hcounters, airedOnce_air]
  · rw [select_lastAir]
    show (settleRecord s.airedOnce).air.lastAir = _
    rw [hlast, airedOnce_air]
  · rcases select_begins s.settled with h | h
    · rw [h]
      nofun
    · intro hstate
      rcases h with h | ⟨h, -⟩ | ⟨h, -⟩
      all_goals
        rw [hstate] at h
        exact absurd h (by decide)
  · rw [hselects.counters]
    rfl
  · exact hselects.identities
  · rw [hselects.waitSet]
    · rfl
    · show (settleRecord s.airedOnce).link.mode ≠ _
      rw [hlink, airedOnce_link]
      exact hmode

/-- What a completion does with the record on air. -/
theorem completeAiring_settles {s : State} {i : Identity} {r : AlertRecord} (hpresent : s.air.present = true)
    (hairing : s.air.airing = some i) (hr : s.intake.find i = some r) :
    let again := s.air.impaired = true ∧ 0 < r.remaining ∧ r.flag flagReAirDone = false
    (again → (completeAiring s).intake.identities = s.intake.identities ∧
      (completeAiring s).air.counters.reAir = min (s.air.counters.reAir + 1) 65535 ∧
      (s.link.mode ≠ .sleepPending → s.link.mode ≠ .run → i ∈ (completeAiring s).air.waitSet)) ∧
    (¬again → (completeAiring s).intake.identities = s.intake.identities.filter (· ≠ i)) := by
  intro again
  have hair := airedOnce_air s
  have hintake := airedOnce_intake s
  have hpresent' : s.airedOnce.air.present = true := by
    rw [hair]
    exact hpresent
  have hairing' : s.airedOnce.air.airing = some i := by
    rw [hair]
    exact hairing
  have hwanted : reAirWanted s.airedOnce = true ↔ again := by
    rw [reAirWanted_iff hpresent' hairing' (by rw [hintake]; exact hr), hair]
  have hsettle := settleRecord_present hpresent' hairing'
  obtain ⟨-, -, -, -, hreAir, hidentities, hwaitSet⟩ := completeAiring_leaves s
  have hmarks (f : AlertRecord → AlertRecord) (hf : ∀ r, (f r).identity = r.identity) (a : AlertIntake) :=
    a.modRecord_identities i f hf
  refine ⟨fun hagain => ?_, fun hno => ?_⟩
  · rw [if_pos (hwanted.mpr hagain)] at hsettle
    rw [hsettle] at hreAir hidentities hwaitSet
    refine ⟨?_, ?_, fun hpending hrun => ?_⟩
    · rw [hidentities, ← hintake]
      exact (hmarks _ (fun r => r.setFlag_identity _) _).trans (hmarks (fun r => { r with onAir := false }) (fun _ => rfl) _)
    · rw [hreAir]
      show min (s.airedOnce.air.counters.reAir + 1) 65535 = _
      rw [hair]
    · rw [hwaitSet hpending]
      show i ∈ (if s.airedOnce.link.mode = .run then s.airedOnce.air.waitSet
        else s.airedOnce.air.waitSet.filter (· ≠ i) ++ [i])
      rw [airedOnce_link, if_neg hrun]
      exact List.mem_append_right _ (List.mem_singleton.mpr rfl)
  · rw [if_neg (mt hwanted.mp hno)] at hsettle
    rw [hidentities, hsettle, removeRecord_identities, ← hintake]
    exact congrArg _ (hmarks (fun r => { r with onAir := false }) (fun _ => rfl) _)

theorem exec_breakDeadlineReached (s : State) : exec .breakDeadlineReached s =
    .next (if deadlineReached s.cleared = true then airWork s.cleared else s.cleared) := rfl

theorem deadlineReached_iff {s : State} {r : AlertRecord} (hr : chosenRecord s = some r) :
    deadlineReached s = true ↔ s.air.state = .waitBreak ∧ r.airMode = .nextBreak ∧
      s.setting Setting.breakDeadline ≤ (s.frameCount - r.stamp).toNat := by
  have hr' : chosenRecord (adoptAir s) = some r := hr
  unfold deadlineReached
  dsimp only
  rw [hr', Bool.and_eq_true, decide_eq_true_eq]
  unfold dueByAge
  rw [Bool.and_eq_true, decide_eq_true_eq, decide_eq_true_eq]
  rfl

/-- Settles O45: the completion of an airing, and the selection at the start of an air frame. -/
theorem airingCompletesAndDeadline : Obligations.AiringCompletesAndDeadline := by
  intro s a nothing
  refine ⟨fun hstate hstep => ?_, fun hstate => ?_, fun hstate => ⟨_, exec_airFrame s, ?_⟩, fun hstate => ?_⟩
  · have hmiddle := airMiddle_leadOut (s := s.cleared) hstate
    have hover : leadOutOver (airMiddle s.cleared) = true := by
      rw [hmiddle]
      exact (leadOutOver_iff _).mpr ⟨hstate, hstep⟩
    have hexec := exec_completion s
    rw [if_pos hover] at hexec
    refine ⟨_, hexec, rfl, ?_⟩
    rw [airWork_leadOutOver rfl hover]
    have hair : (airMiddle s.cleared).air = { (adoptAir s.cleared).air with
        step := s.air.step + 1
        lastAir := crossfade (16384 - 1024 * (s.air.step + 1 : Nat)) s.programme toneFrame, onAirFlag := true } := by
      rw [hmiddle]
      rfl
    have hintake : (airMiddle s.cleared).intake = s.intake := by
      rw [hmiddle]
      rfl
    have hlink : (airMiddle s.cleared).link = s.link := by
      rw [hmiddle]
      rfl
    generalize airMiddle s.cleared = m at hair hintake hlink
    obtain ⟨hlatch, hairings, hlast, hleft, -, hidentities, -⟩ := completeAiring_leaves m
    refine ⟨hlatch, ?_, ?_, hleft, fun habsent => ?_, fun i r hpresent hairing hr => ?_⟩
    · rw [hairings, hair]
      rfl
    · rw [hlast, hair]
      rfl
    · rw [hidentities, settleRecord_absent, airedOnce_intake, hintake]
      rw [airedOnce_air, hair]
      exact habsent
    · have hsettles := completeAiring_settles (s := m) (i := i) (r := r) (by rw [hair]; exact hpresent)
        (by rw [hair]; exact hairing) (by rw [hintake]; exact hr)
      rw [hintake, hlink, hair] at hsettles
      obtain ⟨hagain, hno⟩ := hsettles
      refine ⟨fun h => ?_, hno⟩
      obtain ⟨hsame, hcount, hwaits⟩ := hagain h
      refine ⟨hsame, hcount, fun hlinked hrun => hwaits (fun hpending => ?_) hrun⟩
      unfold State.airLinked at hlinked
      rw [show s.air.state = .leadOut from hstate, hpending] at hlinked
      cases hlinked
  · exact (exec_completion s).trans (congrArg Host.Outcome.next (if_neg fun h => hstate (leadOut_of_over (s := s.cleared) h)))
  · have hmem : s.air.state ∈ [AirState.idle, .waitBreak] := by
      rcases hstate with h | h
      · exact h ▸ .head _
      · exact h ▸ .tail _ (.head _)
    intro passes
    refine ⟨fun hnone => ?_, fun r hr => ?_⟩
    · have hwork := airWork_passes (airStart_idle (s := s.cleared) hmem hnone) (.head _)
      show _ ∧ _
      rw [hwork]
      exact ⟨rfl, rfl, rfl, rfl, rfl, rfl, rfl⟩
    intro late
    refine ⟨fun hdue => airWork_commits hmem hr ((recordDue_adopted s r).mpr hdue), fun hwaits hlate => ?_,
      fun himmediate hlate => ?_⟩
    · have hreached : deadlineReached s.cleared = true := (deadlineReached_iff (s := s.cleared) hr).mpr ⟨hwaits, hlate⟩
      rw [exec_breakDeadlineReached, if_pos hreached]
    · have hdue : recordDue (adoptAir s.cleared) r = false := by
        rw [← Bool.not_eq_true, recordDue_adopted s.cleared r]
        exact fun h => h.elim himmediate hlate
      have hwork := airWork_passes (airStart_waits (s := s.cleared) hmem hr hdue) (.tail _ (.head _))
      show _ ∧ _
      rw [hwork]
      exact ⟨rfl, rfl, rfl, rfl, rfl, rfl, rfl⟩
  · rw [exec_breakDeadlineReached, if_neg]
    · rfl
    · unfold deadlineReached
      dsimp only
      rw [Bool.and_eq_true, decide_eq_true_eq]
      exact fun h => hstate h.1

end Sys2Proof.Machine

/-!
PROOF. A corrupt return and a frame of another type (R168, R172 to R174, R189).
-/

namespace Sys2Proof.Machine

/-! ### Several notices in turn -/

/-- The notices latched one after the other. -/
def State.tell (notices : List (NoticeKind × List Word)) (s : State) : State :=
  notices.foldl (fun x p => latch p.1 p.2 x) s

theorem latch_tell (kind : NoticeKind) (detail : List Word) (notices : List (NoticeKind × List Word)) (s : State) :
    latch kind detail (s.tell notices) = s.tell (notices ++ [(kind, detail)]) := by
  unfold State.tell
  rw [List.foldl_append]
  rfl

theorem State.tell_link (notices : List (NoticeKind × List Word)) (s : State) : (s.tell notices).link = s.link := by
  unfold State.tell
  induction notices generalizing s with
  | nil => rfl
  | cons p rest ih => rw [List.foldl_cons, ih, latch_link]

theorem State.tell_modLink (notices : List (NoticeKind × List Word)) (s : State) (f : LinkUnit → LinkUnit) :
    (s.tell notices).modLink f = (s.modLink f).tell notices := by
  unfold State.tell
  induction notices generalizing s with
  | nil => rfl
  | cons p rest ih => rw [List.foldl_cons, ih, latch_modLink, List.foldl_cons]

/-! ### The counts (R168, R172, R180) -/

/-- The link unit once a corrupt return is counted (R168). -/
def LinkUnit.corrupted (l : LinkUnit) : LinkUnit :=
  { l with
    counters := { l.counters with corrupt := min (l.counters.corrupt + 1) 65535 }
    climb := l.climb || l.counters.corrupt = 32767 }

/-- The notice of the climb of the corrupt return counter. -/
def LinkUnit.climbNotice (l : LinkUnit) : List (NoticeKind × List Word) :=
  if l.counters.corrupt = 32767 ∧ l.climb = false then [(.returnCorruptHalf, [])] else []

/-- The link unit once RFC has risen with the fault of a corrupt return. -/
def LinkUnit.faulted (l : LinkUnit) : LinkUnit :=
  { l.corrupted with
    rfc := l.rfc + 1
    faultsSince := min (l.faultsSince + 1) 65535
    capture := some (l.capture.getD ⟨.corruptReturn, l.lastSeq.toNat, l.mode, l.sfc, l.rfc + 1⟩) }

theorem climbs_iff (c : Nat) (climb : Bool) :
    (decide (c < 32768) && decide (32768 ≤ min (c + 1) 65535) && !climb) = true ↔ c = 32767 ∧ climb = false := by
  rw [Bool.and_eq_true, Bool.and_eq_true, decide_eq_true_eq, decide_eq_true_eq, Bool.not_eq_true']
  exact ⟨fun ⟨⟨hlow, hhigh⟩, hclimb⟩ => ⟨by omega, hclimb⟩, fun ⟨hc, hclimb⟩ => ⟨⟨by omega, by omega⟩, hclimb⟩⟩

theorem countCorrupt_eq (s : State) :
    countCorrupt s = { s with link := s.link.corrupted }.tell s.link.climbNotice := by
  have hclimbs := climbs_iff s.link.counters.corrupt s.link.climb
  unfold countCorrupt LinkUnit.climbNotice
  dsimp only
  by_cases h : s.link.counters.corrupt = 32767 ∧ s.link.climb = false
  · rw [if_pos h]
    refine (if_pos (hclimbs.mpr h)).trans ?_
    have hlink : s.link.corrupted = { s.link with
        counters := { s.link.counters with corrupt := min (s.link.counters.corrupt + 1) 65535 }, climb := true } := by
      unfold LinkUnit.corrupted
      rw [decide_eq_true h.1, Bool.or_true]
    rw [hlink]
    rfl
  · rw [if_neg h]
    refine (if_neg (mt hclimbs.mp h)).trans ?_
    have hclimb : (s.link.climb || decide (s.link.counters.corrupt = 32767)) = s.link.climb := by
      cases hc : s.link.climb with
      | true => rfl
      | false => rw [decide_eq_false fun he => h ⟨he, hc⟩, Bool.or_false]
    have hlink : s.link.corrupted = { s.link with
        counters := { s.link.counters with corrupt := min (s.link.counters.corrupt + 1) 65535 } } := by
      unfold LinkUnit.corrupted
      rw [hclimb]
    rw [hlink]
    rfl

/-! ### The level and the cut (R173, R174, R189) -/

/-- The words of LINK_LEVEL. -/
def LinkUnit.levelWords (l : LinkUnit) (new : Level) : List Word :=
  [(l.level.map fun x => Word.nat x.code).getD Word.none, Word.nat new.code, Word.nat l.sfc, Word.nat l.rfc]

theorem levelWords_eq (l : LinkUnit) (new : Level) :
    [Word.option (l.level.map Level.code), Word.nat new.code, Word.nat l.sfc, Word.nat l.rfc] = l.levelWords new := by
  unfold LinkUnit.levelWords
  cases l.level with
  | none => rw [Option.map_none, Option.map_none, Word.option_none]; rfl
  | some x => rw [Option.map_some, Option.map_some, Word.option_some]; rfl

/-- The level of a link unit's own counts. -/
def LinkUnit.worked (l : LinkUnit) : Level := levelOf l.warningLimit l.sfc l.rfc

theorem workLevel_same {s : State} (h : s.link.mode.audio = false ∨ s.link.level = some s.link.worked) :
    workLevel s = s := by
  unfold workLevel
  refine if_neg ?_
  rw [Bool.and_eq_true, decide_eq_true_eq]
  rintro ⟨haudio, hlevel⟩
  rcases h with h | h
  · rw [h] at haudio
    cases haudio
  · exact hlevel h

theorem workLevel_changes {s : State} (haudio : s.link.mode.audio = true) (h : s.link.level ≠ some s.link.worked) :
    workLevel s = latch .linkLevel (s.link.levelWords s.link.worked)
      (s.modLink fun l => { l with level := some s.link.worked }) := by
  rw [← levelWords_eq]
  unfold workLevel
  refine if_pos ?_
  rw [Bool.and_eq_true, decide_eq_true_eq]
  exact ⟨haudio, h⟩

theorem levelOf_eq (w sfc rfc : Nat) :
    levelOf w sfc rfc = if 127 < sfc ∨ 127 < rfc then .degraded else if w ≤ sfc ∨ w ≤ rfc then .warning else .clear := by
  unfold levelOf
  simp only [Bool.or_eq_true, decide_eq_true_eq]

/-- The link unit in CUT. -/
def LinkUnit.severed (l : LinkUnit) : LinkUnit :=
  { l with
    mode := .cut
    level := none
    sfc := 127
    rfc := 0
    gapTimer := 0
    cutDuration := 0
    cutProbeFailures := 0
    probeTimer := 0
    counters := { l.counters with cut := min (l.counters.cut + 1) 65535 } }

/-- The words of LINK_CUT. -/
def LinkUnit.cutWords (l : LinkUnit) (cause : Nat) : List Word :=
  [Word.nat cause, Word.nat l.mode.code, Word.nat l.lastSeq.toNat]

theorem enterCut_eq (cause : Nat) {s : State} (h : s.link.mode ≠ .sleepPending) :
    enterCut cause s = latch .linkCut (s.link.cutWords cause) (s.modLink LinkUnit.severed) := by
  unfold enterCut
  exact if_neg h

theorem enterCut_pending (cause : Nat) {s : State} (h : s.link.mode = .sleepPending) :
    enterCut cause s =
      endNegotiation .aborted 5 (latch .linkCut (s.link.cutWords cause) (s.modLink LinkUnit.severed)) := by
  unfold enterCut
  exact if_pos h

/-- The messages that wait once the negotiation's request has left them. -/
def LinkUnit.waiting (l : LinkUnit) : List Message := l.queue.filter fun m => !m.isRequest l.requestNumber

/-- The link unit after an abort that queued its SLEEP_CANCEL. -/
def LinkUnit.cancelled (l : LinkUnit) : LinkUnit :=
  { l with
    phase := .none
    queue := l.waiting ++ [⟨l.nextNumber, .sleepCancel, [l.requestNumber.getD 255]⟩]
    nextNumber := l.nextNumber + 1
    counters := { l.counters with sleepsAborted := min (l.counters.sleepsAborted + 1) 65535 } }

/-- The link unit after an abort whose SLEEP_CANCEL was dropped. -/
def LinkUnit.uncancelled (l : LinkUnit) : LinkUnit :=
  { l with
    phase := .none
    queue := l.waiting
    faultsSince := min (l.faultsSince + 1) 65535
    capture := some (l.capture.getD ⟨.messageLost, 255, l.mode, l.sfc, l.rfc⟩)
    lateNumber :=
      if ∃ f, l.inFlight = some f ∧ f.message.isRequest l.requestNumber = true then l.requestNumber else l.lateNumber
    counters := { l.counters with
      messageLost := min (l.counters.messageLost + 1) 65535
      sleepsAborted := min (l.counters.sleepsAborted + 1) 65535 } }

theorem LinkUnit.markLate_some (l : LinkUnit) (n : Byte) : l.markLate (some n) = l := by
  unfold markLate
  split
  · next h => cases h
  · rfl

theorem LinkUnit.markLate_none (l : LinkUnit) :
    l.markLate none = { l with lateNumber :=
      if ∃ f, l.inFlight = some f ∧ f.message.isRequest l.requestNumber = true then l.requestNumber else l.lateNumber } := by
  unfold markLate
  split
  · next f hf _ =>
    split
    · next h => rw [if_pos ⟨f, hf, h⟩]
    · next h =>
      rw [if_neg]
      rintro ⟨g, hg, hrequest⟩
      exact h (Option.some.inj (hf.symm.trans hg) ▸ hrequest)
  · next hno =>
    rw [if_neg]
    rintro ⟨f, hf, -⟩
    exact hno f hf rfl

theorem endNegotiation_room {s : State} (hmode : s.link.mode ≠ .sleepPending) (cause : Nat) (h : s.link.waiting.length < 8) :
    endNegotiation .aborted cause s =
      latch .sleepResult [Word.nat 2, Word.nat cause] (s.modLink LinkUnit.cancelled) := by
  unfold endNegotiation queueCancel
  dsimp only
  rw [if_neg hmode, queueMessage_room _ _ (s.modLink LinkUnit.leavePhase) h]
  dsimp only
  refine congrArg (latch _ _) ?_
  show State.modLink _ _ = _
  rw [State.modLink, State.modLink, LinkUnit.markLate_some]
  rfl

theorem endNegotiation_full {s : State} (hmode : s.link.mode ≠ .sleepPending) (cause : Nat) (h : 8 ≤ s.link.waiting.length) :
    endNegotiation .aborted cause s =
      latch .sleepResult [Word.nat 2, Word.nat cause]
        (latch .linkMessageLost [Word.nat MessageKind.sleepCancel.code, Word.nat 255, Word.nat 0]
          (s.modLink LinkUnit.uncancelled)) := by
  unfold endNegotiation queueCancel
  dsimp only
  rw [if_neg hmode, queueMessage_full _ _ (s.modLink LinkUnit.leavePhase) h]
  dsimp only
  refine congrArg (latch _ _) ?_
  rw [latch_modLink]
  refine congrArg (latch _ _) ?_
  rw [State.modLink, State.modLink, LinkUnit.markLate_none]
  rfl

/-! ### The check of a return frame (R168, R207, R210) -/

/-- The bytes of a return frame, its padding taken away. -/
theorem unpadded_return (frame : List Byte) : unpadded 16 frame = if frame.length = 46 then frame.take 16 else frame := by
  unfold unpadded
  exact if_congr (by rw [Bool.and_eq_true, decide_eq_true_eq, decide_eq_true_eq]; exact and_iff_left (by decide)) rfl rfl

theorem unpadded_head (frame : List Byte) : (unpadded 16 frame).head? = frame.head? := by
  rw [unpadded_return]
  split
  · cases frame <;> rfl
  · rfl

theorem ofByte_none {b : Byte} (h : 4 < b.toNat) : FarState.ofByte b = none := by
  unfold FarState.ofByte
  split
  case h_6 => rfl
  all_goals omega

theorem readReturn_none {lastSeq : BitVec 16} {bytes : List Byte}
    (h : bytes.length ≠ 16 ∨ bytes.drop 12 ≠ crc32Bytes (bytes.take 12) ∨ 4 < (byteAt bytes 1).toNat ∨
      (1 ≤ (byteAt bytes 2 ++ byteAt bytes 3 - lastSeq).toNat ∧
        (byteAt bytes 2 ++ byteAt bytes 3 - lastSeq).toNat ≤ 32767)) : readReturn lastSeq bytes = none := by
  unfold readReturn
  dsimp only
  cases hfar : FarState.ofByte (byteAt bytes 1) with
  | none => rfl
  | some far =>
    dsimp only
    refine if_neg ?_
    rw [Bool.and_eq_true, Bool.and_eq_true, decide_eq_true_eq, decide_eq_true_eq, Bool.not_eq_true']
    rintro ⟨⟨hlength, hcrc⟩, hafter⟩
    rcases h with h | h | h | ⟨hlow, hhigh⟩
    · exact h hlength
    · exact h hcrc
    · rw [ofByte_none h] at hfar
      cases hfar
    · rw [ofNat_beAt_two bytes 2 (by omega)] at hafter
      unfold seqAfter at hafter
      rw [decide_eq_true hlow, decide_eq_true hhigh] at hafter
      cases hafter

theorem exec_returnFrame (frame : List Byte) (s : State) :
    exec (.returnFrame frame) s = .next (returnArrives frame s.cleared) := rfl

theorem returnArrives_foreign {frame : List Byte} (h : frame.head? ≠ some 0x80) (s : State) :
    returnArrives frame s = countCorrupt s :=
  if_pos (by rw [unpadded_head]; exact h)

theorem returnArrives_corrupt {frame : List Byte} {s : State} (h : frame.head? = some 0x80)
    (hnone : readReturn s.link.lastSeq (unpadded 16 frame) = none) : returnArrives frame s = corruptReturn s := by
  unfold returnArrives
  dsimp only
  rw [if_neg (by rw [unpadded_head, h]; exact fun hno => hno rfl), hnone]

theorem counting_iff (m : LinkMode) : m.counting = true ↔ m ∈ [LinkMode.run, .sleepPending, .cut] := by
  cases m <;> simp [LinkMode.counting]

/-- A corrupt return counted, before RFC rises. -/
theorem corruptReturn_counts {s : State} (h : s.link.mode.counting = true) :
    corruptReturn s =
      if 254 ≤ s.link.rfc then enterCut 1 ({ s with link := s.link.faulted }.tell s.link.climbNotice)
      else workLevel ({ s with link := s.link.faulted }.tell s.link.climbNotice) := by
  have hcounted := countCorrupt_eq s
  have hlink : (countCorrupt s).link = s.link.corrupted := by rw [hcounted, State.tell_link]
  have hfault : takeFault .corruptReturn (countCorrupt s).link.lastSeq.toNat
      ((countCorrupt s).modLink fun l => { l with rfc := l.rfc + 1 }) =
      { s with link := s.link.faulted }.tell s.link.climbNotice := by
    rw [hlink, hcounted, State.tell_modLink]
    exact State.tell_modLink ..
  unfold corruptReturn raiseRfc
  dsimp only
  rw [if_pos (by rw [hlink]; exact h), hfault, State.tell_link]
  exact if_congr (by show 255 ≤ s.link.rfc + 1 ↔ _; omega) rfl rfl

/-- The cut by corrupt returns, out of RUN or CUT. -/
theorem cut_tell {s : State} (notices : List (NoticeKind × List Word)) (h : s.link.mode ≠ .sleepPending) :
    enterCut 1 (s.tell notices) =
      (s.modLink LinkUnit.severed).tell (notices ++ [(.linkCut, s.link.cutWords 1)]) := by
  rw [enterCut_eq 1 (by rw [State.tell_link]; exact h), State.tell_modLink, State.tell_link, latch_tell]

/-- The cut that ends a negotiation, its SLEEP_CANCEL queued or dropped. -/
theorem cut_tell_pending {s : State} (notices : List (NoticeKind × List Word)) (h : s.link.mode = .sleepPending) :
    enterCut 1 (s.tell notices) =
      endNegotiation .aborted 5 ((s.modLink LinkUnit.severed).tell (notices ++ [(.linkCut, s.link.cutWords 1)])) := by
  rw [enterCut_pending 1 (by rw [State.tell_link]; exact h), State.tell_modLink, State.tell_link, latch_tell]

theorem cut_tell_room {s : State} (notices : List (NoticeKind × List Word)) (h : s.link.mode = .sleepPending)
    (hroom : s.link.waiting.length < 8) :
    enterCut 1 (s.tell notices) =
      ((s.modLink LinkUnit.severed).modLink LinkUnit.cancelled).tell
        (notices ++ [(.linkCut, s.link.cutWords 1)] ++ [(.sleepResult, [Word.nat 2, Word.nat 5])]) := by
  rw [cut_tell_pending notices h, endNegotiation_room (by rw [State.tell_link]; nofun) 5 (by rw [State.tell_link]; exact hroom),
    State.tell_modLink, latch_tell]

theorem cut_tell_full {s : State} (notices : List (NoticeKind × List Word)) (h : s.link.mode = .sleepPending)
    (hfull : 8 ≤ s.link.waiting.length) :
    enterCut 1 (s.tell notices) =
      ((s.modLink LinkUnit.severed).modLink LinkUnit.uncancelled).tell
        (notices ++ [(.linkCut, s.link.cutWords 1)] ++
          [(.linkMessageLost, [Word.nat MessageKind.sleepCancel.code, Word.nat 255, Word.nat 0])] ++
          [(.sleepResult, [Word.nat 2, Word.nat 5])]) := by
  rw [cut_tell_pending notices h, endNegotiation_full (by rw [State.tell_link]; nofun) 5 (by rw [State.tell_link]; exact hfull),
    State.tell_modLink, latch_tell, latch_tell]

/-- Two faults since read count as two, held at the end of their range. -/
theorem min_succ_twice (n : Nat) : min (min (n + 1) 65535 + 1) 65535 = min (n + 2) 65535 := by omega

/-- Settles O50: a corrupt return in every mode, and a frame of another type. -/
theorem corruptReturnCounted : Obligations.CorruptReturnCounted := by
  intro s frame l bytes foreign corrupt counting half counted faulted leaves
  have hcorrupt : corrupt → returnArrives frame s.cleared = corruptReturn s.cleared := fun ⟨hhead, hbad⟩ =>
    returnArrives_corrupt hhead (readReturn_none (unpadded_return frame ▸ hbad))
  refine ⟨fun h => ?_, fun hc hcounting hrfc => ?_, fun hc hcounting hrfc => ?_⟩
  · have hcounts : returnArrives frame s.cleared = countCorrupt s.cleared := by
      rcases h with h | ⟨hc, hno⟩
      · exact returnArrives_foreign h _
      · rw [hcorrupt hc]
        refine if_neg ?_
        rw [countCorrupt_eq, State.tell_link]
        exact mt (counting_iff l.mode).mp hno
    exact (exec_returnFrame frame s).trans (congrArg _ (hcounts.trans (countCorrupt_eq s.cleared)))
  · have hrises : returnArrives frame s.cleared = workLevel ({ s.cleared with link := faulted }.tell half) := by
      rw [hcorrupt hc, corruptReturn_counts (s := s.cleared) ((counting_iff l.mode).mpr hcounting)]
      exact if_neg (Nat.not_le.mpr hrfc)
    have hworked : faulted.worked = if 127 < l.sfc ∨ 127 < l.rfc + 1 then .degraded
        else if l.warningLimit ≤ l.sfc ∨ l.warningLimit ≤ l.rfc + 1 then .warning else .clear := levelOf_eq ..
    intro level
    refine ⟨fun hsame => ?_, fun hmode hlevel => ?_⟩
    · refine (exec_returnFrame frame s).trans (congrArg _ (hrises.trans (workLevel_same ?_)))
      rw [State.tell_link]
      exact hsame.imp (fun h => by show l.mode.audio = false; rw [h]; rfl) fun h => by
        show l.level = some faulted.worked
        rw [hworked]
        exact h
    · refine (exec_returnFrame frame s).trans (congrArg _ (hrises.trans ?_))
      have haudio : l.mode.audio = true := by
        revert hcounting hmode
        show l.mode ∈ _ → _
        cases l.mode <;> simp [LinkMode.audio]
      rw [workLevel_changes (by rw [State.tell_link]; exact haudio)
        (by rw [State.tell_link]; exact fun h => hlevel (h.trans (congrArg some hworked))), State.tell_link,
        State.tell_modLink, latch_tell]
      show State.tell (half ++ [(.linkLevel, faulted.levelWords faulted.worked)])
        { s.cleared with link := { faulted with level := some faulted.worked } } = _
      rw [hworked]
      rfl
  · have hrises : returnArrives frame s.cleared = enterCut 1 ({ s.cleared with link := faulted }.tell half) := by
      rw [hcorrupt hc, corruptReturn_counts (s := s.cleared) ((counting_iff l.mode).mpr hcounting)]
      exact if_pos hrfc
    intro cut told waiting
    refine ⟨fun hmode => ?_, fun hmode hroom => ?_, fun hmode hfull => ?_⟩
    · exact (exec_returnFrame frame s).trans (congrArg _ (hrises.trans (cut_tell half hmode)))
    · exact (exec_returnFrame frame s).trans (congrArg _ (hrises.trans
        (cut_tell_room (s := { s.cleared with link := faulted }) half hmode hroom)))
    · refine (exec_returnFrame frame s).trans (congrArg _ (hrises.trans
        ((cut_tell_full (s := { s.cleared with link := faulted }) half hmode hfull).trans ?_)))
      rw [← min_succ_twice, List.append_assoc _ [(NoticeKind.linkMessageLost, _)]]
      rfl

end Sys2Proof.Machine

/-!
PROOF. A good return: its reading (R168, R210), its ack (R179, R189), and what the link unit keeps through it (R169, R176,
R188 to R192).
-/

namespace Sys2Proof.Machine

/-! ### The reading (R168, R210) -/

theorem Return.frame_eq (r : Return) :
    r.frame = [0x80, BitVec.ofNat 8 r.far.code, BitVec.ofNat 8 (r.h.toNat / 256), BitVec.ofNat 8 r.h.toNat,
      BitVec.ofNat 8 (r.map.toNat / 16777216), BitVec.ofNat 8 (r.map.toNat / 65536), BitVec.ofNat 8 (r.map.toNat / 256),
      BitVec.ofNat 8 r.map.toNat, if r.ack.isSome then 1 else 0, r.ack.getD 0, if r.lock then 1 else 0,
      BitVec.ofNat 8 r.errors] ++
        crc32Bytes ([0x80, BitVec.ofNat 8 r.far.code] ++ beBytes 2 r.h.toNat ++ beBytes 4 r.map.toNat ++
          [if r.ack.isSome then 1 else 0, r.ack.getD 0, if r.lock then 1 else 0, BitVec.ofNat 8 r.errors]) := by
  unfold Return.frame
  simp [beBytes]

theorem Return.frame_length (r : Return) : r.frame.length = 16 := by
  rw [r.frame_eq, List.length_append, crc32Bytes_length]
  rfl

theorem Return.frame_crc (r : Return) : r.frame.drop 12 = crc32Bytes (r.frame.take 12) := by
  have htake : r.frame.take 12 = [0x80, BitVec.ofNat 8 r.far.code] ++ beBytes 2 r.h.toNat ++ beBytes 4 r.map.toNat ++
      [if r.ack.isSome then 1 else 0, r.ack.getD 0, if r.lock then 1 else 0, BitVec.ofNat 8 r.errors] := by
    unfold Return.frame
    exact List.take_left' (by simp)
  rw [htake]
  unfold Return.frame
  exact List.drop_left' (by simp)

theorem ofByte_code (far : FarState) : FarState.ofByte (BitVec.ofNat 8 far.code) = some far := by
  cases far <;> rfl

theorem Return.frame_sequence (r : Return) : BitVec.ofNat 16 (beAt r.frame 2 2) = r.h := by
  have hvalue : beAt r.frame 2 2 = r.h.toNat := beAt_of_take (by rw [r.frame_eq]; simp [beBytes]) r.h.isLt
  rw [hvalue, BitVec.ofNat_toNat, BitVec.setWidth_eq]

theorem Return.frame_map (r : Return) : BitVec.ofNat 32 (beAt r.frame 4 4) = r.map := by
  have hvalue : beAt r.frame 4 4 = r.map.toNat := beAt_of_take (by rw [r.frame_eq]; simp [beBytes]) r.map.isLt
  rw [hvalue, BitVec.ofNat_toNat, BitVec.setWidth_eq]

/-- A return frame laid out from its fields is read with them. -/
theorem readReturn_frame {r : Return} {lastSeq : BitVec 16} (herrors : r.errors < 256)
    (hseq : seqAfter r.h lastSeq = false) : readReturn lastSeq r.frame = some r := by
  have hfar : FarState.ofByte (byteAt r.frame 1) = some r.far := by
    rw [r.frame_eq]
    exact ofByte_code r.far
  have hack : (if byteAt r.frame 8 = 0 then none else some (byteAt r.frame 9)) = r.ack := by
    rw [r.frame_eq]
    show (if (if r.ack.isSome then (1 : Byte) else 0) = 0 then none else some (r.ack.getD 0)) = r.ack
    cases r.ack <;> rfl
  have hlock : decide (byteAt r.frame 10 ≠ 0) = r.lock := by
    rw [r.frame_eq]
    show decide ((if r.lock then (1 : Byte) else 0) ≠ 0) = r.lock
    cases r.lock <;> rfl
  have herr : (byteAt r.frame 11).toNat = r.errors := by
    rw [r.frame_eq]
    exact Nat.mod_eq_of_lt herrors
  unfold readReturn
  dsimp only
  rw [hfar]
  dsimp only
  rw [r.frame_sequence, hack, hlock, herr, r.frame_map, if_pos]
  rw [hseq, decide_eq_true r.frame_length, decide_eq_true r.frame_crc]
  rfl

theorem unpadded_returnFrame {r : Return} {frame : List Byte} (h : frame = r.frame ∨ frame = padded r.frame) :
    unpadded 16 frame = r.frame := by
  rcases h with rfl | rfl
  · exact unpadded_whole (by rw [r.frame_length]; decide)
  · have hpadded := unpadded_padded r.frame (by rw [r.frame_length]; decide)
    rwa [r.frame_length] at hpadded

theorem returnArrives_good {r : Return} {frame : List Byte} {s : State} (h : frame = r.frame ∨ frame = padded r.frame)
    (herrors : r.errors < 256) (hseq : seqAfter r.h s.link.lastSeq = false) : returnArrives frame s = goodReturn r s := by
  unfold returnArrives
  dsimp only
  rw [unpadded_returnFrame h, readReturn_frame herrors hseq, if_neg]
  rw [r.frame_eq]
  exact fun hno => hno rfl

/-! ### What the link unit keeps through a return -/

/-- What the fault counts, the negotiation, the wake and the selection leave alone of the link unit. -/
def LinkUnit.Endures (l m : LinkUnit) : Prop :=
  m = { l with
    mode := m.mode
    level := m.level
    sfc := m.sfc
    rfc := m.rfc
    judged := m.judged
    gapTimer := m.gapTimer
    probeTimer := m.probeTimer
    lockSeen := m.lockSeen
    lockLost := m.lockLost
    cutDuration := m.cutDuration
    cutProbeFailures := m.cutProbeFailures
    queue := m.queue
    nextNumber := m.nextNumber
    capture := m.capture
    faultsSince := m.faultsSince
    phase := m.phase
    quietTimer := m.quietTimer
    lateNumber := m.lateNumber
    keepaliveTimer := m.keepaliveTimer
    asleepWatch := m.asleepWatch
    wakePhase := m.wakePhase
    burstNumber := m.burstNumber
    burstIndex := m.burstIndex
    counters := m.counters }

theorem LinkUnit.Endures.refl (l : LinkUnit) : l.Endures l := rfl

theorem LinkUnit.Endures.trans {l m n : LinkUnit} (h : l.Endures m) (k : m.Endures n) : l.Endures n := by
  unfold Endures at h k ⊢
  conv_lhs => rw [k, h]

/-- What they leave alone of the part, and of the messages outside a negotiation, to which at most `n` are added. -/
structure State.Endures (n : Nat) (s t : State) : Prop where
  frame : t = { s with
    clips := t.clips, intake := t.intake, air := t.air, link := t.link, notices := t.notices, sent := t.sent }
  link : s.link.Endures t.link
  gap : s.link.gapTimer = 0 → t.link.gapTimer = 0
  late : s.link.mode ≠ .sleepPending →
    t.link.mode ≠ .sleepPending ∧ t.link.lateNumber = s.link.lateNumber ∧
      ∃ more, more.length ≤ n ∧ t.link.queue = s.link.queue ++ more

theorem State.Endures.refl (n : Nat) (s : State) : s.Endures n s :=
  ⟨rfl, rfl, id, fun h => ⟨h, rfl, [], Nat.zero_le n, (List.append_nil _).symm⟩⟩

theorem State.Endures.trans {n : Nat} {s t u : State} (h : s.Endures 0 t) (k : t.Endures n u) : s.Endures n u where
  frame := by conv_lhs => rw [k.frame, h.frame]
  link := h.link.trans k.link
  gap hgap := k.gap (h.gap hgap)
  late hmode := by
    obtain ⟨hm, hl, more, hlength, hq⟩ := h.late hmode
    obtain ⟨km, kl, rest, klength, kq⟩ := k.late hm
    obtain rfl := List.eq_nil_of_length_eq_zero (Nat.le_zero.mp hlength)
    exact ⟨km, kl.trans hl, rest, klength, by rw [kq, hq, List.append_nil]⟩

theorem State.Endures.latch {n : Nat} (kind : NoticeKind) (detail : List Word) (s : State) :
    s.Endures n (latch kind detail s) := by
  refine ⟨?_, ?_, ?_, fun h => ?_⟩
  · conv_lhs => rw [latch_frame]
    rw [latch_clips, latch_intake, latch_air, latch_link]
  · rw [latch_link]
    exact .refl _
  · rw [latch_link]
    exact id
  · rw [latch_link]
    exact ⟨h, rfl, [], Nat.zero_le n, (List.append_nil _).symm⟩

/-- A change of the link unit alone, which leaves the messages. -/
theorem State.Endures.modLink {n : Nat} {s : State} {f : LinkUnit → LinkUnit} (hlink : s.link.Endures (f s.link))
    (hmode : s.link.mode ≠ .sleepPending → (f s.link).mode ≠ .sleepPending)
    (hgap : s.link.gapTimer = 0 → (f s.link).gapTimer = 0) (hlate : (f s.link).lateNumber = s.link.lateNumber)
    (hqueue : (f s.link).queue = s.link.queue) : s.Endures n (s.modLink f) :=
  ⟨rfl, hlink, hgap, fun h => ⟨hmode h, hlate, [], Nat.zero_le n, hqueue.trans (List.append_nil _).symm⟩⟩

theorem State.Endures.takeFault {n : Nat} (kind : FaultKind) (reference : Nat) (s : State) :
    s.Endures n (takeFault kind reference s) := by
  unfold Machine.takeFault
  exact .modLink rfl id id rfl rfl

theorem State.Endures.workLevel {n : Nat} (s : State) : s.Endures n (workLevel s) := by
  unfold Machine.workLevel
  dsimp only
  split
  · refine .trans ?_ (.latch ..)
    exact .modLink rfl id id rfl rfl
  · exact .refl _ s

theorem State.Endures.lowerSfc {n : Nat} (s : State) : s.Endures n (lowerSfc s) := by
  refine .trans ?_ (.workLevel _)
  exact .modLink rfl id id rfl rfl

theorem State.Endures.lowerRfc {n : Nat} (s : State) : s.Endures n (lowerRfc s) := by
  refine .trans ?_ (.workLevel _)
  exact .modLink rfl id id rfl rfl

theorem State.Endures.enterRun {n : Nat} (s : State) : s.Endures n (enterRun s) :=
  ⟨rfl, rfl, fun _ => rfl, fun _ => ⟨nofun, rfl, [], Nat.zero_le n, (List.append_nil _).symm⟩⟩

theorem LinkUnit.Passes.endures {l m : LinkUnit} (h : l.Passes m) : l.Endures m := by
  unfold Endures
  rw [h]

/-- An end of a negotiation leaves alone what a return does not touch. -/
theorem endNegotiation_link (e : Ending) (cause : Nat) (s : State) : s.link.Endures (endNegotiation e cause s).link := by
  have henter : s.link.Endures (if s.link.mode = .sleepPending then enterRun s else s).link := by
    split
    · exact (State.Endures.enterRun (n := 0) s).link
    · exact .refl _
  unfold endNegotiation
  dsimp only
  generalize (if s.link.mode = .sleepPending then enterRun s else s) = u at henter
  have hpass := (queueCancel_passes e (u.modLink LinkUnit.leavePhase)).endures
  generalize queueCancel e (u.modLink LinkUnit.leavePhase) = q at hpass
  have hleft : u.link.Endures (u.modLink LinkUnit.leavePhase).link := rfl
  refine ((henter.trans hleft).trans hpass).trans ?_
  rw [latch_link, State.modLink_link, LinkUnit.markLate_fields]
  rfl

theorem State.Endures.endNegotiation {n : Nat} {s : State} (e : Ending) (cause : Nat) (h : s.link.mode = .sleepPending) :
    s.Endures n (endNegotiation e cause s) := by
  refine ⟨?_, endNegotiation_link e cause s, fun _ => endNegotiation_gap h e cause, fun hno => absurd h hno⟩
  conv_lhs => rw [endNegotiation_frame]
  rw [endNegotiation_frame]

theorem endNegotiation_gap_cut {s : State} (h : s.link.mode ≠ .sleepPending) (hgap : s.link.gapTimer = 0) (e : Ending)
    (cause : Nat) : (endNegotiation e cause s).link.gapTimer = 0 := by
  unfold endNegotiation
  dsimp only
  rw [if_neg h]
  have hpass := queueCancel_passes e (s.modLink LinkUnit.leavePhase)
  generalize queueCancel e (s.modLink LinkUnit.leavePhase) = q at hpass
  rw [latch_link, State.modLink_link, LinkUnit.markLate_fields]
  exact (congrArg LinkUnit.gapTimer hpass).trans hgap

theorem enterCut_gap (cause : Nat) (s : State) : (enterCut cause s).link.gapTimer = 0 := by
  by_cases h : s.link.mode = .sleepPending
  · rw [enterCut_pending cause h]
    exact endNegotiation_gap_cut (by rw [latch_link]; nofun) (by rw [latch_link]; rfl) ..
  · rw [enterCut_eq cause h, latch_link]
    rfl

theorem State.Endures.enterCut {n : Nat} (cause : Nat) (s : State) : s.Endures n (enterCut cause s) := by
  have hsevered : s.link.Endures s.link.severed := rfl
  by_cases h : s.link.mode = .sleepPending
  · refine ⟨?_, ?_, fun _ => enterCut_gap cause s, fun hno => absurd h hno⟩
    · conv_lhs => rw [enterCut_frame]
      rw [enterCut_frame]
    · rw [enterCut_pending cause h]
      refine LinkUnit.Endures.trans ?_ (endNegotiation_link ..)
      rw [latch_link]
      exact hsevered
  · rw [enterCut_eq cause h]
    refine .trans ?_ (.latch ..)
    exact .modLink hsevered (fun _ => nofun) (fun _ => rfl) rfl rfl

theorem State.Endures.raiseSfc {n : Nat} (rise : Nat) (kind : FaultKind) (reference : Nat) (s : State) :
    s.Endures n (raiseSfc rise kind reference s) := by
  unfold Machine.raiseSfc
  split
  · exact (State.Endures.takeFault ..).trans (.enterCut ..)
  · refine .trans ?_ (.workLevel _)
    refine .trans ?_ (.takeFault ..)
    exact .modLink rfl id id rfl rfl

theorem enterLeadIn_length (s : State) : (enterLeadIn s).link.queue.length ≤ s.link.queue.length + 1 := by
  have h : (chooseAttention (s.modAir fun a => { a with state := .leadIn, step := 0, position := 0 })).link = s.link := by
    rw [chooseAttention_frame]
    rfl
  rw [enterLeadIn_eq, leadInRest]
  split
  · exact h ▸ queueMessage_length ..
  · rw [h]
    exact Nat.le_succ _

theorem select_length {s : State} (h : s.link.mode.awake = true) :
    (select s).link.queue.length ≤ s.link.queue.length + 1 := by
  by_cases hstate : s.air.state ∈ [AirState.idle, .waitBreak]
  · cases hc : chosenRecord s with
    | none =>
      rw [select_none hstate hc]
      exact Nat.le_succ _
    | some r =>
      cases hd : recordDue s r with
      | false =>
        rw [select_waits hstate hc hd]
        exact Nat.le_succ _
      | true =>
        rw [select_due hstate hc hd, commit_awake (s := s.modAir _) h]
        exact enterLeadIn_length _
  · rw [select_busy s hstate]
    exact Nat.le_succ _

/-- The selection, in a mode in which no wake is wanted. -/
theorem State.Endures.select {s : State} (h : s.link.mode.awake = true) : s.Endures 1 (select s) := by
  have hselects := select_selects s
  have hpasses := hselects.passes h
  obtain ⟨more, hmore⟩ := State.Queues.select h
  have hlength := select_length h
  rw [hmore, List.length_append] at hlength
  refine ⟨hselects.frame, hpasses.endures, fun hgap => ?_,
    fun hmode => ⟨?_, ?_, more, Nat.le_of_add_le_add_left hlength, hmore⟩⟩
  · rw [hpasses]
    exact hgap
  · rw [hpasses]
    exact hmode
  · rw [hpasses]

/-! ### The judging and the probe verdict (R171, R176) -/

theorem State.Endures.judgeOne {n : Nat} (h : BitVec 16) (map : BitVec 32) (q : BitVec 16) (s : State) :
    s.Endures n (judgeOne h map q s) := by
  unfold Machine.judgeOne
  dsimp only
  split
  · exact .modLink rfl id id rfl rfl
  · split
    · exact .lowerSfc s
    · refine .trans ?_ (.raiseSfc ..)
      exact .modLink rfl id id rfl rfl

theorem State.Endures.judgeRun {n : Nat} (h : BitVec 16) (map : BitVec 32) (count : Nat) (q : BitVec 16) (s : State) :
    s.Endures n (judgeRun h map count q s).1 := by
  induction count generalizing q s with
  | zero => exact .refl _ s
  | succ count ih =>
    unfold Machine.judgeRun
    dsimp only
    split
    · exact (State.Endures.judgeOne ..).trans (ih ..)
    · exact .judgeOne ..

theorem State.Endures.judge {n : Nat} (r : Return) (s : State) : s.Endures n (judge r s) := by
  have hrun (m : Nat) := State.Endures.judgeRun (n := m) r.h r.map (r.h - 8 - s.link.judged).toNat (s.link.judged + 1) s
  unfold Machine.judge
  dsimp only
  split
  · split
    · refine (hrun 0).trans ?_
      exact .modLink rfl id id rfl rfl
    · exact hrun n
  · exact .refl _ s

theorem State.Endures.restoreLink (s : State) : s.Endures 1 (restoreLink s) := by
  unfold Machine.restoreLink
  dsimp only
  refine .trans ?_ (.select (by rw [latch_link]; rfl))
  refine .trans ?_ (.latch ..)
  refine .trans ?_ (.enterRun _)
  exact .modLink rfl id id rfl rfl

theorem State.Endures.probeVerdict (r : Return) (s : State) : s.Endures 1 (probeVerdict r s) := by
  unfold Machine.probeVerdict
  dsimp only
  refine State.Endures.trans (t := s.modLink fun l => l.seeLock r.lock) (.modLink rfl id id rfl rfl) ?_
  split
  · split
    · exact (State.Endures.lowerSfc _).trans (.restoreLink _)
    · exact .lowerSfc _
  · exact .modLink rfl id id rfl rfl

theorem State.Endures.counts (s : State) :
    s.Endures 0 (Machine.lowerRfc (s.modLink fun l => { l with gapTimer := 0 })) := by
  refine .trans ?_ (.lowerRfc _)
  exact .modLink rfl id (fun _ => rfl) rfl rfl

theorem State.Endures.returnHealth {n : Nat} (r : Return) {s : State} (h : s.link.mode = .cut → n = 1) :
    s.Endures n (returnHealth r s) := by
  unfold Machine.returnHealth
  split
  · exact (State.Endures.counts s).trans (.judge r _)
  · exact (State.Endures.counts s).trans (.judge r _)
  · next hcut =>
    obtain rfl := h hcut
    exact (State.Endures.counts s).trans (.probeVerdict r _)
  · exact .refl _ s
  · exact .refl _ s

/-! ### Sleep and wake (R188, R190 to R192) -/

theorem State.Endures.enterAsleep {n : Nat} (s : State) : s.Endures n (enterAsleep s) := by
  refine .trans ?_ (.latch ..)
  exact .modLink rfl (fun _ => nofun) id rfl rfl

theorem State.Endures.startWake {n : Nat} (s : State) : s.Endures n (startWake s) := .modLink rfl (fun _ => nofun) id rfl rfl

theorem State.Endures.wakeSuccess (s : State) : s.Endures 1 (wakeSuccess s) := by
  refine .trans ?_ (.select rfl)
  refine .trans ?_ (.enterRun _)
  exact .modLink rfl id id rfl rfl

theorem State.Endures.negotiate {s : State} (far : FarState) (h : s.link.mode = .sleepPending) :
    s.Endures 1 (negotiate far s) := by
  have hready : s.Endures 1 (if s.link.requestAcked && s.link.phase = .requesting then
      let s1 := s.modLink fun l => { l with phase := .quiet, quietTimer := 0 }
      if s1.link.quietInterval = 0 then Machine.enterAsleep s1 else s1
    else s) := by
    split
    · refine State.Endures.trans (t := s.modLink fun l => { l with phase := .quiet, quietTimer := 0 })
        (.modLink rfl id id rfl rfl) ?_
      dsimp only
      split
      · exact .enterAsleep _
      · exact .refl _ _
    · exact .refl _ s
  have hend : s.Endures 1 (Machine.select (Machine.endNegotiation .refused 1 s)) :=
    (State.Endures.endNegotiation .refused 1 h).trans (.select (by rw [(endNegotiation_pending h .refused 1).1]; rfl))
  cases far with
  | awake => exact .refl _ s
  | sleepReady => exact hready
  | sleeping => exact hready
  | sleepBusy => exact hend
  | wakeRequest => exact hend

theorem State.Endures.returnSleep (far : FarState) (s : State) : s.Endures 1 (returnSleep far s) := by
  unfold Machine.returnSleep
  split
  · next h => exact .negotiate far h
  · dsimp only
    refine State.Endures.trans (t := s.modLink fun l => { l with asleepWatch := 0 }) (.modLink rfl id id rfl rfl) ?_
    split
    · exact .startWake _
    · exact .refl _ _
  · split
    · exact .wakeSuccess s
    · exact .refl _ s
  · exact .refl _ s
  · exact .refl _ s

end Sys2Proof.Machine

/-!
PROOF. The ack of a good return (R179, R189), the probe verdict (R176) and the judging of the sent frames (R171).
-/

namespace Sys2Proof.Machine

/-! ### The ack (R179, R189) -/

/-- The message in flight acked by a return. -/
def LinkUnit.acks (l : LinkUnit) (ack : Option Byte) (f : InFlight) : Prop :=
  l.inFlight = some f ∧ ack = some f.message.number

theorem LinkUnit.completeMessage_acked {l : LinkUnit} {ack : Option Byte} {f : InFlight} (h : l.acks ack f) :
    l.completeMessage ack =
      { l with inFlight := none, requestAcked := l.requestAcked || f.message.isRequest l.requestNumber } := by
  unfold completeMessage
  rw [h.1]
  exact if_pos h.2

theorem LinkUnit.completeMessage_stands {l : LinkUnit} {ack : Option Byte} (h : ∀ f, ¬ l.acks ack f) :
    l.completeMessage ack = l := by
  unfold completeMessage
  split
  · next f hf => exact if_neg fun hack => h f ⟨hf, hack⟩
  · rfl

/-- What taking an ack leaves. -/
structure State.Acks (ack : Option Byte) (s t : State) : Prop where
  frame : t = { s with link := t.link, notices := t.notices, sent := t.sent }
  link : t.link = { s.link with
    inFlight := (s.link.completeMessage ack).inFlight
    requestAcked := (s.link.completeMessage ack).requestAcked
    lateNumber := t.link.lateNumber
    queue := t.link.queue
    nextNumber := t.link.nextNumber
    counters := { s.link.counters with messageLost := t.link.counters.messageLost }
    faultsSince := t.link.faultsSince
    capture := t.link.capture }
  cancels : ∀ a, ack = some a → s.link.lateNumber = some a → t.link.lateNumber = none ∧
    (s.link.queue.length < 8 → ∃ m ∈ t.link.queue, m.kind = .sleepCancel ∧ m.body = [a])
  latches : s.Latches [23] t

theorem LinkUnit.completeMessage_fields (l : LinkUnit) (ack : Option Byte) : l.completeMessage ack = { l with
    inFlight := (l.completeMessage ack).inFlight, requestAcked := (l.completeMessage ack).requestAcked } := by
  by_cases h : ∃ f, l.acks ack f
  · obtain ⟨f, hf⟩ := h
    rw [completeMessage_acked hf]
  · rw [completeMessage_stands fun f hf => h ⟨f, hf⟩]

theorem queueMessage_holds (kind : MessageKind) (body : List Byte) {s : State} (h : s.link.queue.length < 8) :
    ∃ x ∈ (queueMessage kind body s).1.link.queue, x.kind = kind ∧ x.body = body := by
  rw [queueMessage_room _ _ _ h]
  exact ⟨_, List.mem_append_right _ (List.mem_singleton.mpr rfl), rfl, rfl⟩

/-- An ack of the late number, its SLEEP_CANCEL passed to the queue. -/
theorem State.Acks.of_message {ack : Option Byte} {s u m : State}
    (hu : u = { s with link := { s.link with
      inFlight := (s.link.completeMessage ack).inFlight
      requestAcked := (s.link.completeMessage ack).requestAcked
      lateNumber := none } })
    (hframe : m = { u with link := m.link, notices := m.notices, sent := m.sent }) (hpasses : u.link.Passes m.link)
    (hlatches : u.Latches [23] m)
    (hcancel : ∀ a, ack = some a → s.link.queue.length < 8 →
      ∃ x ∈ m.link.queue, x.kind = .sleepCancel ∧ x.body = [a]) : s.Acks ack m := by
  subst hu
  have hlate : m.link.lateNumber = none := congrArg LinkUnit.lateNumber hpasses
  refine ⟨hframe, ?_, fun a ha _ => ⟨hlate, hcancel a ha⟩, ⟨hlatches.kinds⟩⟩
  rw [hlate]
  exact hpasses

theorem takeAck_acks (ack : Option Byte) (s : State) : s.Acks ack (takeAck ack s) := by
  obtain ⟨flight, acked, hcomplete⟩ : ∃ flight acked, s.link.completeMessage ack =
      { s.link with inFlight := flight, requestAcked := acked } := ⟨_, _, s.link.completeMessage_fields ack⟩
  have hcompleted : s.modLink (fun l => l.completeMessage ack) =
      { s with link := { s.link with inFlight := flight, requestAcked := acked } } := by
    unfold State.modLink
    dsimp only
    rw [hcomplete]
  have hstands : (∀ a, ack = some a → s.link.lateNumber = some a → False) →
      s.Acks ack { s with link := { s.link with inFlight := flight, requestAcked := acked } } := fun hno =>
    ⟨rfl, by rw [hcomplete], fun a ha hlate => (hno a ha hlate).elim, .of_eq rfl⟩
  unfold takeAck
  dsimp only
  rw [hcompleted]
  split
  · next a late hlate =>
    split
    · next heq =>
      subst heq
      refine State.Acks.of_message (u := { s with link := { s.link with
        inFlight := flight, requestAcked := acked, lateNumber := none } }) (by rw [hcomplete]) (queueMessage_frame ..)
        (queueMessage_passes ..) (queueMessage_latches ..) fun b hb hroom => ?_
      obtain rfl := Option.some.inj hb
      exact queueMessage_holds _ _ hroom
    · next hne => exact hstands fun b hb hlate' => hne ((Option.some.inj hb).trans (Option.some.inj (hlate'.symm.trans hlate)))
  · next hno => exact hstands fun b hb hlate => hno b b hb hlate

/-- A good return in its parts: the counts, the ack, the record of the return, and what it does to sleep and wake. -/
structure State.Returns (r : Return) (s u w t : State) : Prop where
  health : u = returnHealth r s
  acks : u.Acks r.ack (takeAck r.ack u)
  recorded : w = recordReturn r (takeAck r.ack u)
  sleep : t = if s.link.mode = .run ∨ s.link.mode = .cut then w else returnSleep r.far w

theorem goodReturn_returns (r : Return) (s : State) : ∃ u w, s.Returns r u w (goodReturn r s) := by
  refine ⟨_, _, rfl, takeAck_acks .., rfl, ?_⟩
  unfold goodReturn
  dsimp only
  cases s.link.mode <;> rfl

section
variable {r : Return} {s u w t : State}

theorem State.Returns.endures (h : s.Returns r u w t) : w.Endures 1 t := by
  rw [h.sleep]
  split
  · exact .refl _ w
  · exact .returnSleep r.far w

/-- The link unit once the return is recorded. -/
theorem State.Returns.link (h : s.Returns r u w t) : w.link = { u.link with
    inFlight := (u.link.completeMessage r.ack).inFlight
    requestAcked := (u.link.completeMessage r.ack).requestAcked
    lateNumber := w.link.lateNumber
    queue := w.link.queue
    nextNumber := w.link.nextNumber
    counters := { u.link.counters with messageLost := w.link.counters.messageLost }
    faultsSince := w.link.faultsSince
    capture := w.link.capture
    lastFar := some r.far
    lastAck := r.ack } := by
  rw [h.recorded]
  unfold recordReturn
  rw [State.modLink_link]
  conv_lhs => rw [h.acks.link]

end

end Sys2Proof.Machine

/-!
PROOF. The judging of the sent frames (R171), the cut that it may bring (R174), and the negotiation (R188, R189).
-/

namespace Sys2Proof.Machine

/-! ### The ends of a negotiation and the cut (R174, R189) -/

/-- The link unit at an end of a negotiation. -/
theorem endNegotiation_fields (e : Ending) (cause : Nat) {s u : State}
    (hu : u = if s.link.mode = .sleepPending then enterRun s else s) :
    (endNegotiation e cause s).link = { u.link with
      phase := .none
      queue := (endNegotiation e cause s).link.queue
      nextNumber := (endNegotiation e cause s).link.nextNumber
      lateNumber := (endNegotiation e cause s).link.lateNumber
      faultsSince := (endNegotiation e cause s).link.faultsSince
      capture := (endNegotiation e cause s).link.capture
      counters := { e.count u.link.counters with
        messageLost := (endNegotiation e cause s).link.counters.messageLost } } := by
  unfold endNegotiation
  dsimp only
  rw [← hu]
  have hpass := queueCancel_passes e (u.modLink LinkUnit.leavePhase)
  generalize queueCancel e (u.modLink LinkUnit.leavePhase) = q at hpass
  obtain ⟨late, hlate⟩ : ∃ late, q.1.link.markLate q.2 = { q.1.link with lateNumber := late } :=
    ⟨_, LinkUnit.markLate_fields ..⟩
  have hcounts : e.count q.1.link.counters = { e.count u.link.counters with
      messageLost := (e.count q.1.link.counters).messageLost } := by
    rw [congrArg LinkUnit.counters hpass]
    cases e <;> rfl
  rw [latch_link, State.modLink_link]
  dsimp only
  rw [hlate]
  generalize e.count q.1.link.counters = k at hcounts
  unfold LinkUnit.Passes at hpass
  conv_lhs => rw [hpass, hcounts]
  rfl

/-- What the entry to CUT leaves. -/
structure State.Cuts (s t : State) : Prop where
  mode : t.link.mode = .cut
  counts : t.link.level = none ∧ t.link.sfc = 127 ∧ t.link.rfc = 0 ∧ t.link.judged = s.link.judged
  latched : (t.notices.latches.get 19).isSome = true
  counted : t.link.counters = { s.link.counters with
    cut := min (s.link.counters.cut + 1) 65535
    messageLost := t.link.counters.messageLost
    sleepsAborted := t.link.counters.sleepsAborted }
  aborts : s.link.mode = .sleepPending →
    t.link.phase = .none ∧ t.link.counters.sleepsAborted = min (s.link.counters.sleepsAborted + 1) 65535
  latches : s.Latches [19, 21, 23] t

theorem enterCut_cuts (cause : Nat) (s : State) : s.Cuts (enterCut cause s) := by
  have hlatched : ((latch .linkCut (s.link.cutWords cause) (s.modLink LinkUnit.severed)).notices.latches.get 19).isSome =
      true := by
    rw [latch_get, if_pos (show (19 : Fin 25) = NoticeKind.linkCut.index from rfl)]
    rfl
  have hlatches : s.Latches [19, 21, 23] (latch .linkCut (s.link.cutWords cause) (s.modLink LinkUnit.severed)) := by
    refine State.Latches.latched (kind := .linkCut) ?_ (by decide) _
    exact .of_eq rfl
  by_cases h : s.link.mode = .sleepPending
  · rw [enterCut_pending cause h]
    have hfields := endNegotiation_fields .aborted 5
      (s := latch .linkCut (s.link.cutWords cause) (s.modLink LinkUnit.severed))
      (u := latch .linkCut (s.link.cutWords cause) (s.modLink LinkUnit.severed))
      (if_neg (by rw [latch_link]; nofun)).symm
    have hmore := endNegotiation_latches .aborted 5 (latch .linkCut (s.link.cutWords cause) (s.modLink LinkUnit.severed))
    generalize hu : latch .linkCut (s.link.cutWords cause) (s.modLink LinkUnit.severed) = u at *
    have hlink : u.link = s.link.severed := by
      rw [← hu, latch_link]
      rfl
    rw [hlink] at hfields
    refine ⟨?_, ⟨?_, ?_, ?_, ?_⟩, hmore.isSome hlatched, ?_, fun _ => ⟨?_, ?_⟩, hlatches.trans (hmore.mono (by decide))⟩
    all_goals rw [hfields] <;> rfl
  · rw [enterCut_eq cause h]
    refine ⟨?_, ?_, hlatched, ?_, fun hno => absurd hno h, hlatches⟩
    all_goals rw [latch_link]
    · rfl
    · exact ⟨rfl, rfl, rfl, rfl⟩
    · rfl

/-! ### The judging (R171) -/

/-- `n` more on a counter that stays at the end of its range. -/
def Counted (before n after : Nat) : Prop := after = if n = 0 then before else min (before + n) 65535

theorem Counted.zero (k : Nat) : Counted k 0 k := (if_pos rfl).symm

theorem Counted.one (k : Nat) : Counted k 1 (min (k + 1) 65535) := rfl

theorem Counted.trans {a b c n m : Nat} (h : Counted a n b) (k : Counted b m c) : Counted a (n + m) c := by
  unfold Counted at *
  split at h <;> split at k <;> split <;> omega

/-- SFC after the verdicts on several sequences. -/
def Return.sfcAfter (r : Return) (qs : List (BitVec 16)) (sfc : Nat) : Nat :=
  qs.foldl (fun x q => (r.verdict q).sfc x) sfc

/-- How many of several sequences have a verdict. -/
def Return.number (r : Return) (qs : List (BitVec 16)) (v : FrameVerdict) : Nat := qs.countP fun q => r.verdict q = v

/-- The sequences judged one after the other, until a cut comes about. -/
def judgeList (r : Return) : List (BitVec 16) → State → State × Bool
  | [], s => (s, true)
  | q :: qs, s =>
    if (judgeOne r.h r.map q s).link.mode.audio then judgeList r qs (judgeOne r.h r.map q s)
    else (judgeOne r.h r.map q s, false)

theorem judgeRun_eq (r : Return) (n : Nat) (q : BitVec 16) (s : State) :
    judgeRun r.h r.map n q s = judgeList r ((List.range n).map fun i => q + BitVec.ofNat 16 i) s := by
  induction n generalizing q s with
  | zero => rfl
  | succ n ih =>
    have hshift : (fun i => q + BitVec.ofNat 16 i) ∘ Nat.succ = fun i => q + 1 + BitVec.ofNat 16 i := by
      funext i
      show q + BitVec.ofNat 16 (i + 1) = _
      rw [BitVec.ofNat_add, BitVec.add_assoc, BitVec.add_comm (BitVec.ofNat 16 i)]
      rfl
    rw [List.range_succ_eq_map, List.map_cons, List.map_map, hshift]
    unfold judgeRun judgeList
    dsimp only
    rw [ih, show q + BitVec.ofNat 16 0 = q from BitVec.add_zero q]

/-- What the verdicts on several sequences leave alone, whether or not SFC may rise so far. -/
structure State.Judges (r : Return) (qs : List (BitVec 16)) (s t : State) : Prop where
  link : t.link = { s.link with
    sfc := t.link.sfc
    level := t.link.level
    counters := { s.link.counters with missing := t.link.counters.missing, unknown := t.link.counters.unknown }
    faultsSince := t.link.faultsSince
    capture := t.link.capture }
  missing : Counted s.link.counters.missing (r.number qs .missing) t.link.counters.missing
  unknown : Counted s.link.counters.unknown (r.number qs .unknown) t.link.counters.unknown
  latches : s.Latches [18] t

theorem State.Judges.refl (r : Return) (s : State) : s.Judges r [] s := ⟨rfl, .zero _, .zero _, .refl _ s⟩

theorem State.Judges.trans {r : Return} {qs qs' : List (BitVec 16)} {s t u : State} (h : s.Judges r qs t)
    (k : t.Judges r qs' u) : s.Judges r (qs ++ qs') u where
  link := by conv_lhs => rw [k.link, h.link]
  missing := by
    unfold Return.number
    rw [List.countP_append]
    exact h.missing.trans k.missing
  unknown := by
    unfold Return.number
    rw [List.countP_append]
    exact h.unknown.trans k.unknown
  latches := h.latches.trans k.latches

theorem workLevel_latches (s : State) : s.Latches [18] (workLevel s) := by
  unfold workLevel
  dsimp only
  split
  · refine State.Latches.latched (kind := .linkLevel) ?_ (by decide) _
    exact .of_eq rfl
  · exact .refl _ s

/-- The level of a link unit in RUN or SLEEP_PENDING, worked out. -/
theorem workLevel_audio {s : State} (h : s.link.mode.audio = true) :
    (workLevel s).link = { s.link with level := some s.link.worked } := by
  rw [workLevel_link, if_pos h]
  rfl

/-- A frame found missing is counted. -/
def LinkUnit.missed (l : LinkUnit) : LinkUnit :=
  { l with counters := { l.counters with missing := min (l.counters.missing + 1) 65535 } }

theorem raiseSfc_rises {n : Nat} {kind : FaultKind} {reference : Nat} {s : State} (h : s.link.sfc + n ≤ 255) :
    raiseSfc n kind reference s = workLevel (takeFault kind reference (s.modLink fun l => { l with sfc := l.sfc + n })) :=
  if_neg (Nat.not_lt.mpr h)

theorem raiseSfc_cuts {n : Nat} {kind : FaultKind} {reference : Nat} {s : State} (h : 255 < s.link.sfc + n) :
    raiseSfc n kind reference s = enterCut 0 (takeFault kind reference s) := if_pos h

/-- A rise of SFC in RUN or SLEEP_PENDING that brings no cut. -/
theorem raiseSfc_audio {n : Nat} {s : State} (kind : FaultKind) (reference : Nat) (haudio : s.link.mode.audio = true)
    (h : s.link.sfc + n ≤ 255) : ∃ faults capture, (raiseSfc n kind reference s).link = { s.link with
      sfc := s.link.sfc + n
      level := some (levelOf s.link.warningLimit (s.link.sfc + n) s.link.rfc)
      faultsSince := faults
      capture := capture } := by
  rw [raiseSfc_rises h]
  exact ⟨_, _, workLevel_audio (s := takeFault kind reference (s.modLink fun l => { l with sfc := l.sfc + n })) haudio⟩

section
variable {r : Return} {q : BitVec 16} {s : State}

theorem judgeOne_unknown (h : r.verdict q = .unknown) : judgeOne r.h r.map q s =
    s.modLink fun l => { l with counters := { l.counters with unknown := min (l.counters.unknown + 1) 65535 } } := by
  unfold Return.verdict at h
  dsimp only at h
  unfold judgeOne
  dsimp only
  split at h
  · next hfar => exact if_pos hfar
  · split at h <;> cases h

theorem judgeOne_received (h : r.verdict q = .received) : judgeOne r.h r.map q s = lowerSfc s := by
  unfold Return.verdict at h
  dsimp only at h
  unfold judgeOne
  dsimp only
  split at h
  · cases h
  · next hnear =>
    split at h
    · next hmap => rw [if_neg hnear, if_pos hmap]
    · cases h

theorem judgeOne_missing (h : r.verdict q = .missing) : judgeOne r.h r.map q s =
    raiseSfc 8 .missingFrame q.toNat (s.modLink LinkUnit.missed) := by
  unfold Return.verdict at h
  dsimp only at h
  unfold judgeOne
  dsimp only
  split at h
  · cases h
  · next hnear =>
    split at h
    · cases h
    · next hmap =>
      rw [if_neg hnear, if_neg hmap]
      rfl

theorem number_singleton (v : FrameVerdict) : r.number [q] v = if r.verdict q = v then 1 else 0 := by
  unfold Return.number
  rw [List.countP_singleton]
  simp only [decide_eq_true_eq]

/-- A verdict that does not take SFC above 255. -/
theorem judgeOne_judges (haudio : s.link.mode.audio = true) (h : (r.verdict q).sfc s.link.sfc ≤ 255) :
    s.Judges r [q] (judgeOne r.h r.map q s) ∧ (judgeOne r.h r.map q s).link.sfc = (r.verdict q).sfc s.link.sfc ∧
      (s.link.level = some s.link.worked →
        (judgeOne r.h r.map q s).link.level = some (judgeOne r.h r.map q s).link.worked) := by
  cases hv : r.verdict q with
  | unknown =>
    rw [judgeOne_unknown hv]
    refine ⟨⟨rfl, ?_, ?_, .of_eq rfl⟩, rfl, id⟩
    · rw [number_singleton, hv]
      exact .zero _
    · rw [number_singleton, hv]
      exact .one _
  | received =>
    have hlink : (lowerSfc s).link = { s.link with
        sfc := s.link.sfc - 1, level := some (levelOf s.link.warningLimit (s.link.sfc - 1) s.link.rfc) } :=
      workLevel_audio haudio
    rw [judgeOne_received hv]
    refine ⟨⟨?_, ?_, ?_, ?_⟩, ?_, fun _ => ?_⟩
    · rw [hlink]
    · rw [number_singleton, hv, hlink]
      exact .zero _
    · rw [number_singleton, hv, hlink]
      exact .zero _
    · exact State.Latches.trans (t := s.modLink _) (.of_eq rfl) (workLevel_latches _)
    · rw [hlink]
      rfl
    · rw [hlink]
      rfl
  | missing =>
    obtain ⟨faults, capture, hlink⟩ := raiseSfc_audio (n := 8) (s := s.modLink LinkUnit.missed) .missingFrame q.toNat haudio
      (show s.link.sfc + 8 ≤ 255 by rw [hv] at h; exact h)
    rw [judgeOne_missing hv]
    refine ⟨⟨?_, ?_, ?_, ?_⟩, ?_, fun _ => ?_⟩
    · rw [hlink]
      rfl
    · rw [number_singleton, hv, hlink]
      exact .one _
    · rw [number_singleton, hv, hlink]
      exact .zero _
    · rw [raiseSfc_rises (s := s.modLink LinkUnit.missed) (show s.link.sfc + 8 ≤ 255 by rw [hv] at h; exact h)]
      exact ⟨(workLevel_latches _).kinds⟩
    · rw [hlink]
      rfl
    · rw [hlink]
      rfl

/-- A verdict that takes SFC above 255. -/
theorem judgeOne_cuts (h : 255 < (r.verdict q).sfc s.link.sfc) (hbefore : s.link.sfc ≤ 255) :
    ∃ u, judgeOne r.h r.map q s = enterCut 0 u ∧ s.Judges r [q] u := by
  cases hv : r.verdict q with
  | unknown =>
    rw [hv] at h
    exact absurd hbefore (Nat.not_le.mpr h)
  | received =>
    rw [hv] at h
    exact absurd (Nat.le_trans (Nat.sub_le ..) hbefore) (Nat.not_le.mpr h)
  | missing =>
    rw [hv] at h
    refine ⟨_, (judgeOne_missing hv).trans (raiseSfc_cuts (s := s.modLink LinkUnit.missed) h), rfl, ?_, ?_, .of_eq rfl⟩
    · rw [number_singleton, hv]
      exact .one _
    · rw [number_singleton, hv]
      exact .zero _

end

theorem judgeList_cons (r : Return) (q : BitVec 16) (qs : List (BitVec 16)) (s : State) :
    judgeList r (q :: qs) s = if (judgeOne r.h r.map q s).link.mode.audio then judgeList r qs (judgeOne r.h r.map q s)
      else (judgeOne r.h r.map q s, false) := rfl

/-- Sequences of which none takes SFC above 255 are all judged. -/
theorem judgeList_whole (r : Return) (qs : List (BitVec 16)) (s : State) (haudio : s.link.mode.audio = true)
    (h : ∀ i, i ≤ qs.length → r.sfcAfter (qs.take i) s.link.sfc ≤ 255) :
    (judgeList r qs s).2 = true ∧ s.Judges r qs (judgeList r qs s).1 ∧
      (judgeList r qs s).1.link.sfc = r.sfcAfter qs s.link.sfc ∧
      (s.link.level = some s.link.worked →
        (judgeList r qs s).1.link.level = some (judgeList r qs s).1.link.worked) := by
  induction qs generalizing s with
  | nil => exact ⟨rfl, .refl r s, rfl, id⟩
  | cons q qs ih =>
    obtain ⟨hjudges, hsfc, hlevel⟩ := judgeOne_judges (r := r) (q := q) haudio (h 1 (Nat.succ_le_succ (Nat.zero_le _)))
    have haudio' : (judgeOne r.h r.map q s).link.mode.audio = true := by
      rw [hjudges.link]
      exact haudio
    rw [judgeList_cons, if_pos haudio']
    obtain ⟨hall, hrest, hsfcs, hlevels⟩ := ih _ haudio' fun i hi => by
      rw [hsfc]
      exact h (i + 1) (Nat.succ_le_succ hi)
    exact ⟨hall, hjudges.trans hrest, by rw [hsfcs, hsfc]; rfl, fun hs => hlevels (hlevel hs)⟩

/-- Sequences of which one takes SFC above 255 are judged as far as that one, which brings the cut. -/
theorem judgeList_cut (r : Return) (qs : List (BitVec 16)) (n : Nat) (s : State) (haudio : s.link.mode.audio = true)
    (hn : n < qs.length) (h : ∀ i, i ≤ n → r.sfcAfter (qs.take i) s.link.sfc ≤ 255)
    (hcut : 255 < r.sfcAfter (qs.take (n + 1)) s.link.sfc) :
    ∃ u, judgeList r qs s = (enterCut 0 u, false) ∧ s.Judges r (qs.take (n + 1)) u := by
  induction qs generalizing n s with
  | nil => exact absurd hn (Nat.not_lt_zero n)
  | cons q qs ih =>
    rw [judgeList_cons]
    cases n with
    | zero =>
      obtain ⟨u, hu, hjudges⟩ := judgeOne_cuts (r := r) (q := q) hcut (h 0 (Nat.le_refl 0))
      have hmode : ¬ (judgeOne r.h r.map q s).link.mode.audio = true := by
        rw [hu, (enterCut_cuts 0 u).mode]
        nofun
      rw [if_neg hmode, hu]
      exact ⟨u, rfl, hjudges⟩
    | succ n =>
      obtain ⟨hjudges, hsfc, -⟩ := judgeOne_judges (r := r) (q := q) haudio (h 1 (Nat.succ_le_succ (Nat.zero_le n)))
      have haudio' : (judgeOne r.h r.map q s).link.mode.audio = true := by
        rw [hjudges.link]
        exact haudio
      rw [if_pos haudio']
      obtain ⟨u, hu, hrest⟩ := ih n _ haudio' (Nat.lt_of_succ_lt_succ hn)
        (fun i hi => by
          rw [hsfc]
          exact h (i + 1) (Nat.succ_le_succ hi))
        (by
          rw [hsfc]
          exact hcut)
      exact ⟨u, hu, hjudges.trans hrest⟩

/-! ### The sequences that a return has newly judged -/

/-- The sequences that a return judges. -/
def Return.newly (r : Return) (judged : BitVec 16) : List (BitVec 16) :=
  if seqAfter (r.h - 8) judged then
    (List.range (r.h - 8 - judged).toNat).map fun i => judged + 1 + BitVec.ofNat 16 i
  else []

theorem newly_nil_iff (r : Return) (judged : BitVec 16) : r.newly judged = [] ↔ seqAfter (r.h - 8) judged = false := by
  unfold Return.newly
  cases h : seqAfter (r.h - 8) judged with
  | false => exact ⟨fun _ => rfl, fun _ => rfl⟩
  | true =>
    refine ⟨fun hnil => ?_, nofun⟩
    unfold seqAfter at h
    rw [Bool.and_eq_true, decide_eq_true_eq, decide_eq_true_eq] at h
    rw [if_pos rfl, List.map_eq_nil_iff, List.range_eq_nil] at hnil
    omega

/-- The judging of a return, by the sequences that it judges. -/
theorem judge_eq (r : Return) (s : State) :
    judge r s =
      if r.newly s.link.judged = [] then s
      else if (judgeList r (r.newly s.link.judged) s).2 then
        (judgeList r (r.newly s.link.judged) s).1.modLink fun l => { l with judged := r.h - 8 }
      else (judgeList r (r.newly s.link.judged) s).1 := by
  unfold judge
  dsimp only
  cases h : seqAfter (r.h - 8) s.link.judged with
  | false => rw [if_pos ((newly_nil_iff r _).mpr h)]; rfl
  | true =>
    have hsome : r.newly s.link.judged ≠ [] := by
      rw [Ne, newly_nil_iff, h]
      nofun
    have hnewly : r.newly s.link.judged =
        (List.range (r.h - 8 - s.link.judged).toNat).map fun i => s.link.judged + 1 + BitVec.ofNat 16 i := if_pos h
    rw [if_pos rfl, if_neg hsome, judgeRun_eq, hnewly]

end Sys2Proof.Machine

/-!
PROOF. A good return in each link mode (R169, R171, R176, R179, R188 to R192).
-/

namespace Sys2Proof.Machine

/-! ### The fault counts of a return (R169, R171) -/

/-- The state as a return in RUN, SLEEP_PENDING or CUT has lowered RFC. -/
def State.heard (s : State) : State := lowerRfc (s.modLink fun l => { l with gapTimer := 0 })

theorem heard_audio {s : State} (h : s.link.mode.audio = true) : s.heard.link = { s.link with
    gapTimer := 0
    rfc := s.link.rfc - 1
    level := some (levelOf s.link.warningLimit s.link.sfc (s.link.rfc - 1)) } :=
  workLevel_audio (s := (s.modLink fun l => { l with gapTimer := 0 }).modLink fun l => { l with rfc := l.rfc - 1 }) h

theorem heard_latches (s : State) : s.Latches [18] s.heard := ⟨(workLevel_latches _).kinds⟩

theorem heard_cut {s : State} (h : s.link.mode = .cut) :
    s.heard = s.modLink fun l => { l with gapTimer := 0, rfc := l.rfc - 1 } := by
  refine (workLevel_same (s := (s.modLink fun l => { l with gapTimer := 0 }).modLink fun l => { l with rfc := l.rfc - 1 })
    (.inl ?_)).trans rfl
  show s.link.mode.audio = false
  rw [h]
  rfl

theorem returnHealth_audio {s : State} (h : s.link.mode = .run ∨ s.link.mode = .sleepPending) (r : Return) :
    returnHealth r s = judge r s.heard := by
  unfold returnHealth
  rcases h with h | h
  all_goals
    rw [h]
    rfl

/-- A return whose verdicts on `qs` bring no cut. -/
structure State.Hears (r : Return) (qs : List (BitVec 16)) (judged : BitVec 16) (s u : State) : Prop where
  link : u.link = { s.link with
    gapTimer := 0
    sfc := r.sfcAfter qs s.link.sfc
    rfc := s.link.rfc - 1
    level := some (levelOf s.link.warningLimit (r.sfcAfter qs s.link.sfc) (s.link.rfc - 1))
    judged := judged
    counters := { s.link.counters with missing := u.link.counters.missing, unknown := u.link.counters.unknown }
    faultsSince := u.link.faultsSince
    capture := u.link.capture }
  missing : Counted s.link.counters.missing (r.number qs .missing) u.link.counters.missing
  unknown : Counted s.link.counters.unknown (r.number qs .unknown) u.link.counters.unknown
  latches : s.Latches [18] u

/-- A return whose verdicts bring the cut, up to that cut. -/
structure State.Breaks (r : Return) (qs : List (BitVec 16)) (s u : State) : Prop where
  link : u.link = { s.link with
    gapTimer := 0
    sfc := u.link.sfc
    rfc := s.link.rfc - 1
    level := u.link.level
    counters := { s.link.counters with missing := u.link.counters.missing, unknown := u.link.counters.unknown }
    faultsSince := u.link.faultsSince
    capture := u.link.capture }
  missing : Counted s.link.counters.missing (r.number qs .missing) u.link.counters.missing
  unknown : Counted s.link.counters.unknown (r.number qs .unknown) u.link.counters.unknown

theorem audio_of {m : LinkMode} (h : m = .run ∨ m = .sleepPending) : m.audio = true := by
  rcases h with rfl | rfl <;> rfl

section
variable {r : Return} {s : State}

theorem heard_hears (hmode : s.link.mode.audio = true) : s.Hears r [] s.link.judged s.heard := by
  have hheard := heard_audio hmode
  refine ⟨?_, ?_, ?_, heard_latches s⟩
  · rw [hheard]
    rfl
  · rw [hheard]
    exact .zero _
  · rw [hheard]
    exact .zero _

theorem judged_hears {qs : List (BitVec 16)} {v : State} (hmode : s.link.mode.audio = true)
    (h : s.heard.Judges r qs v) (hsfc : v.link.sfc = r.sfcAfter qs s.heard.link.sfc)
    (hlevel : v.link.level = some v.link.worked) (judged : BitVec 16) :
    s.Hears r qs judged (v.modLink fun l => { l with judged := judged }) := by
  have hheard := heard_audio hmode
  have hcounters : s.heard.link.counters = s.link.counters := by rw [hheard]
  have hsfc' : v.link.sfc = r.sfcAfter qs s.link.sfc := by
    rw [hsfc, hheard]
  have hworked : v.link.worked = levelOf s.link.warningLimit (r.sfcAfter qs s.link.sfc) (s.link.rfc - 1) := by
    unfold LinkUnit.worked
    rw [hsfc', congrArg LinkUnit.warningLimit h.link, congrArg LinkUnit.rfc h.link, hheard]
  refine ⟨?_, hcounters ▸ h.missing, hcounters ▸ h.unknown, ⟨((heard_latches s).trans h.latches).kinds⟩⟩
  rw [State.modLink_link, ← hworked, ← hlevel, ← hsfc', ← hcounters]
  conv_lhs => rw [h.link]
  conv_lhs => rw [hheard]
  rw [hcounters]

theorem returnHealth_hears (hmode : s.link.mode = .run ∨ s.link.mode = .sleepPending)
    (h : ∀ i, i ≤ (r.newly s.link.judged).length → r.sfcAfter ((r.newly s.link.judged).take i) s.link.sfc ≤ 255) :
    s.Hears r (r.newly s.link.judged) (if r.newly s.link.judged = [] then s.link.judged else r.h - 8)
      (returnHealth r s) := by
  have hheard := heard_audio (s := s) (audio_of hmode)
  have hjudged : s.heard.link.judged = s.link.judged := by rw [hheard]
  have hsfc : s.heard.link.sfc = s.link.sfc := by rw [hheard]
  have hlevel : s.heard.link.level = some s.heard.link.worked := by
    rw [hheard]
    rfl
  obtain ⟨hall, hjudges, hsfcs, hlevels⟩ := judgeList_whole r (r.newly s.link.judged) s.heard
    (by rw [hheard]; exact audio_of hmode) (by rw [hsfc]; exact h)
  rw [returnHealth_audio hmode, judge_eq, hjudged]
  by_cases hnil : r.newly s.link.judged = []
  · rw [if_pos hnil, if_pos hnil, hnil]
    exact heard_hears (audio_of hmode)
  · rw [if_neg hnil, if_neg hnil, if_pos hall]
    exact judged_hears (audio_of hmode) hjudges hsfcs (hlevels hlevel) _

theorem returnHealth_breaks (hmode : s.link.mode = .run ∨ s.link.mode = .sleepPending) {n : Nat}
    (hn : n < (r.newly s.link.judged).length)
    (h : ∀ i, i ≤ n → r.sfcAfter ((r.newly s.link.judged).take i) s.link.sfc ≤ 255)
    (hcut : 255 < r.sfcAfter ((r.newly s.link.judged).take (n + 1)) s.link.sfc) :
    ∃ v, returnHealth r s = enterCut 0 v ∧ s.Breaks r ((r.newly s.link.judged).take (n + 1)) v := by
  have hheard := heard_audio (s := s) (audio_of hmode)
  have hjudged : s.heard.link.judged = s.link.judged := by rw [hheard]
  have hsfc : s.heard.link.sfc = s.link.sfc := by rw [hheard]
  have hcounters : s.heard.link.counters = s.link.counters := by rw [hheard]
  obtain ⟨v, hv, hjudges⟩ := judgeList_cut r (r.newly s.link.judged) n s.heard (by rw [hheard]; exact audio_of hmode) hn
    (by rw [hsfc]; exact h) (by rw [hsfc]; exact hcut)
  have hsome : r.newly s.link.judged ≠ [] := fun hnil => by
    rw [hnil] at hn
    exact Nat.not_lt_zero _ hn
  refine ⟨v, ?_, ?_, hcounters ▸ hjudges.missing, hcounters ▸ hjudges.unknown⟩
  · rw [returnHealth_audio hmode, judge_eq, hjudged, if_neg hsome, hv]
    rfl
  · conv_lhs => rw [hjudges.link]
    conv_lhs => rw [hheard]

end

end Sys2Proof.Machine

/-!
PROOF. A good return in CUT, WAKING and ASLEEP, and in SLEEP_PENDING (R169, R176, R188 to R192).
-/

namespace Sys2Proof.Machine

/-! ### The probe verdict (R176) -/

/-- The state as a return in CUT has lowered RFC and seen the lock flag. -/
def State.probed (r : Return) (s : State) : State :=
  s.modLink fun l => { l.seeLock r.lock with gapTimer := 0, rfc := l.rfc - 1 }

section
variable {r : Return} {s : State}

theorem returnHealth_cut (h : s.link.mode = .cut) : returnHealth r s =
    if r.lock && r.errors = 0 then
      let u := s.probed r |>.modLink fun l => { l with sfc := l.sfc - 1 }
      if u.link.sfc = 0 then restoreLink u else u
    else (s.probed r).modLink fun l =>
      { l with
        cutProbeFailures := bump l.cutProbeFailures 1
        counters := { l.counters with probeFailure := bump l.counters.probeFailure 1 } } := by
  have hheard : s.heard.modLink (fun l => l.seeLock r.lock) = s.probed r := by
    rw [heard_cut h]
    rfl
  have hlower : lowerSfc (s.probed r) = (s.probed r).modLink fun l => { l with sfc := l.sfc - 1 } := by
    refine workLevel_same (.inl ?_)
    show s.link.mode.audio = false
    rw [h]
    rfl
  have hhealth : returnHealth r s = probeVerdict r s.heard := by
    unfold returnHealth
    rw [h]
    rfl
  rw [hhealth]
  unfold probeVerdict
  dsimp only
  rw [hheard, hlower]

/-- A good probe that leaves SFC above 0. -/
theorem returnHealth_probe (h : s.link.mode = .cut) (hgood : r.lock = true ∧ r.errors = 0) (hsfc : 1 < s.link.sfc) :
    returnHealth r s = (s.probed r).modLink fun l => { l with sfc := l.sfc - 1 } := by
  have hleft : ¬ s.link.sfc - 1 = 0 := by omega
  rw [returnHealth_cut h, if_pos (by rw [hgood.1, hgood.2]; rfl)]
  exact if_neg hleft

/-- A good probe that brings SFC to 0. -/
theorem returnHealth_restores (h : s.link.mode = .cut) (hgood : r.lock = true ∧ r.errors = 0) (hsfc : s.link.sfc ≤ 1) :
    returnHealth r s = restoreLink ((s.probed r).modLink fun l => { l with sfc := l.sfc - 1 }) := by
  have hleft : s.link.sfc - 1 = 0 := by omega
  rw [returnHealth_cut h, if_pos (by rw [hgood.1, hgood.2]; rfl)]
  exact if_pos hleft

theorem returnHealth_fails (h : s.link.mode = .cut) (hbad : ¬ (r.lock = true ∧ r.errors = 0)) :
    returnHealth r s = (s.probed r).modLink fun l =>
      { l with
        cutProbeFailures := bump l.cutProbeFailures 1
        counters := { l.counters with probeFailure := bump l.counters.probeFailure 1 } } := by
  rw [returnHealth_cut h, if_neg]
  rw [Bool.and_eq_true, decide_eq_true_eq]
  exact hbad

end

/-- What the restoration of the link leaves. -/
theorem restoreLink_restores (s : State) :
    (restoreLink s).link = { s.link with
      mode := .run
      gapTimer := 0
      level := some (levelOf s.link.warningLimit 0 0)
      sfc := 0
      rfc := 0
      judged := s.link.lastSeq
      counters := { s.link.counters with
        restored := min (s.link.counters.restored + 1) 65535
        messageLost := (restoreLink s).link.counters.messageLost }
      queue := (restoreLink s).link.queue
      nextNumber := (restoreLink s).link.nextNumber
      faultsSince := (restoreLink s).link.faultsSince
      capture := (restoreLink s).link.capture } ∧
    (restoreLink s).notices.latches.get 20 = some ((s.notices.latches.get 20).getD
      [Word.nat s.link.cutDuration, Word.nat s.link.cutProbeFailures]) := by
  unfold restoreLink
  dsimp only
  set u := enterRun (s.modLink fun l => { l with
    sfc := 0, rfc := 0, judged := l.lastSeq, counters := { l.counters with restored := bump l.counters.restored 1 } })
  set v := latch .linkRestored [Word.nat s.link.cutDuration, Word.nat s.link.cutProbeFailures] u with hv
  have hlink : v.link = u.link := by rw [hv, latch_link]
  have hselects := select_selects v
  have hpasses := hselects.passes (by rw [hlink]; rfl)
  refine ⟨?_, ?_⟩
  · unfold LinkUnit.Passes at hpasses
    rw [hlink] at hpasses
    exact hpasses
  · rw [hselects.latches.stands (k := 20) (by decide), hv, latch_get,
      if_pos (show (20 : Fin 25) = NoticeKind.linkRestored.index from rfl)]
    rfl

/-! ### The wake (R192) -/

theorem wakeSuccess_wakes (s : State) :
    (wakeSuccess s).link = { s.link with
      mode := .run
      gapTimer := 0
      level := some (levelOf s.link.warningLimit 0 0)
      sfc := 0
      rfc := 0
      judged := s.link.lastSeq
      counters := { s.link.counters with
        wakesCompleted := min (s.link.counters.wakesCompleted + 1) 65535
        messageLost := (wakeSuccess s).link.counters.messageLost }
      queue := (wakeSuccess s).link.queue
      nextNumber := (wakeSuccess s).link.nextNumber
      faultsSince := (wakeSuccess s).link.faultsSince
      capture := (wakeSuccess s).link.capture } := by
  unfold wakeSuccess
  set u := enterRun (s.modLink fun l => { l with
    sfc := 0, rfc := 0, judged := l.lastSeq
    counters := { l.counters with wakesCompleted := bump l.counters.wakesCompleted 1 } })
  exact (select_selects u).passes rfl

end Sys2Proof.Machine

/-!
PROOF. What a good return does, put together from its parts (R169, R171, R176, R179, R188 to R192).
-/

namespace Sys2Proof.Machine

section
variable {r : Return} {s u w t : State}

theorem State.Returns.hears (h : s.Returns r u w t) {n : Nat} (hn : s.link.mode = .cut → n = 1) : s.Endures n u :=
  h.health ▸ .returnHealth r hn

theorem State.Returns.frame (h : s.Returns r u w t) : t = { s with
    clips := t.clips, intake := t.intake, air := t.air, link := t.link, notices := t.notices, sent := t.sent } := by
  have hw : w = { u with link := w.link, notices := w.notices, sent := w.sent } := by
    rw [h.recorded]
    unfold recordReturn
    conv_lhs => rw [h.acks.frame]
    rfl
  have hu := (h.hears (n := 1) fun _ => rfl).frame
  have ht := h.endures.frame
  conv_lhs => rw [ht, hw, hu]

theorem State.Returns.recorded_last (h : s.Returns r u w t) : t.link.lastFar = some r.far ∧ t.link.lastAck = r.ack := by
  have ht := h.endures.link
  unfold LinkUnit.Endures at ht
  rw [ht, h.link]
  exact ⟨rfl, rfl⟩

/-- The message in flight after a return. -/
theorem State.Returns.flight (h : s.Returns r u w t) {f : InFlight} (hf : s.link.inFlight = some f) :
    t.link.inFlight = if r.ack = some f.message.number then none else some f := by
  have ht := h.endures.link
  have hu := (h.hears (n := 1) fun _ => rfl).link
  unfold LinkUnit.Endures at ht hu
  have huf : u.link.inFlight = some f := (congrArg LinkUnit.inFlight hu).trans hf
  have hcomplete : t.link.inFlight = (u.link.completeMessage r.ack).inFlight := by rw [ht, h.link]
  rw [hcomplete]
  split
  · next hack => rw [LinkUnit.completeMessage_acked ⟨huf, hack⟩]
  · next hack =>
    rw [LinkUnit.completeMessage_stands, huf]
    rintro g ⟨hg, hgack⟩
    exact hack (Option.some.inj (huf.symm.trans hg) ▸ hgack)

/-- Whether the negotiation's request has been acked, after a return. -/
theorem completeMessage_requestAcked (l : LinkUnit) (ack : Option Byte) :
    (l.completeMessage ack).requestAcked = true ↔ l.requestAcked = true ∨ ∃ f, l.inFlight = some f ∧
      ack = some f.message.number ∧ f.message.isRequest l.requestNumber = true := by
  by_cases hacks : ∃ f, l.acks ack f
  · obtain ⟨f, hf⟩ := hacks
    rw [LinkUnit.completeMessage_acked hf, Bool.or_eq_true]
    refine or_congr Iff.rfl ⟨fun hrequest => ⟨f, hf.1, hf.2, hrequest⟩, ?_⟩
    rintro ⟨g, hg, -, hrequest⟩
    exact Option.some.inj (hf.1.symm.trans hg) ▸ hrequest
  · rw [LinkUnit.completeMessage_stands fun f hf => hacks ⟨f, hf⟩]
    exact ⟨.inl, fun hor => hor.elim id fun ⟨f, hf, hack, _⟩ => (hacks ⟨f, hf, hack⟩).elim⟩

theorem State.Returns.acked (h : s.Returns r u w t) : w.link.requestAcked = true ↔ s.link.requestAcked = true ∨
    ∃ f, s.link.inFlight = some f ∧ r.ack = some f.message.number ∧ f.message.isRequest s.link.requestNumber = true := by
  have hu := (h.hears (n := 1) fun _ => rfl).link
  unfold LinkUnit.Endures at hu
  rw [← congrArg LinkUnit.requestAcked hu, ← congrArg LinkUnit.inFlight hu, ← congrArg LinkUnit.requestNumber hu,
    ← completeMessage_requestAcked, h.link]

theorem State.Returns.acked_kept (h : s.Returns r u w t) : t.link.requestAcked = w.link.requestAcked := by
  have ht := h.endures.link
  unfold LinkUnit.Endures at ht
  rw [ht]

/-- An ack of the late number. -/
theorem State.Returns.late (h : s.Returns r u w t) {a : Byte} (hack : r.ack = some a)
    (hlate : s.link.lateNumber = some a) (hmode : s.link.mode ≠ .sleepPending) : t.link.lateNumber = none ∧
      (s.link.queue.length < (if s.link.mode = .cut then 7 else 8) →
        ∃ m ∈ t.link.queue, m.kind = .sleepCancel ∧ m.body = [a]) := by
  obtain ⟨humode, hulate, more, hmore, huqueue⟩ :=
    (h.hears (n := if s.link.mode = .cut then 1 else 0) fun hc => if_pos hc).late hmode
  obtain ⟨hwlate, hwcancel⟩ := h.acks.cancels a hack (hulate.trans hlate)
  have hw : w.link.mode = u.link.mode ∧ w.link.lateNumber = (takeAck r.ack u).link.lateNumber ∧
      w.link.queue = (takeAck r.ack u).link.queue := by
    refine ⟨by rw [h.link], ?_, ?_⟩
    all_goals
      rw [h.recorded]
      rfl
  obtain ⟨-, htlate, rest, -, htqueue⟩ := h.endures.late (hw.1 ▸ humode)
  refine ⟨by rw [htlate, hw.2.1, hwlate], fun hroom => ?_⟩
  have hlength : u.link.queue.length < 8 := by
    rw [huqueue, List.length_append]
    by_cases hcut : s.link.mode = .cut
    · rw [if_pos hcut] at hroom hmore
      omega
    · rw [if_neg hcut] at hroom hmore
      omega
  obtain ⟨m, hm, hcancel⟩ := hwcancel hlength
  exact ⟨m, by rw [htqueue, hw.2.2]; exact List.mem_append_left _ hm, hcancel⟩

theorem returnHealth_gap (hmode : s.link.mode ∈ [LinkMode.run, .sleepPending, .cut]) (r : Return) :
    (returnHealth r s).link.gapTimer = 0 := by
  have hheard : s.heard.link.gapTimer = 0 := (State.Endures.lowerRfc (n := 0) _).gap rfl
  cases h : s.link.mode with
  | run =>
    rw [returnHealth_audio (.inl h)]
    exact (State.Endures.judge (n := 0) r s.heard).gap hheard
  | sleepPending =>
    rw [returnHealth_audio (.inr h)]
    exact (State.Endures.judge (n := 0) r s.heard).gap hheard
  | cut =>
    unfold returnHealth
    rw [h]
    exact (State.Endures.probeVerdict r s.heard).gap hheard
  | asleep | waking =>
    rw [h] at hmode
    exact absurd hmode (by decide)

theorem State.Returns.gap (h : s.Returns r u w t) (hmode : s.link.mode ∈ [LinkMode.run, .sleepPending, .cut]) :
    t.link.gapTimer = 0 := by
  refine h.endures.gap ?_
  rw [h.link, h.health]
  exact returnHealth_gap hmode r

/-! ### In CUT -/

/-- In CUT a return ends with its record. -/
theorem State.Returns.cut_link (h : s.Returns r u w t) (hmode : s.link.mode = .run ∨ s.link.mode = .cut) :
    t.link = w.link := by
  rw [h.sleep, if_pos hmode]

theorem State.Returns.cut_latches (h : s.Returns r u w t) (hmode : s.link.mode = .run ∨ s.link.mode = .cut) :
    u.Latches [23] t := by
  rw [h.sleep, if_pos hmode, h.recorded]
  exact ⟨h.acks.latches.kinds⟩

theorem State.Returns.cut_probe (h : s.Returns r u w t) (hmode : s.link.mode = .cut) :
    t.link.lockSeen = (s.link.lockSeen || r.lock) ∧
      t.link.lockLost = (s.link.lockLost || (s.link.lockSeen && !r.lock)) ∧
      (r.lock = true ∧ r.errors = 0 →
        (1 < s.link.sfc → t.link.mode = .cut ∧ t.link.sfc = s.link.sfc - 1 ∧ t.link.rfc = s.link.rfc - 1) ∧
        (s.link.sfc ≤ 1 → t.link.mode = .run ∧ t.link.sfc = 0 ∧ t.link.rfc = 0 ∧ t.link.judged = s.link.lastSeq ∧
          t.link.counters.restored = min (s.link.counters.restored + 1) 65535 ∧
          t.notices.latches.get 20 = some ((s.notices.latches.get 20).getD
            [Word.nat s.link.cutDuration, Word.nat s.link.cutProbeFailures]))) ∧
      (¬(r.lock = true ∧ r.errors = 0) → t.link.mode = .cut ∧ t.link.sfc = s.link.sfc ∧ t.link.rfc = s.link.rfc - 1 ∧
        t.link.cutProbeFailures = min (s.link.cutProbeFailures + 1) 65535 ∧
        t.link.counters.probeFailure = min (s.link.counters.probeFailure + 1) 65535) := by
  have hlink := (h.cut_link (.inr hmode)).trans h.link
  have hlatches := h.cut_latches (.inr hmode)
  have hhealth := h.health
  by_cases hgood : r.lock = true ∧ r.errors = 0
  · by_cases hsfc : 1 < s.link.sfc
    · rw [returnHealth_probe hmode hgood hsfc] at hhealth
      rw [hlink, hhealth]
      exact ⟨rfl, rfl, fun _ => ⟨fun _ => ⟨hmode, rfl, rfl⟩, fun hno => absurd hsfc (Nat.not_lt.mpr hno)⟩,
        fun hno => absurd hgood hno⟩
    · rw [returnHealth_restores hmode hgood (Nat.not_lt.mp hsfc)] at hhealth
      obtain ⟨hrestored, hlatched⟩ := restoreLink_restores ((s.probed r).modLink fun l => { l with sfc := l.sfc - 1 })
      rw [← hhealth] at hrestored hlatched
      rw [hlink, hrestored]
      exact ⟨rfl, rfl, fun _ => ⟨fun hyes => absurd hyes hsfc, fun _ => ⟨rfl, rfl, rfl, rfl, rfl, hlatches.kept hlatched⟩⟩,
        fun hno => absurd hgood hno⟩
  · rw [returnHealth_fails hmode hgood] at hhealth
    rw [hlink, hhealth]
    exact ⟨rfl, rfl, fun hyes => absurd hyes hgood, fun _ => ⟨hmode, rfl, rfl, rfl, rfl⟩⟩

/-! ### In WAKING and ASLEEP -/

theorem State.Returns.quiet_link (h : s.Returns r u w t) (hmode : s.link.mode = .waking ∨ s.link.mode = .asleep) :
    w.link = { s.link with
      inFlight := w.link.inFlight
      requestAcked := w.link.requestAcked
      lateNumber := w.link.lateNumber
      queue := w.link.queue
      nextNumber := w.link.nextNumber
      counters := { s.link.counters with messageLost := w.link.counters.messageLost }
      faultsSince := w.link.faultsSince
      capture := w.link.capture
      lastFar := w.link.lastFar
      lastAck := w.link.lastAck } := by
  have hu : u = s := by
    rw [h.health]
    unfold returnHealth
    rcases hmode with hmode | hmode
    all_goals rw [hmode]
  conv_lhs => rw [h.link]
  conv_rhs => rw [h.link]
  rw [hu]

theorem State.Returns.sleeps (h : s.Returns r u w t) (hmode : s.link.mode ≠ .run ∧ s.link.mode ≠ .cut) :
    t = returnSleep r.far w := by
  rw [h.sleep, if_neg]
  exact fun hno => hno.elim hmode.1 hmode.2

theorem State.Returns.waking (h : s.Returns r u w t) (hmode : s.link.mode = .waking) :
    (r.far = .awake → t.link.mode = .run ∧ t.link.sfc = 0 ∧ t.link.rfc = 0 ∧ t.link.judged = s.link.lastSeq ∧
      t.link.gapTimer = 0 ∧ t.link.counters.wakesCompleted = min (s.link.counters.wakesCompleted + 1) 65535) ∧
    (r.far ≠ .awake → t.link.mode = .waking ∧ t.link.sfc = s.link.sfc ∧ t.link.rfc = s.link.rfc) := by
  have hw := h.quiet_link (.inl hmode)
  have hwmode : w.link.mode = .waking := (congrArg LinkUnit.mode hw).trans hmode
  have ht := h.sleeps (by rw [hmode]; exact ⟨nofun, nofun⟩)
  unfold returnSleep at ht
  rw [hwmode] at ht
  dsimp only at ht
  refine ⟨fun hfar => ?_, fun hfar => ?_⟩
  · rw [if_pos hfar] at ht
    rw [ht, wakeSuccess_wakes w]
    exact ⟨rfl, rfl, rfl, by rw [hw], rfl, by rw [hw]⟩
  · rw [if_neg hfar] at ht
    rw [ht]
    exact ⟨hwmode, by rw [hw], by rw [hw]⟩

theorem State.Returns.asleep (h : s.Returns r u w t) (hmode : s.link.mode = .asleep) :
    t.link.asleepWatch = 0 ∧ t.link.sfc = s.link.sfc ∧ t.link.rfc = s.link.rfc ∧
    (r.far = .wakeRequest → t.link.mode = .waking ∧ t.link.wakePhase = .burst ∧ t.link.burstNumber = 1 ∧
      t.link.burstIndex = 0 ∧ t.link.counters.wakesStarted = min (s.link.counters.wakesStarted + 1) 65535) ∧
    (r.far ≠ .wakeRequest → t.link.mode = .asleep) := by
  have hw := h.quiet_link (.inr hmode)
  have hwmode : w.link.mode = .asleep := (congrArg LinkUnit.mode hw).trans hmode
  have hsfc : w.link.sfc = s.link.sfc := by rw [hw]
  have hrfc : w.link.rfc = s.link.rfc := by rw [hw]
  have hstarted : w.link.counters.wakesStarted = s.link.counters.wakesStarted := by rw [hw]
  have ht := h.sleeps (by rw [hmode]; exact ⟨nofun, nofun⟩)
  unfold returnSleep at ht
  rw [hwmode] at ht
  dsimp only at ht
  by_cases hfar : r.far = .wakeRequest
  · rw [if_pos hfar, startWake_eq] at ht
    rw [ht]
    exact ⟨rfl, by rw [← hsfc]; rfl, by rw [← hrfc]; rfl, fun _ => ⟨rfl, rfl, rfl, rfl, by rw [← hstarted]; rfl⟩,
      fun hno => absurd hfar hno⟩
  · rw [if_neg hfar] at ht
    rw [ht]
    exact ⟨rfl, hsfc, hrfc, fun hyes => absurd hyes hfar, fun _ => hwmode⟩

end

end Sys2Proof.Machine

/-!
PROOF. A good return in RUN and SLEEP_PENDING: its verdicts, and the negotiation (R171, R188, R190).
-/

namespace Sys2Proof.Machine

/-! ### The negotiation (R188, R190) -/

/-- The far end agrees to sleep, to a request that it has acked. -/
def LinkUnit.agreed (l : LinkUnit) (far : FarState) : Prop :=
  (far = .sleepReady ∨ far = .sleeping) ∧ l.requestAcked = true ∧ l.phase = .requesting

/-- The link unit as its phase becomes QUIET. -/
def LinkUnit.quieted (l : LinkUnit) : LinkUnit := { l with phase := .quiet, quietTimer := 0 }

theorem negotiate_agreed {far : FarState} {s : State} (h : s.link.agreed far) :
    negotiate far s =
      if s.link.quietInterval = 0 then enterAsleep (s.modLink LinkUnit.quieted) else s.modLink LinkUnit.quieted := by
  obtain ⟨hfar, hacked, hphase⟩ := h
  have hready : (s.link.requestAcked && decide (s.link.phase = .requesting)) = true := by
    rw [hacked, hphase]
    rfl
  rcases hfar with rfl | rfl
  all_goals exact if_pos hready

theorem negotiate_declined {far : FarState} (h : far = .sleepBusy ∨ far = .wakeRequest) (s : State) :
    negotiate far s = select (endNegotiation .refused 1 s) := by
  rcases h with rfl | rfl
  all_goals rfl

theorem negotiate_waits {far : FarState} {s : State} (hno : ¬ s.link.agreed far)
    (hfar : ¬ (far = .sleepBusy ∨ far = .wakeRequest)) : negotiate far s = s := by
  have hready (hf : far = .sleepReady ∨ far = .sleeping) :
      ¬ (s.link.requestAcked && decide (s.link.phase = .requesting)) = true := by
    rw [Bool.and_eq_true, decide_eq_true_eq]
    exact fun h => hno ⟨hf, h⟩
  cases far with
  | awake => rfl
  | sleepReady => exact if_neg (hready (.inl rfl))
  | sleeping => exact if_neg (hready (.inr rfl))
  | sleepBusy => exact absurd (.inl rfl) hfar
  | wakeRequest => exact absurd (.inr rfl) hfar

/-- What a refusal of the far end leaves. -/
theorem refused_link {s : State} (h : s.link.mode = .sleepPending) (cause : Nat) :
    (select (endNegotiation .refused cause s)).link = { s.link with
      mode := .run
      gapTimer := 0
      level := some s.link.worked
      phase := .none
      queue := (select (endNegotiation .refused cause s)).link.queue
      nextNumber := (select (endNegotiation .refused cause s)).link.nextNumber
      lateNumber := (select (endNegotiation .refused cause s)).link.lateNumber
      faultsSince := (select (endNegotiation .refused cause s)).link.faultsSince
      capture := (select (endNegotiation .refused cause s)).link.capture
      counters := { s.link.counters with
        sleepsRefused := min (s.link.counters.sleepsRefused + 1) 65535
        messageLost := (select (endNegotiation .refused cause s)).link.counters.messageLost } } := by
  have hfields := endNegotiation_fields .refused cause (s := s) (if_pos h).symm
  have hpasses := (select_selects (endNegotiation .refused cause s)).passes
    (by rw [(endNegotiation_pending h .refused cause).1]; rfl)
  unfold LinkUnit.Passes at hpasses
  have hlate := congrArg LinkUnit.lateNumber hpasses
  dsimp only at hlate
  rw [hlate]
  generalize (select (endNegotiation .refused cause s)).link = m at hpasses
  conv_lhs => rw [hpasses, hfields]
  rfl

section
variable {r : Return} {s u w t : State}

/-! ### A cut -/

/-- A verdict brings the cut: all that the return does is the record of it. -/
theorem State.Returns.breaks (h : s.Returns r u w t) {qs : List (BitVec 16)} {v : State} (hu : u = enterCut 0 v) (hv : s.Breaks r qs v) :
    t.link.mode = .cut ∧ t.link.level = none ∧ t.link.sfc = 127 ∧ t.link.rfc = 0 ∧ t.link.judged = s.link.judged ∧
      (t.notices.latches.get 19).isSome = true ∧ t.link.counters.cut = min (s.link.counters.cut + 1) 65535 ∧
      Counted s.link.counters.missing (r.number qs .missing) t.link.counters.missing ∧
      Counted s.link.counters.unknown (r.number qs .unknown) t.link.counters.unknown ∧
      (s.link.mode = .sleepPending → t.link.phase = .none ∧
        t.link.counters.sleepsAborted = min (s.link.counters.sleepsAborted + 1) 65535) := by
  have hcuts := enterCut_cuts 0 v
  rw [← hu] at hcuts
  obtain ⟨hlevel, hsfc, hrfc, hjudged⟩ := hcuts.counts
  have hw := h.link
  have htw : t = w := by
    rw [h.sleep]
    split
    · rfl
    · unfold returnSleep
      rw [show w.link.mode = .cut by rw [hw]; exact hcuts.mode]
  have hlatched : (w.notices.latches.get 19).isSome = true := by
    rw [h.recorded]
    exact h.acks.latches.isSome hcuts.latched
  have hvmode : v.link.mode = s.link.mode := by rw [hv.link]
  have hvcounters := congrArg LinkUnit.counters hv.link
  have hvjudged : v.link.judged = s.link.judged := by rw [hv.link]
  have hmissing := hv.missing
  have hunknown := hv.unknown
  have hcounted := hcuts.counted
  rw [htw]
  refine ⟨?_, ?_, ?_, ?_, ?_, hlatched, ?_, ?_, ?_, fun hpending => ?_⟩
  · rw [hw]
    exact hcuts.mode
  · rw [hw]
    exact hlevel
  · rw [hw]
    exact hsfc
  · rw [hw]
    exact hrfc
  · rw [hw]
    exact hjudged.trans hvjudged
  · rw [hw]
    show u.link.counters.cut = _
    rw [hcounted, hvcounters]
  · rw [hw]
    show Counted _ _ u.link.counters.missing
    rw [hcounted]
    exact hmissing
  · rw [hw]
    show Counted _ _ u.link.counters.unknown
    rw [hcounted]
    exact hunknown
  · obtain ⟨hphase, haborted⟩ := hcuts.aborts (hvmode.trans hpending)
    rw [hw]
    refine ⟨hphase, ?_⟩
    show u.link.counters.sleepsAborted = _
    rw [haborted, hvcounters]

/-! ### No cut -/

/-- What the verdicts of a return without a cut leave. -/
structure State.Verdicts (r : Return) (qs : List (BitVec 16)) (judged : BitVec 16) (s t : State) : Prop where
  sfc : t.link.sfc = r.sfcAfter qs s.link.sfc
  rfc : t.link.rfc = s.link.rfc - 1
  judged : t.link.judged = judged
  missing : Counted s.link.counters.missing (r.number qs .missing) t.link.counters.missing
  unknown : Counted s.link.counters.unknown (r.number qs .unknown) t.link.counters.unknown
  cut : t.link.counters.cut = s.link.counters.cut

theorem State.Verdicts.congr {qs : List (BitVec 16)} {judged : BitVec 16} (h : s.Verdicts r qs judged t)
    (hsfc : u.link.sfc = t.link.sfc) (hrfc : u.link.rfc = t.link.rfc) (hjudged : u.link.judged = t.link.judged)
    (hmissing : u.link.counters.missing = t.link.counters.missing)
    (hunknown : u.link.counters.unknown = t.link.counters.unknown) (hcut : u.link.counters.cut = t.link.counters.cut) :
    s.Verdicts r qs judged u :=
  ⟨hsfc.trans h.sfc, hrfc.trans h.rfc, hjudged.trans h.judged, hmissing ▸ h.missing, hunknown ▸ h.unknown,
    hcut.trans h.cut⟩

/-- The return once recorded, before the far state reaches the negotiation. -/
theorem State.Returns.verdicts (h : s.Returns r u w t) {qs : List (BitVec 16)} {judged : BitVec 16}
    (hu : s.Hears r qs judged u) : s.Verdicts r qs judged w ∧ w.link.mode = s.link.mode ∧
      w.link.level = some (levelOf s.link.warningLimit w.link.sfc w.link.rfc) ∧ w.link.phase = s.link.phase ∧
      w.link.quietTimer = s.link.quietTimer ∧ w.link.requestTimer = s.link.requestTimer ∧
      w.link.quietInterval = s.link.quietInterval ∧ w.link.warningLimit = s.link.warningLimit ∧
      w.link.counters.sleepsEntered = s.link.counters.sleepsEntered ∧
      w.link.counters.sleepsRefused = s.link.counters.sleepsRefused ∧
      w.notices.latches.get 21 = s.notices.latches.get 21 := by
  have hlatches : w.notices.latches.get 21 = s.notices.latches.get 21 := by
    rw [h.recorded]
    exact (h.acks.latches.stands (k := 21) (by decide)).trans (hu.latches.stands (by decide))
  have hmissing := hu.missing
  have hunknown := hu.unknown
  have hw := h.link
  have hlink := hu.link
  have hmissing' : w.link.counters.missing = u.link.counters.missing := by rw [hw]
  have hunknown' : w.link.counters.unknown = u.link.counters.unknown := by rw [hw]
  refine ⟨⟨?_, ?_, ?_, hmissing' ▸ hmissing, hunknown' ▸ hunknown, ?_⟩, ?_, ?_, ?_, ?_, ?_, ?_, ?_, ?_, ?_, hlatches⟩
  all_goals rw [hw, hlink]

/-- The negotiation at a return without a cut. -/
theorem negotiate_verdicts {qs : List (BitVec 16)} {judged : BitVec 16} {far : FarState}
    (h : s.Verdicts r qs judged w) (hmode : w.link.mode = .sleepPending) :
    s.Verdicts r qs judged (negotiate far w) ∧
    (w.link.agreed far → w.link.quietInterval ≠ 0 → (negotiate far w).link.mode = .sleepPending ∧
      (negotiate far w).link.phase = .quiet ∧ (negotiate far w).link.quietTimer = 0) ∧
    (w.link.agreed far → w.link.quietInterval = 0 → (negotiate far w).link.mode = .asleep ∧
      (negotiate far w).link.phase = .none ∧ (negotiate far w).link.level = none ∧
      (negotiate far w).link.counters.sleepsEntered = min (w.link.counters.sleepsEntered + 1) 65535 ∧
      (negotiate far w).notices.latches.get 21 = some ((w.notices.latches.get 21).getD [0, 255])) ∧
    (far = .sleepBusy ∨ far = .wakeRequest → (negotiate far w).link.mode = .run ∧ (negotiate far w).link.phase = .none ∧
      (negotiate far w).link.counters.sleepsRefused = min (w.link.counters.sleepsRefused + 1) 65535 ∧
      (negotiate far w).notices.latches.get 21 = some ((w.notices.latches.get 21).getD [1, 1])) ∧
    (¬ w.link.agreed far → ¬ (far = .sleepBusy ∨ far = .wakeRequest) → negotiate far w = w) := by
  by_cases hagreed : w.link.agreed far
  · have hfar : ¬ (far = .sleepBusy ∨ far = .wakeRequest) := by
      rcases hagreed.1 with rfl | rfl
      all_goals decide
    rw [negotiate_agreed hagreed]
    by_cases hzero : w.link.quietInterval = 0
    · rw [if_pos hzero]
      have hasleep : (enterAsleep (w.modLink LinkUnit.quieted)).link = { w.link.quieted with
          mode := .asleep
          phase := .none
          level := none
          keepaliveTimer := 0
          asleepWatch := 0
          counters := { w.link.counters with sleepsEntered := min (w.link.counters.sleepsEntered + 1) 65535 } } := by
        unfold enterAsleep
        rw [latch_link]
        rfl
      refine ⟨h.congr ?_ ?_ ?_ ?_ ?_ ?_, fun _ hno => absurd hzero hno, fun _ _ => ⟨?_, ?_, ?_, ?_, ?_⟩,
        fun hyes => absurd hyes hfar, fun hno => absurd hagreed hno⟩
      case refine_11 =>
        unfold enterAsleep
        rw [latch_get, if_pos (show (21 : Fin 25) = NoticeKind.sleepResult.index from rfl)]
        rfl
      all_goals rw [hasleep] <;> rfl
    · rw [if_neg hzero]
      exact ⟨h.congr rfl rfl rfl rfl rfl rfl, fun _ _ => ⟨hmode, rfl, rfl⟩, fun _ hno => absurd hno hzero,
        fun hyes => absurd hyes hfar, fun hno => absurd hagreed hno⟩
  · by_cases hfar : far = .sleepBusy ∨ far = .wakeRequest
    · have hlink := refused_link hmode 1
      have hlatch := (endNegotiation_pending hmode .refused 1).2.2.2
      have hlatches := (select_selects (endNegotiation .refused 1 w)).latches
      rw [negotiate_declined hfar]
      refine ⟨h.congr ?_ ?_ ?_ ?_ ?_ ?_, fun hyes => absurd hyes hagreed, fun hyes => absurd hyes hagreed,
        fun _ => ⟨?_, ?_, ?_, hlatches.kept hlatch⟩, fun _ hno => absurd hfar hno⟩
      all_goals rw [hlink]
    · rw [negotiate_waits hagreed hfar]
      exact ⟨h, fun hyes => absurd hyes hagreed, fun hyes => absurd hyes hagreed, fun hyes => absurd hyes hfar,
        fun _ _ => rfl⟩

end

/-- Settles O51: a good return in each link mode, the judging by the first cut, the negotiation by the far state. -/
theorem goodReturnTaken : Obligations.GoodReturnTaken := by
  refine ⟨fun s r frame hframe herrors hseq => ?_, fun s r frame hframe herrors hseq hmode => ?_⟩
  · intro l
    obtain ⟨u, w, h⟩ := goodReturn_returns r s.cleared
    have hexec : exec (.returnFrame frame) s = .next (goodReturn r s.cleared) :=
      (exec_returnFrame frame s).trans (congrArg _ (returnArrives_good (s := s.cleared) hframe herrors hseq))
    obtain ⟨hfar, hack⟩ := h.recorded_last
    exact ⟨_, hexec, h.frame, hfar, hack, fun f hf => h.flight hf, by rw [h.acked_kept]; exact h.acked,
      fun a ha hlate hmode => h.late ha hlate hmode, h.gap, h.cut_probe, h.waking, h.asleep⟩
  · intro l k e newly sfc number counted
    obtain ⟨u, w, h⟩ := goodReturn_returns r s.cleared
    have hexec : exec (.returnFrame frame) s = .next (goodReturn r s.cleared) :=
      (exec_returnFrame frame s).trans (congrArg _ (returnArrives_good (s := s.cleared) hframe herrors hseq))
    refine ⟨_, hexec, fun n hn hwithin hcut => ?_, fun hwithin => ?_⟩
    · obtain ⟨v, hv, hbreaks⟩ := returnHealth_breaks (s := s.cleared) hmode hn hwithin hcut
      exact h.breaks (h.health.trans hv) hbreaks
    · have hhears := returnHealth_hears (r := r) (s := s.cleared) hmode hwithin
      rw [← h.health] at hhears
      obtain ⟨hverdicts, hwmode, hlevel, hphase, hquiet, hrequest, hinterval, hlimit, hentered, hrefused, hlatch⟩ :=
        h.verdicts hhears
      have hwhole : newly.take newly.length = newly := List.take_length
      have hall {x : State} (hx : s.cleared.Verdicts r newly (if newly = [] then l.judged else e) x) :
          x.link.sfc = sfc newly.length ∧ x.link.rfc = l.rfc - 1 ∧
            x.link.judged = (if newly = [] then l.judged else e) ∧
            counted k.missing (number newly.length .missing) x.link.counters.missing ∧
            counted k.unknown (number newly.length .unknown) x.link.counters.unknown ∧ x.link.counters.cut = k.cut := by
        show x.link.sfc = (newly.take newly.length).foldl _ _ ∧ _ ∧ _ ∧
          counted k.missing ((newly.take newly.length).countP _) _ ∧ counted k.unknown ((newly.take newly.length).countP _) _ ∧ _
        rw [hwhole]
        exact ⟨hx.sfc, hx.rfc, hx.judged, hx.missing, hx.unknown, hx.cut⟩
      rcases hmode with hrun | hpending
      · have htw := h.cut_link (.inl hrun)
        obtain ⟨hsfc, hrfc, hjudged, hmissing, hunknown, hcut⟩ := hall hverdicts
        rw [htw]
        refine ⟨hsfc, hrfc, hjudged, hmissing, hunknown, hcut, fun _ => ⟨hwmode.trans hrun, hlevel⟩, fun hno => ?_⟩
        rw [hrun] at hno
        cases hno
      · have htn : goodReturn r s.cleared = negotiate r.far w := by
          rw [h.sleeps (by rw [show s.cleared.link.mode = _ from hpending]; exact ⟨nofun, nofun⟩)]
          unfold returnSleep
          rw [hwmode, show s.cleared.link.mode = _ from hpending]
        obtain ⟨hnverdicts, hwaits, hsleeps, hdeclined, hstands⟩ :=
          negotiate_verdicts (far := r.far) hverdicts (hwmode.trans hpending)
        obtain ⟨hsfc, hrfc, hjudged, hmissing, hunknown, hcut⟩ := hall hnverdicts
        rw [htn]
        refine ⟨hsfc, hrfc, hjudged, hmissing, hunknown, hcut, fun hno => ?_, fun _ => ?_⟩
        · rw [hpending] at hno
          cases hno
        · intro acked agreed declined
          have hagreed : agreed ↔ w.link.agreed r.far := by
            show (_ ∧ _ ∧ _) ↔ _
            unfold LinkUnit.agreed
            rw [h.acked, hphase]
            rfl
          rw [hentered, hlatch, hinterval] at hsleeps
          rw [hrefused, hlatch] at hdeclined
          rw [hinterval] at hwaits
          refine ⟨fun hyes => hwaits (hagreed.mp hyes), fun hyes => hsleeps (hagreed.mp hyes), hdeclined,
            fun hno hfar => ?_⟩
          rw [hstands (mt hagreed.mpr hno) hfar]
          exact ⟨hwmode.trans hpending, hphase, hquiet, hrequest⟩

end Sys2Proof.Machine

/-!
PROOF. The parts of a send: adoption (R186), the message in flight (R178), the link frame (R166), and the MONITOR frame
(R167).
-/

namespace Sys2Proof.Machine

/-! ### Adoption (R173, R186) -/

/-- The link unit with its committed settings, before its level is worked out. -/
def State.tuned (s : State) : LinkUnit :=
  { s.link with
    warningLimit := s.setting Setting.warningLimit
    requestLimit := s.setting Setting.sleepRequestTimer
    quietInterval := s.setting Setting.quietInterval
    wakeBurst := s.setting Setting.wakeBurst
    wakeLimit := s.setting Setting.wakeTimer
    autoSleep := s.setting Setting.autoSleep = 1
    wakeOnActivity := s.setting Setting.wakeOnActivity = 1
    abortOnActivity := s.setting Setting.abortOnActivity = 1 }

theorem adoptLink_eq (s : State) : adoptLink s = workLevel { s with link := s.tuned } := rfl

theorem adoptedLink_eq (s : State) : adoptedLink s = { s.tuned with
    level := if s.link.mode.audio then some s.tuned.worked else s.link.level } :=
  workLevel_link { s with link := s.tuned }

/-- The state of a send once its MONITOR frame has left and its settings are adopted. -/
def State.monitored (s : State) : State := adoptLink (sendStudio none (monitorFrame s) s)

theorem sendBegin_eq (s : State) : sendBegin s = sendTimers s.monitored := rfl

theorem monitored_link (s : State) : s.monitored.link = adoptedLink s := by
  unfold State.monitored
  rw [adoptedLink_eq]
  exact adoptedLink_eq (sendStudio none (monitorFrame s) s)

theorem workLevel_sent (s : State) :
    ∃ frames, (workLevel s).sent = { s.sent with studio := s.sent.studio ++ frames } := by
  unfold workLevel
  dsimp only
  split
  · exact latch_sent ..
  · exact ⟨[], by rw [List.append_nil]⟩

theorem monitored_frame (s : State) : s.monitored = { s with
    link := s.monitored.link, notices := s.monitored.notices, sent := s.monitored.sent } := by
  unfold State.monitored
  rw [adoptLink_eq]
  conv_lhs => rw [workLevel_frame]
  rfl

theorem monitored_sent (s : State) : ∃ frames, s.monitored.sent =
    { s.sent with studio := s.sent.studio ++ studioFrame none (monitorFrame s) :: frames } := by
  unfold State.monitored
  rw [adoptLink_eq]
  obtain ⟨frames, hframes⟩ := workLevel_sent { sendStudio none (monitorFrame s) s with
    link := (sendStudio none (monitorFrame s) s).tuned }
  exact ⟨frames, by rw [hframes]; exact congrArg (fun x => ({ s.sent with studio := x } : Sent)) (List.append_assoc ..)⟩

theorem monitored_latches (s : State) : s.Latches [18] s.monitored := ⟨(workLevel_latches _).kinds⟩

/-- The level of a send stands, or its change is latched. -/
theorem monitored_notices {s : State} (haudio : s.link.mode.audio = true) :
    (s.link.level = some s.tuned.worked → s.monitored.notices = s.notices) ∧
      (s.link.level ≠ some s.tuned.worked → s.monitored.notices.latches.get 18 =
        some ((s.notices.latches.get 18).getD (s.link.levelWords s.tuned.worked))) := by
  set v : State := { sendStudio none (monitorFrame s) s with link := (sendStudio none (monitorFrame s) s).tuned } with hv
  have hmonitored : s.monitored = workLevel v := rfl
  refine ⟨fun hlevel => ?_, fun hlevel => ?_⟩
  · rw [hmonitored, workLevel_same (s := v) (.inr hlevel)]
    rfl
  · rw [hmonitored, workLevel_changes (s := v) haudio hlevel, latch_get,
      if_pos (show (18 : Fin 25) = NoticeKind.linkLevel.index from rfl)]
    rfl

/-! ### The message in flight (R178) -/

theorem keepsMessage_tick {l : LinkUnit} (h : l.keepsMessage) : l.tickMessage.dropping = none := by
  have hsends : ∀ f, l.tickMessage.inFlight = some f → f.sends < 5 := by
    unfold LinkUnit.tickMessage
    split
    · next f hf =>
      split
      · intro g hg
        obtain rfl := Option.some.inj hg
        exact h f hf
      · exact h
    · exact h
  unfold LinkUnit.dropping
  rw [Option.filter_eq_none_iff]
  intro f hf
  rw [Bool.and_eq_true, decide_eq_true_eq]
  exact fun hno => absurd hno.1 (Nat.not_le.mpr (hsends f hf))

/-- The link unit once its message in flight has been seen to, none being dropped. -/
def LinkUnit.readied (l : LinkUnit) : LinkUnit := l.tickMessage.intoFlight

theorem sendMessages_keeps {s : State} (h : s.link.tickMessage.dropping = none) :
    sendMessages s = s.modLink LinkUnit.readied := by
  unfold sendMessages
  dsimp only
  rw [show (s.modLink LinkUnit.tickMessage).link.dropping = none from h]
  rfl

theorem readied_fields (l : LinkUnit) :
    l.readied = { l with inFlight := l.readied.inFlight, queue := l.readied.queue } := by
  obtain ⟨flight, hflight⟩ : ∃ flight, l.tickMessage = { l with inFlight := flight } := ⟨_, l.tickMessage_eq⟩
  unfold LinkUnit.readied
  rw [hflight]
  exact LinkUnit.intoFlight_eq _

/-! ### The link frame (R166, R207, R210) -/

theorem linkFrameBytes_eq (kind : Byte) (payload : List Byte) (robust copy onAir silence : Bool) (seq : BitVec 16)
    (rides : Option InFlight) : linkFrameBytes ⟨kind, payload, robust⟩ copy onAir silence seq rides =
      linkBytes kind ((if onAir then 1 else 0) + (if copy then 2 else 0) + (if silence then 4 else 0) +
        if rides.isSome then 8 else 0) seq (payload ++ (rides.map fun f => f.message.bytes).getD []) := by
  unfold linkFrameBytes linkBytes
  dsimp only
  cases rides with
  | none => rw [Option.map_none, Option.getD_none, List.append_nil, List.append_nil]
  | some f =>
    rw [Option.map_some, Option.getD_some, ← List.append_assoc _ payload]
    rfl

/-- A frame sent on the link port, with its robust copy where it has one. -/
theorem sendFrame_eq (frame : LinkFrame) (s : State) :
    sendFrame frame s = { s with
      link := { s.link.countRide with nextSeq := s.link.nextSeq + 1, lastSeq := s.link.nextSeq }
      sent := { s.sent with link := s.sent.link ++
        ((if frame.robust then [false, true] else [false]).map fun copy => linkPortFrame
          (linkFrameBytes frame copy s.air.onAirFlag (s.link.silenceFlag frame) s.link.nextSeq s.link.riding)) } } := by
  have hcount : (s.link.countRide).nextSeq = s.link.nextSeq := by rw [LinkUnit.countRide_eq]
  unfold sendFrame
  dsimp only
  cases frame.robust with
  | false => rfl
  | true =>
    show _ = ({ s with
      link := _
      sent := { s.sent with link := s.sent.link ++ ([_] ++ [_]) } } : State)
    rw [← List.append_assoc]
    rfl

end Sys2Proof.Machine

/-!
PROOF. The message in flight at a send (R178), and the sends that carry audio (R165, R188).
-/

namespace Sys2Proof.Machine

/-! ### The message in flight (R178) -/

/-- The message in flight at a send: the one held, its timer gone on where it may ride, or the one that moves up. -/
def LinkUnit.flight (l : LinkUnit) : Option InFlight :=
  match l.inFlight with
  | some f => some (if 0 < f.sends && l.mode.permits f.message.kind then { f with timer := min (f.timer + 1) 20 } else f)
  | none => l.nextMessage.map fun m => ⟨m, 0, 0⟩

theorem LinkUnit.flight_held {l : LinkUnit} {f : InFlight} (h : l.inFlight = some f) : l.flight =
    some (if 0 < f.sends && l.mode.permits f.message.kind then { f with timer := min (f.timer + 1) 20 } else f) := by
  unfold LinkUnit.flight
  rw [h]

theorem LinkUnit.flight_next {l : LinkUnit} (h : l.inFlight = none) :
    l.flight = l.nextMessage.map fun m => ⟨m, 0, 0⟩ := by
  unfold LinkUnit.flight
  rw [h]

theorem tickMessage_held {l : LinkUnit} {f : InFlight} (h : l.inFlight = some f) :
    l.tickMessage = { l with inFlight := l.flight } := by
  rw [LinkUnit.flight_held h]
  unfold LinkUnit.tickMessage
  rw [h]
  dsimp only
  split
  · rfl
  · conv_lhs => rw [show l = { l with inFlight := some f } by rw [← h]]

/-- A message held stays in flight, and the queue stands. -/
theorem readied_held {l : LinkUnit} {f : InFlight} (h : l.inFlight = some f) :
    l.readied = { l with inFlight := l.flight } := by
  unfold LinkUnit.readied
  rw [tickMessage_held h, LinkUnit.flight_held h]
  rfl

theorem readied_none {l : LinkUnit} (h : l.inFlight = none) : l.readied = l.intoFlight := by
  unfold LinkUnit.readied LinkUnit.tickMessage
  rw [h]

/-- With none in flight, the next message of the queue moves into flight. -/
theorem readied_next {l : LinkUnit} {m : Message} (h : l.inFlight = none) (hm : l.nextMessage = some m) :
    l.readied = { l with inFlight := some ⟨m, 0, 0⟩, queue := l.queue.erase m } := by
  rw [readied_none h]
  unfold LinkUnit.intoFlight
  rw [h, hm]

theorem readied_idle {l : LinkUnit} (h : l.inFlight = none) (hm : l.nextMessage = none) : l.readied = l := by
  rw [readied_none h]
  unfold LinkUnit.intoFlight
  rw [h, hm]

theorem readied_inFlight (l : LinkUnit) : l.readied.inFlight = l.flight := by
  cases h : l.inFlight with
  | some f => rw [readied_held h]
  | none =>
    cases hm : l.nextMessage with
    | some m => rw [readied_next h hm, LinkUnit.flight_next h, hm]; rfl
    | none => rw [readied_idle h hm, LinkUnit.flight_next h, hm, h]; rfl

theorem readied_mode (l : LinkUnit) : l.readied.mode = l.mode := by rw [readied_fields]

theorem readied_riding (l : LinkUnit) : l.readied.riding =
    l.flight.filter fun f => l.mode.permits f.message.kind && (f.sends = 0 || 20 ≤ f.timer) := by
  unfold LinkUnit.riding
  rw [readied_inFlight, readied_mode]
  rfl

/-- A ride restarts the timer of the message and counts its send. -/
theorem countRide_inFlight (l : LinkUnit) : l.countRide.inFlight =
    if l.riding.isSome then l.inFlight.map fun f => { f with sends := f.sends + 1, timer := 0 } else l.inFlight := by
  cases hriding : l.riding with
  | some f =>
    have hheld : l.inFlight = some f := (Option.filter_eq_some_iff.mp hriding).1
    unfold LinkUnit.countRide
    rw [hriding, hheld]
    rfl
  | none =>
    unfold LinkUnit.countRide
    rw [hriding]
    rfl

theorem permits_audio {m : LinkMode} (h : m.audio = true) (k : MessageKind) : m.permits k = true := by
  cases m with
  | run | sleepPending => rfl
  | cut | asleep | waking => exact absurd h (by decide)

theorem nextMessage_audio {l : LinkUnit} (h : l.mode.audio = true) : l.nextMessage = l.queue.head? := by
  unfold LinkUnit.nextMessage
  cases l.queue with
  | nil => rfl
  | cons m rest => exact List.find?_cons_of_pos (permits_audio h _)

theorem readied_queue_audio {l : LinkUnit} (h : l.mode.audio = true) :
    l.readied.queue = if l.inFlight.isSome then l.queue else l.queue.tail := by
  cases hheld : l.inFlight with
  | some f =>
    rw [readied_held hheld]
    rfl
  | none =>
    cases hqueue : l.queue with
    | nil =>
      rw [readied_idle hheld (by rw [nextMessage_audio h, hqueue]; rfl), hqueue]
      rfl
    | cons m rest =>
      rw [readied_next hheld (m := m) (by rw [nextMessage_audio h, hqueue]; rfl), hqueue]
      exact List.erase_cons_head ..

/-! ### The timers of a send that come to nothing (R170, R188) -/

theorem tickGap_early {s : State} (h : s.link.mode.counting = true) (hgap : s.link.gapTimer + 1 < 8) :
    tickGap s = s.modLink fun l => { l with gapTimer := l.gapTimer + 1 } := by
  have hdue : gapDue s.link = false := by
    unfold gapDue
    rw [h, Bool.true_and]
    exact decide_eq_false (Nat.not_le.mpr hgap)
  unfold tickGap
  rw [hdue, if_neg nofun, if_pos h]

theorem sendTimers_run {s : State} (h : s.link.mode = .run) : sendTimers s = tickGap s := by
  unfold sendTimers tickCut
  rw [h]
  dsimp only
  rw [if_neg nofun]

theorem sendTimers_pending {s : State} (h : s.link.mode = .sleepPending) : sendTimers s =
    if (tickGap s).link.mode = .sleepPending then tickNegotiation (tickGap s) else tickGap s := by
  unfold sendTimers
  rw [h]

theorem tickNegotiation_early {s : State} (hrequest : requestDue s.link = false) (hquiet : quietDue s.link = false) :
    tickNegotiation s = s.modLink LinkUnit.tickPhase := by
  rw [tickNegotiation_eq, hrequest, hquiet]
  rfl

/-- The request timer and the quiet timer once a send has advanced the one of the phase. -/
theorem tickPhase_timers (l : LinkUnit) : l.tickPhase = { l with
    requestTimer := if l.phase = .requesting then min (l.requestTimer + 1) 10000 else l.requestTimer
    quietTimer := l.quietTimer + if l.phase = .quiet then 1 else 0 } := by
  have hother {p q : Phase} (h : l.phase = p) (hne : p ≠ q) : ¬ l.phase = q := fun hno => hne (h.symm.trans hno)
  unfold LinkUnit.tickPhase
  split
  · next h => rw [if_pos h, if_neg (hother h (q := .quiet) nofun)]; rfl
  · next h => rw [if_neg (hother h (q := .requesting) nofun), if_pos h]
  · next h => rw [if_neg (hother h (q := .requesting) nofun), if_neg (hother h (q := .quiet) nofun)]; rfl

/-- The link of a send that carries audio, its settings adopted and its timers advanced. -/
def State.airing (s : State) : LinkUnit :=
  { adoptedLink s with
    gapTimer := s.link.gapTimer + 1
    requestTimer := if s.link.mode = .sleepPending ∧ s.link.phase = .requesting then min (s.link.requestTimer + 1) 10000
      else s.link.requestTimer
    quietTimer := s.link.quietTimer + if s.link.mode = .sleepPending ∧ s.link.phase = .quiet then 1 else 0 }

theorem sendBegin_run {s : State} (h : s.link.mode = .run) (hgap : s.link.gapTimer + 1 < 8) :
    sendBegin s = { s.monitored with link := s.airing } := by
  have hlink := monitored_link s
  have hadopted := adoptedLink_eq s
  have hmode : s.monitored.link.mode = .run := by
    rw [hlink, hadopted]
    exact h
  have hother (p : Phase) : ¬ (s.link.mode = .sleepPending ∧ s.link.phase = p) :=
    fun hno => absurd (h.symm.trans hno.1) nofun
  rw [sendBegin_eq, sendTimers_run hmode, tickGap_early (by rw [hmode]; rfl) (by rw [hlink, hadopted]; exact hgap)]
  unfold State.airing State.modLink
  rw [hlink, if_neg (hother .requesting), if_neg (hother .quiet), hadopted]
  rfl

/-- A send of a negotiation none of whose timers comes to its limit. -/
theorem sendBegin_pending {s : State} (h : s.link.mode = .sleepPending) (hgap : s.link.gapTimer + 1 < 8)
    (hrequest : s.link.phase = .requesting → s.link.requestAcked = true ∨
      s.link.requestTimer + 1 < s.setting Setting.sleepRequestTimer)
    (hquiet : s.link.phase = .quiet → s.link.quietTimer + 1 < s.setting Setting.quietInterval) :
    sendBegin s = { s.monitored with link := s.airing } := by
  have hlink := monitored_link s
  have hadopted := adoptedLink_eq s
  have hmode : s.monitored.link.mode = .sleepPending := by
    rw [hlink, hadopted]
    exact h
  have htick := tickGap_early (s := s.monitored) (by rw [hmode]; rfl) (by rw [hlink, hadopted]; exact hgap)
  have hnorequest : requestDue (tickGap s.monitored).link = false := by
    rw [htick, State.modLink_link, hlink, hadopted, Bool.eq_false_iff]
    intro hdue
    simp only [requestDue, Bool.and_eq_true, decide_eq_true_eq, Bool.not_eq_true'] at hdue
    obtain ⟨⟨⟨-, hphase⟩, hacked⟩, hlimit⟩ := hdue
    obtain hdone | hlate := hrequest hphase
    · exact absurd (hdone.symm.trans hacked) nofun
    · exact absurd hlate (Nat.not_lt.mpr hlimit)
  have hnoquiet : quietDue (tickGap s.monitored).link = false := by
    rw [htick, State.modLink_link, hlink, hadopted, Bool.eq_false_iff]
    intro hdue
    simp only [quietDue, Bool.and_eq_true, decide_eq_true_eq] at hdue
    obtain ⟨⟨-, hphase⟩, hlimit⟩ := hdue
    exact absurd (hquiet hphase) (Nat.not_lt.mpr hlimit)
  have hgoes : (tickGap s.monitored).link.mode = .sleepPending := by
    rw [htick]
    exact hmode
  rw [sendBegin_eq, sendTimers_pending hmode, if_pos hgoes, tickNegotiation_early hnorequest hnoquiet, htick]
  unfold State.airing
  simp only [State.modLink, hlink, tickPhase_timers, h, true_and]
  rw [hadopted]
  rfl

theorem enteredCut_other {s t : State} (h : t.link.mode ≠ .cut) : enteredCutBetween s t = false := by
  unfold enteredCutBetween
  rw [decide_eq_false h]
  rfl

theorem sendFrames_audio {s w : State} (hmode : w.link.mode.audio = true) (keepalive : Bool) :
    sendFrames (enteredCutBetween s w) keepalive w = sendAudio w := by
  rw [enteredCut_other (fun hno => by rw [hno] at hmode; exact absurd hmode nofun)]
  unfold sendFrames
  rw [if_neg nofun]
  cases hw : w.link.mode with
  | run | sleepPending => rfl
  | cut | asleep | waking => rw [hw] at hmode; exact absurd hmode nofun

/-- The send that carries the air frame, `w` being what its timers and its message lead to. -/
theorem sendWork_audio {s w : State} (hw : sendMessages (sendBegin s) = w) (hmode : w.link.mode.audio = true) :
    sendWork s = recordMonitor true (sendAudio w) := by
  unfold sendWork
  dsimp only
  rw [hw, sendFrames_audio hmode, hmode, enteredCut_other (fun hno => by rw [hno] at hmode; exact absurd hmode nofun)]
  rfl

end Sys2Proof.Machine

/-!
PROOF. A send that carries audio: obligation O46.
-/

namespace Sys2Proof.Machine

theorem monitored_air (s : State) : s.monitored.air = s.air := by rw [monitored_frame]

theorem airing_fields (s : State) : s.airing = { s.tuned with
    level := s.airing.level, gapTimer := s.airing.gapTimer, requestTimer := s.airing.requestTimer
    quietTimer := s.airing.quietTimer } := by
  unfold State.airing
  rw [adoptedLink_eq]

/-- The frames on the link port of a send that carries audio. -/
def State.audioFrames (s : State) : List LinkPortFrame :=
  (if s.airing.level = some .degraded then [false, true] else [false]).map fun copy => linkPortFrame
    (linkFrameBytes ⟨1, stereoBytes s.air.lastAir, s.airing.level = some .degraded⟩ copy s.air.onAirFlag
      (s.link.mode = .sleepPending && s.link.phase = .quiet) s.link.nextSeq s.airing.readied.riding)

/-- The whole of a send that carries audio, no timer coming to its limit and no message being dropped. -/
theorem sendWork_airs {s : State} (hb : sendBegin s = { s.monitored with link := s.airing })
    (hmode : s.link.mode.audio = true) (hkeeps : s.link.keepsMessage) :
    sendWork s = { s.monitored with
      link := { s.airing.readied with
        inFlight := s.airing.readied.countRide.inFlight, nextSeq := s.link.nextSeq + 1, lastSeq := s.link.nextSeq
        monitorAir := s.air.lastAir, notSent := false }
      sent := { s.monitored.sent with link := s.monitored.sent.link ++ s.audioFrames } } := by
  have hfields := airing_fields s
  have hair := monitored_air s
  have hlevel : s.airing.readied.level = s.airing.level := by rw [readied_fields]
  have hready : s.airing.readied.mode = s.link.mode ∧ s.airing.readied.phase = s.link.phase ∧
      s.airing.readied.nextSeq = s.link.nextSeq := by
    rw [readied_fields, hfields]
    exact ⟨rfl, rfl, rfl⟩
  obtain ⟨hmodes, hphase, hseq⟩ := hready
  have hnodrop : s.airing.tickMessage.dropping = none :=
    keepsMessage_tick (by unfold LinkUnit.keepsMessage; rw [hfields]; exact hkeeps)
  rw [sendWork_audio ((congrArg sendMessages hb).trans (sendMessages_keeps hnodrop))
    (show s.airing.readied.mode.audio = true by rw [hmodes]; exact hmode)]
  unfold sendAudio recordMonitor
  rw [sendFrame_eq]
  unfold State.audioFrames LinkUnit.silenceFlag State.modLink
  dsimp only
  rw [LinkUnit.countRide_eq, hair, hlevel, hmodes, hphase, hseq]
  simp only [decide_true, Bool.true_and, Bool.not_true, decide_eq_true_eq]

theorem flight_audio {l : LinkUnit} (h : l.mode.audio = true) : l.flight = match l.inFlight with
    | some f => some (if 0 < f.sends then { f with timer := min (f.timer + 1) 20 } else f)
    | none => l.queue.head?.map fun m => ⟨m, 0, 0⟩ := by
  cases hheld : l.inFlight with
  | some f =>
    rw [LinkUnit.flight_held hheld, permits_audio h, Bool.and_true]
    simp only [decide_eq_true_eq]
  | none => rw [LinkUnit.flight_next hheld, nextMessage_audio h]

theorem riding_audio {l : LinkUnit} (h : l.mode.audio = true) :
    l.readied.riding = l.flight.filter fun f => f.sends = 0 || 20 ≤ f.timer := by
  rw [readied_riding]
  simp only [permits_audio h, Bool.true_and]

theorem tuned_worked (s : State) : s.tuned.worked =
    if 127 < s.link.sfc ∨ 127 < s.link.rfc then .degraded
    else if s.setting Setting.warningLimit ≤ s.link.sfc ∨ s.setting Setting.warningLimit ≤ s.link.rfc then .warning
    else .clear := levelOf_eq ..

/-- The bytes of an AUDIO frame. -/
theorem audioFrame_bytes (s : State) (robust copy : Bool) (rides : Option InFlight) :
    linkPortFrame (linkFrameBytes ⟨1, stereoBytes s.air.lastAir, robust⟩ copy s.air.onAirFlag
      (s.link.mode = .sleepPending && s.link.phase = .quiet) s.link.nextSeq rides) =
    ⟨0x88B5, padded (linkBytes 1 ((if s.air.onAirFlag then 1 else 0) + (if copy then 2 else 0) +
      (if s.link.mode = .sleepPending ∧ s.link.phase = .quiet then 4 else 0) + if rides.isSome then 8 else 0)
      s.link.nextSeq (stereoBytes s.air.lastAir ++ (rides.map fun f => f.message.bytes).getD []))⟩ := by
  rw [linkFrameBytes_eq]
  simp only [Bool.and_eq_true, decide_eq_true_eq]
  rfl

/-- Settles O46: the timers come to nothing, no message is dropped, and the send is one AUDIO frame. -/
theorem sendCarriesAudio : Obligations.SendCarriesAudio := by
  intro s hgap hkeeps hmodes l quiet limit level flight rides bytes
  have hmode : s.link.mode.audio = true := by
    obtain h | ⟨h, -⟩ := hmodes
    · rw [h]; rfl
    · rw [h]; rfl
  have hbegin : sendBegin s.cleared = { s.cleared.monitored with link := s.cleared.airing } := by
    obtain h | ⟨h, hrequest, hquiet⟩ := hmodes
    · exact sendBegin_run (s := s.cleared) h hgap
    · exact sendBegin_pending (s := s.cleared) h hgap hrequest hquiet
  have hsend := sendWork_airs (s := s.cleared) hbegin hmode hkeeps
  have hairing := airing_fields s.cleared
  have hready := readied_fields s.cleared.airing
  have hlevels : s.cleared.airing.level = some level := by
    unfold State.airing
    rw [adoptedLink_eq]
    exact (if_pos hmode).trans (congrArg some (tuned_worked s.cleared))
  have hmodes : s.cleared.airing.mode.audio = true := by rw [hairing]; exact hmode
  have hflight : s.cleared.airing.flight = flight := by
    rw [flight_audio hmodes, hairing]
    rfl
  have hrides : s.cleared.airing.readied.riding = rides := by rw [riding_audio hmodes, hflight]
  refine ⟨_, (rfl : exec .send s = .next (sendWork s.cleared)).trans (congrArg Host.Outcome.next hsend), ?_⟩
  refine ⟨?_, ?_, ?_, ?_, ?_, ?_, ?_, rfl, rfl, ?_, ?_, ?_, ?_, ?_, ?_, rfl, rfl, ?_, ?_⟩
  · conv_lhs => rw [monitored_frame]
    rfl
  · show s.cleared.airing.readied.mode = _
    rw [hready, hairing]
    rfl
  · show s.cleared.airing.readied.level = _
    rw [hready]
    exact hlevels
  · show s.cleared.airing.readied.gapTimer = _
    rw [hready]
    rfl
  · show s.cleared.airing.readied.phase = _
    rw [hready, hairing]
    rfl
  · show s.cleared.airing.readied.quietTimer = _
    rw [hready]
    rfl
  · show s.cleared.airing.readied.requestTimer = _
    rw [hready]
    rfl
  · show s.cleared.airing.readied.sfc = _
    rw [hready, hairing]
    rfl
  · show s.cleared.airing.readied.rfc = _
    rw [hready, hairing]
    rfl
  · show s.cleared.monitored.sent.link ++ s.cleared.audioFrames = _
    obtain ⟨frames, hframes⟩ := monitored_sent s.cleared
    rw [hframes]
    unfold State.audioFrames
    rw [hlevels, hrides]
    have hbytes (robust copy : Bool) := audioFrame_bytes s robust copy rides
    by_cases h : level = .degraded
    · rw [if_pos h, if_pos (congrArg some h)]
      exact congrArg₂ (fun x y => [x, y]) (hbytes _ false) (hbytes _ true)
    · rw [if_neg h, if_neg (fun hno => h (Option.some.inj hno))]
      exact congrArg (fun x => [x]) (hbytes _ false)
  · show s.cleared.airing.readied.countRide.inFlight = _
    rw [countRide_inFlight, hrides, readied_inFlight, hflight]
  · show s.cleared.airing.readied.queue = _
    rw [readied_queue_audio hmodes, hairing]
    rfl
  · obtain ⟨frames, hframes⟩ := monitored_sent s.cleared
    show s.cleared.monitored.sent.studio.head? = _
    rw [hframes]
    rfl
  · intro h
    have hsame := (monitored_notices (s := s.cleared) hmode).1
    rw [tuned_worked] at hsame
    exact hsame h
  · intro h
    have hchanged := (monitored_notices (s := s.cleared) hmode).2
    rw [tuned_worked] at hchanged
    exact hchanged h

end Sys2Proof.Machine

/-!
PROOF. The message in flight rides again and is dropped (R178): obligation O49.
-/

namespace Sys2Proof.Machine

/-- What a send of audio makes of the link and the notices. -/
theorem sendAudio_link (w : State) : (recordMonitor true (sendAudio w)).notices = w.notices ∧
    (recordMonitor true (sendAudio w)).link = { w.link with
      inFlight := w.link.countRide.inFlight, nextSeq := w.link.nextSeq + 1, lastSeq := w.link.nextSeq
      monitorAir := (sendAudio w).air.lastAir, notSent := false } := by
  unfold sendAudio
  rw [sendFrame_eq]
  refine ⟨rfl, ?_⟩
  unfold recordMonitor State.modLink
  dsimp only
  rw [LinkUnit.countRide_eq]
  rfl

theorem resendDue_eq {s w : State} (hw : sendMessages (sendBegin s) = w) : resendDue s =
    (decide ((sendFrames (enteredCutBetween s w) (keepaliveDue (adoptedLink s)) w).link.nextSeq ≠ w.link.nextSeq) &&
      w.link.riding.any fun f => 0 < f.sends) := by
  unfold resendDue
  rw [hw]
  rfl

/-- The link unit once its message in flight has been dropped and counted. -/
def LinkUnit.dropped (f : InFlight) (l : LinkUnit) : LinkUnit :=
  { l with
    inFlight := none
    lateNumber := if f.message.isRequest l.lateNumber then none else l.lateNumber
    counters := { l.counters with messageLost := min (l.counters.messageLost + 1) 65535 } }

/-- The detail of LINK_MESSAGE_LOST for a message dropped from flight. -/
def InFlight.lostWords (f : InFlight) : List Word :=
  [Word.nat f.message.kind.code, Word.nat f.message.number.toNat, Word.nat 1]

theorem dropMessage_counting {s : State} (f : InFlight) (h : s.link.mode.counting = true) :
    dropMessage f s = raiseSfc 16 .messageLost f.message.number.toNat
      (latch .linkMessageLost f.lostWords (s.modLink (LinkUnit.dropped f))) :=
  if_pos (by rw [latch_link]; exact h)

/-- A drop in RUN or SLEEP_PENDING that brings no cut. -/
theorem dropMessage_audio {s : State} (f : InFlight) (haudio : s.link.mode.audio = true) (h : s.link.sfc + 16 ≤ 255) :
    (∃ level faults capture, (dropMessage f s).link = { s.link.dropped f with
      sfc := s.link.sfc + 16, level := level, faultsSince := faults, capture := capture }) ∧
    (dropMessage f s).notices.latches.get 23 = some ((s.notices.latches.get 23).getD f.lostWords) := by
  have hcounting : s.link.mode.counting = true := by
    cases hm : s.link.mode with
    | run | sleepPending => rfl
    | cut | asleep | waking => rw [hm] at haudio; exact absurd haudio nofun
  set u : State := latch .linkMessageLost f.lostWords (s.modLink (LinkUnit.dropped f)) with hu
  have hlink : u.link = s.link.dropped f := latch_link ..
  have hsfc : u.link.sfc + 16 ≤ 255 := by rw [hlink]; exact h
  rw [dropMessage_counting f hcounting, ← hu]
  constructor
  · obtain ⟨faults, capture, hraised⟩ :=
      raiseSfc_audio .messageLost f.message.number.toNat (show u.link.mode.audio = true by rw [hlink]; exact haudio) hsfc
    rw [hraised, hlink]
    exact ⟨_, faults, capture, rfl⟩
  · have hlatched : u.notices.latches.get 23 = some ((s.notices.latches.get 23).getD f.lostWords) := by
      rw [hu, latch_get, if_pos (show (23 : Fin 25) = NoticeKind.linkMessageLost.index from rfl)]
      rfl
    rw [raiseSfc_rises hsfc, (workLevel_latches _).stands (by decide)]
    exact hlatched

theorem sendAudio_nextSeq (w : State) : (sendAudio w).link.nextSeq = w.link.nextSeq + 1 := by
  unfold sendAudio
  rw [sendFrame_eq]

/-- A message that rides an AUDIO frame rides again where it has been sent before. -/
theorem resendDue_audio {s w : State} (hw : sendMessages (sendBegin s) = w) (hmode : w.link.mode.audio = true) :
    resendDue s = w.link.riding.any fun f => 0 < f.sends := by
  have hnext : decide (w.link.nextSeq + 1 ≠ w.link.nextSeq) = true := decide_eq_true (by bv_omega)
  rw [resendDue_eq hw, sendFrames_audio hmode, sendAudio_nextSeq, hnext, Bool.true_and]

theorem dropping_held {l : LinkUnit} {f : InFlight} (h : l.inFlight = some f) :
    l.tickMessage.dropping = l.flight.filter fun f => 5 ≤ f.sends && 20 ≤ f.timer := by
  rw [tickMessage_held h]
  rfl

section
variable {s : State} {f : InFlight}

theorem airing_inFlight (h : s.link.inFlight = some f) : s.airing.inFlight = some f := by
  rw [airing_fields]
  exact h

theorem airing_flight (hmode : s.link.mode = .run) (h : s.link.inFlight = some f) (hsends : 1 ≤ f.sends) :
    s.airing.flight = some { f with timer := min (f.timer + 1) 20 } := by
  have hrun : s.airing.mode.audio = true := by
    rw [airing_fields]
    show s.link.mode.audio = true
    rw [hmode]
    rfl
  rw [flight_audio hrun, airing_inFlight h]
  exact congrArg some (if_pos hsends)

end

/-- The head of the queue moves up where no message is in flight, and rides at once. -/
theorem intoFlight_rides {l : LinkUnit} (hmode : l.mode.audio = true) (h : l.inFlight = none) :
    l.intoFlight.countRide.inFlight = (l.queue.head?.map fun m => ⟨m, 1, 0⟩) ∧ l.intoFlight.queue = l.queue.tail := by
  have hqueue := readied_queue_audio hmode
  have hriding := riding_audio hmode
  have hflight := readied_inFlight l
  rw [readied_none h] at hqueue hriding hflight
  rw [LinkUnit.flight_next h, nextMessage_audio hmode] at hriding hflight
  refine ⟨?_, hqueue.trans (by rw [h]; rfl)⟩
  rw [countRide_inFlight, hriding, hflight]
  cases l.queue with
  | nil => rfl
  | cons m rest => rfl

theorem sendMessages_drops {s b : State} {f : InFlight} (hb : sendBegin s = b)
    (h : b.link.tickMessage.dropping = some f) :
    sendMessages (sendBegin s) = (dropMessage f (b.modLink LinkUnit.tickMessage)).modLink LinkUnit.intoFlight := by
  rw [hb]
  unfold sendMessages
  dsimp only
  rw [show (b.modLink LinkUnit.tickMessage).link.dropping = some f from h]

/-- A send of audio at which a message is dropped, its rise of SFC bringing no cut. -/
theorem sendWork_drops {s : State} {f : InFlight} (hbegin : sendBegin s = { s.monitored with link := s.airing })
    (hmode : s.link.mode.audio = true) (hdropped : s.airing.tickMessage.dropping = some f)
    (hsfc : s.link.sfc + 16 ≤ 255) :
    (sendWork s).link.mode = s.link.mode ∧ (sendWork s).link.sfc = s.link.sfc + 16 ∧
      (sendWork s).link.counters.messageLost = min (s.link.counters.messageLost + 1) 65535 ∧
      (sendWork s).notices.latches.get 23 = some ((s.notices.latches.get 23).getD f.lostWords) ∧
      (sendWork s).link.inFlight = (s.link.queue.head?.map fun m => ⟨m, 1, 0⟩) ∧
      (sendWork s).link.queue = s.link.queue.tail := by
  set v : State := { s.monitored with link := s.airing.tickMessage } with hv
  have hlink : v.link = { s.tuned with
      level := s.airing.level, gapTimer := s.airing.gapTimer, requestTimer := s.airing.requestTimer
      quietTimer := s.airing.quietTimer, inFlight := s.airing.tickMessage.inFlight } := by
    show s.airing.tickMessage = _
    rw [LinkUnit.tickMessage_eq, airing_fields]
  obtain ⟨⟨level, faults, capture, hdrop⟩, hlatch⟩ := dropMessage_audio (s := v) f (by rw [hlink]; exact hmode)
    (by rw [hlink]; exact hsfc)
  rw [hlink] at hdrop
  have hw : sendMessages (sendBegin s) = (dropMessage f v).modLink LinkUnit.intoFlight := sendMessages_drops hbegin hdropped
  have hinto := LinkUnit.intoFlight_eq (dropMessage f v).link
  have hmodes : (dropMessage f v).link.mode.audio = true := by rw [hdrop]; exact hmode
  obtain ⟨hflight, hqueue⟩ := intoFlight_rides hmodes (by rw [hdrop]; rfl)
  obtain ⟨hnotices, hsent⟩ := sendAudio_link ((dropMessage f v).modLink LinkUnit.intoFlight)
  rw [sendWork_audio hw (show (dropMessage f v).link.intoFlight.mode.audio = true by rw [hinto]; exact hmodes), hnotices,
    hsent, State.modLink_link]
  refine ⟨?_, ?_, ?_, ?_, ?_, ?_⟩
  · rw [hinto, hdrop]
    rfl
  · rw [hinto, hdrop]
    rfl
  · rw [hinto, hdrop]
    rfl
  · refine hlatch.trans ?_
    rw [show v.notices = s.monitored.notices from rfl, (monitored_latches s).stands (by decide)]
  · refine hflight.trans ?_
    rw [hdrop]
    rfl
  · refine hqueue.trans ?_
    rw [hdrop]
    rfl

/-- Settles O49: at 20 the message rides again or gives its place to the head of the queue. -/
theorem messagesRideAndDrop : Obligations.MessagesRideAndDrop := by
  intro s f hmode hgap hheld hsends l nothing
  have hbegin := sendBegin_run (s := s.cleared) hmode hgap
  have hrun : s.cleared.link.mode.audio = true := by
    show s.link.mode.audio = true
    rw [hmode]
    rfl
  have hmodes : s.cleared.airing.mode.audio = true := by
    rw [airing_fields]
    exact hrun
  have hflight := airing_flight (s := s.cleared) hmode hheld hsends
  have hin := airing_inFlight (s := s.cleared) hheld
  have hdropping := dropping_held hin
  rw [hflight, Option.filter_some] at hdropping
  have hriding := riding_audio hmodes
  rw [hflight, Option.filter_some] at hriding
  have hexec : exec .messageResend s = .next (if resendDue s.cleared then sendWork s.cleared else s.cleared) := rfl
  have hdrops : exec .messageDrop s = .next
      (if ((sendBegin s.cleared).link.tickMessage.dropping).isSome then sendWork s.cleared else s.cleared) := rfl
  rw [hbegin] at hdrops
  have hkept (h : s.cleared.airing.tickMessage.dropping = none) : sendMessages (sendBegin s.cleared) =
      { s.cleared.monitored with link := s.cleared.airing.readied } :=
    (congrArg sendMessages hbegin).trans (sendMessages_keeps h)
  have hready : s.cleared.airing.readied.mode.audio = true := by
    rw [readied_mode]
    exact hmodes
  refine ⟨fun hfew htimer => ?_, fun hmany htimer hsfc => ?_, fun htimer => ?_⟩
  · have hkeeps : s.cleared.link.keepsMessage := by
      intro g hg
      obtain rfl := Option.some.inj (hheld.symm.trans hg)
      exact hfew
    have hnodrop := hdropping.trans (if_neg fun hno => absurd hfew (Nat.not_lt.mpr
      (of_decide_eq_true ((Bool.and_eq_true _ _).mp hno).1)))
    have hrides := hriding.trans (if_pos (Bool.or_eq_true_iff.mpr
      (.inr (decide_eq_true (Nat.le_min.mpr ⟨htimer, le_rfl⟩)))))
    have hdue : resendDue s.cleared = true := by
      rw [resendDue_audio (hkept hnodrop) hready, hrides]
      exact decide_eq_true hsends
    have hairs := sendWork_airs (s := s.cleared) hbegin hrun hkeeps
    refine ⟨sendWork s.cleared, by rw [hexec, if_pos hdue], rfl, ?_, ?_⟩
    · rw [hairs]
      show s.cleared.airing.readied.countRide.inFlight = _
      rw [countRide_inFlight, hrides, readied_inFlight, hflight]
      rfl
    · rw [hairs]
      show s.cleared.airing.readied.queue = _
      rw [readied_held hin]
      rw [airing_fields]
      rfl
  · have hdropped := hdropping.trans (if_pos ((Bool.and_eq_true _ _).mpr
      ⟨decide_eq_true hmany, decide_eq_true (Nat.le_min.mpr ⟨htimer, le_rfl⟩)⟩))
    refine ⟨sendWork s.cleared, by rw [hdrops]; exact congrArg _ (if_pos (by rw [hdropped]; rfl)), rfl, ?_⟩
    obtain ⟨hmode', hrest⟩ := sendWork_drops (s := s.cleared) hbegin hrun hdropped hsfc
    exact ⟨hmode'.trans hmode, hrest⟩
  · have hearly : ¬ 20 ≤ min (f.timer + 1) 20 := fun hno => absurd (Nat.le_min.mp hno).1 (Nat.not_le.mpr htimer)
    have hnodrop := hdropping.trans (if_neg fun hno => hearly (of_decide_eq_true ((Bool.and_eq_true _ _).mp hno).2))
    have hrides := hriding.trans (if_neg fun hno => (Bool.or_eq_true_iff.mp hno).elim
      (fun hzero => absurd (of_decide_eq_true hzero) (Nat.ne_of_gt hsends)) fun hlate => hearly (of_decide_eq_true hlate))
    refine ⟨?_, by rw [hdrops]; exact congrArg _ (if_neg (by rw [hnodrop]; nofun))⟩
    have hdue : ¬ resendDue s.cleared = true := by
      rw [resendDue_audio (hkept hnodrop) hready, hrides]
      nofun
    rw [hexec, if_neg hdue]
    rfl

end Sys2Proof.Machine

/-!
PROOF. A send that carries no audio (R165, R175, R190, R192): what it puts on the link port, and the message that may
ride it (R178).
-/

namespace Sys2Proof.Machine

/-! ### Outside RUN and SLEEP_PENDING the level is left alone (R173) -/

theorem adoptedLink_silent {s : State} (h : s.link.mode.audio = false) : adoptedLink s = s.tuned := by
  rw [adoptedLink_eq, if_neg (Bool.not_eq_true _ ▸ h)]
  rfl

theorem permits_silent {m : LinkMode} (h : m.audio = false) (k : MessageKind) :
    m.permits k = (m ≠ .asleep && k = .sleepCancel) := by
  cases m with
  | run | sleepPending => exact absurd h nofun
  | cut | asleep | waking => rfl

theorem readied_queue (l : LinkUnit) : l.readied.queue = match l.inFlight, l.nextMessage with
    | none, some m => l.queue.erase m
    | _, _ => l.queue := by
  cases h : l.inFlight with
  | some f => rw [readied_held h]
  | none =>
    cases hm : l.nextMessage with
    | some m => rw [readied_next h hm]
    | none => rw [readied_idle h hm]

/-! ### What a send puts on the link port -/

/-- A link unit of which only the message in flight, the sequences, the probes and the burst have gone on. -/
def LinkUnit.Sends (l m : LinkUnit) : Prop :=
  m = { l with
    inFlight := m.inFlight, nextSeq := m.nextSeq, lastSeq := m.lastSeq, pattern := m.pattern
    probeTimer := m.probeTimer, wakePhase := m.wakePhase, burstIndex := m.burstIndex, burstLength := m.burstLength
    wakeTimer := m.wakeTimer }

theorem LinkUnit.Sends.trans {l m n : LinkUnit} (h : l.Sends m) (k : m.Sends n) : l.Sends n := by
  unfold Sends at h k ⊢
  conv_lhs => rw [k, h]

/-- A send that puts `frames`, each without a robust copy, on the link port: what it makes of its message and its
sequence, and what it leaves alone. -/
structure State.Puts (w u : State) (frames : List (List Byte)) : Prop where
  frame : u = { w with link := u.link, sent := { w.sent with link := w.sent.link ++ frames.map linkPortFrame } }
  link : w.link.Sends u.link
  nextSeq : u.link.nextSeq = if frames = [] then w.link.nextSeq else w.link.nextSeq + 1
  inFlight : u.link.inFlight = if frames ≠ [] ∧ w.link.riding.isSome = true then
    w.link.inFlight.map fun f => { f with sends := f.sends + 1, timer := 0 } else w.link.inFlight

theorem State.Puts.nothing (w : State) : w.Puts w [] :=
  ⟨by rw [List.map_nil, List.append_nil], rfl, rfl, (if_neg fun hno => hno.1 rfl).symm⟩

/-- Work on the probes and the bursts, after the frame has left. -/
theorem State.Puts.modLink {w u : State} {frames : List (List Byte)} (h : w.Puts u frames) {f : LinkUnit → LinkUnit}
    (hf : u.link.Sends (f u.link)) (hseq : (f u.link).nextSeq = u.link.nextSeq)
    (hflight : (f u.link).inFlight = u.link.inFlight) : w.Puts (u.modLink f) frames := by
  refine ⟨?_, h.link.trans hf, hseq.trans h.nextSeq, hflight.trans h.inFlight⟩
  conv_lhs => rw [h.frame]
  rfl

theorem State.Puts.mode {w u : State} {frames : List (List Byte)} (h : w.Puts u frames) : u.link.mode = w.link.mode := by
  have hlink := h.link
  unfold LinkUnit.Sends at hlink
  rw [hlink]

/-- The bytes of a frame without audio, a message due riding it. -/
def State.linkFrame (w : State) (kind : Byte) (payload : List Byte) : List Byte :=
  linkBytes kind ((if w.air.onAirFlag then 1 else 0) + if w.link.riding.isSome then 8 else 0) w.link.nextSeq
    (payload ++ (w.link.riding.map fun f => f.message.bytes).getD [])

theorem sendFrame_puts {kind : Byte} (payload : List Byte) (w : State) (h : kind ≠ 1) :
    w.Puts (sendFrame ⟨kind, payload, false⟩ w) [w.linkFrame kind payload] := by
  have hsilence : w.link.silenceFlag ⟨kind, payload, false⟩ = false := by
    unfold LinkUnit.silenceFlag
    rw [decide_eq_false h]
    rfl
  have hbytes : linkFrameBytes ⟨kind, payload, false⟩ false w.air.onAirFlag false w.link.nextSeq w.link.riding =
      w.linkFrame kind payload := by
    rw [linkFrameBytes_eq, if_neg (Bool.false_ne_true), if_neg (Bool.false_ne_true), add_zero, add_zero]
    rfl
  rw [sendFrame_eq, hsilence]
  refine ⟨?_, ?_, rfl, ?_⟩
  · rw [← hbytes]
    rfl
  · unfold LinkUnit.Sends
    dsimp only
    rw [LinkUnit.countRide_eq]
  · show w.link.countRide.inFlight = _
    rw [countRide_inFlight]
    exact if_congr ⟨fun hrides => ⟨nofun, hrides⟩, And.right⟩ rfl rfl

/-! ### The frame of each mode -/

/-- In ASLEEP a KEEPALIVE frame leaves where the keepalive timer is at its limit. -/
theorem sendFrames_asleep {w : State} (h : w.link.mode = .asleep) (due : Bool) :
    w.Puts (sendFrames false due w) (if due then [w.linkFrame 4 []] else []) := by
  have heq : sendFrames false due w = if due then sendFrame ⟨4, [], false⟩ w else w := by
    unfold sendFrames
    rw [if_neg Bool.false_ne_true, h]
  rw [heq]
  cases due with
  | true => exact sendFrame_puts [] w (by decide)
  | false => exact .nothing w

/-- In CUT a PROBE with the next words of the pattern leaves where the probe timer is at 0, and the timer goes on. -/
theorem sendFrames_cut {w : State} {g : BitVec 15} {words : List Byte} (h : w.link.mode = .cut)
    (hpattern : patternWords 96 w.link.pattern = (g, words)) (due : Bool) :
    w.Puts (sendFrames false due w) (if w.link.probeTimer = 0 then [w.linkFrame 2 words] else []) ∧
      (sendFrames false due w).link.probeTimer = (w.link.probeTimer + 1) % 8 ∧
      (sendFrames false due w).link.pattern = (if w.link.probeTimer = 0 then g else w.link.pattern) := by
  have hdue : probeDue w.link = decide (w.link.probeTimer = 0) := by
    unfold probeDue
    rw [decide_eq_true h, Bool.true_and]
  have heq : sendFrames false due w = (if w.link.probeTimer = 0 then
      sendFrame ⟨2, words, false⟩ (w.modLink fun l => { l with pattern := g }) else w).modLink
      fun l => { l with probeTimer := (l.probeTimer + 1) % 8 } := by
    unfold sendFrames
    rw [if_neg Bool.false_ne_true, h]
    unfold sendProbe
    rw [hdue, hpattern]
    simp only [decide_eq_true_eq]
  rw [heq]
  by_cases hprobe : w.link.probeTimer = 0
  · simp only [if_pos hprobe]
    have hputs := sendFrame_puts (kind := 2) words (w.modLink fun l => { l with pattern := g }) (by decide)
    have hpattern' : w.link.Sends { w.link with pattern := g } := rfl
    have hfrom : w.Puts _ [w.linkFrame 2 words] :=
      ⟨hputs.frame, hpattern'.trans hputs.link, hputs.nextSeq, hputs.inFlight⟩
    refine ⟨hfrom.modLink rfl rfl rfl, ?_⟩
    rw [sendFrame_eq]
    unfold State.modLink
    dsimp only
    rw [LinkUnit.countRide_eq]
    exact ⟨rfl, rfl⟩
  · simp only [if_neg hprobe]
    exact ⟨(State.Puts.nothing w).modLink rfl rfl rfl, rfl, rfl⟩

theorem burstEndDue_burst {l : LinkUnit} (h : l.mode = .waking) (hphase : l.wakePhase = .burst) :
    burstEndDue l = decide (l.currentBurst ≤ l.burstIndex + 1) := by
  unfold burstEndDue
  rw [decide_eq_true h, decide_eq_true hphase]
  rfl

/-- The burst of a wake after a WAKE frame of it, the last one leading to phase WAIT (R192). -/
def LinkUnit.burstOn (n : Nat) (last : Bool) (l : LinkUnit) : LinkUnit :=
  if last then { l with burstLength := n, burstIndex := l.burstIndex + 1, wakePhase := .wait, wakeTimer := 0 }
  else { l with burstLength := n, burstIndex := l.burstIndex + 1 }

/-- In WAKING, phase BURST, a WAKE frame leaves, the last of the burst being followed by phase WAIT. -/
theorem sendFrames_burst {w : State} (h : w.link.mode = .waking) (hphase : w.link.wakePhase = .burst) (due : Bool) :
    w.Puts (sendFrames false due w)
        [w.linkFrame 3 [BitVec.ofNat 8 w.link.burstIndex, BitVec.ofNat 8 w.link.currentBurst]] ∧
      (sendFrames false due w).link.burstIndex = w.link.burstIndex + 1 ∧
      (w.link.burstIndex + 1 < w.link.currentBurst → (sendFrames false due w).link.wakePhase = .burst) ∧
      (w.link.currentBurst ≤ w.link.burstIndex + 1 →
        (sendFrames false due w).link.wakePhase = .wait ∧ (sendFrames false due w).link.wakeTimer = 0) := by
  have hlast := burstEndDue_burst h hphase
  have heq : sendFrames false due w =
      (sendFrame ⟨3, [BitVec.ofNat 8 w.link.burstIndex, BitVec.ofNat 8 w.link.currentBurst], false⟩ w).modLink
        (LinkUnit.burstOn w.link.currentBurst (burstEndDue w.link)) := by
    unfold sendFrames sendWake
    rw [if_neg Bool.false_ne_true, h]
    dsimp only
    rw [hphase]
    rfl
  have hputs := sendFrame_puts (kind := 3) [BitVec.ofNat 8 w.link.burstIndex, BitVec.ofNat 8 w.link.currentBurst] w
    (by decide)
  have hindex : ∀ payload, (sendFrame ⟨3, payload, false⟩ w).link.burstIndex = w.link.burstIndex ∧
      (sendFrame ⟨3, payload, false⟩ w).link.wakePhase = .burst := by
    intro payload
    rw [sendFrame_eq]
    dsimp only
    rw [LinkUnit.countRide_eq]
    exact ⟨rfl, hphase⟩
  obtain ⟨hidx, hburst⟩ := hindex [BitVec.ofNat 8 w.link.burstIndex, BitVec.ofNat 8 w.link.currentBurst]
  rw [heq, hlast]
  by_cases hend : w.link.currentBurst ≤ w.link.burstIndex + 1
  · rw [decide_eq_true hend]
    exact ⟨hputs.modLink rfl rfl rfl, congrArg (· + 1) hidx, fun hno => absurd hend (Nat.not_le.mpr hno),
      fun _ => ⟨rfl, rfl⟩⟩
  · rw [decide_eq_false hend]
    exact ⟨hputs.modLink rfl rfl rfl, congrArg (· + 1) hidx, fun _ => hburst, fun hno => absurd hno hend⟩

theorem sendFrames_wait {w : State} (h : w.link.mode = .waking) (hphase : w.link.wakePhase = .wait) (due : Bool) :
    sendFrames false due w = w := by
  unfold sendFrames sendWake
  rw [if_neg Bool.false_ne_true, h]
  dsimp only
  rw [hphase]

end Sys2Proof.Machine

/-!
PROOF. The sends outside RUN and SLEEP_PENDING: obligation O47.
-/

namespace Sys2Proof.Machine

/-- The timers of a send have changed the link unit of `s`, its settings adopted, to `l`: they leave the rest alone. -/
def State.Ticks (s : State) (l : LinkUnit) : Prop :=
  l = { s.tuned with
    gapTimer := l.gapTimer, cutDuration := l.cutDuration, keepaliveTimer := l.keepaliveTimer
    asleepWatch := l.asleepWatch, wakeTimer := l.wakeTimer, counters := l.counters }

/-- The bytes of a frame without audio of a send, the message due riding it. -/
def State.outFrame (s : State) (kind : Byte) (payload : List Byte) : List Byte :=
  linkBytes kind ((if s.air.onAirFlag then 1 else 0) + if s.link.readied.riding.isSome then 8 else 0) s.link.nextSeq
    (payload ++ (s.link.readied.riding.map fun f => f.message.bytes).getD [])

/-- What a send without audio makes of its message, its sequence and the link port. -/
structure State.SendsOut (s t : State) (frames : List (List Byte)) : Prop where
  frame : t = { s with link := t.link, notices := t.notices, sent := t.sent }
  mode : t.link.mode = s.link.mode
  link : t.sent.link = s.sent.link ++ frames.map linkPortFrame
  notSent : t.link.notSent = true
  nextSeq : t.link.nextSeq = if frames = [] then s.link.nextSeq else s.link.nextSeq + 1
  inFlight : t.link.inFlight = if frames ≠ [] ∧ s.link.readied.riding.isSome = true then
    s.link.flight.map fun f => { f with sends := f.sends + 1, timer := 0 } else s.link.flight
  queue : t.link.queue = s.link.readied.queue
  resend : resendDue s = (decide (frames ≠ []) && s.link.readied.riding.any fun f => 0 < f.sends)

theorem frame_of_puts {s w u : State} {frames : List (List Byte)}
    (hw : w = { s with link := w.link, notices := w.notices, sent := w.sent }) (h : w.Puts u frames) :
    u = { s with link := u.link, notices := u.notices, sent := u.sent } := by
  have hframe := h.frame
  clear h
  generalize u.link = lk at hframe ⊢
  subst hframe
  conv_lhs => rw [hw]

section
variable {s : State} {l : LinkUnit} (hl : s.Ticks l)
include hl

theorem ticks_flight : l.flight = s.link.flight := by
  unfold State.Ticks at hl
  rw [hl]
  rfl

theorem ticks_riding : l.readied.riding = s.link.readied.riding := by
  rw [readied_riding, readied_riding, ticks_flight hl]
  unfold State.Ticks at hl
  rw [hl]
  rfl

theorem ticks_queue : l.readied.queue = s.link.readied.queue := by
  rw [readied_queue, readied_queue]
  unfold State.Ticks at hl
  rw [hl]
  rfl

theorem ticks_keeps (h : s.link.keepsMessage) : l.tickMessage.dropping = none := by
  refine keepsMessage_tick ?_
  unfold State.Ticks at hl
  rw [hl]
  exact h

/-- The state of a send from its timers on, its message seen to. -/
theorem ticks_ready : l.readied = { s.tuned with
    gapTimer := l.gapTimer, cutDuration := l.cutDuration, keepaliveTimer := l.keepaliveTimer
    asleepWatch := l.asleepWatch, wakeTimer := l.wakeTimer, counters := l.counters
    inFlight := s.link.flight, queue := s.link.readied.queue } := by
  rw [readied_fields, readied_inFlight, ticks_flight hl, ticks_queue hl]
  unfold State.Ticks at hl
  rw [hl]

/-- The frame of a send without audio. -/
theorem ticks_linkFrame (kind : Byte) (payload : List Byte) :
    State.linkFrame { s.monitored with link := l.readied } kind payload = s.outFrame kind payload := by
  have hseq : l.readied.nextSeq = s.link.nextSeq := by rw [ticks_ready hl]; rfl
  unfold State.linkFrame State.outFrame
  dsimp only
  rw [ticks_riding hl, hseq, monitored_air]

/-- What the frames of a send leave alone. -/
theorem ticks_sends {u : State} {frames : List (List Byte)}
    (hputs : State.Puts { s.monitored with link := l.readied } u frames) : u.link.queue = s.link.readied.queue ∧
      u.link.keepaliveTimer = l.keepaliveTimer ∧ u.link.asleepWatch = l.asleepWatch ∧
      u.link.cutDuration = l.cutDuration ∧ u.link.counters = l.counters := by
  have hlink := hputs.link
  unfold LinkUnit.Sends at hlink
  rw [hlink]
  dsimp only
  rw [ticks_ready hl]
  exact ⟨rfl, rfl, rfl, rfl, rfl⟩

theorem sendMessages_ticks (hb : sendBegin s = { s.monitored with link := l }) (hkeeps : s.link.keepsMessage) :
    sendMessages (sendBegin s) = { s.monitored with link := l.readied } :=
  (congrArg sendMessages hb).trans (sendMessages_keeps (ticks_keeps hl hkeeps))

/-- A send without audio, from what it puts on the link port. -/
theorem sendWork_puts (hb : sendBegin s = { s.monitored with link := l }) (hsilent : s.link.mode.audio = false)
    (hkeeps : s.link.keepsMessage) {frames : List (List Byte)}
    (hcut : enteredCutBetween s { s.monitored with link := l.readied } = false)
    (hputs : State.Puts { s.monitored with link := l.readied }
      (sendFrames false (keepaliveDue s.tuned) { s.monitored with link := l.readied }) frames) :
    sendWork s = recordMonitor false (sendFrames false (keepaliveDue s.tuned) { s.monitored with link := l.readied }) ∧
      s.SendsOut (sendWork s) frames ∧
      (sendWork s).link.keepaliveTimer = l.keepaliveTimer ∧ (sendWork s).link.asleepWatch = l.asleepWatch ∧
      (sendWork s).link.cutDuration = l.cutDuration ∧ (sendWork s).link.counters = l.counters := by
  have hw := sendMessages_ticks hl hb hkeeps
  have hready := ticks_ready hl
  have hmode : l.readied.mode = s.link.mode := by rw [hready]; rfl
  have hwork : sendWork s = recordMonitor false
      (sendFrames false (keepaliveDue s.tuned) { s.monitored with link := l.readied }) := by
    unfold sendWork
    dsimp only
    rw [hw, hcut, hmode, hsilent]
    rw [show (adoptLink s).link = s.tuned from adoptedLink_silent hsilent]
    rfl
  refine ⟨hwork, ?_⟩
  have hseq : l.readied.nextSeq = s.link.nextSeq := by rw [hready]; rfl
  have hresend := resendDue_eq hw
  rw [hcut, adoptedLink_silent hsilent] at hresend
  rw [hwork]
  generalize hu : sendFrames false (keepaliveDue s.tuned) { s.monitored with link := l.readied } = u at hputs hresend ⊢
  obtain ⟨hqueue, htimers⟩ := ticks_sends hl hputs
  have hframe := frame_of_puts (s := s) (by conv_lhs => rw [monitored_frame]) hputs
  refine ⟨⟨?_, hputs.mode.trans hmode, ?_, rfl, ?_, ?_, hqueue, ?_⟩, htimers⟩
  · rw [hframe]
    rfl
  · show u.sent.link = _
    obtain ⟨more, hmore⟩ := monitored_sent s
    rw [hputs.frame]
    show s.monitored.sent.link ++ _ = _
    rw [hmore]
  · exact hputs.nextSeq.trans (by rw [← hseq])
  · refine hputs.inFlight.trans ?_
    show (if frames ≠ [] ∧ l.readied.riding.isSome = true then l.readied.inFlight.map _ else l.readied.inFlight) = _
    rw [ticks_riding hl, readied_inFlight, ticks_flight hl]
  · rw [hresend, hputs.nextSeq]
    show (decide ((if frames = [] then l.readied.nextSeq else l.readied.nextSeq + 1) ≠ l.readied.nextSeq) &&
      l.readied.riding.any _) = _
    rw [ticks_riding hl]
    congr 1
    by_cases h : frames = []
    · rw [if_pos h, decide_eq_false (by simp), decide_eq_false (by simp [h])]
    · rw [if_neg h, decide_eq_true (by bv_omega), decide_eq_true h]

end

/-! ### The timers of each mode -/

theorem sendBegin_asleep {s : State} (h : s.link.mode = .asleep) :
    sendBegin s = { s.monitored with link := s.tuned.tickAsleep } := by
  have hlink : s.monitored.link = s.tuned := (monitored_link s).trans (adoptedLink_silent (by rw [h]; rfl))
  rw [sendBegin_eq]
  unfold sendTimers State.modLink
  rw [hlink, show s.tuned.mode = .asleep from h]

theorem sendBegin_cut {s : State} (h : s.link.mode = .cut) (hgap : s.link.gapTimer + 1 < 8) :
    sendBegin s = { s.monitored with link := { s.tuned with
      cutDuration := min (s.link.cutDuration + 1) 65535, gapTimer := s.link.gapTimer + 1 } } := by
  have hlink : s.monitored.link = s.tuned := (monitored_link s).trans (adoptedLink_silent (by rw [h]; rfl))
  have hmode : s.monitored.link.mode = .cut := by rw [hlink]; exact h
  rw [sendBegin_eq]
  unfold sendTimers tickCut
  rw [hmode, if_pos rfl]
  dsimp only
  rw [tickGap_early (by rw [State.modLink_link, hmode]; rfl) (by rw [State.modLink_link, hlink]; exact hgap)]
  unfold State.modLink
  rw [hlink]
  rfl

theorem wakeDue_waking {l : LinkUnit} (h : l.mode = .waking) :
    wakeDue l = (l.wakePhase = .wait && l.wakeLimit ≤ l.wakeTimer + 1) := by
  unfold wakeDue
  rw [decide_eq_true h, Bool.true_and]

theorem sendTimers_waking {s : State} (h : s.link.mode = .waking) : sendTimers s = tickWake s := by
  unfold sendTimers
  rw [h]

theorem sendBegin_burst {s : State} (h : s.link.mode = .waking) (hphase : s.link.wakePhase = .burst) :
    sendBegin s = { s.monitored with link := s.tuned } := by
  have hlink : s.monitored.link = s.tuned := (monitored_link s).trans (adoptedLink_silent (by rw [h]; rfl))
  have hnotwait : ¬ s.tuned.wakePhase = .wait := fun hno => absurd (hphase.symm.trans hno) nofun
  rw [sendBegin_eq, sendTimers_waking (by rw [hlink]; exact h)]
  unfold tickWake
  rw [wakeDue_waking (by rw [hlink]; exact h), hlink, decide_eq_false hnotwait, Bool.false_and,
    if_neg Bool.false_ne_true, if_neg hnotwait, ← hlink]

theorem sendBegin_wait {s : State} (h : s.link.mode = .waking) (hphase : s.link.wakePhase = .wait)
    (htimer : s.link.wakeTimer + 1 < s.setting Setting.wakeTimer) :
    sendBegin s = { s.monitored with link := { s.tuned with wakeTimer := s.link.wakeTimer + 1 } } := by
  have hlink : s.monitored.link = s.tuned := (monitored_link s).trans (adoptedLink_silent (by rw [h]; rfl))
  have hearly : decide (s.tuned.wakeLimit ≤ s.tuned.wakeTimer + 1) = false :=
    decide_eq_false (Nat.not_le.mpr htimer)
  rw [sendBegin_eq, sendTimers_waking (by rw [hlink]; exact h)]
  unfold tickWake
  rw [wakeDue_waking (by rw [hlink]; exact h), hlink, hearly, Bool.and_false, if_neg Bool.false_ne_true,
    if_pos (show s.tuned.wakePhase = .wait from hphase)]
  unfold State.modLink
  rw [hlink]
  rfl

end Sys2Proof.Machine

/-!
PROOF. The sends outside RUN and SLEEP_PENDING, mode by mode: obligation O47.
-/

namespace Sys2Proof.Machine

theorem keepaliveDue_asleep {l : LinkUnit} (h : l.mode = .asleep) :
    keepaliveDue l = decide (1000 ≤ l.keepaliveTimer + 1) := by
  unfold keepaliveDue
  rw [decide_eq_true h, Bool.true_and]
  rfl

theorem watchDue_asleep {l : LinkUnit} (h : l.mode = .asleep) : watchDue l = decide (1000 ≤ l.asleepWatch + 1) := by
  unfold watchDue
  rw [decide_eq_true h, Bool.true_and]
  rfl

theorem tickAsleep_fields {l : LinkUnit} (h : l.mode = .asleep) :
    l.tickAsleep.keepaliveTimer = (if 1000 ≤ l.keepaliveTimer + 1 then 0 else l.keepaliveTimer + 1) ∧
      l.tickAsleep.asleepWatch = (if 1000 ≤ l.asleepWatch + 1 then 0 else l.asleepWatch + 1) ∧
      l.tickAsleep.counters.gap = min (l.counters.gap + if 1000 ≤ l.asleepWatch + 1 then 1 else 0) 65535 := by
  unfold LinkUnit.tickAsleep
  rw [keepaliveDue_asleep h, watchDue_asleep h]
  simp only [decide_eq_true_eq]
  exact ⟨trivial, trivial, rfl⟩

section
variable {s : State} (hkeeps : s.link.keepsMessage)
include hkeeps

theorem sendWork_asleep (h : s.link.mode = .asleep) :
    s.SendsOut (sendWork s) (if 1000 ≤ s.link.keepaliveTimer + 1 then [s.outFrame 4 []] else []) ∧
      (sendWork s).link.keepaliveTimer = (if 1000 ≤ s.link.keepaliveTimer + 1 then 0 else s.link.keepaliveTimer + 1) ∧
      (sendWork s).link.asleepWatch = (if 1000 ≤ s.link.asleepWatch + 1 then 0 else s.link.asleepWatch + 1) ∧
      (sendWork s).link.counters.gap =
        min (s.link.counters.gap + if 1000 ≤ s.link.asleepWatch + 1 then 1 else 0) 65535 := by
  have hsilent : s.link.mode.audio = false := by rw [h]; rfl
  have hticks : s.Ticks s.tuned.tickAsleep := rfl
  have hmode : s.tuned.tickAsleep.readied.mode = .asleep := by rw [ticks_ready hticks]; exact h
  obtain ⟨-, hsends, htimers⟩ := sendWork_puts hticks (sendBegin_asleep h) hsilent hkeeps
    (enteredCut_other (by show s.tuned.tickAsleep.readied.mode ≠ _; rw [hmode]; nofun))
    (sendFrames_asleep (w := { s.monitored with link := s.tuned.tickAsleep.readied }) hmode (keepaliveDue s.tuned))
  rw [ticks_linkFrame hticks, keepaliveDue_asleep (l := s.tuned) h] at hsends
  obtain ⟨hkeepalive, hwatch, -, hcounters⟩ := htimers
  obtain ⟨hkeepalive', hwatch', hgap⟩ := tickAsleep_fields (l := s.tuned) h
  simp only [decide_eq_true_eq] at hsends
  exact ⟨hsends, hkeepalive.trans hkeepalive', hwatch.trans hwatch', (congrArg _ hcounters).trans hgap⟩

/-- A send in CUT. -/
theorem sendWork_cut (h : s.link.mode = .cut) (hgap : s.link.gapTimer + 1 < 8) {g : BitVec 15} {words : List Byte}
    (hpattern : patternWords 96 s.link.pattern = (g, words)) :
    s.SendsOut (sendWork s) (if s.link.probeTimer = 0 then [s.outFrame 2 words] else []) ∧
      (sendWork s).link.pattern = (if s.link.probeTimer = 0 then g else s.link.pattern) ∧
      (sendWork s).link.probeTimer = (s.link.probeTimer + 1) % 8 ∧
      (sendWork s).link.cutDuration = min (s.link.cutDuration + 1) 65535 ∧
      (!enteredCutBetween s (sendMessages (sendBegin s)) && probeDue (sendMessages (sendBegin s)).link) =
        decide (s.link.probeTimer = 0) := by
  have hsilent : s.link.mode.audio = false := by rw [h]; rfl
  have hbegin := sendBegin_cut h hgap
  set l : LinkUnit := { s.tuned with
    cutDuration := min (s.link.cutDuration + 1) 65535, gapTimer := s.link.gapTimer + 1 } with hl
  have hticks : s.Ticks l := rfl
  have hready := ticks_ready hticks
  have hmode : l.readied.mode = .cut := by rw [hready]; exact h
  have hcut : enteredCutBetween s { s.monitored with link := l.readied } = false := by
    unfold enteredCutBetween
    rw [decide_eq_false (not_not.mpr h), Bool.false_or]
    dsimp only
    rw [hready]
    exact (congrArg _ (decide_eq_false (Nat.ne_of_gt (Nat.lt_min.mpr ⟨Nat.succ_pos _, by decide⟩)))).trans
      (Bool.and_false _)
  obtain ⟨hputs, hprobe, hwords⟩ := sendFrames_cut (w := { s.monitored with link := l.readied }) (g := g) (words := words)
    hmode (by dsimp only; rw [hready]; exact hpattern) (keepaliveDue s.tuned)
  obtain ⟨hwork, hsends, -, -, hduration, -⟩ := sendWork_puts hticks hbegin hsilent hkeeps hcut hputs
  have htimer : l.readied.probeTimer = s.link.probeTimer := by rw [hready]; rfl
  have hold : l.readied.pattern = s.link.pattern := by rw [hready]; rfl
  rw [ticks_linkFrame hticks] at hsends
  dsimp only at hsends hprobe hwords
  rw [htimer] at hsends hprobe hwords
  rw [hold] at hwords
  refine ⟨hsends, ?_, ?_, hduration, ?_⟩
  · rw [hwork]
    exact hwords
  · rw [hwork]
    exact hprobe
  · rw [sendMessages_ticks hticks hbegin hkeeps, hcut]
    unfold probeDue
    dsimp only
    rw [hmode, htimer]
    rfl

/-- A send in phase BURST of WAKING. -/
theorem sendWork_burst (h : s.link.mode = .waking) (hphase : s.link.wakePhase = .burst) :
    s.SendsOut (sendWork s)
        [s.outFrame 3 [BitVec.ofNat 8 s.link.burstIndex, BitVec.ofNat 8 s.tuned.currentBurst]] ∧
      (sendWork s).link.burstIndex = s.link.burstIndex + 1 ∧
      (s.link.burstIndex + 1 < s.tuned.currentBurst → (sendWork s).link.wakePhase = .burst) ∧
      (s.tuned.currentBurst ≤ s.link.burstIndex + 1 →
        (sendWork s).link.wakePhase = .wait ∧ (sendWork s).link.wakeTimer = 0) ∧
      burstEndDue (sendMessages (sendBegin s)).link = decide (s.tuned.currentBurst ≤ s.link.burstIndex + 1) := by
  have hsilent : s.link.mode.audio = false := by rw [h]; rfl
  have hbegin := sendBegin_burst h hphase
  have hticks : s.Ticks s.tuned := rfl
  have hready := ticks_ready hticks
  have hmode : s.tuned.readied.mode = .waking := by rw [hready]; exact h
  have hphases : s.tuned.readied.wakePhase = .burst := by rw [hready]; exact hphase
  have hindex : s.tuned.readied.burstIndex = s.link.burstIndex := by rw [hready]; rfl
  have hburst : s.tuned.readied.currentBurst = s.tuned.currentBurst := by rw [hready]; rfl
  have hcut : enteredCutBetween s { s.monitored with link := s.tuned.readied } = false :=
    enteredCut_other (by show s.tuned.readied.mode ≠ _; rw [hmode]; nofun)
  obtain ⟨hputs, hgoes⟩ := sendFrames_burst (w := { s.monitored with link := s.tuned.readied }) hmode hphases
    (keepaliveDue s.tuned)
  obtain ⟨hwork, hsends, -⟩ := sendWork_puts hticks hbegin hsilent hkeeps hcut hputs
  rw [ticks_linkFrame hticks] at hsends
  dsimp only at hsends hgoes
  rw [hindex, hburst] at hsends hgoes
  obtain ⟨hnext, hon, hend⟩ := hgoes
  refine ⟨hsends, ?_, ?_, ?_, ?_⟩
  · rw [hwork]
    exact hnext
  · rw [hwork]
    exact hon
  · rw [hwork]
    exact hend
  · rw [sendMessages_ticks hticks hbegin hkeeps, burstEndDue_burst hmode hphases]
    rw [hburst, hindex]

/-- A send in phase WAIT of WAKING. -/
theorem sendWork_wait (h : s.link.mode = .waking) (hphase : s.link.wakePhase = .wait)
    (htimer : s.link.wakeTimer + 1 < s.setting Setting.wakeTimer) :
    s.SendsOut (sendWork s) [] ∧ (sendWork s).link.wakeTimer = s.link.wakeTimer + 1 := by
  have hsilent : s.link.mode.audio = false := by rw [h]; rfl
  have hbegin := sendBegin_wait h hphase htimer
  set l : LinkUnit := { s.tuned with wakeTimer := s.link.wakeTimer + 1 } with hl
  have hticks : s.Ticks l := rfl
  have hready := ticks_ready hticks
  have hmode : l.readied.mode = .waking := by rw [hready]; exact h
  have hphases : l.readied.wakePhase = .wait := by rw [hready]; exact hphase
  have hnothing := sendFrames_wait (w := { s.monitored with link := l.readied }) hmode hphases (keepaliveDue s.tuned)
  have hcut : enteredCutBetween s { s.monitored with link := l.readied } = false :=
    enteredCut_other (by show l.readied.mode ≠ _; rw [hmode]; nofun)
  obtain ⟨hwork, hsends, -⟩ := sendWork_puts hticks hbegin hsilent hkeeps hcut
    (by rw [hnothing]; exact .nothing _)
  refine ⟨hsends, ?_⟩
  rw [hwork, hnothing]
  show l.readied.wakeTimer = _
  rw [hready]

end

section
variable {l : LinkUnit} {permitted : Message → Bool} (h : ∀ m, permitted m = l.mode.permits m.kind)
include h

theorem flight_permitted : l.flight = match l.inFlight with
    | some f => some (if 0 < f.sends && permitted f.message then { f with timer := min (f.timer + 1) 20 } else f)
    | none => (l.queue.find? permitted).map fun m => ⟨m, 0, 0⟩ := by
  obtain rfl : permitted = fun m => l.mode.permits m.kind := funext h
  rfl

theorem riding_permitted : l.readied.riding =
    l.flight.filter fun f => permitted f.message && (f.sends = 0 || 20 ≤ f.timer) := by
  obtain rfl : permitted = fun m => l.mode.permits m.kind := funext h
  exact readied_riding l

theorem queue_permitted : l.readied.queue = match l.inFlight, l.queue.find? permitted with
    | none, some m => l.queue.erase m
    | _, _ => l.queue := by
  obtain rfl : permitted = fun m => l.mode.permits m.kind := funext h
  exact readied_queue l

end

/-- What a row of the send answers, by whether its occurrence comes about. -/
theorem nextIf_eq {due : Bool} {p : Prop} [Decidable p] (h : due = decide p) (t u : State) :
    (Host.Outcome.next (if due then t else u) : Host.Outcome State Fault Refusal) =
      if p then .next t else .next u := by
  rw [h]
  exact (congrArg _ (if_congr decide_eq_true_iff rfl rfl)).trans (apply_ite ..)

/-- Settles O47: mode by mode, what the send puts on the link port and what rides it. -/
theorem sendOutsideAudio : Obligations.SendOutsideAudio := by
  intro s hkeeps l permitted flight rides frame nothing sends
  have hpermits (hsilent : l.mode.audio = false) (m : Message) : permitted m = l.mode.permits m.kind :=
    (permits_silent hsilent _).symm
  have hflight (hsilent : l.mode.audio = false) : s.cleared.link.flight = flight := flight_permitted (hpermits hsilent)
  have hrides (hsilent : l.mode.audio = false) : s.cleared.link.readied.riding = rides := by
    rw [riding_permitted (l := s.cleared.link) (hpermits hsilent), hflight hsilent]
  have hsends {frames : List (List Byte)} (hsilent : l.mode.audio = false)
      (h : s.cleared.SendsOut (sendWork s.cleared) frames) : sends (sendWork s.cleared) frames := by
    obtain ⟨hkeep, hmode, hlink, hnot, hseq, hin, hqueue, hresend⟩ := h
    rw [hrides hsilent] at hin hresend
    rw [hflight hsilent] at hin
    refine ⟨rfl, hkeep, hmode, hlink, hnot, hseq, hin, hqueue.trans (queue_permitted (hpermits hsilent)), ?_⟩
    have hdue : resendDue s.cleared = decide (frames ≠ [] ∧ (rides.any fun f => 0 < f.sends) = true) := by
      rw [hresend, Bool.decide_and, Bool.decide_eq_true]
    exact nextIf_eq hdue (sendWork s.cleared) s.cleared
  have hframe (hsilent : l.mode.audio = false) (kind : Byte) (payload : List Byte) :
      s.cleared.outFrame kind payload = frame kind payload := by
    unfold State.outFrame
    rw [hrides hsilent]
    rfl
  refine ⟨fun hmode => ?_, fun hmode hgap => ?_, fun hmode hphase => ?_, fun hmode hphase htimer => ?_⟩
  · have hsilent : l.mode.audio = false := by rw [hmode]; rfl
    obtain ⟨h, hkeepalive, hwatch, hgap⟩ := sendWork_asleep (s := s.cleared) hkeeps hmode
    rw [hframe hsilent] at h
    refine ⟨sendWork s.cleared, hsends hsilent h, hkeepalive, hwatch, hgap, ?_, ?_⟩
    · exact nextIf_eq (due := keepaliveDue (adoptedLink s.cleared))
        (by rw [adoptedLink_silent (s := s.cleared) hsilent, keepaliveDue_asleep (l := s.cleared.tuned) hmode]; rfl) _ _
    · exact nextIf_eq (due := watchDue (adoptedLink s.cleared))
        (by rw [adoptedLink_silent (s := s.cleared) hsilent, watchDue_asleep (l := s.cleared.tuned) hmode]; rfl) _ _
  · have hsilent : l.mode.audio = false := by rw [hmode]; rfl
    obtain ⟨g, words, hpattern⟩ : ∃ g words, patternWords 96 l.pattern = (g, words) := ⟨_, _, rfl⟩
    obtain ⟨h, hgoes, hprobe, hduration, hdue⟩ := sendWork_cut (s := s.cleared) hkeeps hmode hgap hpattern
    rw [hframe hsilent] at h
    rw [hpattern]
    refine ⟨sendWork s.cleared, hsends hsilent h, hgoes, hprobe, hduration, ?_⟩
    exact nextIf_eq hdue (sendWork s.cleared) s.cleared
  · intro n
    have hsilent : l.mode.audio = false := by rw [hmode]; rfl
    obtain ⟨h, hindex, hon, hend, hdue⟩ := sendWork_burst (s := s.cleared) hkeeps hmode hphase
    rw [hframe hsilent] at h
    refine ⟨sendWork s.cleared, hsends hsilent h, fun hmore => ⟨hon hmore, hindex, ?_⟩, fun hlast => ?_⟩
    · exact (nextIf_eq hdue (sendWork s.cleared) s.cleared).trans (if_neg (Nat.not_le.mpr hmore))
    · obtain ⟨hwait, htimer⟩ := hend hlast
      exact ⟨hwait, htimer, hindex, (nextIf_eq hdue (sendWork s.cleared) s.cleared).trans (if_pos hlast)⟩
  · have hsilent : l.mode.audio = false := by rw [hmode]; rfl
    obtain ⟨h, hgoes⟩ := sendWork_wait (s := s.cleared) hkeeps hmode hphase htimer
    exact ⟨sendWork s.cleared, hsends hsilent h, hgoes⟩

end Sys2Proof.Machine

/-!
PROOF. What a send does after its timers, whatever they lead to (R165), and what its timers leave of the link port.
-/

namespace Sys2Proof.Machine

/-! ### From the timers to the end of the send (R165) -/

theorem LinkUnit.Sends.refl (l : LinkUnit) : l.Sends l := rfl

theorem sendFrame_sends (frame : LinkFrame) (w : State) :
    w.link.Sends (sendFrame frame w).link ∧ (sendFrame frame w).notices = w.notices := by
  rw [sendFrame_eq]
  refine ⟨?_, rfl⟩
  unfold LinkUnit.Sends
  dsimp only
  rw [LinkUnit.countRide_eq]

theorem State.Puts.sends {w u : State} {frames : List (List Byte)} (h : w.Puts u frames) :
    w.link.Sends u.link ∧ u.notices = w.notices := ⟨h.link, by rw [h.frame]⟩

/-- The frames of a send change the link unit by what they carry alone. -/
theorem sendFrames_sends (cut due : Bool) (w : State) :
    w.link.Sends (sendFrames cut due w).link ∧ (sendFrames cut due w).notices = w.notices := by
  cases cut with
  | true => exact ⟨.refl _, rfl⟩
  | false =>
    cases h : w.link.mode with
    | run | sleepPending =>
      have heq : sendFrames false due w = sendAudio w := by
        unfold sendFrames
        rw [if_neg Bool.false_ne_true, h]
      rw [heq]
      exact sendFrame_sends ..
    | cut => exact (sendFrames_cut h rfl due).1.sends
    | asleep => exact (sendFrames_asleep h due).sends
    | waking =>
      cases hphase : w.link.wakePhase with
      | burst => exact (sendFrames_burst h hphase due).1.sends
      | wait =>
        rw [sendFrames_wait h hphase]
        exact ⟨.refl _, rfl⟩

/-- A link unit of which only the messages, the sequences, the probes, the burst and the MONITOR record have gone on. -/
def LinkUnit.Finishes (l m : LinkUnit) : Prop :=
  m = { l with
    inFlight := m.inFlight, queue := m.queue, nextSeq := m.nextSeq, lastSeq := m.lastSeq, pattern := m.pattern
    probeTimer := m.probeTimer, wakePhase := m.wakePhase, burstIndex := m.burstIndex, burstLength := m.burstLength
    wakeTimer := m.wakeTimer, monitorAir := m.monitorAir, notSent := m.notSent }

theorem LinkUnit.Finishes.trans {l m n : LinkUnit} (h : l.Finishes m) (k : m.Finishes n) : l.Finishes n := by
  unfold Finishes at h k ⊢
  conv_lhs => rw [k, h]

theorem LinkUnit.Sends.finishes {l m : LinkUnit} (h : l.Sends m) : l.Finishes m := by
  unfold Sends at h
  unfold Finishes
  rw [h]

theorem readied_finishes (l : LinkUnit) : l.Finishes l.readied := by
  unfold LinkUnit.Finishes
  rw [readied_fields]

theorem recordMonitor_finishes (audio : Bool) (w : State) : w.link.Finishes (recordMonitor audio w).link := rfl

/-- What a send that drops no message does after its timers. -/
theorem sendWork_finishes {s b : State} (hb : sendBegin s = b) (hkeeps : b.link.keepsMessage) :
    b.link.Finishes (sendWork s).link ∧ (sendWork s).notices = b.notices ∧
      sendMessages (sendBegin s) = b.modLink LinkUnit.readied := by
  have hw : sendMessages (sendBegin s) = b.modLink LinkUnit.readied :=
    (congrArg sendMessages hb).trans (sendMessages_keeps (keepsMessage_tick hkeeps))
  obtain ⟨hsends, hnotices⟩ := sendFrames_sends (enteredCutBetween s (b.modLink LinkUnit.readied))
    (keepaliveDue (adoptLink s).link) (b.modLink LinkUnit.readied)
  refine ⟨?_, ?_, hw⟩
  · unfold sendWork
    dsimp only
    rw [hw]
    exact (readied_finishes b.link).trans (hsends.finishes.trans (recordMonitor_finishes ..))
  · unfold sendWork
    dsimp only
    rw [hw]
    exact hnotices

/-! ### The gap and the failed wake (R170, R192) -/

/-- The link unit at a gap, counted. -/
def LinkUnit.gapped (l : LinkUnit) : LinkUnit :=
  { l with gapTimer := 0, counters := { l.counters with gap := min (l.counters.gap + 1) 65535 } }

theorem tickGap_due {s : State} (h : gapDue s.link = true) :
    tickGap s = raiseRfc .returnGap (s.modLink LinkUnit.gapped) := if_pos h

/-- RFC raised by a fault, before the cut or the level. -/
def State.rfcRisen (s : State) (kind : FaultKind) : State :=
  takeFault kind s.link.lastSeq.toNat (s.modLink fun l => { l with rfc := l.rfc + 1 })

theorem raiseRfc_eq (kind : FaultKind) (s : State) : raiseRfc kind s =
    if 255 ≤ s.link.rfc + 1 then enterCut 1 (s.rfcRisen kind) else workLevel (s.rfcRisen kind) := rfl

/-- A wake that has failed, counted. -/
def State.wakeLost (s : State) : State :=
  takeFault .wakeFailed s.link.lastSeq.toNat (s.modLink fun l =>
    { l with counters := { l.counters with wakeFailure := min (l.counters.wakeFailure + 1) 65535 } })

theorem failWake_eq (s : State) : failWake s =
    enterCut 2 (latch .wakeFailed [Word.nat s.link.lastSeq.toNat] s.wakeLost) := rfl

/-! ### The link port before the frames (R209) -/

theorem State.Tells.workLevel (s : State) : s.Tells (workLevel s) := by
  unfold Machine.workLevel
  dsimp only
  split
  · exact State.Tells.trans (.of_eq rfl) (.latch ..)
  · exact .of_eq rfl

theorem State.Tells.enterCut (cause : Nat) (s : State) : s.Tells (enterCut cause s) := by
  unfold Machine.enterCut
  dsimp only
  have hcut : s.Tells (Machine.latch .linkCut [Word.nat cause, Word.nat s.link.mode.code, Word.nat s.link.lastSeq.toNat]
      (s.modLink LinkUnit.severed)) := State.Tells.trans (.of_eq rfl) (.latch ..)
  split
  · exact hcut.trans (.endNegotiation ..)
  · exact hcut

theorem State.Tells.raiseRfc (kind : FaultKind) (s : State) : s.Tells (raiseRfc kind s) := by
  have hrisen : s.Tells (s.rfcRisen kind) := .of_eq rfl
  rw [raiseRfc_eq]
  split
  · exact hrisen.trans (.enterCut ..)
  · exact hrisen.trans (.workLevel _)

theorem State.Tells.tickGap (s : State) : s.Tells (tickGap s) := by
  have hgap : s.Tells (s.modLink LinkUnit.gapped) := .of_eq rfl
  unfold Machine.tickGap
  split
  · exact hgap.trans (.raiseRfc ..)
  · split
    · exact .of_eq rfl
    · exact .of_eq rfl

theorem State.Tells.enterAsleep (s : State) : s.Tells (enterAsleep s) :=
  State.Tells.trans (t := s.modLink _) (.of_eq rfl) (.latch ..)

theorem State.Tells.tickNegotiation (s : State) : s.Tells (tickNegotiation s) := by
  rw [tickNegotiation_eq]
  have hphase : s.Tells (s.modLink LinkUnit.tickPhase) := .of_eq rfl
  split
  · exact (hphase.trans (.endNegotiation ..)).trans (.select _)
  · split
    · exact hphase.trans (.enterAsleep _)
    · exact hphase

theorem State.Tells.tickWake (s : State) : s.Tells (tickWake s) := by
  unfold Machine.tickWake
  split
  · split
    · exact .of_eq rfl
    · rw [failWake_eq]
      have hlost : s.Tells ((s.modLink fun l => { l with wakeTimer := l.wakeTimer + 1 }).wakeLost) := .of_eq rfl
      exact (hlost.trans (.latch ..)).trans (.enterCut ..)
  · split
    · exact .of_eq rfl
    · exact .of_eq rfl

/-- Up to its timers a send puts nothing on the link port. -/
theorem State.Tells.sendBegin (s : State) : s.Tells (sendBegin s) := by
  have hmonitored : s.Tells s.monitored := by
    obtain ⟨frames, h⟩ := monitored_sent s
    exact ⟨_, h⟩
  have hcut (u : State) : u.Tells (tickCut u) := by
    unfold tickCut
    split
    · exact .of_eq rfl
    · exact .of_eq rfl
  rw [sendBegin_eq]
  refine hmonitored.trans ?_
  unfold sendTimers
  cases s.monitored.link.mode with
  | run | cut => exact (hcut _).trans (.tickGap _)
  | sleepPending =>
    dsimp only
    split
    · exact (State.Tells.tickGap _).trans (.tickNegotiation _)
    · exact .tickGap _
  | asleep => exact .of_eq rfl
  | waking => exact .tickWake _

end Sys2Proof.Machine

/-!
PROOF. The timers of a send at their limits (R170, R188, R192): obligation O48.
-/

namespace Sys2Proof.Machine

/-! ### A send that enters CUT (R174) -/

theorem enterCut_duration (cause : Nat) (s : State) : (enterCut cause s).link.cutDuration = 0 := by
  by_cases h : s.link.mode = .sleepPending
  · have hcut : (latch .linkCut (s.link.cutWords cause) (s.modLink LinkUnit.severed)).link = s.link.severed :=
      latch_link ..
    rw [enterCut_pending cause h, endNegotiation_fields .aborted 5
      (u := latch .linkCut (s.link.cutWords cause) (s.modLink LinkUnit.severed)) (if_neg (by rw [hcut]; nofun)).symm, hcut]
    rfl
  · rw [enterCut_eq cause h, latch_link]
    rfl

/-- A send whose frames leave the link port alone. -/
theorem sendWork_silent {s b : State} (hb : sendBegin s = b) (hkeeps : b.link.keepsMessage)
    (hnothing : sendFrames (enteredCutBetween s (b.modLink LinkUnit.readied)) (keepaliveDue (adoptedLink s))
      (b.modLink LinkUnit.readied) = b.modLink LinkUnit.readied) : (sendWork s).sent.link = s.sent.link := by
  obtain ⟨-, -, hw⟩ := sendWork_finishes hb hkeeps
  have htells := State.Tells.sendBegin s
  rw [hb] at htells
  unfold sendWork
  dsimp only
  rw [hw, show (adoptLink s).link = adoptedLink s from rfl, hnothing]
  exact htells.link

/-- The send that enters CUT puts nothing on the link port, and leaves what the entry leaves. -/
theorem sendWork_cuts {s v : State} {cause : Nat} (hb : sendBegin s = enterCut cause v)
    (hflight : v.link.inFlight = s.link.inFlight) (hkeeps : s.link.keepsMessage) :
    (enterCut cause v).link.Finishes (sendWork s).link ∧ (sendWork s).notices = (enterCut cause v).notices ∧
      (sendWork s).sent.link = s.sent.link := by
  have hendures := (State.Endures.enterCut (n := 0) cause v).link
  have hkept : (enterCut cause v).link.keepsMessage := by
    unfold LinkUnit.keepsMessage LinkUnit.Endures at *
    rw [hendures]
    dsimp only
    rw [hflight]
    exact hkeeps
  obtain ⟨hfinishes, hnotices, -⟩ := sendWork_finishes hb hkept
  refine ⟨hfinishes, hnotices, sendWork_silent hb hkept ?_⟩
  have hready := readied_fields (enterCut cause v).link
  have hcut : enteredCutBetween s ((enterCut cause v).modLink LinkUnit.readied) = true := by
    unfold enteredCutBetween
    rw [State.modLink_link, hready]
    dsimp only
    rw [(enterCut_cuts cause v).mode, enterCut_duration]
    exact Bool.or_true _
  rw [hcut]
  rfl

/-- The fields that the record of a send leaves as its timers left them. -/
theorem LinkUnit.Finishes.fields {l m : LinkUnit} (h : l.Finishes m) : m.mode = l.mode ∧ m.level = l.level ∧
    m.sfc = l.sfc ∧ m.rfc = l.rfc ∧ m.gapTimer = l.gapTimer ∧ m.counters = l.counters ∧ m.phase = l.phase := by
  unfold LinkUnit.Finishes at h
  rw [h]
  exact ⟨rfl, rfl, rfl, rfl, rfl, rfl, rfl⟩

/-- What every send that enters CUT shows. -/
theorem sendWork_cut_shows {s v : State} {cause : Nat} (hb : sendBegin s = enterCut cause v)
    (hflight : v.link.inFlight = s.link.inFlight) (hkeeps : s.link.keepsMessage) :
    (sendWork s).link.mode = .cut ∧ (sendWork s).link.level = none ∧ (sendWork s).link.sfc = 127 ∧
      (sendWork s).link.rfc = 0 ∧ ((sendWork s).notices.latches.get 19).isSome = true ∧
      (sendWork s).sent.link = s.sent.link := by
  obtain ⟨hfinishes, hnotices, hsent⟩ := sendWork_cuts hb hflight hkeeps
  obtain ⟨hmode, hlevel, hsfc, hrfc, -⟩ := hfinishes.fields
  have hcuts := enterCut_cuts cause v
  obtain ⟨clevel, csfc, crfc, -⟩ := hcuts.counts
  exact ⟨hmode.trans hcuts.mode, hlevel.trans clevel, hsfc.trans csfc, hrfc.trans crfc,
    by rw [hnotices]; exact hcuts.latched, hsent⟩

/-! ### The gap timer (R170) -/

theorem workLevel_mode (s : State) : (workLevel s).link.mode = s.link.mode := by rw [workLevel_link]

theorem raiseRfc_mode (kind : FaultKind) (s : State) :
    (raiseRfc kind s).link.mode = if 254 ≤ s.link.rfc then .cut else s.link.mode := by
  rw [raiseRfc_eq]
  by_cases h : 254 ≤ s.link.rfc
  · rw [if_pos h, if_pos (Nat.succ_le_succ h)]
    exact (enterCut_cuts ..).mode
  · rw [if_neg h, if_neg (fun hno => h (Nat.le_of_succ_le_succ hno))]
    exact workLevel_mode _

/-- A gap never starts a negotiation. -/
theorem tickGap_mode {s : State} (h : s.link.mode ≠ .sleepPending) : (tickGap s).link.mode ≠ .sleepPending := by
  unfold tickGap
  split
  · rw [raiseRfc_mode]
    split
    · nofun
    · exact h
  · split
    · exact h
    · exact h

theorem tickCut_link (s : State) : ∃ duration, (tickCut s).link = { s.link with cutDuration := duration } := by
  unfold tickCut
  split
  · exact ⟨_, rfl⟩
  · exact ⟨_, rfl⟩

theorem tickCut_mode (s : State) : (tickCut s).link.mode = s.link.mode := by
  obtain ⟨duration, hlink⟩ := tickCut_link s
  rw [hlink]

theorem sendTimers_counting {s : State} (h : s.link.mode.counting = true) : sendTimers s =
    if (tickGap (tickCut s)).link.mode = .sleepPending then tickNegotiation (tickGap (tickCut s))
    else tickGap (tickCut s) := by
  have hother (hno : s.link.mode ≠ .sleepPending) : (tickGap (tickCut s)).link.mode ≠ .sleepPending :=
    tickGap_mode (by rw [tickCut_mode]; exact hno)
  unfold sendTimers
  cases hm : s.link.mode with
  | run | cut => exact (if_neg (hother (by rw [hm]; nofun))).symm
  | sleepPending =>
    have hsame : tickCut s = s := by
      unfold tickCut
      rw [hm, if_neg nofun]
    rw [hsame]
  | asleep | waking => rw [hm] at h; exact absurd h nofun

theorem gapDue_counting {l : LinkUnit} (h : l.mode.counting = true) : gapDue l = decide (8 ≤ l.gapTimer + 1) := by
  unfold gapDue
  rw [h, Bool.true_and]
  rfl

/-- What a negotiation's timers leave of the counts and the message in flight. -/
theorem tickNegotiation_keeps {s : State} (h : s.link.mode = .sleepPending) (hgap : s.link.gapTimer = 0) :
    (tickNegotiation s).link.rfc = s.link.rfc ∧ (tickNegotiation s).link.gapTimer = 0 ∧
      (tickNegotiation s).link.counters.gap = s.link.counters.gap ∧
      (tickNegotiation s).link.inFlight = s.link.inFlight := by
  have hphase := s.link.tickPhase_eq
  have hpending : (s.modLink LinkUnit.tickPhase).link.mode = .sleepPending := by
    rw [State.modLink_link, hphase]
    exact h
  rw [tickNegotiation_eq]
  split
  · rw [refused_link hpending 0, State.modLink_link]
    rw [hphase]
    exact ⟨rfl, rfl, rfl, rfl⟩
  · split
    · unfold enterAsleep
      rw [latch_link, State.modLink_link, State.modLink_link, hphase]
      exact ⟨rfl, hgap, rfl, rfl⟩
    · rw [State.modLink_link, hphase]
      exact ⟨rfl, hgap, rfl, rfl⟩

/-- A send at which the gap timer reaches 8. -/
theorem sendWork_gap {s : State} (hmode : s.link.mode.counting = true) (hgap : 8 ≤ s.link.gapTimer + 1)
    (hkeeps : s.link.keepsMessage) :
    (sendWork s).link.gapTimer = 0 ∧ (sendWork s).link.counters.gap = min (s.link.counters.gap + 1) 65535 ∧
      (s.link.rfc < 254 → (sendWork s).link.rfc = s.link.rfc + 1) ∧
      (254 ≤ s.link.rfc → (sendWork s).link.mode = .cut ∧ (sendWork s).link.level = none ∧
        (sendWork s).link.sfc = 127 ∧ (sendWork s).link.rfc = 0 ∧
        ((sendWork s).notices.latches.get 19).isSome = true ∧ (sendWork s).sent.link = s.sent.link) := by
  obtain ⟨duration, htick⟩ := tickCut_link s.monitored
  rw [monitored_link, adoptedLink_eq] at htick
  set v : State := (tickCut s.monitored).modLink LinkUnit.gapped with hv
  have hlink : v.link = (tickCut s.monitored).link.gapped := rfl
  rw [htick] at hlink
  have hcounting : s.monitored.link.mode.counting = true := by
    rw [monitored_link, adoptedLink_eq]
    exact hmode
  have hdue : tickGap (tickCut s.monitored) = raiseRfc .returnGap v := by
    refine tickGap_due ?_
    rw [gapDue_counting (by rw [tickCut_mode]; exact hcounting), htick]
    exact decide_eq_true hgap
  have hbegin : sendBegin s = if (raiseRfc .returnGap v).link.mode = .sleepPending then
      tickNegotiation (raiseRfc .returnGap v) else raiseRfc .returnGap v := by
    rw [sendBegin_eq, sendTimers_counting hcounting, hdue]
  have hrfc : v.link.rfc = s.link.rfc := by rw [hlink]; rfl
  have hflight : (v.rfcRisen .returnGap).link.inFlight = s.link.inFlight := by
    show v.link.inFlight = _
    rw [hlink]
    rfl
  have hcounted : (v.rfcRisen .returnGap).link.counters.gap = min (s.link.counters.gap + 1) 65535 := by
    show v.link.counters.gap = _
    rw [hlink]
    rfl
  by_cases hcut : 254 ≤ s.link.rfc
  · have hraise : raiseRfc .returnGap v = enterCut 1 (v.rfcRisen .returnGap) := by
      rw [raiseRfc_eq, hrfc, if_pos (Nat.succ_le_succ hcut)]
    have hcuts := enterCut_cuts 1 (v.rfcRisen .returnGap)
    rw [hraise, hcuts.mode, if_neg nofun] at hbegin
    obtain ⟨hfinishes, -⟩ := sendWork_cuts hbegin hflight hkeeps
    obtain ⟨-, -, -, -, hgapped, hcounters, -⟩ := hfinishes.fields
    refine ⟨hgapped.trans (enterCut_gap ..), ?_, fun hno => absurd hcut (Nat.not_le.mpr hno),
      fun _ => sendWork_cut_shows hbegin hflight hkeeps⟩
    rw [hcounters, hcuts.counted]
    exact hcounted
  · have hraise : raiseRfc .returnGap v = workLevel (v.rfcRisen .returnGap) := by
      rw [raiseRfc_eq, hrfc, if_neg (fun hno => hcut (Nat.le_of_succ_le_succ hno))]
    have hrisen : (raiseRfc .returnGap v).link.rfc = s.link.rfc + 1 ∧ (raiseRfc .returnGap v).link.gapTimer = 0 ∧
        (raiseRfc .returnGap v).link.counters.gap = min (s.link.counters.gap + 1) 65535 ∧
        (raiseRfc .returnGap v).link.inFlight = s.link.inFlight := by
      rw [hraise, workLevel_link]
      exact ⟨congrArg (· + 1) hrfc, by show v.link.gapTimer = 0; rw [hlink]; rfl, hcounted, hflight⟩
    obtain ⟨brfc, bgap, bcounted, bflight⟩ : (sendBegin s).link.rfc = s.link.rfc + 1 ∧ (sendBegin s).link.gapTimer = 0 ∧
        (sendBegin s).link.counters.gap = min (s.link.counters.gap + 1) 65535 ∧
        (sendBegin s).link.inFlight = s.link.inFlight := by
      obtain ⟨rrfc, rgap, rcounted, rflight⟩ := hrisen
      rw [hbegin]
      split
      · next hpending =>
        obtain ⟨nrfc, ngap, ncounted, nflight⟩ := tickNegotiation_keeps hpending rgap
        exact ⟨nrfc.trans rrfc, ngap, ncounted.trans rcounted, nflight.trans rflight⟩
      · exact ⟨rrfc, rgap, rcounted, rflight⟩
    obtain ⟨hfinishes, -⟩ := sendWork_finishes (s := s) rfl (by unfold LinkUnit.keepsMessage; rw [bflight]; exact hkeeps)
    obtain ⟨-, -, -, frfc, fgap, fcounters, -⟩ := hfinishes.fields
    exact ⟨fgap.trans bgap, (congrArg _ fcounters).trans bcounted, fun _ => frfc.trans brfc, fun hno => absurd hno hcut⟩

end Sys2Proof.Machine

/-!
PROOF. The negotiation timers and the wake timer at their limits (R188, R192): obligation O48.
-/

namespace Sys2Proof.Machine

/-! ### The negotiation timers (R188) -/

section
variable {s : State} (hmode : s.link.mode = .sleepPending) (hgap : s.link.gapTimer + 1 < 8)
include hmode hgap

/-- The link unit that the negotiation timers of a send find. -/
theorem tickGap_pending {u : State} (hu : u.link = adoptedLink s) :
    tickGap u = u.modLink fun l => { l with gapTimer := l.gapTimer + 1 } :=
  tickGap_early (by rw [hu, adoptedLink_eq]; show s.link.mode.counting = true; rw [hmode]; rfl)
    (by rw [hu, adoptedLink_eq]; exact hgap)

/-- The link unit of a negotiation once the gap timer has gone on. -/
theorem sendBegin_negotiates : ∃ g : State, g.link = { adoptedLink s with gapTimer := s.link.gapTimer + 1 } ∧
    sendBegin s = tickNegotiation g := by
  have hlink := monitored_link s
  have hpending : s.monitored.link.mode = .sleepPending := by
    rw [hlink, adoptedLink_eq]
    exact hmode
  have htick := tickGap_pending hmode hgap hlink
  refine ⟨tickGap s.monitored, ?_, ?_⟩
  · rw [htick, State.modLink_link, hlink, adoptedLink_eq]
    rfl
  · rw [sendBegin_eq, sendTimers_pending hpending, if_pos (by rw [htick]; exact hpending)]

end

theorem requestDue_pending {l : LinkUnit} (hmode : l.mode = .sleepPending) (hphase : l.phase = .requesting)
    (hacked : l.requestAcked = false) : requestDue l = decide (l.requestLimit ≤ l.requestTimer + 1) := by
  unfold requestDue
  rw [hmode, hphase, hacked]
  rfl

theorem requestDue_acked {l : LinkUnit} (hacked : l.requestAcked = true) : requestDue l = false := by
  unfold requestDue
  rw [hacked, Bool.not_true, Bool.and_false, Bool.false_and]

theorem requestDue_other {l : LinkUnit} (h : l.mode ≠ .sleepPending ∨ l.phase ≠ .requesting) : requestDue l = false := by
  unfold requestDue
  rcases h with h | h
  · rw [decide_eq_false h, Bool.false_and, Bool.false_and, Bool.false_and]
  · rw [decide_eq_false h, Bool.and_false, Bool.false_and, Bool.false_and]

theorem quietDue_pending {l : LinkUnit} (hmode : l.mode = .sleepPending) (hphase : l.phase = .quiet) :
    quietDue l = decide (l.quietInterval ≤ l.quietTimer + 1) := by
  unfold quietDue
  rw [hmode, hphase]
  rfl

theorem quietDue_other {l : LinkUnit} (h : l.mode ≠ .sleepPending) : quietDue l = false := by
  unfold quietDue
  rw [decide_eq_false h, Bool.false_and, Bool.false_and]

section
variable {s : State} (hmode : s.link.mode = .sleepPending) (hgap : s.link.gapTimer + 1 < 8)
  (hkeeps : s.link.keepsMessage)
include hmode hgap hkeeps

/-- The request timer at its limit: the negotiation is refused. -/
theorem sendWork_request (hphase : s.link.phase = .requesting) (hacked : s.link.requestAcked = false)
    (htimer : s.setting Setting.sleepRequestTimer ≤ s.link.requestTimer + 1) :
    (sendWork s).link.mode = .run ∧ (sendWork s).link.phase = .none ∧
      (sendWork s).link.counters.sleepsRefused = min (s.link.counters.sleepsRefused + 1) 65535 ∧
      ((sendWork s).notices.latches.get 21).isSome = true := by
  obtain ⟨g, hg, hbegin⟩ := sendBegin_negotiates hmode hgap
  rw [adoptedLink_eq] at hg
  have hdue : requestDue g.link = true := by
    rw [requestDue_pending (by rw [hg]; exact hmode) (by rw [hg]; exact hphase) (by rw [hg]; exact hacked), hg]
    exact decide_eq_true htimer
  rw [tickNegotiation_eq, if_pos hdue] at hbegin
  have hphases := g.link.tickPhase_eq
  have hpending : (g.modLink LinkUnit.tickPhase).link.mode = .sleepPending := by
    rw [State.modLink_link, hphases, hg]
    exact hmode
  have hlink := refused_link hpending 0
  have hlatched := (endNegotiation_pending hpending .refused 0).2.2.2
  have hlatches := (select_selects (endNegotiation .refused 0 (g.modLink LinkUnit.tickPhase))).latches
  rw [State.modLink_link, hphases, hg] at hlink
  generalize select (endNegotiation .refused 0 (g.modLink LinkUnit.tickPhase)) = b at hbegin hlink hlatches
  obtain ⟨hfinishes, hnotices, -⟩ := sendWork_finishes hbegin
    (by unfold LinkUnit.keepsMessage; rw [hlink]; exact hkeeps)
  obtain ⟨fmode, -, -, -, -, fcounters, fphase⟩ := hfinishes.fields
  refine ⟨fmode.trans (by rw [hlink]), fphase.trans (by rw [hlink]), by rw [fcounters, hlink]; rfl, ?_⟩
  rw [hnotices, hlatches.kept hlatched]
  rfl

/-- The quiet timer at its limit: the link sleeps. -/
theorem sendWork_quiet (hphase : s.link.phase = .quiet)
    (htimer : s.setting Setting.quietInterval ≤ s.link.quietTimer + 1) :
    (sendWork s).link.mode = .asleep ∧ (sendWork s).link.phase = .none ∧ (sendWork s).link.level = none ∧
      (sendWork s).sent.link = s.sent.link ∧
      (sendWork s).link.counters.sleepsEntered = min (s.link.counters.sleepsEntered + 1) 65535 ∧
      ((sendWork s).notices.latches.get 21).isSome = true := by
  obtain ⟨g, hg, hbegin⟩ := sendBegin_negotiates hmode hgap
  rw [adoptedLink_eq] at hg
  have hgphase : g.link.phase = .quiet := by
    rw [hg]
    exact hphase
  have hdue : quietDue g.link = true := by
    rw [quietDue_pending (by rw [hg]; exact hmode) hgphase, hg]
    exact decide_eq_true htimer
  have hnorequest : ¬ requestDue g.link = true := by
    rw [requestDue_other (.inr (by rw [hgphase]; nofun))]
    nofun
  rw [tickNegotiation_eq, if_neg hnorequest, if_pos hdue] at hbegin
  have hlink : (enterAsleep (g.modLink LinkUnit.tickPhase)).link = { g.link.tickPhase with
      mode := .asleep, phase := .none, level := none, keepaliveTimer := 0, asleepWatch := 0
      counters := { g.link.tickPhase.counters with
        sleepsEntered := min (g.link.tickPhase.counters.sleepsEntered + 1) 65535 } } := latch_link ..
  rw [g.link.tickPhase_eq, hg] at hlink
  have hlatched : ((enterAsleep (g.modLink LinkUnit.tickPhase)).notices.latches.get 21).isSome = true := by
    unfold enterAsleep
    rw [latch_get, if_pos (show (21 : Fin 25) = NoticeKind.sleepResult.index from rfl)]
    rfl
  generalize enterAsleep (g.modLink LinkUnit.tickPhase) = b at hbegin hlink hlatched
  have hkept : b.link.keepsMessage := by
    unfold LinkUnit.keepsMessage
    rw [hlink]
    exact hkeeps
  obtain ⟨hfinishes, hnotices, -⟩ := sendWork_finishes hbegin hkept
  obtain ⟨fmode, flevel, -, -, -, fcounters, fphase⟩ := hfinishes.fields
  refine ⟨fmode.trans (by rw [hlink]), fphase.trans (by rw [hlink]), flevel.trans (by rw [hlink]), ?_,
    by rw [fcounters, hlink]; rfl, by rw [hnotices]; exact hlatched⟩
  refine sendWork_silent hbegin hkept ?_
  have hasleep : (b.modLink LinkUnit.readied).link.mode = .asleep := by
    rw [State.modLink_link, readied_mode, hlink]
  have hnotasleep : (adoptedLink s).mode ≠ .asleep := by
    rw [adoptedLink_eq]
    show s.link.mode ≠ .asleep
    rw [hmode]
    nofun
  have hnodue : keepaliveDue (adoptedLink s) = false := by
    unfold keepaliveDue
    rw [decide_eq_false hnotasleep, Bool.false_and]
  rw [enteredCut_other (by rw [hasleep]; nofun), hnodue]
  unfold sendFrames
  rw [if_neg Bool.false_ne_true, hasleep]
  rfl

end

/-! ### The wake timer (R192) -/

/-- The link unit at the begin of the next burst of a wake, which is counted. -/
def LinkUnit.nextBurst (l : LinkUnit) : LinkUnit :=
  { l with
    wakeTimer := l.wakeTimer + 1
    burstNumber := l.burstNumber + 1
    wakePhase := .burst
    burstIndex := 0
    counters := { l.counters with wakeBurst := min (l.counters.wakeBurst + 1) 65535 } }

section
variable {s : State} (hmode : s.link.mode = .waking) (hphase : s.link.wakePhase = .wait)
  (htimer : s.setting Setting.wakeTimer ≤ s.link.wakeTimer + 1) (hkeeps : s.link.keepsMessage)
include hmode hphase htimer

theorem sendBegin_wake : sendBegin s = if s.link.burstNumber < 3 then s.monitored.modLink LinkUnit.nextBurst
    else failWake (s.monitored.modLink fun l => { l with wakeTimer := l.wakeTimer + 1 }) := by
  have hlink : s.monitored.link = s.tuned := (monitored_link s).trans (adoptedLink_silent (by rw [hmode]; rfl))
  have hdue : wakeDue s.monitored.link = true := by
    rw [hlink, wakeDue_waking (l := s.tuned) hmode, show s.tuned.wakePhase = .wait from hphase]
    exact decide_eq_true htimer
  have hnumber : s.monitored.link.burstNumber = s.link.burstNumber := by
    rw [hlink]
    rfl
  rw [sendBegin_eq, sendTimers_waking (by rw [hlink]; exact hmode)]
  unfold tickWake
  rw [if_pos hdue, hnumber]
  rfl

include hkeeps

/-- After the first and the second burst the next one begins, with its first frame in this send. -/
theorem sendWork_nextBurst (hnumber : s.link.burstNumber < 3) :
    (sendWork s).link.mode = .waking ∧ (sendWork s).link.burstNumber = s.link.burstNumber + 1 ∧
      (sendWork s).link.counters.wakeBurst = min (s.link.counters.wakeBurst + 1) 65535 ∧
      (sendWork s).sent.link.length = s.sent.link.length + 1 := by
  have hbegin := sendBegin_wake hmode hphase htimer
  rw [if_pos hnumber] at hbegin
  have hlink : (s.monitored.modLink LinkUnit.nextBurst).link = s.tuned.nextBurst := by
    rw [State.modLink_link, monitored_link, adoptedLink_silent (by rw [hmode]; rfl)]
  have htells := State.Tells.sendBegin s
  rw [hbegin] at htells
  generalize s.monitored.modLink LinkUnit.nextBurst = b at hbegin hlink htells
  obtain ⟨hfinishes, -, hw⟩ := sendWork_finishes hbegin (by unfold LinkUnit.keepsMessage; rw [hlink]; exact hkeeps)
  have hready := readied_fields b.link
  have hwmode : (b.modLink LinkUnit.readied).link.mode = .waking := by
    rw [State.modLink_link, hready, hlink]
    exact hmode
  have hwphase : (b.modLink LinkUnit.readied).link.wakePhase = .burst := by
    rw [State.modLink_link, hready, hlink]
    rfl
  obtain ⟨hputs, -⟩ := sendFrames_burst hwmode hwphase (keepaliveDue (adoptLink s).link)
  unfold LinkUnit.Finishes at hfinishes
  rw [hlink] at hfinishes
  refine ⟨?_, ?_, ?_, ?_⟩
  · rw [hfinishes]
    exact hmode
  · rw [hfinishes]
    rfl
  · rw [hfinishes]
    rfl
  · unfold sendWork
    dsimp only
    rw [hw, enteredCut_other (by rw [hwmode]; nofun)]
    have hsent := congrArg State.sent hputs.frame
    refine (congrArg (fun x : Sent => x.link.length) hsent).trans ?_
    show (b.sent.link ++ _).length = _
    rw [List.length_append, htells.link]
    rfl

/-- After the third burst the wake has failed, and the link is cut. -/
theorem sendWork_wakeFails (hnumber : 3 ≤ s.link.burstNumber) :
    ((sendWork s).link.mode = .cut ∧ (sendWork s).link.level = none ∧ (sendWork s).link.sfc = 127 ∧
      (sendWork s).link.rfc = 0 ∧ ((sendWork s).notices.latches.get 19).isSome = true ∧
      (sendWork s).sent.link = s.sent.link) ∧
      ((sendWork s).notices.latches.get 22).isSome = true ∧
      (sendWork s).link.counters.wakeFailure = min (s.link.counters.wakeFailure + 1) 65535 := by
  have hbegin := sendBegin_wake hmode hphase htimer
  rw [if_neg (Nat.not_lt.mpr hnumber), failWake_eq] at hbegin
  set v : State := s.monitored.modLink fun l => { l with wakeTimer := l.wakeTimer + 1 } with hv
  have hvlink : v.wakeLost.link.inFlight = s.link.inFlight ∧
      v.wakeLost.link.counters.wakeFailure = min (s.link.counters.wakeFailure + 1) 65535 := by
    have hlink : v.link = { s.tuned with wakeTimer := s.link.wakeTimer + 1 } := by
      rw [hv, State.modLink_link, monitored_link, adoptedLink_silent (by rw [hmode]; rfl)]
      rfl
    unfold State.wakeLost takeFault
    rw [State.modLink_link, State.modLink_link, hlink]
    exact ⟨rfl, rfl⟩
  have hlatched : ((latch .wakeFailed [Word.nat v.link.lastSeq.toNat] v.wakeLost).notices.latches.get 22).isSome =
      true := by
    rw [latch_get, if_pos (show (22 : Fin 25) = NoticeKind.wakeFailed.index from rfl)]
    rfl
  have hlink : (latch .wakeFailed [Word.nat v.link.lastSeq.toNat] v.wakeLost).link = v.wakeLost.link := latch_link ..
  have hflight := (congrArg LinkUnit.inFlight hlink).trans hvlink.1
  generalize latch .wakeFailed [Word.nat v.link.lastSeq.toNat] v.wakeLost = u at hbegin hlatched hlink hflight
  have hcuts := enterCut_cuts 2 u
  obtain ⟨hfinishes, hnotices, -⟩ := sendWork_cuts hbegin hflight hkeeps
  obtain ⟨-, -, -, -, -, hcounters, -⟩ := hfinishes.fields
  refine ⟨sendWork_cut_shows hbegin hflight hkeeps, ?_, ?_⟩
  · rw [hnotices]
    exact hcuts.latches.isSome hlatched
  · rw [hcounters, hcuts.counted]
    exact (congrArg _ (congrArg LinkUnit.counters hlink)).trans hvlink.2

end

theorem wakeDue_other {l : LinkUnit} (h : l.mode ≠ .waking) : wakeDue l = false := by
  unfold wakeDue
  rw [decide_eq_false h, Bool.false_and, Bool.false_and]

theorem adoptedLink_mode (s : State) : (adoptedLink s).mode = s.link.mode := by rw [adoptedLink_eq]; rfl

theorem next_due {due : Bool} (h : due = true) (t u : State) :
    (Host.Outcome.next (if due then t else u) : Host.Outcome State Fault Refusal) = .next t :=
  congrArg _ (if_pos h)

theorem next_idle {due : Bool} (h : due = false) (t u : State) :
    (Host.Outcome.next (if due then t else u) : Host.Outcome State Fault Refusal) = .next u :=
  congrArg _ (if_neg (Bool.eq_false_iff.mp h))

/-- Settles O48: each timer at its limit, by the mode whose timer it is. -/
theorem sendTimersExpire : Obligations.SendTimersExpire := by
  intro s hkeeps l nothing cut
  have hadopted := adoptedLink_eq s.cleared
  have hmodes : (adoptedLink s.cleared).mode = l.mode := adoptedLink_mode _
  refine ⟨fun hmode hgap => ?_, fun hmode => ?_, fun hmode hgap => ?_, fun hmode => ?_, fun hmode hphase htimer => ?_,
    fun hmode => ?_⟩
  · have hcounting : l.mode.counting = true := by
      simp only [List.mem_cons, List.not_mem_nil, or_false] at hmode
      obtain h | h | h := hmode
      all_goals rw [h]; rfl
    have hdue : gapDue (adoptedLink s.cleared) = true := by
      rw [gapDue_counting (by rw [hmodes]; exact hcounting), hadopted]
      exact decide_eq_true hgap
    exact ⟨sendWork s.cleared, next_due hdue _ s.cleared, rfl, sendWork_gap (s := s.cleared) hcounting hgap hkeeps⟩
  · have hstill : l.mode.counting = false := by
      simp only [List.mem_cons, List.not_mem_nil, or_false] at hmode
      obtain h | h := hmode
      all_goals rw [h]; rfl
    have hdue : gapDue (adoptedLink s.cleared) = false := by
      unfold gapDue
      rw [hmodes, hstill, Bool.false_and]
    exact next_idle hdue (sendWork s.cleared) s.cleared
  · have htick := tickGap_pending (s := s.cleared) hmode hgap (u := adoptLink s.cleared) rfl
    have hlink : (tickGap (adoptLink s.cleared)).link = { adoptedLink s.cleared with gapTimer := l.gapTimer + 1 } := by
      rw [htick, State.modLink_link, show (adoptLink s.cleared).link = adoptedLink s.cleared from rfl, hadopted]
      rfl
    rw [hadopted] at hlink
    refine ⟨fun hphase hacked => ⟨?_, ?_⟩, fun hphase hacked htimer => ?_, fun hphase htimer => ?_⟩
    · have hnodue : requestDue (tickGap (adoptLink s.cleared)).link = false :=
        requestDue_acked (by rw [hlink]; exact hacked)
      exact next_idle hnodue (sendWork s.cleared) s.cleared
    · have hbegin := sendBegin_pending (s := s.cleared) hmode hgap (fun _ => .inl hacked)
        (fun hno => absurd (hphase.symm.trans hno) nofun)
      obtain ⟨hfinishes, -⟩ := sendWork_finishes hbegin (by
        unfold LinkUnit.keepsMessage
        rw [airing_fields]
        exact hkeeps)
      unfold LinkUnit.Finishes at hfinishes
      refine ⟨sendWork s.cleared, rfl, ?_, ?_, ?_⟩
      · rw [hfinishes, airing_fields]
        exact hmode
      · rw [hfinishes, airing_fields]
        exact hphase
      · rw [hfinishes]
        exact if_pos ⟨hmode, hphase⟩
    · have hdue : requestDue (tickGap (adoptLink s.cleared)).link = true := by
        rw [requestDue_pending (by rw [hlink]; exact hmode) (by rw [hlink]; exact hphase) (by rw [hlink]; exact hacked),
          hlink]
        exact decide_eq_true htimer
      exact ⟨sendWork s.cleared, next_due hdue _ s.cleared, rfl,
        sendWork_request (s := s.cleared) hmode hgap hkeeps hphase hacked htimer⟩
    · have hdue : quietDue (tickGap (adoptLink s.cleared)).link = true := by
        rw [quietDue_pending (by rw [hlink]; exact hmode) (by rw [hlink]; exact hphase), hlink]
        exact decide_eq_true htimer
      exact ⟨sendWork s.cleared, next_due hdue _ s.cleared, rfl,
        sendWork_quiet (s := s.cleared) hmode hgap hkeeps hphase htimer⟩
  · have hother : (tickGap (adoptLink s.cleared)).link.mode ≠ .sleepPending :=
      tickGap_mode (by rw [show (adoptLink s.cleared).link.mode = l.mode from hmodes]; exact hmode)
    exact ⟨next_idle (requestDue_other (.inl hother)) (sendWork s.cleared) s.cleared,
      next_idle (quietDue_other hother) (sendWork s.cleared) s.cleared⟩
  · have hdue : wakeDue (adoptedLink s.cleared) = true := by
      rw [wakeDue_waking (by rw [hmodes]; exact hmode), hadopted]
      exact (congrArg (· && _) (decide_eq_true hphase)).trans (decide_eq_true htimer)
    exact ⟨sendWork s.cleared, next_due hdue _ s.cleared, rfl,
      sendWork_nextBurst (s := s.cleared) hmode hphase htimer hkeeps,
      sendWork_wakeFails (s := s.cleared) hmode hphase htimer hkeeps⟩
  · have hnodue : wakeDue (adoptedLink s.cleared) = false := wakeDue_other (by rw [hmodes]; exact hmode)
    exact next_idle hnodue (sendWork s.cleared) s.cleared

end Sys2Proof.Machine
